-- ==== Sys2Proof/Word.lean ====
section
/-! DEFINITION. Words and finite maps: the plain types every other file uses. -/

namespace Sys2Proof

/-- One byte of a record, a buffer or a frame. -/
abbrev Byte := BitVec 8

/-- A 32-bit word: a point slot, a register, a CAN identifier. -/
abbrev W32 := BitVec 32

/-- A 64-bit word: a two-slot point, a command result. -/
abbrev W64 := BitVec 64

/-- A numbered family of things (slots, units, rings, nodes): pairs of a number and a value, numbers strictly rising. -/
abbrev SMap (α : Type) := List (Nat × α)

/-- A byte string. -/
abbrev Bytes := List Byte

end Sys2Proof
end

