-- ==== Sys2Proof/Machine/StCogs.lean ====
section
/-! DEFINITION. State of cogs, fast outputs and banked tables (R73 to R97). -/

namespace Sys2Proof.Machine

/-- State of a cog (R81). -/
inductive CogState where
  | disarmed | armed | done
  deriving DecidableEq, Repr

/-- A firing found at a fit and not yet performed (R75, R74). -/
structure Firing where
  /-- Action instant, ns of the race's domain. -/
  at' : Nat
  /-- Target crossed, Q64.32. -/
  target : Nat
  /-- The firing's fast-output edge was dropped when it was found: 64 edges were pending (R84). -/
  noEdge : Bool := false
  deriving DecidableEq, Repr

/-- One cog (R73 to R81). -/
structure Cog where
  /-- State; retained. 03_cogs_and_placement.md R81. Reset DISARMED. -/
  st : CogState := .disarmed
  /-- Target, Q64.32, 96 bits; retained. 03_cogs_and_placement.md R73, R77. Reset 0 (DESIGN CHOICE, log 1). -/
  target : Nat := 0
  /-- Repetitions used; retained. 03_cogs_and_placement.md R77. Reset 0. -/
  used : Nat := 0
  /-- Firing instant of the last firing performed or found. 03_cogs_and_placement.md R78. Reset none. -/
  lastFire : Option Nat := none
  /-- Firing instant of the last firing performed: what lastFire is again where firings found are cancelled. 03_cogs_and_placement.md R78, R81. Reset none. -/
  doneFire : Option Nat := none
  /-- FIRES, 32 bits; retained. 03_cogs_and_placement.md R87. Reset 0. -/
  fires : W32 := 0
  /-- MISSED, 32 bits; retained. 03_cogs_and_placement.md R87. Reset 0. -/
  missed : W32 := 0
  /-- Firings found and waiting for their action instant. 03_cogs_and_placement.md R75. Reset none. -/
  due : List Firing := []
  deriving DecidableEq, Repr

/-- A pending edge of a fast output (R74, R84). -/
structure FoEdge where
  /-- Instant, ns of LMT, SKEW included. -/
  at' : Nat
  /-- 0 rise, 1 fall, 2 toggle, 3 pulse. -/
  kind : Nat
  /-- Pulse width, ns. -/
  width : Nat := 0
  /-- The trailing toggle of an accepted pulse: never dropped. -/
  trail : Bool := false
  deriving DecidableEq, Repr

/-- One fast output (R83, R84). -/
structure FastOut where
  /-- Both lines high-impedance. 03_cogs_and_placement.md R83, 20_connectors.md R521. Reset 1. -/
  hiZ : Bool := true
  /-- Present level. 03_cogs_and_placement.md R87. Reset 0 (DESIGN CHOICE, log 1). -/
  level : Bool := false
  /-- Pending edges, in the order of their instants. 03_cogs_and_placement.md R84. Reset none. -/
  pending : List FoEdge := []
  /-- Instant of the last edge performed. 03_cogs_and_placement.md R84. Reset none. -/
  lastEdge : Option Nat := none
  /-- EDGES, 32 bits. 03_cogs_and_placement.md R87. Reset 0. -/
  edges : W32 := 0
  /-- DROPPED, 32 bits. 03_cogs_and_placement.md R87. Reset 0. -/
  dropped : W32 := 0
  /-- The CMD value taken last (none: the value in force counts as new). 03_cogs_and_placement.md R83. Reset none. -/
  cmdSeen : Option Bool := none
  deriving DecidableEq, Repr

/-- One nozzle's banked record (R88, R91). -/
structure Nozzle where
  fireTrim : BitVec 16 := 0
  driveTrim : BitVec 16 := 0
  health : W32 := 0
  deriving DecidableEq, Repr

/-- One placement bank set (R92 to R97). Nozzle keys are (segment x 1,024 + node) x 4,096 + nozzle. -/
structure BankSet where
  /-- Foreground selector, 1 bit; retained. 03_cogs_and_placement.md R87, R92. Reset 0 (DESIGN CHOICE, log 1). -/
  sel : Nat := 0
  /-- Foreground bank; retained. 03_cogs_and_placement.md R92. Reset all zero (DESIGN CHOICE, log 1). -/
  fg : SMap Nozzle := []
  /-- Background bank; retained. 03_cogs_and_placement.md R92. Reset all zero (DESIGN CHOICE, log 1). -/
  bg : SMap Nozzle := []
  /-- Sealed; retained. 03_cogs_and_placement.md R92. Reset 0. -/
  sealed : Bool := false
  /-- A write since the last swap. 03_cogs_and_placement.md R92. Reset 0. -/
  written : List Nat := []
  /-- Catch-up has not completed. 03_cogs_and_placement.md R94. Reset 0. -/
  catchup : Bool := false
  /-- Background writes accepted and not yet durable. 03_cogs_and_placement.md R92. Reset 0. -/
  undurable : Bool := false
  /-- The journal entry (number + 1) that will make them durable; 0 while none carries them. 03_cogs_and_placement.md R92. Reset 0. -/
  durMark : Nat := 0
  /-- Durable writes that the standby of a synced pair does not hold yet. 14_redundancy.md R387. Reset 0. -/
  unheld : Bool := false
  /-- EV_BANK_DEFERRED has been reported for this seal. 03_cogs_and_placement.md R92. Reset 0. -/
  deferred : Bool := false
  /-- A swap is decided and these nodes (segment x 1,024 + node) are still switching. 03_cogs_and_placement.md R87, R95. Reset none. -/
  toSwitch : List Nat := []
  /-- Failed transfers of this boundary, key segment x 1,024 + node. 03_cogs_and_placement.md R97. Reset none. -/
  tries : SMap Nat := []
  /-- SWAPS, 32 bits. 03_cogs_and_placement.md R87. Reset 0. -/
  swaps : W32 := 0
  /-- DEFERRALS, 32 bits. 03_cogs_and_placement.md R87. Reset 0. -/
  deferrals : W32 := 0
  /-- SWAP_SEQ, 32 bits; retained. 03_cogs_and_placement.md R87, R95. Reset 0. -/
  swapSeq : W32 := 0
  /-- Fantail results held for a sealed bank: (nozzle key, FIRE_TRIM, DRIVE_TRIM, HEALTH). 03_cogs_and_placement.md R92. Reset none. -/
  heldFt : List (Nat × Nozzle) := []
  deriving DecidableEq, Repr

/-- A banked table held as bytes: microstep table, loop coefficients, logic or spindle program (R92, R93). -/
structure Bank where
  /-- Foreground; retained. 03_cogs_and_placement.md R92. Reset empty. -/
  fg : Bytes := []
  /-- Background; retained. 03_cogs_and_placement.md R92. Reset empty. -/
  bg : Bytes := []
  /-- Bank in use, 1 bit; retained. 03_cogs_and_placement.md R92. Reset 0 (DESIGN CHOICE, log 1). -/
  sel : Nat := 0
  /-- Sealed; retained. 03_cogs_and_placement.md R92. Reset 0. -/
  sealed : Bool := false
  /-- Written since the last swap. 03_cogs_and_placement.md R92. Reset 0. -/
  written : Bool := false
  /-- Writes accepted and not yet durable. 03_cogs_and_placement.md R92. Reset 0. -/
  undurable : Bool := false
  /-- The journal entry (number + 1) that will make them durable; 0 while none carries them. 03_cogs_and_placement.md R92. Reset 0. -/
  durMark : Nat := 0
  /-- Durable writes that the standby of a synced pair does not hold yet. 14_redundancy.md R387. Reset 0. -/
  unheld : Bool := false
  /-- The catch-up has not completed. 03_cogs_and_placement.md R94. Reset 0. -/
  catchup : Bool := false
  /-- EV_BANK_DEFERRED has been reported for this seal. 03_cogs_and_placement.md R92. Reset 0. -/
  deferred : Bool := false
  deriving DecidableEq, Repr

end Sys2Proof.Machine
end

