-- ==== Sys2Proof/Machine/StAxes.lean ====
section
/-! DEFINITION. State of axes and drive links (R183 to R214). -/

namespace Sys2Proof.Machine

/-- State of an axis (R204). -/
inductive AxisState where
  | disabled | standstill | moving | homing | stopping | fault
  deriving DecidableEq, Repr

/-- Phase of AXIS_HOME (R202). -/
inductive HomePhase where
  | none | seek | armed | held | backoff
  deriving DecidableEq, Repr

/-- A move: target Q48.16 and limits Q32.32, 0 for the axis maximum (R194, R199). -/
structure Move where
  target : Int
  v : Nat
  a : Nat
  d : Nat
  j : Nat
  /-- The command that made it: ring and tag; none for a GOTO_SEQ request. -/
  cmd : Option (Nat × W32)
  deriving DecidableEq, Repr

/-- One axis (R183 to R212). -/
structure Axis where
  /-- State; retained. 07_motion.md R204. Reset DISABLED. -/
  st : AxisState := .disabled
  /-- Fault or request code, 8 bits; retained. 07_motion.md R205, R212. Reset 0. -/
  code : Nat := 0
  /-- The last GOTO_SEQ request was dropped: code 0x20 stands until the next. 07_motion.md R200. Reset 0. -/
  reqBad : Bool := false
  /-- p, units of 2^-48 entry; retained. 07_motion.md R184. Reset 0 (DESIGN CHOICE, log 1). -/
  p : Int := 0
  /-- v, 2^-48 entry per update; retained. 07_motion.md R184. Reset 0. -/
  v : Int := 0
  /-- a, 2^-48 entry per update^2; retained. 07_motion.md R184. Reset 0. -/
  a : Int := 0
  /-- ADDR_BIAS, entries; retained. 07_motion.md R184, R202, R203. Reset 0 (DESIGN CHOICE, log 1). -/
  addrBias : Int := 0
  /-- ENC_OFFSET, Q48.16; retained. 07_motion.md R203. Reset 0 (DESIGN CHOICE, log 1). -/
  encOffset : Int := 0
  /-- UNHOMED; retained. 07_motion.md R206. Reset 1 (DESIGN CHOICE, log 1). -/
  unhomed : Bool := true
  /-- Axis maxima V, A, D, J that AXIS_LIMITS set, Q32.32; 0 where the record's are in force. 07_motion.md R185, R196. Reset 0. -/
  lim : List Nat := [0, 0, 0, 0]
  /-- The executing move first, then the queue of at most 64 moves. 07_motion.md R199. Reset none. -/
  queue : List Move := []
  /-- The executing move is a steer. 07_motion.md R200, R212. Reset 0. -/
  steering : Bool := false
  /-- The quick ramp is in use while STOPPING. 07_motion.md R201. Reset 0. -/
  quick : Bool := false
  /-- The axis goes to DISABLED once it rests. 07_motion.md R206. Reset 0. -/
  toDisabled : Bool := false
  /-- A safety function has requested a quick stop and has not been reset. 07_motion.md R208. Reset 0. -/
  safeStop : Bool := false
  /-- The executing move has passed its target and has not turned yet. 07_motion.md R195. Reset 0. -/
  passed : Bool := false
  /-- The deceleration for the end of the executing move has begun with nothing queued behind it. 07_motion.md R199. Reset 0. -/
  slowed : Bool := false
  /-- A limit is being restored. 07_motion.md R197. Reset 0. -/
  restoring : Bool := false
  /-- Homing phase. 07_motion.md R202. Reset none. -/
  home : HomePhase := .none
  /-- Position at which homing began, during the backoff its target (Q48.16); and the hold's end. 07_motion.md R202. Reset 0. -/
  homeFrom : Int := 0
  holdEnd : Nat := 0
  /-- Updates in a row with stall, with |DEV| > DEV_MAX. 07_motion.md R202, R203. Reset 0. -/
  stallN : Nat := 0
  devN : Nat := 0
  /-- DEV, Q48.16. 07_motion.md R203. Reset 0. -/
  dev : Int := 0
  /-- A deviation episode is open. 07_motion.md R203. Reset 0. -/
  devWarn : Bool := false
  /-- POS_CMD of the last 16 updates, newest first. 07_motion.md R203. Reset none. -/
  past : List Int := []
  /-- LOST, 32 bits. 07_motion.md R212. Reset 0. -/
  lost : W32 := 0
  /-- LINK_ERR, 32 bits. 07_motion.md R212. Reset 0. -/
  linkErr : W32 := 0
  /-- Last upstream slot: LOAD, and the whole 32-bit slot. 07_motion.md R188. Reset LOAD 255 (DESIGN CHOICE, log 1). -/
  load : Nat := 255
  slot : Nat := 0
  /-- OVERTEMP_WARN of the last upstream slot: the flag that R205 sets (log 26). 07_motion.md R205. Reset 0. -/
  tempWarn : Bool := false
  /-- Instant the axis came to rest (HOLD_DELAY). 07_motion.md R204. Reset 0. -/
  restAt : Nat := 0
  /-- The hold current is in force. 07_motion.md R204. Reset 0. -/
  hold : Bool := false
  /-- Fault causes present at the last update, bit n for code n. 07_motion.md R205. Reset 0. -/
  causes : Nat := 0
  /-- No update since admission or restart. 07_motion.md R210, R211. Reset 1. -/
  fresh : Bool := true
  /-- p is to be set to the SSI position once the first word after a restart has been read. 07_motion.md R210. Reset 0. -/
  resync : Bool := false
  /-- Fault reaction cut: SCALE 0 and ENABLE clear. 07_motion.md R205. Reset 0. -/
  cut : Bool := false
  /-- Last GOTO_SEQ seen. 07_motion.md R200. Reset none. -/
  gotoSeq : Option W32 := none
  /-- Microstep banks, 4,096 bytes each; empty holds the sine table; retained. 07_motion.md R190, R191. Reset sine. -/
  table : Bank := {}
  /-- MGMT writes still to be answered before the sealed bank is in the stage. 07_motion.md R191. Reset 0. -/
  xfer : Nat := 0
  /-- CLEAR_FAULT is to be sent in the next frame. 07_motion.md R187. Reset 0. -/
  clear : Bool := false
  /-- SCALE last sent. 07_motion.md R212. Reset 0. -/
  scale : Nat := 0
  /-- ADDR last sent. 07_motion.md R187. Reset 0. -/
  addr : Nat := 0
  deriving DecidableEq, Repr

/-- One drive link (R186 to R189). -/
structure DriveLink where
  /-- SEQ of the next downstream frame, 4 bits. 07_motion.md R187. Reset 0 (DESIGN CHOICE, log 1). -/
  seq : Nat := 0
  /-- Upstream frames in a row missing or failing their CRC. 07_motion.md R189. Reset 0. -/
  bad : Nat := 0
  /-- An upstream frame has arrived for the present update. 07_motion.md R186. Reset 0. -/
  got : Bool := false
  /-- Channel whose MGMT request is out, and its first entry. 07_motion.md R191. Reset none. -/
  mgmt : Option (Nat × Nat) := none
  /-- Last downstream frame: data bytes. 07_motion.md R187. Reset none (idle code groups). -/
  frame : List Nat := []
  deriving DecidableEq, Repr

/-- The motion engines, their axes and the drive links. -/
structure Motion where
  /-- Axes 0 to 63. 07_motion.md R183. Reset all DISABLED. -/
  axes : SMap Axis := []
  /-- Drive links DL0 to DL7. 07_motion.md R186. Reset idle. -/
  links : SMap DriveLink := []
  /-- Update number of the last update, from LMT. 07_motion.md R183. Reset 0. -/
  update : Nat := 0
  /-- Overruns in a row of each engine ME0 to ME7. 07_motion.md R209. Reset 0. -/
  overruns : SMap Nat := []
  deriving DecidableEq, Repr

end Sys2Proof.Machine
end

