-- ==== Sys2Proof/Machine/StCan.lean ====
section
/-! DEFINITION. State of the CAN FD ports (R328 to R348). -/

namespace Sys2Proof.Machine

/-- Bit timing of a CAN port (R330). -/
structure CanTiming where
  brp : Nat
  tseg1 : Nat
  tseg2 : Nat
  sjw : Nat
  deriving DecidableEq, Repr

/-- Error state of a CAN port (R340). -/
inductive CanState where
  | off | active | passive | busOff | recovering
  deriving DecidableEq, Repr

/-- One message object (R331 to R336). -/
structure CanObj where
  /-- Pending: data loaded, in the order it became pending. 12_can_ports.md R335. Reset not pending. -/
  pending : Option Bytes := none
  /-- Instant it became pending without an acknowledged frame since. 12_can_ports.md R341. Reset 0. -/
  since : Nat := 0
  /-- LATE, saturating 8 bits. 12_can_ports.md R335, R346. Reset 0. -/
  late : Nat := 0
  /-- Its data have been replaced while its frame is on the bus. 12_can_ports.md R335. Reset 0. -/
  again : Bool := false
  /-- A commit whose values it carries has not reached its data: its output step is still to come. 12_can_ports.md R335. Reset 0. -/
  behind : Bool := false
  /-- An EV_CAN_TX_LATE episode is open. 12_can_ports.md R335. Reset 0. -/
  lateOpen : Bool := false
  /-- FAILED. 12_can_ports.md R335. Reset 0. -/
  failed : Bool := false
  /-- SHORT. 12_can_ports.md R333. Reset 0. -/
  short : Bool := false
  /-- OVERWRITTEN for this cycle. 12_can_ports.md R334. Reset 0. -/
  overwritten : Bool := false
  /-- Frames taken since the last snapshot, newest first. 12_can_ports.md R334. Reset none. -/
  inbox : List Bytes := []
  /-- LMT of the last frame taken. 12_can_ports.md R334. Reset none. -/
  takenAt : Option Nat := none
  /-- Timed out: an EV_CAN_RX_TIMEOUT episode is open. 12_can_ports.md R334. Reset 0. -/
  timedOut : Bool := false
  /-- Frames, 16 bits. 12_can_ports.md R346. Reset 0. -/
  frames : Nat := 0
  deriving DecidableEq, Repr

/-- Rate detection in progress (R339). -/
structure RateDetect where
  /-- Index of the nominal rate tried (0 to 3), and the pass. -/
  idx : Nat := 0
  pass : Nat := 0
  /-- Good frames in a row at this rate. -/
  good : Nat := 0
  nominal : Option Nat := none
  /-- Index of the data rate tried next. -/
  dataIdx : Nat := 0
  started : Nat := 0
  deriving DecidableEq, Repr

/-- One CAN port (R329 to R346). -/
structure CanPort where
  /-- State. 12_can_ports.md R340. Reset off. -/
  st : CanState := .off
  /-- TEC and REC. 12_can_ports.md R340. Reset 0. -/
  tec : Nat := 0
  rec' : Nat := 0
  /-- Listen-only in force. 12_can_ports.md R339, R345. Reset 0. -/
  listen : Bool := false
  /-- Bus integration has still to complete. 12_can_ports.md R345. Reset 1. -/
  integrating : Bool := true
  /-- Object whose frame is on the bus. 12_can_ports.md R335. Reset none. -/
  onBus : Option Nat := none
  /-- Data of the frame on the bus. 12_can_ports.md R335. Reset none. -/
  busData : Bytes := []
  /-- The frame on the bus is not to be retried: its CAN_SEND was aborted. 12_can_ports.md R336. Reset 0. -/
  noRetry : Bool := false
  /-- Message objects, key object. 12_can_ports.md R331. Reset none pending. -/
  objs : SMap CanObj := []
  /-- Acknowledge errors in a row with no other traffic. 12_can_ports.md R342. Reset 0. -/
  ackErrs : Nat := 0
  /-- EV_CAN_ALONE is open. 12_can_ports.md R342. Reset 0. -/
  alone : Bool := false
  /-- ALONE_HOLD stops arbitration. 12_can_ports.md R342. Reset 0. -/
  aloneHold : Bool := false
  /-- Highest-priority pending object at BUS_OFF. 12_can_ports.md R341. Reset none. -/
  busOffObj : Option Nat := none
  /-- Receive ring: 80-byte windows, oldest first. 12_can_ports.md R337. Reset none. -/
  ring : List Bytes := []
  /-- RING_LOST. 12_can_ports.md R337. Reset 0. -/
  ringLost : W32 := 0
  /-- An EV_CAN_RING_FULL episode is open. 12_can_ports.md R337. Reset 0. -/
  ringFull : Bool := false
  /-- RX_FRAMES, TX_FRAMES, ERRORS, 32 bits each. 12_can_ports.md R346. Reset 0. -/
  rxFrames : W32 := 0
  txFrames : W32 := 0
  errors : W32 := 0
  /-- Rate detection in progress. 12_can_ports.md R339. Reset none. -/
  detect : Option RateDetect := none
  /-- Found rates in force: nominal and data, kb/s; retained. 12_can_ports.md R339, R345. Reset none. -/
  found : Option (Nat × Nat) := none
  /-- Bits on the bus in the present 100 ms, and its start (BUS_LOAD). 12_can_ports.md R346. Reset 0. -/
  busNs : Nat := 0
  loadFrom : Nat := 0
  load : Nat := 0
  deriving DecidableEq, Repr

end Sys2Proof.Machine
end

