-- ==== Sys2Proof/Machine/StCapture.lean ====
section
/-! DEFINITION. State of capture units (R246 to R257). -/

namespace Sys2Proof.Machine

/-- State of a capture unit (R252). -/
inductive CapState where
  | idle | armed | filling | full
  deriving DecidableEq, Repr

/-- One raw sample: its instant and the signals' values in index order (R248). -/
structure CapSample where
  at' : Nat
  vals : List W32
  deriving DecidableEq, Repr

/-- A trigger taken by a unit (R250): instant, source (0 command, 1 cog, 2 qualifier, 3 group, 0xFF none), unit, cog. -/
structure CapTrig where
  at' : Nat
  src : Nat
  unit : Nat
  cog : Nat := 0
  /-- Race stamp of TRIG_RACE at T (R246), as its fields. -/
  stamp : List Nat := []
  deriving DecidableEq, Repr

/-- A closed capture record (R254). -/
structure CapRec where
  num : Nat
  shortPre : Bool := false
  truncated : Bool := false
  corrupt : Bool := false
  group : Bool := false
  trig : CapTrig
  bootId : Nat := 0
  pre : List CapSample
  post : List CapSample
  /-- Held raw samples before the first whole block. -/
  redSkip : Nat := 0
  /-- Configuration record body the unit ran under when it closed. -/
  body : Bytes := []
  deriving DecidableEq, Repr

/-- One capture unit (R247 to R257). -/
structure CapUnit where
  /-- State; retained. 09_capture_and_recording.md R252, R257. Reset IDLE. -/
  st : CapState := .idle
  /-- Circular buffer: samples since arming, newest first, at most PRE kept before the trigger. 09_capture_and_recording.md R249, R250. Reset none. -/
  circ : List CapSample := []
  /-- Samples taken since arming (blocks are counted from the first). 09_capture_and_recording.md R249. Reset 0. -/
  taken : Nat := 0
  /-- Post-trigger samples, newest first. 09_capture_and_recording.md R250. Reset none. -/
  post : List CapSample := []
  /-- Triggers waiting for the trigger sample. 09_capture_and_recording.md R250. Reset none. -/
  trigs : List CapTrig := []
  /-- The trigger in force while FILLING. 09_capture_and_recording.md R250. Reset none. -/
  trig : Option CapTrig := none
  /-- The record being filled has a double-bit error: it is CORRUPT. 01_architecture.md R11, 09_capture_and_recording.md R254. Reset 0. -/
  corrupt : Bool := false
  /-- Triggers of the unit's own that have not reached the rest of its group. 09_capture_and_recording.md R251. Reset none. -/
  fires : List CapTrig := []
  /-- CAP_ARM has been fetched: armed at the next sample. 09_capture_and_recording.md R251. Reset 0. -/
  arming : Bool := false
  /-- CAP_DISARM while FILLING: IDLE after the record closes. 09_capture_and_recording.md R252. Reset 0. -/
  noRearm : Bool := false
  /-- The group fired and the unit waits for the others' records before it re-arms. 09_capture_and_recording.md R251. Reset 0. -/
  waiting : Bool := false
  /-- Record number of the next record, 32 bits; retained. 09_capture_and_recording.md R254. Reset 0 (DESIGN CHOICE, log 1). -/
  next : Nat := 0
  /-- Held records, oldest first. 09_capture_and_recording.md R253. Reset none. -/
  recs : List CapRec := []
  /-- Number of held records as retained. 09_capture_and_recording.md R257. Reset 0. -/
  heldN : Nat := 0
  /-- LOST, 32 bits. 09_capture_and_recording.md R252, R275. Reset 0. -/
  lost : W32 := 0
  /-- TRIG_IGNORED, 32 bits. 09_capture_and_recording.md R250, R275. Reset 0. -/
  ignored : W32 := 0
  deriving DecidableEq, Repr

end Sys2Proof.Machine
end

