-- ==== Sys2Proof/Machine/StImage.lean ====
section
/-! DEFINITION. State of the admitted configuration (R434 to R444, R540) and of the point image (R14, R24 to R36, R477). -/

namespace Sys2Proof.Machine

/-- A configuration record (R434, R435): type, unit and body bytes. -/
structure CfgRec where
  rtype : Nat
  unit : Nat := 0
  body : Bytes
  deriving DecidableEq, Repr

/-- One entry of the point map (R437, R540) with its metadata (R27). -/
structure PointDef where
  rslot : Nat
  addr : Nat
  /-- Type code (R24). -/
  typ : Nat
  cyclic : Bool
  group : Nat
  islot : Nat
  /-- 0 field input, 1 logic task, 2 unit, 3 host. -/
  writer : Nat
  wunit : Nat
  init : W64 := 0
  deriving DecidableEq, Repr

/-- A package held in the stage or in force (R437). -/
structure Package where
  pkgId : Nat
  baseId : Nat
  delta : Bool
  signed : Bool
  recs : List (CfgRec × Bool)     -- with its DELETE flag
  points : List PointDef
  logic : List Bytes
  spin : List Bytes
  micro : List Bytes
  place : List Bytes
  safety : Option Bytes
  deriving DecidableEq, Repr

/-- The last Sluice verdict (R444), the part of the report that a rule gives a value. -/
structure Report where
  refused : Bool := false
  pkgId : Nat := 0
  checkLmt : Nat := 0
  checkUs : Nat := 0
  budget : Nat := 0xFF
  test : Nat := 0
  unit : Nat := 0
  item : Nat := 0
  measure : Nat := 0
  value : Nat := 0
  limit : Nat := 0
  aux0 : Nat := 0
  aux1 : Nat := 0
  /-- LOAD entries: budget, measure, unit with the largest share, value, limit. -/
  load : List (List Nat) := []
  deriving DecidableEq, Repr

/-- A change that Sluice has admitted and that waits for the commit of local group 0 (R439, R440): its command, the package, the report. -/
structure PendCfg where
  ring : Nat
  tag : W32
  pkg : Package
  report : List Nat := []
  /-- An earlier change was withdrawn since: Sluice checks again at the commit (log 41). -/
  again : Bool := false
  deriving DecidableEq, Repr

/-- The configuration in force, the stage and the disabled units. -/
structure Cfg where
  /-- A configuration has been admitted; retained. 16_commands_and_sluice.md R439. Reset none. -/
  admitted : Bool := false
  /-- PKG_ID of the admitted configuration; retained. 16_commands_and_sluice.md R437, R440. Reset 0. -/
  pkgId : Nat := 0
  /-- Admitted records, one of each RTYPE and key; retained. 16_commands_and_sluice.md R434, R439. Reset none. -/
  recs : List CfgRec := []
  /-- Point map, key point address; retained. 01_architecture.md R540. Reset none. -/
  points : SMap PointDef := []
  /-- Admitted logic program images, key engine; retained. 16_commands_and_sluice.md R437. Reset none. -/
  logic : SMap Bytes := []
  /-- Admitted spindle program images, key program; retained. 16_commands_and_sluice.md R437. Reset none. -/
  spin : SMap Bytes := []
  /-- The stage: one package; durable. 16_commands_and_sluice.md R439. Reset none. -/
  stage : Option Package := none
  /-- The staged package is durable. 16_commands_and_sluice.md R439. Reset 0. -/
  stageDurable : Bool := false
  /-- Changes admitted and not yet committed, in fetch order. 16_commands_and_sluice.md R439, R440. Reset none. -/
  queue : List PendCfg := []
  /-- Disabled units, by identifier; retained. 16_commands_and_sluice.md R432, R433. Reset none. -/
  disabled : List Nat := []
  /-- The model's own: records that a change under Sluice's check names, which it admits anew (R156). Reset none. -/
  named : List CfgRec := []
  /-- The model's own: addresses that the point map of a change under Sluice's check lists twice (R28, R540). Reset none. -/
  dups : List Nat := []
  /-- The retained configuration is applied (not in test mode or recovery start). 18_start_retention_update.md R470. Reset 0. -/
  inForce : Bool := false
  /-- Instant of the last admission, ns of LMT. 02_races_and_time.md R47, 03_cogs_and_placement.md R85. Reset 0. -/
  admitAt : Nat := 0
  /-- The last report written. 16_commands_and_sluice.md R444. Reset admitted, all zero (DESIGN CHOICE, log 1). -/
  report : Report := {}
  deriving DecidableEq, Repr

/-- A force (R300): the forced value and the shadow, the value its writer last wrote. -/
structure Force where
  value : W64
  shadow : W64
  deriving DecidableEq, Repr

/-- One cycle group of one segment (R29, R30, R31, R33). -/
structure GroupSt where
  /-- Cycle number, 64 bits; retained. 04_points_and_oczon.md R104. Reset 0 (DESIGN CHOICE, log 1). -/
  cycle : Nat := 0
  /-- A cycle is open between its start and its output. 01_architecture.md R29. Reset 0. -/
  open' : Bool := false
  /-- Start of the present or last cycle, ns of LMT. 01_architecture.md R29. Reset 0. -/
  startAt : Nat := 0
  /-- A cycle has started since the module's start. 03_cogs_and_placement.md R85. Reset 0. -/
  started : Bool := false
  /-- Values latched at the snapshot, key slot address. 01_architecture.md R30. Reset none. -/
  snap : SMap W32 := []
  /-- Qualities latched at the snapshot, key slot address. 01_architecture.md R30. Reset none. -/
  snapQ : SMap Nat := []
  /-- The last write-through of the group is not durable yet. 01_architecture.md R33. Reset 0. -/
  wtOpen : Bool := false
  /-- CYCLES, commits of the group, 32 bits. 18_start_retention_update.md R476. Reset 0. -/
  cycles : W32 := 0
  /-- MARGIN, least time from a hand-in to its commit, us. 18_start_retention_update.md R476. Reset 2^31 - 1 (DESIGN CHOICE, log 1). -/
  margin : Nat := 2147483647
  /-- Start delayed to one period after the last one (cog-paced). 03_cogs_and_placement.md R85. Reset none. -/
  delayed : Option Nat := none
  /-- The last commit, ns of LMT. 01_architecture.md R29. Reset 0. -/
  commitAt : Nat := 0
  deriving DecidableEq, Repr

/-- The point image and what rests on it. -/
structure Image where
  /-- Front buffer: committed values, key slot address, 32 bits each; retained. 01_architecture.md R14, R29. Reset 0 (DESIGN CHOICE, log 1). -/
  front : SMap W32 := []
  /-- Back buffer: values written since the commit. 01_architecture.md R14, R29. Reset 0 (DESIGN CHOICE, log 1). -/
  back : SMap W32 := []
  /-- Committed quality code of each slot, 3 bits. 01_architecture.md R14, R26. Reset 0 (GOOD). -/
  frontQ : SMap Nat := []
  /-- Conditions present on each slot: bit 0 LIMITED, 1 STALE, 2 UNDELIVERED, 3 ABSENT. 01_architecture.md R26. Reset none. -/
  cond : SMap Nat := []
  /-- Changed-since-last-commit flag of each slot, 1 bit. 01_architecture.md R14. Reset 0. -/
  changed : SMap Bool := []
  /-- Force table, key point address, at most 4,096; retained. 10_logic_engines.md R300. Reset none. -/
  forces : SMap Force := []
  /-- Paged point values in MRAM, key slot address. 01_architecture.md R36. Reset 0 (DESIGN CHOICE, log 1). -/
  paged : SMap W32 := []
  /-- PQUAL of each paged point, 3 bits, listed where not ABSENT (4). 01_architecture.md R27. Reset 4. -/
  pqual : SMap Nat := []
  /-- DRAM journal of paged writes waiting for a commit of local group 0, oldest first. 01_architecture.md R36. Reset none. -/
  pagedJournal : List (Nat × W32) := []
  /-- Cycle groups, key segment x 8 + group. 01_architecture.md R27. Reset none. -/
  groups : SMap GroupSt := []
  deriving DecidableEq, Repr

end Sys2Proof.Machine
end

