-- ==== Sys2Proof/Machine/StLogic.lean ====
section
/-! DEFINITION. State of logic engines and runs (R278 to R309) and of spindle engines (R310 to R327). -/

namespace Sys2Proof.Machine

/-- Mode of a logic engine (R296). -/
inductive LogicMode where
  | stop | run | hold
  deriving DecidableEq, Repr

/-- A pending operation of the branch stack (R285). -/
inductive BrOp where
  | and | or | xor
  deriving DecidableEq, Repr

/-- A timer (R287). -/
structure Timer where
  pt : W32 := 0
  et : W32 := 0
  q : Bool := false
  inPrev : Bool := false
  busy : Bool := false
  start : Nat := 0
  /-- BASE 0 to 3 and type as declared (R294). -/
  base : Nat := 0
  typ : Nat := 0
  /-- start is to be set to T_RUN - ET x BASE at the first execution after a restart (R306). -/
  resumed : Bool := false
  deriving DecidableEq, Repr

/-- A counter (R287). -/
structure Counter where
  cv : W32 := 0
  pv : W32 := 0
  q : Bool := false
  edge : Bool := false
  deriving DecidableEq, Repr

/-- A run: one execution of a task (R280 to R282). -/
structure Run where
  task : Nat
  cyclic : Bool
  /-- Group of a cyclic run, owner group of an event run: segment x 8 + group. -/
  group : Nat
  tRun : Nat
  /-- What it reads: values and qualities latched at the snapshot or at the start (R281). -/
  vals : SMap W32 := []
  /-- Address of the next instruction. -/
  pc : Nat := 0
  ba : Bool := false
  wa : W32 := 0
  stack : List (Bool × BrOp) := []
  /-- Return addresses of nested calls, innermost first (R289). -/
  calls : List Nat := []
  temps : SMap W32 := []
  ov : Bool := false
  err : Bool := false
  /-- Settings of OV and ERR, counted in the task's status (R288). -/
  ovN : Nat := 0
  errN : Nat := 0
  /-- Write set: slots stored by the run, key slot address (R281). -/
  writes : SMap W32 := []
  /-- Hopper flags to set at hand-in: (task, flag) (R289). -/
  flags : List (Nat × Nat) := []
  /-- Events to raise at hand-in: (immediate, WA) (R289). -/
  evts : List (Nat × Nat) := []
  firstRun : Bool := false
  firstAfter : Bool := false
  /-- The bank it runs on (R304). -/
  code : Bytes := []
  /-- Engine cycles executed (R291). -/
  cycles : Nat := 0
  /-- END has been executed: the hand-in is complete. -/
  ended : Bool := false
  deriving DecidableEq, Repr

/-- A release waiting for its engine (R278 to R280). -/
structure Release where
  task : Nat
  at' : Nat
  cyclic : Bool
  /-- Values latched at the snapshot of a cyclic release's cycle (R30, R281). -/
  snap : SMap W32 := []
  deriving DecidableEq, Repr

/-- A hand-in taken by the next commit of a group (R31, R281). -/
structure HandIn where
  group : Nat
  at' : Nat
  task : Nat       -- engine x 256 + task
  writes : SMap W32
  deriving DecidableEq, Repr

/-- A breakpoint (R298). -/
structure Breakpoint where
  addr : Nat
  task : Nat
  cond : Nat
  count : Nat
  hits : Nat := 0
  deriving DecidableEq, Repr

/-- Per-task figures (R307) and first-run flags. -/
structure TaskFig where
  worst : Nat := 0
  skipped : Nat := 0
  merged : Nat := 0
  ovN : Nat := 0
  errN : Nat := 0
  /-- Consecutive releases that overran (R293). -/
  overruns : Nat := 0
  /-- A run has started since STOP to RUN or since the start. -/
  ran : Bool := false
  /-- A run has started since the last swap. -/
  ranAfter : Bool := true
  /-- Previous release (R279). -/
  lastRel : Option Nat := none
  /-- Released and not handed in yet (R31). -/
  late : Bool := false
  /-- Not handed in by the commit of its cycle: the run in the next cycle is skipped, whenever the hand-in comes (R31). -/
  skip : Bool := false
  deriving DecidableEq, Repr

/-- One logic engine (R278 to R307). -/
structure Engine where
  /-- Mode; retained. 10_logic_engines.md R296. Reset STOP. -/
  mode : LogicMode := .stop
  /-- Reason of the last stop: 0 command, 1 overrun, 2 disable, 3 restart. 10_logic_engines.md R307. Reset 0 (DESIGN CHOICE, log 1). -/
  reason : Nat := 0
  /-- Held at a breakpoint. 10_logic_engines.md R298, R307. Reset 0. -/
  held : Bool := false
  /-- The instruction at which a breakpoint held the run is executed next without testing it again. 10_logic_engines.md R298. Reset 0. -/
  resume : Bool := false
  /-- Program image, both banks, seal and selector; retained. 10_logic_engines.md R304, R306. Reset none. -/
  prog : Bank := {}
  /-- CHANGES, swaps since admission. 10_logic_engines.md R307. Reset 0. -/
  changes : W32 := 0
  /-- Timers, key index; retained. 10_logic_engines.md R287, R306. Reset all clear. -/
  timers : SMap Timer := []
  /-- Counters, key index; retained. 10_logic_engines.md R287, R306. Reset all clear. -/
  counters : SMap Counter := []
  /-- Edge memories, key index, listed where 1; retained. 10_logic_engines.md R285, R306. Reset 0. -/
  edges : SMap Bool := []
  /-- The open run. 10_logic_engines.md R280. Reset none. -/
  run : Option Run := none
  /-- Ready and pending releases; pending event releases retained. 10_logic_engines.md R279, R306. Reset none. -/
  ready : List Release := []
  /-- Breakpoints 0 to 15. 10_logic_engines.md R298. Reset none. -/
  breaks : SMap Breakpoint := []
  /-- Per-task figures, key task. 10_logic_engines.md R307. Reset 0. -/
  figs : SMap TaskFig := []
  /-- LOAD, admitted load in 1/10,000. 10_logic_engines.md R307. Reset 0. -/
  load : Nat := 0
  /-- Instructions a LOGIC_STEP still executes. 10_logic_engines.md R298. Reset 0. -/
  stepLeft : Nat := 0
  deriving DecidableEq, Repr

/-- The logic section. -/
structure Logic where
  /-- Engines LE0 to LE7. 10_logic_engines.md R278. Reset STOP. -/
  engines : SMap Engine := []
  /-- Hand-ins made and waiting for their group's commit, oldest first. 10_logic_engines.md R281. Reset none. -/
  handIns : List HandIn := []
  deriving DecidableEq, Repr

/-- A frame's normal handling behind a classifier (R318): an Oczon frame from its bytes, a PTP or an LLDP message from the values it carries. -/
inductive EthMsg where
  | oczon
  | ptpSync (domain : Nat) (offset pathDelay : Int) (gm : List Nat)
  | ptp (domain mtype : Nat) (data : List Nat)
  | lldp (chassisSub chassis portSub : Nat) (portId : Bytes)
  deriving DecidableEq, Repr

/-- An input window (R311, R317 to R320): its bytes (a whole Ethernet frame at the classifiers), LMT instant, size of the variable part, default verdict. -/
structure SpinWin where
  bytes : Bytes
  lmt : Nat
  size : Nat
  dflt : W32 := 0
  /-- What an Ethernet frame's normal handling takes of it. -/
  msg : EthMsg := .oczon
  deriving DecidableEq, Repr

/-- One spindle program (R310 to R325). -/
structure Spin where
  /-- Program image, both banks, seal and selector; retained. 11_spindle_programs.md R324, R325. Reset none. -/
  prog : Bank := {}
  /-- W0 to W15 of the window in progress, key register. 11_spindle_programs.md R311. Reset 0. -/
  regs : SMap W32 := []
  /-- W8 to W15 as last exited, key register. 11_spindle_programs.md R311. Reset 0. -/
  kept : SMap W32 := []
  /-- Counters 0 to 7, 32 bits. 11_spindle_programs.md R315, R325. Reset 0. -/
  counters : SMap W32 := []
  /-- Window in progress. 11_spindle_programs.md R311. Reset none. -/
  window : Option SpinWin := none
  /-- Queued windows, oldest first. 11_spindle_programs.md R322. Reset none. -/
  queue : List SpinWin := []
  /-- Address of the next instruction of the window in progress. 11_spindle_programs.md R312. Reset 0. -/
  pc : Nat := 0
  /-- Instructions executed in the window in progress, and the most of any window. 11_spindle_programs.md R325. Reset 0. -/
  steps : Nat := 0
  most : Nat := 0
  /-- Windows run. 11_spindle_programs.md R325. Reset 0. -/
  windows : W32 := 0
  /-- BAD_VERDICT. 11_spindle_programs.md R321. Reset 0. -/
  badVerdict : W32 := 0
  /-- UNFILTERED. 11_spindle_programs.md R322. Reset 0. -/
  unfiltered : W32 := 0
  /-- Instants of the last EV_SPIN_BAD_VERDICT and EV_SPIN_BACKLOG. 11_spindle_programs.md R321, R322. Reset none. -/
  badAt : Option Nat := none
  backAt : Option Nat := none
  /-- Last verdict given. 11_spindle_programs.md R311. Reset 0. -/
  verdict : W32 := 0
  deriving DecidableEq, Repr

end Sys2Proof.Machine
end

