-- ==== Sys2Proof/Machine/StLoops.lean ====
section
/-! DEFINITION. State of loops and override groups (R131 to R161) and of Fantail tasks (R162 to R182). -/

namespace Sys2Proof.Machine

/-- Loop mode (R148). -/
inductive LoopMode where
  | disabled | auto | manual | track
  deriving DecidableEq, Repr

/-- States of one biquad (R143). -/
structure BqState where
  x1 : Int := 0
  x2 : Int := 0
  w1 : Int := 0
  w2 : Int := 0
  deriving DecidableEq, Repr

/-- A setpoint step waiting for the loop's sample (R141). -/
structure SpStep where
  at' : Nat
  relative : Bool
  /-- LOOP_TRIM: the value is TRIM itself. -/
  trim : Bool := false
  value : Int
  deriving DecidableEq, Repr

/-- One loop (R131 to R159). -/
structure Loop where
  /-- Mode; retained. 05_loops.md R148. Reset DISABLED. -/
  mode : LoopMode := .disabled
  /-- The first sample after the first admission has been taken; retained. 05_loops.md R149. Reset 0. -/
  born : Bool := false
  /-- The loop has sampled since its first admission or UNIT_ENABLE: MODE_REQ in force is not new. 05_loops.md R149. Reset 0. -/
  seenReq : Bool := false
  /-- MODE_REQ value last read. 05_loops.md R149. Reset 0. -/
  lastReq : W32 := 0
  /-- The first sample after a restart is still to come. 05_loops.md R159. Reset 0. -/
  fresh : Bool := false
  /-- Integrator i, Q9.30, 40 bits; retained. 05_loops.md R144. Reset 0. -/
  i : Int := 0
  /-- Limited setpoint spl, Q15.16, 32 bits; retained. 05_loops.md R142. Reset 0. -/
  spl : Int := 0
  /-- TRIM, signed 17 bits; retained. 05_loops.md R140. Reset 0 (DESIGN CHOICE, log 1). -/
  trim : Int := 0
  /-- dq, Q15; retained. 05_loops.md R144. Reset 0. -/
  dq : Int := 0
  /-- xd_prev. 05_loops.md R138. Reset 0. -/
  xdPrev : Int := 0
  /-- Biquad states; retained. 05_loops.md R143. Reset 0. -/
  bq : List BqState := []
  /-- Last output u. 05_loops.md R146. Reset 0 (DESIGN CHOICE, log 1). -/
  u : Int := 0
  /-- u_acc of the last sample. 05_loops.md R138. Reset 0. -/
  uAcc : Int := 0
  /-- p, d and f of the last sample, for tracking after an override decision. 05_loops.md R149, R154. Reset 0. -/
  pdf : List Int := [0, 0, 0]
  /-- y, the filtered PV. 05_loops.md R143. Reset 0. -/
  y : Int := 0
  /-- Target and base of the last sample. 05_loops.md R140. Reset 0. -/
  tgt : Int := 0
  base : Int := 0
  /-- Last good src of a setpoint source and of the feed-forward and track sources. 05_loops.md R140. Reset 0. -/
  src : Int := 0
  ffv : Int := 0
  trk : Int := 0
  /-- STATE point. 32 bits. 05_loops.md R158. Reset 0. -/
  state : W32 := 0
  /-- A PV_BAD episode is open. 05_loops.md R151. Reset 0. -/
  pvBad : Bool := false
  /-- An EV_LOOP_SP_BAD episode is open. 05_loops.md R140. Reset 0. -/
  spBad : Bool := false
  /-- Steps waiting for the next sample. 05_loops.md R141. Reset none. -/
  steps : List SpStep := []
  /-- Coefficient set, bytes 96 to 287 of the record, both banks; retained. 05_loops.md R155. Reset empty. -/
  coef : Bank := {}
  /-- A relay test drives the loop: its present level and what it measures. 06_fantail.md R168. Reset none. -/
  relay : Option Nat := none
  /-- A relay test has ended: AUTO at the next sample. 06_fantail.md R168, R169. Reset 0. -/
  back : Bool := false
  /-- Biquads, dq and xd_prev still wait for a usable PV since the loop left DISABLED or restarted. 05_loops.md R149, R151, R159. Reset 0. -/
  reinit : Bool := false
  /-- Mode at the end of the last sample, from which EV_LOOP_MODE tells a change. 05_loops.md R149. Reset DISABLED. -/
  lastMode : LoopMode := .disabled
  deriving DecidableEq, Repr

/-- One override group (R153, R154). -/
structure OGroup where
  /-- Winner of the last decision. 05_loops.md R154. Reset none. -/
  winner : Option Nat := none
  /-- Last output. 05_loops.md R154. Reset 0 (DESIGN CHOICE, log 1). -/
  out : Int := 0
  /-- A decision has been made since admission, UNIT_ENABLE or the start. 05_loops.md R154. Reset 0. -/
  decided : Bool := false
  deriving DecidableEq, Repr

/-- One loop lane (R131, R134). -/
structure Lane where
  /-- Frames in a row in which it overran. 05_loops.md R134. Reset 0. -/
  overruns : Nat := 0
  /-- Number of the frame of its last overrun. 05_loops.md R134. Reset 0. -/
  frame : Nat := 0
  deriving DecidableEq, Repr

/-- State of a Fantail task (R164). -/
inductive FtState where
  | idle | running | frozen | testing
  deriving DecidableEq, Repr

/-- A relay test in progress (R168, R169). -/
structure RelayTest where
  u0 : Int
  high : Bool
  started : Nat
  /-- Target when the test began (R169). -/
  tgt : Int
  /-- Instants of upward relay switches, oldest first. -/
  switches : List Nat := []
  /-- Least and largest PV of the present period. -/
  lo : Int
  hi : Int
  /-- Sums over measured periods: peak-to-peak amplitude, switch-to-turn delay, count of delays. -/
  sumPp : Nat := 0
  sumDelay : Nat := 0
  nDelay : Nat := 0
  /-- Instant of the last switch whose PV turn is awaited; last PV. -/
  await : Option Nat := none
  lastY : Int := 0
  deriving DecidableEq, Repr

/-- One Fantail task (R162 to R181). Floats are binary32 bit patterns. -/
structure FtTask where
  /-- State; retained. 06_fantail.md R164. Reset IDLE. -/
  st : FtState := .idle
  /-- MODE 0 off, 1 advise, 2 apply; retained. 06_fantail.md R163. Reset 0. -/
  mode : Nat := 0
  /-- Instant it became FROZEN. 06_fantail.md R164. Reset 0. -/
  frozenAt : Nat := 0
  /-- EV_FT_FROZEN has been reported for this freeze. 06_fantail.md R164. Reset 0. -/
  frozenTold : Bool := false
  /-- Instant of the last result. 06_fantail.md R171. Reset none. -/
  lastAt : Option Nat := none
  /-- Instant of the last write. 06_fantail.md R166. Reset none. -/
  wroteAt : Option Nat := none
  /-- Latest advised result: a coefficient set, correction values or a setpoint; retained. 06_fantail.md R163, R181. Reset none. -/
  advised : Option (List Int) := none
  /-- Result held while the coefficient seal is pending. 06_fantail.md R167. Reset none. -/
  held : Option (List Int) := none
  /-- Relay test in progress. 06_fantail.md R168. Reset none. -/
  test : Option RelayTest := none
  /-- Dead time from the last relay test, ns. 06_fantail.md R171. Reset none. -/
  deadtime : Option Nat := none
  /-- Fit parameters alpha, beta, gamma; retained. 06_fantail.md R171. Reset 0. -/
  theta : List W32 := [0, 0, 0]
  /-- Covariance, 3 x 3; 10^4 x I. 06_fantail.md R171. Reset 10^4 x I. -/
  cov : List W32 := [0x461C4000, 0, 0, 0, 0x461C4000, 0, 0, 0, 0x461C4000]
  /-- Identification samples (y, u), newest first. 06_fantail.md R171. Reset none. -/
  hist : List (Int × Int) := []
  /-- Loop samples since the last identification sample. 06_fantail.md R171. Reset 0. -/
  decim : Nat := 0
  /-- Samples still to fill the delay line after a freeze. 06_fantail.md R172. Reset 0. -/
  fill : Nat := 0
  /-- Squared residuals of the last 1,024 updates, newest first. 06_fantail.md R171. Reset none. -/
  resid : List W32 := []
  /-- An EV_FT_MODEL_INVALID episode is open. 06_fantail.md R171. Reset 0. -/
  invalid : Bool := false
  /-- Outlier history of nozzles, 8 bits each, key nozzle; retained. 06_fantail.md R176. Reset 0 (DESIGN CHOICE, log 1). -/
  outlier : SMap Nat := []
  /-- Records skipped. 06_fantail.md R175. Reset 0. -/
  skipped : Nat := 0
  /-- EV_FT_HELD_FULL has been reported for this seal. 06_fantail.md R176. Reset 0. -/
  fullTold : Bool := false
  /-- Instant of the last shortfall (kind 5). 06_fantail.md R179. Reset 0. -/
  shortAt : Nat := 0
  deriving DecidableEq, Repr

end Sys2Proof.Machine
end

