-- ==== Sys2Proof/Machine/StNet.lean ====
section
/-! DEFINITION. State of the Oczon field network: ports, nodes, paged transfer (R99 to R130). -/

namespace Sys2Proof.Machine

/-- State of a node record (R117). -/
inductive NodeState where
  | absent | binding | preop | operate | dropped
  deriving DecidableEq, Repr

/-- A received INPUT frame kept for the next snapshot (R109, R112). -/
structure InFrame where
  group : Nat
  frag : Nat
  last : Bool
  valid : Bool
  received : Bool
  cycle : Nat
  offset : Nat
  data : Bytes
  deriving DecidableEq, Repr

/-- A PAGE_REQ that waits for its PAGE_RSP (R120). -/
structure PageReq where
  tag : Nat
  write : Bool
  first : Nat
  values : List W32
  count : Nat
  tries : Nat
  sentAt : Nat
  deriving DecidableEq, Repr

/-- One node record's state (R105, R112 to R121). -/
structure Node where
  /-- State; retained. 04_points_and_oczon.md R117. Reset ABSENT. -/
  st : NodeState := .absent
  /-- BIND_ID, 16 bits; retained. 04_points_and_oczon.md R115. Reset 0 (none yet). -/
  bindId : Nat := 0
  /-- MAC address bound or being bound, 48 bits. 04_points_and_oczon.md R107. Reset 0 (DESIGN CHOICE, log 1). -/
  mac : Nat := 0
  /-- BINDs sent and unanswered. 04_points_and_oczon.md R115. Reset 0. -/
  binds : Nat := 0
  /-- Instant of the last BIND. 04_points_and_oczon.md R115. Reset 0. -/
  bindAt : Nat := 0
  /-- The node has been given OUTPUTS_VALID from this cycle of each group on: cycle numbers, key group. 04_points_and_oczon.md R119. Reset none. -/
  validFrom : SMap Nat := []
  /-- HELLO body, bytes 8 to 63. 04_points_and_oczon.md R113. Reset empty. -/
  hello : Bytes := []
  /-- Serial of the last node bound to the record; retained. 04_points_and_oczon.md R116. Reset empty. -/
  serial : Bytes := []
  /-- The binding is a replacement: EV_NODE_REPLACED is due at OPERATE. 04_points_and_oczon.md R116. Reset 0. -/
  replaced : Bool := false
  /-- The node came from DROPPED. 04_points_and_oczon.md R118. Reset 0. -/
  rejoin : Bool := false
  /-- Latest station status block, 16 bytes. 04_points_and_oczon.md R109. Reset empty. -/
  status : Bytes := []
  /-- INPUT frames received since the last snapshot of their group. 04_points_and_oczon.md R112. Reset none. -/
  inbox : List InFrame := []
  /-- Consecutive home-group snapshots without a complete set. 04_points_and_oczon.md R118. Reset 0. -/
  misses : Nat := 0
  /-- Groups whose inputs have been latched since PREOP. 04_points_and_oczon.md R118. Reset none. -/
  latched : List Nat := []
  /-- Paged outputs written since PREOP. 04_points_and_oczon.md R102, R118. Reset 0. -/
  pagedDone : Bool := false
  /-- Foreground bank confirmed (BANK_OK). 04_points_and_oczon.md R108, R97. Reset 0. -/
  bankOk : Bool := false
  /-- Failed loads of the foreground into both banks since PREOP or the last boundary; none while no load has been sent.
  03_cogs_and_placement.md R97. Reset none. -/
  fgTries : Option Nat := none
  /-- Instant at which the last bank transfer to the node was sent. 03_cogs_and_placement.md R97. Reset 0. -/
  xferAt : Nat := 0
  /-- Head-node record delivered at the binding. 03_cogs_and_placement.md R89. Reset empty. -/
  headRec : Bytes := []
  /-- Cycle, low 16 bits, of the last OUTPUT set per group. 04_points_and_oczon.md R108. Reset none. -/
  outCycle : SMap Nat := []
  /-- Frames late or answering another cycle, 32 bits. 04_points_and_oczon.md R112. Reset 0. -/
  late : W32 := 0
  /-- Instant it was DROPPED. 04_points_and_oczon.md R118. Reset 0. -/
  droppedAt : Nat := 0
  /-- Instant of the last EV_NODE_CONFLICT. 04_points_and_oczon.md R116. Reset none. -/
  conflictAt : Option Nat := none
  /-- Page requests in flight. 04_points_and_oczon.md R120. Reset none. -/
  reqs : List PageReq := []
  /-- Paged outputs durable and not yet confirmed, in order of durability: slot index and durable value. 04_points_and_oczon.md R102. Reset none. -/
  pageOut : List (Nat × W32) := []
  /-- LMT of the last successful read of each paged input, key slot index; of PREOP where there is none yet. 04_points_and_oczon.md R101. Reset none. -/
  readAt : SMap Nat := []
  deriving DecidableEq, Repr

/-- A frame put on the wire (or queued with a launch time) (R107, R124). -/
structure TxFrame where
  port : Nat
  queue : Nat
  dst : Nat := 0
  src : Nat := 0
  /-- EtherType, and the VLAN tag as (PCP, VID). -/
  etype : Nat := 0
  tag : Option (Nat × Nat) := none
  /-- LMT at which it was queued; the launch time in ns of its domain where it has one. -/
  at' : Nat
  launch : Option Nat := none
  dom : Nat := 0
  bytes : List Nat
  deriving DecidableEq, Repr

/-- One field port and its segment (R101, R103, R106, R114, R504). -/
structure Port where
  /-- Link up. 20_connectors.md R504. Reset 0. -/
  link : Bool := false
  /-- ABS# high: no optics. 20_connectors.md R503. Reset 1 (DESIGN CHOICE, log 2). -/
  abs : Bool := true
  /-- TXDIS asserted. 20_connectors.md R504, R521. Reset 1. -/
  txdis : Bool := true
  /-- Clause 37 auto-negotiation done (1000BASE-X). 20_connectors.md R504. Reset 0. -/
  autoneg : Bool := false
  /-- Frames discarded as invalid, 32 bits. 04_points_and_oczon.md R106. Reset 0. -/
  bad : W32 := 0
  /-- Frames the port's classifier program dropped, 32 bits. 11_spindle_programs.md R318. Reset 0. -/
  filtered : W32 := 0
  /-- HELLOs that matched no record, 32 bits. 04_points_and_oczon.md R116. Reset 0. -/
  unknown : W32 := 0
  /-- MAC addresses already reported unknown. 04_points_and_oczon.md R116. Reset none. -/
  unknownMacs : List Nat := []
  /-- Start of the present sweep. 04_points_and_oczon.md R101. Reset 0. -/
  sweepAt : Nat := 0
  /-- The sweep has reads outstanding. 04_points_and_oczon.md R101. Reset 0. -/
  sweeping : Bool := false
  /-- A sweep period began while the last sweep was unfinished: the next starts when it finishes. 04_points_and_oczon.md R101. Reset 0. -/
  sweepDue : Bool := false
  /-- EV_SWEEP_LATE has been reported. 04_points_and_oczon.md R101. Reset 0. -/
  sweepLate : Bool := false
  /-- LLDPDU of the link partner: chassis ID and port. 04_points_and_oczon.md R114. Reset none. -/
  neighbour : Option (Nat × Nat) := none
  /-- Gate control list in force: the list's cycle time, ns, and its entries (ps from the cycle's start, gates open, bit per queue).
  04_points_and_oczon.md R125. Reset none. -/
  gateCycle : Nat := 0
  gates : List (Nat × Nat) := []
  /-- Instant of the last LLDPDU sent. 04_points_and_oczon.md R114. Reset 0. -/
  lldpAt : Nat := 0
  /-- Launch-time frames discarded as late, 32 bits. 02_races_and_time.md R69. Reset 0. -/
  lateFrames : W32 := 0
  deriving DecidableEq, Repr

/-- The field network. -/
structure Net where
  /-- Ports A to D, key segment 1 to 4. 04_points_and_oczon.md R103. Reset none. -/
  ports : SMap Port := []
  /-- Node records' state, key segment x 1,024 + node. 04_points_and_oczon.md R117. Reset none. -/
  nodes : SMap Node := []
  /-- Launch-time frames waiting on queues 6 and 7. 02_races_and_time.md R69, 04_points_and_oczon.md R124. Reset none. -/
  queue : List TxFrame := []
  /-- Frames sent, oldest first. 04_points_and_oczon.md R107. Reset none. -/
  sent : List TxFrame := []
  /-- Domain index that each source of received race segments last named, key SRC (module, race). 02_races_and_time.md R46, R57. Reset none. -/
  srcDoms : SMap Nat := []
  /-- Next PAGE_REQ tag, 16 bits. 04_points_and_oczon.md R120. Reset 0 (DESIGN CHOICE, log 1). -/
  tag : Nat := 0
  deriving DecidableEq, Repr

end Sys2Proof.Machine
end

