-- ==== Sys2Proof/Machine/StRaces.lean ====
section
/-! DEFINITION. State of encoders, races, segments and PTP domains (R38 to R72). -/

namespace Sys2Proof.Machine

/-- One encoder input (R38 to R40). -/
structure Encoder where
  /-- Counter, ticks, 64 bits. 02_races_and_time.md R38. Reset 0 (DESIGN CHOICE, log 1). -/
  count : W64 := 0
  /-- Instant of the last sample. 02_races_and_time.md R38. Reset 0. -/
  lastT : Nat := 0
  /-- A sample has been taken since the start. 02_races_and_time.md R38. Reset 0. -/
  seen : Bool := false
  /-- Last SSI word, decoded, up to 40 bits; retained with the race. 02_races_and_time.md R541. Reset none. -/
  word : Option Nat := none
  /-- No good SSI word has been read since the start: the retained word comes before the next. 02_races_and_time.md R541. Reset 1. -/
  back : Bool := true
  /-- Place of the last sine/cosine vector in its signal period, 1/4,096 (12 bits). 02_races_and_time.md R38. Reset none. -/
  phase : Option Nat := none
  /-- Fault code in R39's order from 1; 0 none. 02_races_and_time.md R39, R71. Reset 0. -/
  fault : Nat := 0
  /-- Consecutive samples outside the amplitude limits. 02_races_and_time.md R39. Reset 0. -/
  badAmpl : Nat := 0
  /-- Consecutive SSI reads that failed CHECK. 02_races_and_time.md R39. Reset 0. -/
  badCheck : Nat := 0
  /-- ENC_AMPL, mV peak to peak. 02_races_and_time.md R71. Reset 0 (DESIGN CHOICE, log 1). -/
  ampl : Nat := 0
  /-- Samples of the last 2,400 us: (LMT of the sample, counter), oldest first: 1,024 us before the earliest fit point, which lies LEAD + 20 us
  and a period before T_S. 02_races_and_time.md R53. Reset none. -/
  samples : List (Nat × Nat) := []
  /-- Fantail's corrections OFS_S, OFS_C, GAIN_C and PHASE_C, Q15; retained. 06_fantail.md R178, R181. Reset 0. -/
  corr : List Int := [0, 0, 0, 0]
  /-- Last 4,096 raw sine and cosine samples, oldest first, Q15 of the converter's full scale. 06_fantail.md R178. Reset none. -/
  raw : List (Int × Int) := []
  /-- Counter at the last raw sample kept. 06_fantail.md R178. Reset 0. -/
  rawAt : W64 := 0
  /-- Counter at the start of past loop frames: (frame number, counter) of each frame at which it had changed, newest first.
  05_loops.md R132. Reset none. -/
  frames : List (Nat × W64) := []
  deriving DecidableEq, Repr

/-- State of a race (R49). -/
inductive RaceState where
  | idle | running | holdover | lost
  deriving DecidableEq, Repr

/-- A race segment (R53, R57). -/
structure Segment where
  /-- T_S, ns of the domain. -/
  ts : Nat
  /-- DURATION, ns. -/
  dur : Nat
  c0 : Nat
  c1 : Int
  c2 : Int
  c3 : Int
  scale : Nat
  seq : Nat
  epoch : Nat
  dom : Nat
  holdover : Bool := false
  lost : Bool := false
  unref : Bool := false
  disc : Bool := false
  deriving DecidableEq, Repr

/-- One race (R41 to R56). -/
structure Race where
  /-- State; retained. 02_races_and_time.md R49. Reset IDLE. -/
  st : RaceState := .idle
  /-- UNREFERENCED; retained. 02_races_and_time.md R51. Reset 0. -/
  unref : Bool := false
  /-- Position, 64 bits; retained. 02_races_and_time.md R41, R52. Reset 0 (DESIGN CHOICE, log 1). -/
  pos : W64 := 0
  /-- The race has been admitted once: ORIGIN has been given. 02_races_and_time.md R47. Reset 0. -/
  born : Bool := false
  /-- Position less the encoder counter (encoder races), plus it where the counting direction is inverted. 02_races_and_time.md R41. Reset 0. -/
  base : W64 := 0
  /-- FLAGS[0] in force: the counting direction is inverted. 02_races_and_time.md R47. Reset 0. -/
  inv : Bool := false
  /-- P0, parent's position at binding (derived). 02_races_and_time.md R43. Reset 0. -/
  p0 : W64 := 0
  /-- Q0 (derived). 02_races_and_time.md R43. Reset 0. -/
  q0 : W64 := 0
  /-- B and the domain time it belongs to (time race). 02_races_and_time.md R44. Reset 0. -/
  tB : Nat := 0
  tFrom : Nat := 0
  /-- RATE in force (time race; maximum speed of a virtual master), 64 bits. 02_races_and_time.md R44, R45. Reset 0. -/
  rate : Nat := 0
  /-- VM_ACC and VM_JERK in force. 02_races_and_time.md R44, R45. Reset 0. -/
  vmAcc : Nat := 0
  vmJerk : Nat := 0
  /-- RATE, VM_ACC and VM_JERK of the record last taken up, 64 bits each. 02_races_and_time.md R47. Reset 0. -/
  recRate : Nat := 0
  recAcc : Nat := 0
  recJerk : Nat := 0
  /-- Virtual master's planned speed, 1 / (2 * 16,000^2) tick/s, and acceleration, 1 / 16,000 tick/s^2: exact over whole 62.5 us steps.
  02_races_and_time.md R44. Reset 0. -/
  vmV : Int := 0
  vmA : Int := 0
  /-- Fraction of a tick of the planned position, 1 / (6 * 16,000^3). 02_races_and_time.md R44. Reset 0. -/
  vmF : Nat := 0
  /-- Entry into HOLDOVER, ns of LMT. 02_races_and_time.md R50. Reset 0. -/
  holdAt : Nat := 0
  /-- RACE_REFERENCE is armed. 02_races_and_time.md R52. Reset 0. -/
  refArmed : Bool := false
  /-- REF_POS. 64 bits. 02_races_and_time.md R52, R71. Reset 0 (DESIGN CHOICE, log 1). -/
  refPos : W64 := 0
  /-- The next segment carries DISCONTINUITY. 02_races_and_time.md R50, R52. Reset 0. -/
  discNext : Bool := false
  /-- Consecutive segments whose correction stayed at STEP_MAX. 02_races_and_time.md R55. Reset 0. -/
  stepRun : Nat := 0
  /-- Remote race: the source's position has jumped and the crossing searches have not started again. 02_races_and_time.md R60. Reset 0. -/
  jump : Bool := false
  /-- T_S of the last segment fitted. 02_races_and_time.md R53. Reset none. -/
  fitTs : Option Nat := none
  /-- Instant the speed last exceeded 0.1 percent of its limit. 02_races_and_time.md R52. Reset none. -/
  fastAt : Option Nat := none
  /-- SEQ of the next segment, 16 bits. 02_races_and_time.md R57. Reset 0 (DESIGN CHOICE, log 1). -/
  seq : Nat := 0
  /-- Segment history, newest first, at least 4. 02_races_and_time.md R53, R60. Reset none. -/
  segs : List Segment := []
  /-- Received segments of the source race (remote). 02_races_and_time.md R46. Reset none. -/
  remote : List Segment := []
  /-- FIT_ERR, binary32. 02_races_and_time.md R71. Reset 0. -/
  fitErr : W32 := 0
  /-- SEG_LATE, 32 bits. 02_races_and_time.md R71. Reset 0. -/
  segLate : W32 := 0
  /-- Malformed segment frames ignored. 02_races_and_time.md R60. Reset 0. -/
  badFrames : W32 := 0
  /-- SEG_PERIOD (62.5 us), LEAD (us), PORTS, STEP_MAX in use. 02_races_and_time.md R47. Reset 0. -/
  segPeriod : Nat := 0
  lead : Nat := 0
  ports : Nat := 0
  stepMax : Nat := 0
  /-- An EV_RACE_STEP_LIMIT episode is open. 02_races_and_time.md R55. Reset 0. -/
  stepOpen : Bool := false
  deriving DecidableEq, Repr

/-- State of a PTP domain (R65). -/
inductive DomState where
  | disabled | free | acquiring | locked | holdover
  deriving DecidableEq, Repr

/-- An Announce dataset as compared by BMCA, most significant first (R63). -/
abbrev Announce := List Nat

/-- One PTP domain (R62 to R66). -/
structure Domain where
  /-- State. 02_races_and_time.md R65. Reset DISABLED. -/
  st : DomState := .disabled
  /-- Domain time, ns since the PTP epoch, at lmtAt. 02_races_and_time.md R62, R71. Reset 0 (DESIGN CHOICE, log 1). -/
  now : Nat := 0
  /-- LMT of that instant. 02_races_and_time.md R71. Reset 0. -/
  lmtAt : Nat := 0
  /-- Servo rate relative to LMT, ppb, without the slew. 02_races_and_time.md R71. Reset 0. -/
  rate : Int := 0
  /-- Rate by which the offset is being slewed out, ppb. 02_races_and_time.md R66. Reset 0. -/
  slew : Int := 0
  /-- Offset still to be slewed out, ns. 02_races_and_time.md R66. Reset 0. -/
  residual : Int := 0
  /-- OFFSET, last measured, ns. 02_races_and_time.md R71. Reset 0. -/
  offset : Int := 0
  /-- PATH_DELAY, ns. 02_races_and_time.md R71. Reset 0. -/
  pathDelay : Int := 0
  /-- Consecutive Sync messages with |offset| at most 50 ns. 02_races_and_time.md R65. Reset 0. -/
  goodSyncs : Nat := 0
  /-- A Sync has been received since the start. 02_races_and_time.md R65. Reset 0. -/
  heard : Bool := false
  /-- EV_DOMAIN_SLEWING is open. 02_races_and_time.md R66. Reset 0. -/
  slewing : Bool := false
  /-- LMT of the last Sync. 02_races_and_time.md R65. Reset 0. -/
  lastSync : Nat := 0
  /-- Present grandmaster. 02_races_and_time.md R71. Reset none. -/
  gm : Option Announce := none
  /-- Best Announce per port. 02_races_and_time.md R63. Reset none. -/
  ports : SMap Announce := []
  /-- GM_CHANGES. 32 bits. 02_races_and_time.md R71. Reset 0. -/
  gmChanges : W32 := 0
  /-- Management messages ignored. 32 bits. 02_races_and_time.md R63. Reset 0 (DESIGN CHOICE, log 1). -/
  mgmt : W32 := 0
  deriving DecidableEq, Repr

end Sys2Proof.Machine
end

