-- ==== Sys2Proof/Machine/StUnits.lean ====
section
/-! DEFINITION. What the delta copy of a redundant pair carries of one unit (R385): its state, as the active module holds it. -/

namespace Sys2Proof.Machine

/-- State of one unit, table or list of the active module in the unit delta or the bulk copy (R385; the link's coding is private, log 21). -/
inductive UnitState where
  | race (x : Race)
  | cog (x : Cog)
  | loop (x : Loop)
  | ogroup (x : OGroup)
  | fantail (x : FtTask)
  | axis (x : Axis)
  | engine (x : Engine)
  | capture (x : CapUnit)
  | can (x : CanPort)
  | node (x : Node)
  /-- A force of the force table, or none (R385 commit delta). -/
  | force (x : Option Force)
  /-- Bulk: a placement set, a spindle program, the admitted configuration, the next event sequence number. -/
  | placement (x : BankSet)
  | spindle (x : Spin)
  | config (x : Cfg)
  | events (next : Nat)
  /-- Time of a domain of the active module as the block arrives: a grandmaster domain of the standby follows it (R391). -/
  | domain (now : Nat)
  deriving DecidableEq, Repr

end Sys2Proof.Machine
end

