-- ==== Sys2Proof/Syntax.lean ====
section
/-! DEFINITION. Syntax: the commands the block takes, one constructor per row of the table of operations and events. -/

namespace Sys2Proof

/-- A fetched command descriptor with what DMA read from its host buffer (R410, R426).
Every host command carries one; its row's parameters are the parameter bytes P0 to P47. -/
structure CmdHdr where
  /-- Fetch instant, ns of LMT. -/
  t : Nat
  /-- Command ring 0 to 63. -/
  ring : Nat := 0
  tag : W32 := 0
  /-- TARGET: a unit identifier or a point address. -/
  target : W32 := 0xF000
  /-- BUF: P0 to P11 name a host buffer. -/
  buf : Bool := false
  fence : Bool := false
  noint : Bool := false
  wake : Bool := false
  /-- A reserved bit of the descriptor's FLAGS is nonzero. -/
  rsv : Bool := false
  /-- One of the descriptor's reserved bytes 12 to 15 is nonzero. -/
  rsv12 : Bool := false
  /-- Parameter bytes P0 to P47; missing bytes read as zero. -/
  params : Bytes := []
  /-- Contents of the host buffer as read by the command. -/
  data : Bytes := []
  /-- Outcome of the signature check of the package or image the buffer holds (R438, R474); the arithmetic is not in the model. -/
  sigOk : Bool := false
  deriving DecidableEq, Repr

/-- A CAN or CAN FD data or remote frame as received without error (R328, R333). -/
structure CanFrame where
  id : Nat
  ext : Bool := false
  fd : Bool := false
  brs : Bool := false
  esi : Bool := false
  rtr : Bool := false
  data : Bytes := []
  deriving DecidableEq, Repr

/-- A heartbeat as received on the redundancy link (R383), with the identity the link protocol gives the partner (R4, R382). -/
structure Heartbeat where
  role : Nat
  health : Nat := 0
  epoch : Nat := 0
  unit : Nat := 0
  variantS : Bool := true
  stepping : Nat := 0xB0
  mac : Nat := 0
  /-- Domain 0 of the sender is LOCKED or FREE. -/
  dom0 : Bool := false
  /-- The sender, STANDBY, asks for a planned switch (R393). -/
  ask : Bool := false
  /-- Update state of the sender: 0 IDLE, 1 STAGED, 2 ARMED, 3 ACTIVATING, 4 TRIAL (R494). -/
  upd : Nat := 0
  /-- Copy format that the sender declares (R485). -/
  copyFmt : Nat := 0
  deriving DecidableEq, Repr

/-- What the safety channels read from their pins, from each other and from the network in one safety cycle (R349 to R369). -/
structure SafeIn where
  /-- SI0 to SI23 as channel A samples them, bit i set while the input is closed. -/
  siA : Nat := 0
  /-- The same as channel B samples them. -/
  siB : Nat := 0
  /-- Encoder increments of this cycle, channel A, one entry (input, ticks). -/
  encA : List (Nat × Int) := []
  encB : List (Nat × Int) := []
  /-- Readback of TP0 to TP3 by channels A and B, bit n set while TPn is high. -/
  tpA : Nat := 0
  tpB : Nat := 0
  /-- Readback of SO0 to SO7 by channels A and B: bit o set while SOoP is on, bit o + 8 while SOoM is on. -/
  soA : Nat := 0
  soB : Nat := 0
  /-- The channels' results other than the inputs' samples differ. -/
  differ : Bool := false
  /-- The cross-link was silent. -/
  silent : Bool := false
  /-- A background self-test failed. -/
  testFail : Bool := false
  deriving DecidableEq, Repr

/-- SC0's boot ROM is done at `t`; the baseplate has been at -25 C or above since `warmAt` (R469, R535). -/
structure BootRom where
  t : Nat
  warmAt : Nat := 0
  deriving DecidableEq, Repr

/-- An Oczon frame's payload with the source MAC it came from (R106). -/
structure RxFrame where
  src : Nat
  payload : Bytes
  deriving DecidableEq, Repr

/-- What a PTP message carries beside its domain, and the frame it came in (R63, R318). -/
structure PtpRx where
  values : List Nat
  frame : Bytes := []
  deriving DecidableEq, Repr

/-- Chassis ID of an LLDPDU: subtype and number (R114). -/
structure LldpChassis where
  sub : Nat
  num : Nat
  deriving DecidableEq, Repr

/-- Port ID of an LLDPDU: subtype and text, and the frame it came in (R114, R318). -/
structure LldpPort where
  sub : Nat
  text : Bytes
  frame : Bytes := []
  deriving DecidableEq, Repr

/-- Contents of a delta block: words by key, and units (R385). -/
structure DeltaData where
  words : List (Nat × Nat) := []
  units : List (Nat × Machine.UnitState) := []
  deriving DecidableEq, Repr

/-- A core's write of one of its concentrator registers (R459). -/
structure EcWrite where
  ofs : Nat
  val : Nat
  deriving DecidableEq, Repr

/-- A core's read of one of its concentrator registers (R459). -/
structure EcRead where
  core : Nat
  ofs : Nat
  deriving DecidableEq, Repr

/-- The input of a concentrator source rises, or falls (R457, R458). -/
structure EcInput where
  src : Nat
  up : Bool := true
  deriving DecidableEq, Repr

/-- A host write of `size` bytes to a register (R402). -/
structure RegWrite where
  size : Nat := 4
  val : W32
  deriving DecidableEq, Repr

/-- An error detected while receiving: whether it counts 8 (R340), and whether it is a res-bit protocol exception (R345). -/
structure CanRxError where
  heavy : Bool
  res : Bool := false
  deriving DecidableEq, Repr

/-- A command to the block: a host command, a bus or pin event, or an instant the block's clock reaches. `t` is its LMT in ns. -/
inductive Instr where
  /-- LOGIC_REGULATION_REACHED. R469: LOGIC reaches regulation and the module enters BOOT, sampling straps and starting the holdup charge. -/
  | logicRegulationReached (t : Nat) (strapMode : Nat) (strapPair : Bool)
  /-- BOOT_ROM_DONE. R469: SC0 finishes its boot ROM, finds a firmware slot and HSTAT moves to VERIFY. -/
  | bootRomDone (b : BootRom)
  /-- SLOT_VERIFY_DONE. R475: Verification of the chosen firmware slot ends; the module moves to LOAD, falls back to the other slot, or enters FAULT_HALT. -/
  | slotVerifyDone (t : Nat) (code : Nat)
  /-- LOAD_DONE. R479: Components are loaded, the journal is replayed from the settled point and safety images are handed to both channels. -/
  | loadDone (t : Nat) (code : Nat)
  /-- HOLDUP_CHARGED. R471: The holdup store reaches 2.5 J after LOAD and HSTAT becomes READY. -/
  | holdupCharged (t : Nat)
  /-- HOLDUP_CHARGE_TIMEOUT. R471: The holdup store has not reached 2.5 J by 10 s and the module enters FAULT_HALT with code 0x000E. -/
  | holdupChargeTimeout (t : Nat)
  /-- FAULT_HALT_ENTRY. R472: A module fault writes HFAULT, raises EV_FAULT_HALT, stops commits and puts every output in its FAULT_HALT state. -/
  | faultHaltEntry (t : Nat) (code : Nat) (detail : Nat)
  /-- ECC_ERROR. R11: A memory array reports a single-bit error, which is corrected and counted, or a double-bit error, which faults the module or marks a DRAM record corrupt. -/
  | eccError (t : Nat) (array : Nat) (double : Bool) (unit : Nat) (item : Nat)
  /-- FABRIC_FAULT. R13: An image access takes longer than 25 ns and is handled as a module fault. -/
  | fabricFault (t : Nat)
  /-- RUNTIME_WATCHDOG. R472: SC0–SC3 are silent for 100 ms and the module enters FAULT_HALT with code 0x000A. -/
  | runtimeWatchdog (t : Nat)
  /-- BASEPLATE_OVERTEMP. R535: The baseplate stays above +90 °C for 1,000 ms and the module enters FAULT_HALT with code 0x000B. -/
  | baseplateOvertemp (t : Nat)
  /-- POWER_FAIL. R480: LOGIC stays below 16.5 V for 50 µs: EV_POWER_FAIL is raised, safety outputs open, fetch stops and commits due within 1,000 µs are sealed. -/
  | powerFail (t : Nat) (mv : Nat)
  /-- POWER_FAIL_FINAL_COMMIT. R480: 1,000 µs after the declaration the final unit-state commit is made, outputs stop, and MRAM is then write-protected and the clocks stopped. -/
  | powerFailFinalCommit (t : Nat)
  /-- POWER_RESTORED. R480: LOGIC has stayed in regulation for 100 ms after a power fail and the module restarts through BOOT. -/
  | powerRestored (t : Nat) (strapMode : Nat) (strapPair : Bool)
  /-- RESET_PIN. R518: RESET# low for 10 µs or more starts the power-fail sequence and holds reset until release, then BOOT. -/
  | resetPin (t : Nat)
  /-- GROUP_CYCLE_START. R29: A cycle group's cycle starts: the snapshot latches inputs and foreign committed values, applies forces, and releases cyclic logic tasks. -/
  | groupCycleStart (t : Nat) (seg : Nat) (grp : Nat)
  /-- NODE_DROP. R118: DROP_CYCLES consecutive home-group snapshots without a complete set move the node to DROPPED with EV_NODE_DROPPED. -/
  | nodeDrop (t : Nat) (seg : Nat) (node : Nat)
  /-- GROUP_COMMIT. R29: At COMMIT_AT the back buffer becomes the front buffer with forces applied, and changes feed write-through, Tailrace and the delta copy. -/
  | groupCommit (t : Nat) (seg : Nat) (grp : Nat)
  /-- GROUP_OUTPUT_LAUNCH. R111: At OUTPUT_AT the OUTPUT frames of the cycle are launched back to back on queue 6, and point-driven outputs, DIO, PWM duties and CAN send objects take their values. -/
  | groupOutputLaunch (t : Nat) (seg : Nat) (grp : Nat)
  /-- WRITE_THROUGH_DURABLE. R477: A commit's journal entry and seal become durable in MRAM, completing host writes that waited for durability. -/
  | writeThroughDurable (t : Nat)
  /-- JOURNAL_SETTLE. R478: Every 10 ms, or when more than 16 MiB is unsettled, changed locations are written home and the settled marker advances. -/
  | journalSettle (t : Nat)
  /-- ENCODER_SAMPLE. R38: An encoder input delivers a position sample to its counter in its mode. -/
  | encoderSample (t : Nat) (enc : Nat) (sn : Int) (cs : Int) (illegal : Bool)
  /-- SSI_READ. R541: Once per SSI_PERIOD the SSI word is read and the counter advances by the signed difference from the previous word. -/
  | ssiRead (t : Nat) (enc : Nat) (word : Nat) (checkOk : Bool)
  /-- INDEX_CAPTURE. R52: An index edge with RACE_REFERENCE armed writes REF_POS and clears UNREFERENCED. -/
  | indexCapture (t : Nat) (race : Nat) (count : W64)
  /-- RACE_HOLDOVER_EXPIRY. R50: HOLDOVER_MAX expires and the race enters LOST with EV_RACE_LOST, cancelling later cog actions. -/
  | raceHoldoverExpiry (t : Nat) (race : Nat)
  /-- SEGMENT_FIT. R53: Every SEG_PERIOD the module fits a race segment, searches cog crossings, decides bank swaps and queues the frame with its launch time. -/
  | segmentFit (t : Nat) (race : Nat) (ts : Nat)
  /-- SEGMENT_FRAME_LAUNCH. R69: A launch-time frame on queue 7 starts onto the wire at its launch time, or is discarded if more than 1 µs late with EV_SEG_LATE. -/
  | segmentFrameLaunch (t : Nat) (port : Nat)
  /-- REMOTE_SEGMENT_RECEIVE. R46: A segment frame of another module is received for a remote race and republished under the own race number. -/
  | remoteSegmentReceive (t : Nat) (port : Nat) (rx : RxFrame)
  /-- COG_ACTION. R74: At a cog's action instant its action is performed: fast-output edge, ADC start, capture trigger, Hopper flag, setpoint step or group start. -/
  | cogAction (t : Nat) (cog : Nat)
  /-- GROUP_PACING_TIMEOUT. R85: No action instant comes within 16 periods and a cog-paced group starts at the previous start plus 16 periods. -/
  | groupPacingTimeout (t : Nat) (seg : Nat) (grp : Nat)
  /-- BANK_CATCHUP_DONE. R94: The catch-up copy of the new foreground into the background bank completes. -/
  | bankCatchupDone (t : Nat) (kind : Nat) (unit : Nat)
  /-- PTP_SYNC_RECEIVE. R65: A Sync message updates the domain servo and its state towards ACQUIRING or LOCKED, slewing or stepping the domain. -/
  | ptpSyncReceive (t : Nat) (port : Nat) (domain : Nat) (offset : Int) (pathDelay : Int) (gm : PtpRx)
  /-- PTP_MESSAGE_RECEIVE. R63: Another PTP message (Announce, delay, management) is handled by the domain's role, BMCA or counted if management. -/
  | ptpMessageReceive (t : Nat) (port : Nat) (domain : Nat) (mtype : Nat) (data : PtpRx)
  /-- PTP_SYNC_TIMEOUT. R65: A LOCKED domain receives no Sync for 3 intervals and enters HOLDOVER. -/
  | ptpSyncTimeout (t : Nat) (domain : Nat)
  /-- PTP_SYNC_SEND. R63: A grandmaster or boundary-clock domain sends Sync at its logSyncInterval. -/
  | ptpSyncSend (t : Nat) (port : Nat) (domain : Nat)
  /-- INPUT_FRAME_RECEIVE. R112: An INPUT frame from a node is stored for the next snapshot, moves a DROPPED node to PREOP, or draws a RELEASE from an unbound MAC. -/
  | inputFrameReceive (t : Nat) (port : Nat) (src : Nat) (payload : Bytes)
  /-- HELLO_RECEIVE. R116: A HELLO is matched against the port's node records and binds, rebinds, conflicts or is reported unknown or mismatched. -/
  | helloReceive (t : Nat) (port : Nat) (src : Nat) (payload : Bytes)
  /-- BIND_ACK_RECEIVE. R118: A BIND_ACK with the current BIND_ID moves the node to PREOP or, with RESULT nonzero, to ABSENT. -/
  | bindAckReceive (t : Nat) (port : Nat) (src : Nat) (payload : Bytes)
  /-- BIND_RETRY. R115: 10 ms without BIND_ACK repeats BIND, and after 3 unanswered BINDs the node returns to ABSENT. -/
  | bindRetry (t : Nat) (seg : Nat) (node : Nat)
  /-- PAGE_RSP_RECEIVE. R120: A PAGE_RSP confirms a paged write or delivers read values that are committed and set GOOD. -/
  | pageRspReceive (t : Nat) (port : Nat) (src : Nat) (payload : Bytes)
  /-- PAGE_REQ_RETRY. R120: An unanswered PAGE_REQ is repeated after 2 ms, twice, then left for the next sweep. -/
  | pageReqRetry (t : Nat) (seg : Nat) (node : Nat)
  /-- PAGED_SWEEP. R101: Once per SWEEP_PERIOD the segment writes durable paged outputs and reads every paged input of bound nodes. -/
  | pagedSweep (t : Nat) (seg : Nat)
  /-- NODE_RELEASE_TIMEOUT. R118: RELEASE_TIME expires for a DROPPED node, which becomes ABSENT with RELEASE sent and EV_NODE_LEFT. -/
  | nodeReleaseTimeout (t : Nat) (seg : Nat) (node : Nat)
  /-- PORT_LINK_LOSS. R118: A field port loses its link (or LOS rises) and its bound nodes are DROPPED. -/
  | portLinkLoss (t : Nat) (port : Nat)
  /-- OPTICS_PRESENCE_CHANGE. R504: A port's ABS# pin changes and TXDIS and optics identification follow. -/
  | opticsPresenceChange (t : Nat) (port : Nat) (absent : Bool) (identified : Bool)
  /-- OCZON_INVALID_FRAME. R106: A received Oczon frame with wrong FVER, FLEN, FTYPE or type is discarded and counted. -/
  | oczonInvalidFrame (t : Nat) (port : Nat) (src : Nat) (payload : Bytes)
  /-- LLDP_SEND. R114: Every LLDP_INTERVAL the module sends an LLDPDU on each field port. -/
  | lldpSend (t : Nat) (port : Nat)
  /-- LLDP_RECEIVE. R114: An LLDPDU from a link partner is taken for neighbour reporting. -/
  | lldpReceive (t : Nat) (port : Nat) (chassis : LldpChassis) (portId : LldpPort)
  /-- PAIR_HEARTBEAT_SEND. R122: Every 250 µs a paired module sends a pair heartbeat on port A. -/
  | pairHeartbeatSend (t : Nat)
  /-- PAIR_HEARTBEAT_RECEIVE. R383: A partner's pair heartbeat on port A updates path state, role and health, and may declare failure or dual activity. -/
  | pairHeartbeatReceive (t : Nat) (src : Nat) (payload : Bytes)
  /-- RED_LINK_HEARTBEAT_SEND. R383: Every 50 µs a paired module sends a heartbeat on the redundancy link. -/
  | redLinkHeartbeatSend (t : Nat)
  /-- RED_LINK_HEARTBEAT_RECEIVE. R383: A partner heartbeat on the link updates path state, and HEALTH 2 makes the standby declare failure. -/
  | redLinkHeartbeatReceive (t : Nat) (hb : Heartbeat)
  /-- RED_PATH_SILENCE. R383: A heartbeat path has been silent for 3 intervals, raising EV_RED_PATH_LOST or, with both silent, a failure declaration. -/
  | redPathSilence (t : Nat) (path : Nat)
  /-- PAIR_WAIT_EXPIRY. R381: No partner is heard within PAIR_WAIT at start and the module becomes ACTIVE alone. -/
  | pairWaitExpiry (t : Nat)
  /-- RED_DELTA_RECEIVE. R385: The standby receives a snapshot, commit, unit or bulk delta block and applies or has it resent. -/
  | redDeltaReceive (t : Nat) (kind : Nat) (key : Nat) (cycle : Nat) (ok : Bool) (last : Bool) (data : DeltaData)
  /-- RED_FULL_COPY_DONE. R386: A SYNCING module has received the full copy and its deltas and becomes STANDBY. -/
  | redFullCopyDone (t : Nat)
  /-- RED_PLANNED_SWITCH_INSTANT. R392: The planned-switch instant S arrives and the active role moves between the modules. -/
  | redPlannedSwitchInstant (t : Nat)
  /-- RED_REVERT_HOLD_EXPIRY. R393: The preferred unit has been STANDBY and healthy for REVERT_HOLD and asks for a planned switch. -/
  | redRevertHoldExpiry (t : Nat)
  /-- LOOP_FRAME. R131: At each 20 µs frame start the due loops take inputs and each lane evaluates them, writes destinations and decides override groups. -/
  | loopFrame (t : Nat) (late : List Nat)
  /-- FANTAIL_RESULT_DUE. R171: UPDATE_MIN passes and a task computes a result that is written, advised, held or found invalid. -/
  | fantailResultDue (t : Nat) (task : Nat)
  /-- FANTAIL_EQ_UPDATE. R178: Every 1 ms a kind 4 task fits an ellipse and writes bounded encoder corrections. -/
  | fantailEqUpdate (t : Nat) (task : Nat) (enc : Nat)
  /-- FANTAIL_HEADROOM_UPDATE. R179: A kind 5 task raises the headroom setpoint after a shortfall or lowers it after QUIET. -/
  | fantailHeadroomUpdate (t : Nat) (task : Nat)
  /-- FANTAIL_PLACE_RECORD. R176: One placement measurement record is processed at PLACE_RATE, adjusting FIRE_TRIM, DRIVE_TRIM and outlier history. -/
  | fantailPlaceRecord (t : Nat) (task : Nat)
  /-- EV_FT_FROZEN. R164: A task has been FROZEN for 60 s without a break. -/
  | evFtFrozen (t : Nat) (task : Nat)
  /-- MOTION_UPDATE. R183: Every 20 µs each motion engine plans and integrates every axis, checks deviation and stall, and sends the downstream frame. -/
  | motionUpdate (t : Nat) (late : List Nat)
  /-- DRIVE_LINK_UPSTREAM. R188: An upstream frame from a stage delivers load, fault and management results, or counts a link error leading to the LINK fault. -/
  | driveLinkUpstream (t : Nat) (link : Nat) (framed : Bool) (frame : Bytes)
  /-- AXIS_HOLD_DELAY_EXPIRY. R204: HOLD_DELAY passes at standstill and SCALE drops to HOLD_SCALE. -/
  | axisHoldDelayExpiry (t : Nat) (axis : Nat)
  /-- AXIS_QUICK_STOP_REQUEST. R208: A safety function's quick-stop request reaches an axis and is taken as AXIS_STOP with the quick ramp. -/
  | axisQuickStopRequest (t : Nat) (axis : Nat)
  /-- TIMER_TICK. R223: A timer ticks and starts the converter sequences and PWM periods synchronised to it. -/
  | timerTick (t : Nat) (timer : Nat)
  /-- PWM_PERIOD_START. R225: A PWM period starts, applying the latest duty and optionally starting a sequence after DELAY. -/
  | pwmPeriodStart (t : Nat) (pwm : Nat)
  /-- ADC_ENTRY_END. R221: A sequence entry's conversions end, replacing its result register and writing its point. -/
  | adcEntryEnd (t : Nat) (seq : Nat) (codes : List Int)
  /-- VREF_CHECK. R222: Once per millisecond the reference check conversion is made and a failure reports EV_VREF_FAULT. -/
  | vrefCheck (t : Nat) (code : Int)
  /-- VREF_SETTLED. R222: 5,000 µs after VREFBUF switches on, conversions stop carrying REF_UNSETTLED. -/
  | vrefSettled (t : Nat)
  /-- CL_UPDATE. R226: Every 50 µs a current-loop channel measures, classifies, regulates, and evaluates shortfall and thermal state. -/
  | clUpdate (t : Nat) (ch : Nat) (raw : Int) (vterm : Int) (vsup : Int) (temp : Int)
  /-- CL_FAULT_CLASS. R228: FAULT_N consecutive updates in a fault range enter or leave a fault class with EV_CL_FAULT. -/
  | clFaultClass (t : Nat) (ch : Nat)
  /-- CL_COMPLIANCE_DETECT. R231: 40 updates of shortfall set COMPLIANCE_SHORT or OPEN, and 200 clean updates clear it. -/
  | clComplianceDetect (t : Nat) (ch : Nat)
  /-- CL_CMD_TIMEOUT. R232: CMD not written for CMD_TIMEOUT drives the alarm current. -/
  | clCmdTimeout (t : Nat) (ch : Nat)
  /-- CL_FRONTEND_WATCHDOG. R232: No update from the main die for 1,000 µs makes the front end drive its alarm or 0 µA. -/
  | clFrontendWatchdog (t : Nat)
  /-- ALMSEL_SAMPLE. R232: Every 1,000 µs ALMSEL is sampled and alarm direction follows. -/
  | almselSample (t : Nat) (high : Bool)
  /-- CL_MODE_CHANGE_DONE. R237: The 10 ms off period of a mode change ends and the channel starts in its new mode. -/
  | clModeChangeDone (t : Nat) (ch : Nat)
  /-- CAL_BUTTON_HELD. R235: CALZ or CALS held for 2 s after debounce selects CAL_SEL's channel for averaging, or is refused. -/
  | calButtonHeld (t : Nat) (zero : Bool) (span : Bool)
  /-- CAL_AVERAGING_DONE. R235: 256 updates of averaging end and the new zero or span applies with EV_CL_CAL. -/
  | calAveragingDone (t : Nat) (ch : Nat)
  /-- DIO_SAMPLE. R238: Every 10 µs digital inputs are sampled, filtered, counted and their edges latched for the concentrator. -/
  | dioSample (t : Nat) (levels : Nat)
  /-- DIO_OVERLOAD. R239: An output carries more than 1.2 A for 100 µs or reaches thermal shutdown and switches off, latched. -/
  | dioOverload (t : Nat) (ch : Nat)
  /-- DIO_AUTO_RESTART. R239: 1 s after an overload an output with automatic restart switches on again. -/
  | dioAutoRestart (t : Nat) (ch : Nat)
  /-- FIELD_LOW. R240: FIELD below 18.0 V for 1,000 µs turns off FIELD outputs, sets FIELD_LOW and takes safety outputs off. -/
  | fieldLow (t : Nat)
  /-- FIELD_RESTORED. R240: FIELD stays above 19.2 V for 10 ms and FIELD_LOW clears. -/
  | fieldRestored (t : Nat)
  /-- CAPTURE_SAMPLE. R248: A capture unit takes a sample, writes its streams, runs its qualifier and closes its record after POST samples. -/
  | captureSample (t : Nat) (unit : Nat)
  /-- CAPTURE_GROUP_TRIGGER. R251: A member's trigger reaches every armed unit of the capture group within 2 µs. -/
  | captureGroupTrigger (t : Nat) (unit : Nat)
  /-- SPINDLE_WINDOW_RUN. R311: A spindle engine starts a queued input window and runs its program to a verdict. -/
  | spindleWindowRun (t : Nat) (prog : Nat)
  /-- TAILRACE_FLUSH_TIMEOUT. R270: A buffer's oldest record is FLUSH_US old and the buffer is returned early. -/
  | tailraceFlushTimeout (t : Nat) (ch : Nat)
  /-- TAILRACE_SPILL. R271: A channel finds no free host buffer or the link out of D0 and starts spilling with EV_TR_SPILL. -/
  | tailraceSpill (t : Nat) (ch : Nat)
  /-- TAILRACE_DRAIN_DONE. R271: A DRAINING channel empties its spill and returns to RUNNING with EV_TR_DRAINED. -/
  | tailraceDrainDone (t : Nat) (ch : Nat)
  /-- LOG_RECORD_DURABLE. R264: A logged record becomes durable in MRAM within 200 µs of being raised. -/
  | logRecordDurable (t : Nat)
  /-- LOG_FREEZE_EXPIRY. R265: FREEZE_MAX expires and the log thaws, writing EV_LOG_THAWED and the reserve. -/
  | logFreezeExpiry (t : Nat)
  /-- LOG_RATE_SECOND. R261: A whole second of LMT ends and the log's count of 65,536 records restarts. -/
  | logRateSecond (t : Nat)
  /-- LOGIC_RUN_START. R280: A free logic engine starts the ready run of highest priority. -/
  | logicRunStart (t : Nat) (engine : Nat)
  /-- LE_NOP. R285: Logic instruction NOP has no effect. -/
  | leNop (engine : Nat) (opnd : Nat)
  /-- LE_LD. R285: Logic instruction LD loads the operand bit into BA. -/
  | leLd (engine : Nat) (opnd : Nat)
  /-- LE_LDN. R285: Logic instruction LDN loads the inverted operand into BA. -/
  | leLdn (engine : Nat) (opnd : Nat)
  /-- LE_AND. R285: Logic instruction AND ands the operand into BA. -/
  | leAnd (engine : Nat) (opnd : Nat)
  /-- LE_ANDN. R285: Logic instruction ANDN ands the inverted operand into BA. -/
  | leAndn (engine : Nat) (opnd : Nat)
  /-- LE_OR. R285: Logic instruction OR ors the operand into BA. -/
  | leOr (engine : Nat) (opnd : Nat)
  /-- LE_ORN. R285: Logic instruction ORN ors the inverted operand into BA. -/
  | leOrn (engine : Nat) (opnd : Nat)
  /-- LE_XOR. R285: Logic instruction XOR exclusive-ors the operand into BA. -/
  | leXor (engine : Nat) (opnd : Nat)
  /-- LE_XORN. R285: Logic instruction XORN exclusive-ors the inverted operand into BA. -/
  | leXorn (engine : Nat) (opnd : Nat)
  /-- LE_NOT. R285: Logic instruction NOT inverts BA. -/
  | leNot (engine : Nat) (opnd : Nat)
  /-- LE_LDT. R285: Logic instruction LDT sets BA to 1. -/
  | leLdt (engine : Nat) (opnd : Nat)
  /-- LE_PSHA. R285: Logic instruction PSHA pushes BA with a pending AND. -/
  | lePsha (engine : Nat) (opnd : Nat)
  /-- LE_PSHO. R285: Logic instruction PSHO pushes BA with a pending OR. -/
  | lePsho (engine : Nat) (opnd : Nat)
  /-- LE_PSHX. R285: Logic instruction PSHX pushes BA with a pending XOR. -/
  | lePshx (engine : Nat) (opnd : Nat)
  /-- LE_POP. R285: Logic instruction POP combines the saved BA with BA by the pending operation. -/
  | lePop (engine : Nat) (opnd : Nat)
  /-- LE_ST. R285: Logic instruction ST stores BA to the operand. -/
  | leSt (engine : Nat) (opnd : Nat)
  /-- LE_STN. R285: Logic instruction STN stores the inverted BA to the operand. -/
  | leStn (engine : Nat) (opnd : Nat)
  /-- LE_SET. R285: Logic instruction SET sets the operand if BA. -/
  | leSet (engine : Nat) (opnd : Nat)
  /-- LE_RST. R285: Logic instruction RST clears the operand if BA. -/
  | leRst (engine : Nat) (opnd : Nat)
  /-- LE_FP. R285: Logic instruction FP detects a rising BA with an edge memory. -/
  | leFp (engine : Nat) (opnd : Nat)
  /-- LE_FN. R285: Logic instruction FN detects a falling BA with an edge memory. -/
  | leFn (engine : Nat) (opnd : Nat)
  /-- LE_TON. R287: Logic instruction TON runs an on-delay timer with IN = BA. -/
  | leTon (engine : Nat) (opnd : Nat)
  /-- LE_TOF. R287: Logic instruction TOF runs an off-delay timer with IN = BA. -/
  | leTof (engine : Nat) (opnd : Nat)
  /-- LE_TP. R287: Logic instruction TP runs a pulse timer with IN = BA. -/
  | leTp (engine : Nat) (opnd : Nat)
  /-- LE_TPT. R287: Logic instruction TPT sets a timer's PT from WA. -/
  | leTpt (engine : Nat) (opnd : Nat)
  /-- LE_TRST. R287: Logic instruction TRST clears a timer if BA. -/
  | leTrst (engine : Nat) (opnd : Nat)
  /-- LE_CTU. R287: Logic instruction CTU counts up on a rising BA. -/
  | leCtu (engine : Nat) (opnd : Nat)
  /-- LE_CTD. R287: Logic instruction CTD counts down on a rising BA. -/
  | leCtd (engine : Nat) (opnd : Nat)
  /-- LE_CRES. R287: Logic instruction CRES clears CV if BA. -/
  | leCres (engine : Nat) (opnd : Nat)
  /-- LE_CLD. R287: Logic instruction CLD loads CV with PV if BA. -/
  | leCld (engine : Nat) (opnd : Nat)
  /-- LE_CPV. R287: Logic instruction CPV sets PV from WA. -/
  | leCpv (engine : Nat) (opnd : Nat)
  /-- LE_L. R288: Logic instruction L loads the operand word into WA. -/
  | leL (engine : Nat) (opnd : Nat)
  /-- LE_T. R288: Logic instruction T stores WA to the operand. -/
  | leT (engine : Nat) (opnd : Nat)
  /-- LE_TC. R288: Logic instruction TC stores WA to the operand if BA. -/
  | leTc (engine : Nat) (opnd : Nat)
  /-- LE_LI. R288: Logic instruction LI loads a sign-extended immediate into WA. -/
  | leLi (engine : Nat) (opnd : Nat)
  /-- LE_LIH. R288: Logic instruction LIH sets the high half of WA. -/
  | leLih (engine : Nat) (opnd : Nat)
  /-- LE_ADD. R288: Logic instruction ADD adds the operand to WA, setting OV on overflow. -/
  | leAdd (engine : Nat) (opnd : Nat)
  /-- LE_SUB. R288: Logic instruction SUB subtracts the operand from WA. -/
  | leSub (engine : Nat) (opnd : Nat)
  /-- LE_MUL. R288: Logic instruction MUL multiplies WA by the operand. -/
  | leMul (engine : Nat) (opnd : Nat)
  /-- LE_DIV. R288: Logic instruction DIV divides WA, setting ERR on zero divisor. -/
  | leDiv (engine : Nat) (opnd : Nat)
  /-- LE_MOD. R288: Logic instruction MOD takes the remainder of WA. -/
  | leMod (engine : Nat) (opnd : Nat)
  /-- LE_NEG. R288: Logic instruction NEG negates WA. -/
  | leNeg (engine : Nat) (opnd : Nat)
  /-- LE_ABS. R288: Logic instruction ABS takes the absolute value of WA. -/
  | leAbs (engine : Nat) (opnd : Nat)
  /-- LE_WAND. R288: Logic instruction WAND ands the operand into WA bitwise. -/
  | leWand (engine : Nat) (opnd : Nat)
  /-- LE_WOR. R288: Logic instruction WOR ors the operand into WA bitwise. -/
  | leWor (engine : Nat) (opnd : Nat)
  /-- LE_WXOR. R288: Logic instruction WXOR exclusive-ors the operand into WA bitwise. -/
  | leWxor (engine : Nat) (opnd : Nat)
  /-- LE_SHL. R288: Logic instruction SHL shifts WA left. -/
  | leShl (engine : Nat) (opnd : Nat)
  /-- LE_SHR. R288: Logic instruction SHR shifts WA right logically. -/
  | leShr (engine : Nat) (opnd : Nat)
  /-- LE_ASR. R288: Logic instruction ASR shifts WA right arithmetically. -/
  | leAsr (engine : Nat) (opnd : Nat)
  /-- LE_CEQ. R288: Logic instruction CEQ ands WA equal to operand into BA. -/
  | leCeq (engine : Nat) (opnd : Nat)
  /-- LE_CNE. R288: Logic instruction CNE ands WA not equal to operand into BA. -/
  | leCne (engine : Nat) (opnd : Nat)
  /-- LE_CGT. R288: Logic instruction CGT ands WA greater than operand into BA. -/
  | leCgt (engine : Nat) (opnd : Nat)
  /-- LE_CGE. R288: Logic instruction CGE ands WA greater or equal into BA. -/
  | leCge (engine : Nat) (opnd : Nat)
  /-- LE_CLT. R288: Logic instruction CLT ands WA less than operand into BA. -/
  | leClt (engine : Nat) (opnd : Nat)
  /-- LE_CLE. R288: Logic instruction CLE ands WA less or equal into BA. -/
  | leCle (engine : Nat) (opnd : Nat)
  /-- LE_FADD. R288: Logic instruction FADD adds binary32 values. -/
  | leFadd (engine : Nat) (opnd : Nat)
  /-- LE_FSUB. R288: Logic instruction FSUB subtracts binary32 values. -/
  | leFsub (engine : Nat) (opnd : Nat)
  /-- LE_FMUL. R288: Logic instruction FMUL multiplies binary32 values. -/
  | leFmul (engine : Nat) (opnd : Nat)
  /-- LE_FDIV. R288: Logic instruction FDIV divides binary32 values. -/
  | leFdiv (engine : Nat) (opnd : Nat)
  /-- LE_ITOF. R288: Logic instruction ITOF converts WA to binary32. -/
  | leItof (engine : Nat) (opnd : Nat)
  /-- LE_FTOI. R288: Logic instruction FTOI converts WA from binary32 to integer. -/
  | leFtoi (engine : Nat) (opnd : Nat)
  /-- LE_FCLT. R288: Logic instruction FCLT ands a binary32 less-than into BA. -/
  | leFclt (engine : Nat) (opnd : Nat)
  /-- LE_FCGT. R288: Logic instruction FCGT ands a binary32 greater-than into BA. -/
  | leFcgt (engine : Nat) (opnd : Nat)
  /-- LE_JMP. R289: Logic instruction JMP jumps forward. -/
  | leJmp (engine : Nat) (opnd : Nat)
  /-- LE_JC. R289: Logic instruction JC jumps if BA is 1. -/
  | leJc (engine : Nat) (opnd : Nat)
  /-- LE_JNC. R289: Logic instruction JNC jumps if BA is 0. -/
  | leJnc (engine : Nat) (opnd : Nat)
  /-- LE_CALL. R289: Logic instruction CALL calls a block. -/
  | leCall (engine : Nat) (opnd : Nat)
  /-- LE_RET. R289: Logic instruction RET ends a called block. -/
  | leRet (engine : Nat) (opnd : Nat)
  /-- LE_END. R289: Logic instruction END ends the run and hands in its write set, flags and events. -/
  | leEnd (engine : Nat) (opnd : Nat)
  /-- LE_HFLAG. R289: Logic instruction HFLAG sets a Hopper flag at hand-in if BA. -/
  | leHflag (engine : Nat) (opnd : Nat)
  /-- LE_EVT. R289: Logic instruction EVT raises EV_LOGIC_USER at hand-in if BA. -/
  | leEvt (engine : Nat) (opnd : Nat)
  /-- SPIN_NOP. R315: Spindle instruction NOP has no effect. -/
  | spinNop (prog : Nat) (opnd : Nat)
  /-- SPIN_ADD. R315: Spindle instruction ADD adds two registers. -/
  | spinAdd (prog : Nat) (opnd : Nat)
  /-- SPIN_SUB. R315: Spindle instruction SUB subtracts two registers. -/
  | spinSub (prog : Nat) (opnd : Nat)
  /-- SPIN_AND. R315: Spindle instruction AND ands two registers. -/
  | spinAnd (prog : Nat) (opnd : Nat)
  /-- SPIN_OR. R315: Spindle instruction OR ors two registers. -/
  | spinOr (prog : Nat) (opnd : Nat)
  /-- SPIN_XOR. R315: Spindle instruction XOR exclusive-ors two registers. -/
  | spinXor (prog : Nat) (opnd : Nat)
  /-- SPIN_SHL. R315: Spindle instruction SHL shifts left by a register. -/
  | spinShl (prog : Nat) (opnd : Nat)
  /-- SPIN_SHR. R315: Spindle instruction SHR shifts right logically by a register. -/
  | spinShr (prog : Nat) (opnd : Nat)
  /-- SPIN_ASR. R315: Spindle instruction ASR shifts right arithmetically by a register. -/
  | spinAsr (prog : Nat) (opnd : Nat)
  /-- SPIN_MUL. R315: Spindle instruction MUL multiplies two registers. -/
  | spinMul (prog : Nat) (opnd : Nat)
  /-- SPIN_MIN. R315: Spindle instruction MIN takes the signed minimum. -/
  | spinMin (prog : Nat) (opnd : Nat)
  /-- SPIN_MAX. R315: Spindle instruction MAX takes the signed maximum. -/
  | spinMax (prog : Nat) (opnd : Nat)
  /-- SPIN_MINU. R315: Spindle instruction MINU takes the unsigned minimum. -/
  | spinMinu (prog : Nat) (opnd : Nat)
  /-- SPIN_MAXU. R315: Spindle instruction MAXU takes the unsigned maximum. -/
  | spinMaxu (prog : Nat) (opnd : Nat)
  /-- SPIN_ABS. R315: Spindle instruction ABS takes an absolute value. -/
  | spinAbs (prog : Nat) (opnd : Nat)
  /-- SPIN_ADDI. R315: Spindle instruction ADDI adds a signed immediate. -/
  | spinAddi (prog : Nat) (opnd : Nat)
  /-- SPIN_ANDI. R315: Spindle instruction ANDI ands an immediate. -/
  | spinAndi (prog : Nat) (opnd : Nat)
  /-- SPIN_ORI. R315: Spindle instruction ORI ors an immediate. -/
  | spinOri (prog : Nat) (opnd : Nat)
  /-- SPIN_XORI. R315: Spindle instruction XORI exclusive-ors an immediate. -/
  | spinXori (prog : Nat) (opnd : Nat)
  /-- SPIN_SHLI. R315: Spindle instruction SHLI shifts left by an immediate. -/
  | spinShli (prog : Nat) (opnd : Nat)
  /-- SPIN_SHRI. R315: Spindle instruction SHRI shifts right logically by an immediate. -/
  | spinShri (prog : Nat) (opnd : Nat)
  /-- SPIN_ASRI. R315: Spindle instruction ASRI shifts right arithmetically by an immediate. -/
  | spinAsri (prog : Nat) (opnd : Nat)
  /-- SPIN_LI. R315: Spindle instruction LI loads a sign-extended immediate. -/
  | spinLi (prog : Nat) (opnd : Nat)
  /-- SPIN_LUI. R315: Spindle instruction LUI loads an upper immediate. -/
  | spinLui (prog : Nat) (opnd : Nat)
  /-- SPIN_LDB. R315: Spindle instruction LDB loads a window byte. -/
  | spinLdb (prog : Nat) (opnd : Nat)
  /-- SPIN_LDH. R315: Spindle instruction LDH loads 2 window bytes big-endian. -/
  | spinLdh (prog : Nat) (opnd : Nat)
  /-- SPIN_LDW. R315: Spindle instruction LDW loads 4 window bytes big-endian. -/
  | spinLdw (prog : Nat) (opnd : Nat)
  /-- SPIN_LDHL. R315: Spindle instruction LDHL loads 2 window bytes little-endian. -/
  | spinLdhl (prog : Nat) (opnd : Nat)
  /-- SPIN_LDWL. R315: Spindle instruction LDWL loads 4 window bytes little-endian. -/
  | spinLdwl (prog : Nat) (opnd : Nat)
  /-- SPIN_LDHLS. R315: Spindle instruction LDHLS loads 2 window bytes little-endian, sign-extended. -/
  | spinLdhls (prog : Nat) (opnd : Nat)
  /-- SPIN_BEQ. R315: Spindle instruction BEQ branches forward if equal. -/
  | spinBeq (prog : Nat) (opnd : Nat)
  /-- SPIN_BNE. R315: Spindle instruction BNE branches forward if not equal. -/
  | spinBne (prog : Nat) (opnd : Nat)
  /-- SPIN_BLT. R315: Spindle instruction BLT branches forward if signed less. -/
  | spinBlt (prog : Nat) (opnd : Nat)
  /-- SPIN_BGE. R315: Spindle instruction BGE branches forward if signed greater or equal. -/
  | spinBge (prog : Nat) (opnd : Nat)
  /-- SPIN_BLTU. R315: Spindle instruction BLTU branches forward if unsigned less. -/
  | spinBltu (prog : Nat) (opnd : Nat)
  /-- SPIN_BGEU. R315: Spindle instruction BGEU branches forward if unsigned greater or equal. -/
  | spinBgeu (prog : Nat) (opnd : Nat)
  /-- SPIN_BEQI. R315: Spindle instruction BEQI branches forward if equal to an immediate. -/
  | spinBeqi (prog : Nat) (opnd : Nat)
  /-- SPIN_BNEI. R315: Spindle instruction BNEI branches forward if not equal to an immediate. -/
  | spinBnei (prog : Nat) (opnd : Nat)
  /-- SPIN_BLTI. R315: Spindle instruction BLTI branches forward if less than an immediate. -/
  | spinBlti (prog : Nat) (opnd : Nat)
  /-- SPIN_BGEI. R315: Spindle instruction BGEI branches forward if greater or equal to an immediate. -/
  | spinBgei (prog : Nat) (opnd : Nat)
  /-- SPIN_CNT. R315: Spindle instruction CNT increments a counter. -/
  | spinCnt (prog : Nat) (opnd : Nat)
  /-- SPIN_EXIT. R315: Spindle instruction EXIT ends the window with verdict W0, applied by the place. -/
  | spinExit (prog : Nat) (opnd : Nat)
  /-- CAN_FRAME_RECEIVE. R333: A frame received without error on a CAN port is stamped and queued to its receive program or default verdict. -/
  | canFrameReceive (t : Nat) (port : Nat) (sof : Nat) (frame : CanFrame)
  /-- CAN_FRAME_ACKNOWLEDGED. R335: A sent CAN frame is acknowledged, its points become GOOD and the next pending object arbitrates. -/
  | canFrameAcknowledged (t : Nat) (port : Nat) (sof : Nat)
  /-- CAN_ARBITRATION_LOST. R335: A CAN object loses arbitration and stays pending for the next attempt. -/
  | canArbitrationLost (t : Nat) (port : Nat)
  /-- CAN_TX_ERROR. R340: A transmission fails, raising TEC towards ERROR_PASSIVE or BUS_OFF, or counting an acknowledge error towards ALONE. -/
  | canTxError (t : Nat) (port : Nat) (ackError : Bool)
  /-- CAN_RECOVERY_COMPLETE. R340: 128 occurrences of 11 recessive bits end recovery and the port is ERROR_ACTIVE. -/
  | canRecoveryComplete (t : Nat) (port : Nat)
  /-- CAN_RATE_DETECT_DWELL. R339: DETECT_MS passes without a rate found and rate detection tries the next rate or times out. -/
  | canRateDetectDwell (t : Nat) (port : Nat)
  /-- SAFETY_CYCLE. R349: Every 250 µs each safety channel samples inputs, evaluates functions, commands outputs and exchanges data over the cross-link. -/
  | safetyCycle (t : Nat) (inp : SafeIn)
  /-- SAFETY_DISCREPANCY_COUNT. R355: A pair's disagreement count reaches N_d and a DISC_FAULT latches with EV_SAFE_DISCREPANCY. -/
  | safetyDiscrepancyCount (t : Nat) (pair : Nat)
  /-- EV_SAFE_RESET_LONG. R363: A reset source stays closed for 3 s and gives no edge. -/
  | evSafeResetLong (t : Nat) (src : Nat)
  /-- SAFETY_STOP_DELAY_EXPIRY. R361: STOP_DELAY or STOP_MAX passes and an SS1 function removes torque and enters SAFE. -/
  | safetyStopDelayExpiry (t : Nat) (fn : Nat)
  /-- NALAT_WATCHDOG_EXPIRY. R369: No frame is accepted for WD and the connection enters TIMEOUT with EV_NALAT_TIMEOUT. -/
  | nalatWatchdogExpiry (t : Nat) (conn : Nat)
  /-- SAFETY_SELF_TEST_DONE. R351: A safety channel completes its start self-test and the layer may start running. -/
  | safetySelfTestDone (t : Nat) (channel : Nat) (ok : Bool)
  /-- HOPPER_DEAL. R448: Every 100 ns Hopper takes flags, ticks, cancels and run ends together and decides readiness, aging, dispatch and preemption. -/
  | hopperDeal (t : Nat)
  /-- EXT_RUN_END. R447: An extension task returns from its entry and its run ends. -/
  | extRunEnd (t : Nat) (core : Nat)
  /-- EXT_BUDGET_OVERRUN. R455: A run reaches BUDGET of core time and is ended with EV_EXT_OVERRUN. -/
  | extBudgetOverrun (t : Nat) (core : Nat)
  /-- EXT_FAULT. R464: An access outside the partition, illegal or misaligned instruction ends the run and the task enters FAULTED. -/
  | extFault (t : Nat) (core : Nat) (cause : Nat) (addr : Nat)
  /-- EXT_CALL_POINT_READ. R463: An extension environment call reads a point. -/
  | extCallPointRead (t : Nat) (core : Nat) (addr : Nat)
  /-- EXT_CALL_POINT_WRITE. R463: An extension environment call writes a host-owned point. -/
  | extCallPointWrite (t : Nat) (core : Nat) (addr : Nat) (value : W64)
  /-- EXT_CALL_FLAG_SET. R463: An extension environment call sets flags of a task. -/
  | extCallFlagSet (t : Nat) (core : Nat) (task : Nat) (flags : W32)
  /-- EXT_CALL_RAISE. R463: An extension environment call sets a source 448–479 pending. -/
  | extCallRaise (t : Nat) (core : Nat) (src : Nat)
  /-- EXT_CALL_LMT. R463: An extension environment call returns LMT. -/
  | extCallLmt (t : Nat) (core : Nat)
  /-- EC_CLAIM. R460: A core reads CLAIM and claims the highest-priority pending source targeted at it. -/
  | ecClaim (t : Nat) (core : Nat)
  /-- EC_COMPLETE. R460: A core writes COMPLETE, ending handling and re-pending a level or newly latched source. -/
  | ecComplete (t : Nat) (core : Nat) (src : Nat)
  /-- EC_RAISE. R459: A core writes RAISE to set a source 448–479 pending. `ofs` is the register's offset: THRESHOLD, which has no row of its own, is
  written by this one too (DESIGN CHOICE, log 212). -/
  | ecRaise (t : Nat) (core : Nat) (w : EcWrite)
  /-- EC_OVERRUNS_READ. R459: A core reads OVERRUNS, which then clears. `ofs` is the register's offset: the registers whose reads have no row of their
  own, THRESHOLD, COMPLETE and RAISE, are read by this one too (DESIGN CHOICE, log 212). -/
  | ecOverrunsRead (t : Nat) (r : EcRead)
  /-- EC_SOURCE_EDGE. R461: An edge source latches an event, merging into a latched edge with an overrun count. -/
  | ecSourceEdge (t : Nat) (inp : EcInput)
  /-- SWEEP. R408: At each SWEEP µs the module reads the doorbell block and fetches descriptors by ring priority. -/
  | sweep (t : Nat) (block : Bytes) (descs : List (Nat × Bytes)) (ok : Bool)
  /-- DESCRIPTOR_FETCH. R408: A descriptor read completes, reserving a completion slot and starting its command. -/
  | descriptorFetch (t : Nat) (ring : Nat) (desc : Bytes) (ok : Bool)
  /-- HOST_HEARTBEAT_TIMEOUT. R411: Word 152 is unchanged for HBCFG ms and HB_LOST is set with EV_HOST_HB_LOST. -/
  | hostHeartbeatTimeout (t : Nat)
  /-- MSIX_MODERATION_TIMEOUT. R419: The oldest unsignalled entry waits MOD_TIME and the vector's message is sent. -/
  | msixModerationTimeout (t : Nat) (vec : Nat)
  /-- MSIX_UNMASK. R419: A vector or function mask is cleared and the pending message is sent. -/
  | msixUnmask (t : Nat) (vec : Option Nat)
  /-- FUNCTION_RESET. R422: FLR, PERST#, hot or link-down reset resets registers and rings and holds completions as orphans. -/
  | functionReset (t : Nat) (cause : Nat)
  /-- POWER_STATE_CHANGE. R420: The function enters or leaves D0, D3hot or D3cold, holding or flushing entries with EV_HOST_POWER. -/
  | powerStateChange (t : Nat) (pst : Nat) (pmeEn : Bool) (pmeClr : Bool)
  /-- BUS_MASTER_ENABLE_CHANGE. R420: Bus Master Enable changes and DMA, sweeps and held entries stop or resume. -/
  | busMasterEnableChange (t : Nat) (on : Bool)
  /-- PME_REPEAT. R420: While PME_Status stays set in D3hot, PM_PME is repeated every 100 ms. -/
  | pmeRepeat (t : Nat)
  /-- HOST_LINK_TRAINED. R401: The PCIe link trains and a rate or width below the guaranteed one reports EV_HOST_LINK_DEGRADED. -/
  | hostLinkTrained (t : Nat) (rate : Nat) (width : Nat)
  /-- LMT_LO_READ. R402: A read of LMT_LO returns LMT [31:0] and latches LMT [63:32] into LMT_HI. -/
  | lmtLoRead (t : Nat)
  /-- ADMIN_EN_SET. R405: Setting HCTL.ADMIN_EN checks the set-up registers and starts rings 0 and the sweep or sets SETUP_ERR. -/
  | adminEnSet (t : Nat)
  /-- ADMIN_EN_CLEAR. R422: Clearing HCTL.ADMIN_EN stops the rings as a function reset. -/
  | adminEnClear (t : Nat)
  /-- QUIESCE. R404: Writing HCTL.QUIESCE stops or resumes fetching, with QUIESCED set once nothing is in flight. -/
  | quiesce (t : Nat) (on : Bool)
  /-- SULOCK_LOCK. R402: Writing 1 to SULOCK.LOCK locks every RWL field until the next function reset. -/
  | sulockLock (t : Nat)
  /-- REGISTER_WRITE. R402: A write to another set-up register sets, ignores or defers its value. -/
  | registerWrite (t : Nat) (ofs : Nat) (w : RegWrite)
  /-- NOP. R429: Admin command NOP completes ST_OK at fetch. -/
  | nop (h : CmdHdr)
  /-- RING_CREATE. R417: Creates a command, completion, event or Tailrace buffer ring at the next sweep. -/
  | ringCreate (h : CmdHdr)
  /-- RING_MODIFY. R417: Changes a ring's modifiable fields at the next sweep. -/
  | ringModify (h : CmdHdr)
  /-- RING_DELETE. R418: Stops and deletes a ring at the next sweep. -/
  | ringDelete (h : CmdHdr)
  /-- ABORT. R430: Withdraws a command in flight that has not reached its commit point. -/
  | abort (h : CmdHdr)
  /-- SYS_INFO. R429: Returns identity, BOOT_ID, HSTAT, LMT and domain times at one instant. -/
  | sysInfo (h : CmdHdr)
  /-- CFG_LOAD. R439: Checks and stages an Alaqua package in MRAM. -/
  | cfgLoad (h : CmdHdr)
  /-- CFG_CHECK. R439: Runs Sluice on the staged package and writes the report. -/
  | cfgCheck (h : CmdHdr)
  /-- CFG_ADMIT. R439: Checks and applies the staged package at the next commit of local group 0. -/
  | cfgAdmit (h : CmdHdr)
  /-- CFG_RECORD. R439: Applies records as a delta after a Sluice check. -/
  | cfgRecord (h : CmdHdr)
  /-- CFG_READ. R429: Returns the admitted configuration as an unsigned full package. -/
  | cfgRead (h : CmdHdr)
  /-- UNIT_DISABLE. R432: Disables a unit at the instant its rule names. -/
  | unitDisable (h : CmdHdr)
  /-- UNIT_ENABLE. R433: Returns a disabled unit to service under its admitted record. -/
  | unitEnable (h : CmdHdr)
  /-- SLUICE_READ. R444: Returns the load part of the Sluice report for the admitted configuration. -/
  | sluiceRead (h : CmdHdr)
  /-- RACE_VM_SET. R45: Changes a virtual master race's profile from the first unfitted segment. -/
  | raceVmSet (h : CmdHdr)
  /-- RACE_TIME_SET. R45: Changes a time race's rate from the first unfitted segment. -/
  | raceTimeSet (h : CmdHdr)
  /-- RACE_REFERENCE. R52: Arms a capture of the race at the next index edge. -/
  | raceReference (h : CmdHdr)
  /-- RACE_PRESET. R52: Sets the race position at the next segment start with DISCONTINUITY. -/
  | racePreset (h : CmdHdr)
  /-- RACE_CONFIRM. R51: Clears UNREFERENCED at fetch. -/
  | raceConfirm (h : CmdHdr)
  /-- COG_ARM. R80: Arms a cog with an absolute or relative target from the first unfitted segment. -/
  | cogArm (h : CmdHdr)
  /-- COG_DISARM. R80: Disarms a cog from the first unfitted segment. -/
  | cogDisarm (h : CmdHdr)
  /-- PLACE_READ. R429: Returns a head node's foreground or background bank. -/
  | placeRead (h : CmdHdr)
  /-- PLACE_WRITE. R95: Writes nozzle records into a placement set's background bank. -/
  | placeWrite (h : CmdHdr)
  /-- PLACE_SEAL. R92: Seals a placement bank set for a swap at its next BANK_SWAP boundary. -/
  | placeSeal (h : CmdHdr)
  /-- POINT_READ. R25: Returns a point's value and quality, or a run of slots into a buffer. -/
  | pointRead (h : CmdHdr)
  /-- POINT_WRITE. R35: Writes a host-owned cyclic or paged point, completing when durable. -/
  | pointWrite (h : CmdHdr)
  /-- POINT_META. R27: Returns a point's metadata record. -/
  | pointMeta (h : CmdHdr)
  /-- NODE_READ. R429: Returns a node's state, BIND_ID, HELLO body and last status block. -/
  | nodeRead (h : CmdHdr)
  /-- LOOP_MODE. R149: Sets a loop's mode at its next sample. -/
  | loopMode (h : CmdHdr)
  /-- LOOP_TRIM. R141: Sets or clears a loop's TRIM at its next sample. -/
  | loopTrim (h : CmdHdr)
  /-- LOOP_COEF_WRITE. R155: Writes a loop's coefficient set into its background bank. -/
  | loopCoefWrite (h : CmdHdr)
  /-- LOOP_COEF_SEAL. R155: Seals a loop's coefficient bank for a swap at its next sample. -/
  | loopCoefSeal (h : CmdHdr)
  /-- LOOP_READ_STATE. R429: Returns a loop's mode, integrator, spl, TRIM, dq and bank. -/
  | loopReadState (h : CmdHdr)
  /-- FT_START. R164: Starts an IDLE Fantail task in advise or apply mode. -/
  | ftStart (h : CmdHdr)
  /-- FT_STOP. R164: Stops a Fantail task, ending any relay test as an ABORT. -/
  | ftStop (h : CmdHdr)
  /-- FT_TUNE. R168: Starts a relay test on a kind 1 task's loop. -/
  | ftTune (h : CmdHdr)
  /-- FT_ACCEPT. R163: Writes a task's latest advised result. -/
  | ftAccept (h : CmdHdr)
  /-- FT_PLACE_ERR. R175: Hands a buffer of placement measurements to a placement task. -/
  | ftPlaceErr (h : CmdHdr)
  /-- FT_STATUS. R429: Returns a Fantail task's status. -/
  | ftStatus (h : CmdHdr)
  /-- AXIS_ENABLE. R206: Enables a DISABLED axis to STANDSTILL. -/
  | axisEnable (h : CmdHdr)
  /-- AXIS_DISABLE. R206: Stops an axis on its normal ramp and then disables it. -/
  | axisDisable (h : CmdHdr)
  /-- AXIS_GOTO. R194: Steers an axis to a target, replanning and flushing its queue. -/
  | axisGoto (h : CmdHdr)
  /-- AXIS_QUEUE. R199: Appends a move to an axis queue. -/
  | axisQueue (h : CmdHdr)
  /-- AXIS_STOP. R201: Stops an axis on its normal or quick ramp. -/
  | axisStop (h : CmdHdr)
  /-- AXIS_HOME. R202: Homes a standing axis against a hard stop. -/
  | axisHome (h : CmdHdr)
  /-- AXIS_SET_POS. R202: Redefines the position of a STANDSTILL axis. -/
  | axisSetPos (h : CmdHdr)
  /-- AXIS_LIMITS. R196: Sets new axis maxima from the next update. -/
  | axisLimits (h : CmdHdr)
  /-- AXIS_CLEAR_FAULT. R205: Clears a latched axis fault whose cause has ended. -/
  | axisClearFault (h : CmdHdr)
  /-- AXIS_TABLE_WRITE. R191: Writes microstep entries into the background bank. -/
  | axisTableWrite (h : CmdHdr)
  /-- AXIS_TABLE_SEAL. R191: Seals the microstep bank and transfers it to the stage for a swap. -/
  | axisTableSeal (h : CmdHdr)
  /-- ADC_START. R219: Starts a host-triggered converter sequence. -/
  | adcStart (h : CmdHdr)
  /-- ANA_VREF. R222: Switches VREFBUF off or on. -/
  | anaVref (h : CmdHdr)
  /-- CL_ZERO_SPAN. R236: Sets zero and span of a current-loop channel. -/
  | clZeroSpan (h : CmdHdr)
  /-- CL_CAL_CAPTURE. R236: Captures zero or span of a channel from averaged RAW. -/
  | clCalCapture (h : CmdHdr)
  /-- DIO_RESET. R239: Restarts a DIO output latched in overload. -/
  | dioReset (h : CmdHdr)
  /-- CAP_ARM. R253: Arms a capture unit or group. -/
  | capArm (h : CmdHdr)
  /-- CAP_DISARM. R253: Disarms a capture unit. -/
  | capDisarm (h : CmdHdr)
  /-- CAP_TRIGGER. R253: Triggers an armed capture unit. -/
  | capTrigger (h : CmdHdr)
  /-- CAP_READ. R254: Writes a held capture record into a host buffer. -/
  | capRead (h : CmdHdr)
  /-- CAP_RELEASE. R253: Releases a held capture record. -/
  | capRelease (h : CmdHdr)
  /-- TR_START. R270: Starts production on a Tailrace channel. -/
  | trStart (h : CmdHdr)
  /-- TR_STOP. R270: Stops a Tailrace channel and returns its partial buffer. -/
  | trStop (h : CmdHdr)
  /-- TR_FLUSH. R270: Returns a Tailrace channel's current buffer early. -/
  | trFlush (h : CmdHdr)
  /-- LOG_READ. R264: Writes held log records from a sequence into a host buffer. -/
  | logRead (h : CmdHdr)
  /-- LOG_CLEAR. R264: Removes every log record and writes EV_LOG_CLEARED. -/
  | logClear (h : CmdHdr)
  /-- LOG_CATALOGUE. R259: Writes the event catalogue entries. -/
  | logCatalogue (h : CmdHdr)
  /-- REC_FREEZE. R265: Freezes the event log. -/
  | recFreeze (h : CmdHdr)
  /-- REC_THAW. R265: Thaws the event log, writing EV_LOG_THAWED and the reserve. -/
  | recThaw (h : CmdHdr)
  /-- LOGIC_LOAD. R304: Writes a program image into an engine's background bank. -/
  | logicLoad (h : CmdHdr)
  /-- LOGIC_SEAL. R304: Submits the background program to Sluice and seals it for a swap at the engine's boundary. -/
  | logicSeal (h : CmdHdr)
  /-- LOGIC_MODE. R297: Changes a logic engine's mode at its next instruction boundary. -/
  | logicMode (h : CmdHdr)
  /-- LOGIC_STEP. R298: Executes instructions of the open run of a held engine. -/
  | logicStep (h : CmdHdr)
  /-- LOGIC_BREAK. R298: Sets or clears a breakpoint. -/
  | logicBreak (h : CmdHdr)
  /-- LOGIC_FORCE. R301: Forces a point at the next commit of its owner group. -/
  | logicForce (h : CmdHdr)
  /-- LOGIC_UNFORCE. R301: Removes a point's force at the next commit of its owner group. -/
  | logicUnforce (h : CmdHdr)
  /-- LOGIC_FORCE_CLEAR. R301: Removes every force, each at its owner group's commit. -/
  | logicForceClear (h : CmdHdr)
  /-- LOGIC_FORCE_LIST. R429: Returns the force table with values and shadows. -/
  | logicForceList (h : CmdHdr)
  /-- LOGIC_READ_STATE. R307: Returns engine or task state and figures. -/
  | logicReadState (h : CmdHdr)
  /-- SPIN_LOAD. R324: Writes a spindle program image into its background bank. -/
  | spinLoad (h : CmdHdr)
  /-- SPIN_SEAL. R324: Submits and seals a spindle program for a swap at the next window gap. -/
  | spinSeal (h : CmdHdr)
  /-- SPIN_READ_STATE. R325: Returns a spindle program's state and counters. -/
  | spinReadState (h : CmdHdr)
  /-- CAN_SEND. R336: Makes a TRIGGER 1 send object pending with given data. -/
  | canSend (h : CmdHdr)
  /-- CAN_RECOVER. R341: Starts bus-off recovery of a CAN port. -/
  | canRecover (h : CmdHdr)
  /-- CAN_RATE_DETECT. R339: Detects nominal and data rates in listen-only mode. -/
  | canRateDetect (h : CmdHdr)
  /-- CAN_RING_READ. R337: Moves receive ring entries into a host buffer. -/
  | canRingRead (h : CmdHdr)
  /-- SAFE_STATUS. R374: Returns the safety layer state, CONFIG_CRC and function states. -/
  | safeStatus (h : CmdHdr)
  /-- SAFE_DIAG_READ. R374: Returns safety diagnostic counters and self-test results. -/
  | safeDiagRead (h : CmdHdr)
  /-- SAFE_CONFIG_STAGE. R373: Stages a safety section after both channels check it. -/
  | safeConfigStage (h : CmdHdr)
  /-- SAFE_CONFIG_ACCEPT. R373: Accepts the staged safety configuration with its CRC as key. -/
  | safeConfigAccept (h : CmdHdr)
  /-- SAFE_CONN_RESTART. R374: Restarts a Nalat connection in FAULT to STARTING. -/
  | safeConnRestart (h : CmdHdr)
  /-- RED_STATUS. R394: Returns both roles, sync, paths, epoch and last switch-over. -/
  | redStatus (h : CmdHdr)
  /-- RED_SWITCH. R392: Starts a planned switch of the active role. -/
  | redSwitch (h : CmdHdr)
  /-- RED_REVERT_INHIBIT. R394: Sets or clears the revert inhibit. -/
  | redRevertInhibit (h : CmdHdr)
  /-- UPD_STAGE. R484: Verifies and stages a firmware or key image in the non-running slot. -/
  | updStage (h : CmdHdr)
  /-- UPD_ARM. R484: Preloads the staged image and sets the activation instant. -/
  | updArm (h : CmdHdr)
  /-- UPD_CANCEL. R484: Discards, unarms or arms a reverse activation depending on update state. -/
  | updCancel (h : CmdHdr)
  /-- UPD_COMMIT. R489: Commits the trial slot and raises the OTP level. -/
  | updCommit (h : CmdHdr)
  /-- UPD_STATUS. R484: Returns update state, slot headers and migration progress. -/
  | updStatus (h : CmdHdr)
  /-- UPD_ACTIVATION. R486: At instant A fetch stops, engines swap microcode and the runtime restarts, or the activation is skipped or done cold. -/
  | updActivation (t : Nat)
  /-- UPD_RESTART_DONE. R486: The runtime restart and migration end, fetching resumes and the update is in TRIAL. -/
  | updRestartDone (t : Nat)
  /-- HOP_FLAG. R449: Sets flags of a Hopper task at the next deal. -/
  | hopFlag (h : CmdHdr)
  /-- HOP_CANCEL. R453: Withdraws a task's release at the next deal. -/
  | hopCancel (h : CmdHdr)
  /-- HOP_TRACE_READ. R454: Writes deal records from a sequence into a host buffer. -/
  | hopTraceRead (h : CmdHdr)
  /-- EXT_LOAD. R462: Writes an extension image into the partition and MRAM. -/
  | extLoad (h : CmdHdr)
  /-- EXT_START. R464: Starts a DORMANT or FAULTED extension task. -/
  | extStart (h : CmdHdr)
  /-- EXT_STOP. R464: Ends an extension task's run and makes it DORMANT. -/
  | extStop (h : CmdHdr)
  /-- HOP_READ_STATE. R466: Returns a Hopper task's state and counts. -/
  | hopReadState (h : CmdHdr)
  /-- RESET_RELEASE. R518: RESET# returns high after a reset and the module enters BOOT. -/
  | resetRelease (t : Nat) (strapMode : Nat) (strapPair : Bool)
  /-- PERST_DEASSERTION. R502: PERST# is deasserted: WAKE# is released, the link may train and the function must answer configuration requests within 100 ms. -/
  | perstDeassertion (t : Nat)
  /-- FIELD_PORT_LINK_UP. R504: A field port's link comes up again (LOS falls), with clause 37 auto-negotiation in 1000BASE-X mode. -/
  | fieldPortLinkUp (t : Nat) (port : Nat)
  /-- CAN_RECEIVE_ERROR. R340: An error is detected while receiving, or an error frame is seen from another node; REC rises towards ERROR_PASSIVE and other traffic is counted for ALONE. -/
  | canReceiveError (t : Nat) (port : Nat) (e : CanRxError)
  /-- CAN_BUS_INTEGRATION. R345: A port completes bus integration and enters ERROR_ACTIVE or normal mode, after a start, at takeover or after a res-bit protocol exception. -/
  | canBusIntegration (t : Nat) (port : Nat)
  /-- UPD_STAGE_DURABLE. R484: A staged image has been verified and written to NOR, the update enters STAGED and UPD_STAGE completes. -/
  | updStageDurable (t : Nat) (ok : Bool)
  /-- UPD_PRELOAD_DONE. R484: The microcode preload of UPD_ARM completes, the update enters ARMED and UPD_ARM completes. -/
  | updPreloadDone (t : Nat)
  /-- PTP_DELAY_REQUEST_SEND. R63: A domain sends its path-delay request: Delay_Req end-to-end, or Pdelay_Req peer-to-peer. -/
  | ptpDelayRequestSend (t : Nat) (port : Nat) (domain : Nat)
  /-- SI_STANDARD_SAMPLE. R376: On the -N variant, the main die samples SI0–SI23 every 250 µs into the BOOL points of local node 3. -/
  | siStandardSample (t : Nat) (levels : Nat)
  /-- MAINT_LINK_CHANGE. R519: Maintenance port M1 or M2 gains or loses its 1000BASE-T link and its LED pin follows. -/
  | maintLinkChange (t : Nat) (port : Nat) (up : Bool)
  deriving DecidableEq, Repr

end Sys2Proof
end

