-- ==== Sys2Proof/Config.lean ====
section
/-! DEFINITION. Configuration of the implementation: the values the spec leaves open.
Every constant here is opaque: no proof can see a value, so a claim holds whatever the hardware gives (log 3). -/

namespace Sys2Proof.Config

/-- The value number `n` that the spec leaves open, drawn in order by the counter `State.free`. -/
opaque freeValue (n : Nat) : BitVec 64

/-- The race fit (R53): "the fitting method is internal to the module". Samples are (domain time, position). C0 to C3 of R57. -/
opaque raceFit (race : Nat) (samples : List (Nat × Nat)) (ts : Nat) : Int × Int × Int × Int

/-- Place of a sine/cosine vector in its signal period, in 1/4,096 of it: the 12-bit interpolation of R38, whose rounding is not stated. -/
opaque interpolate (s c : Int) : Nat

/-- The ellipse that Fantail fits to raw sine and cosine samples, as the four values that make it a circle (R178: the fit is not stated). -/
opaque ellipse (raw : List (Int × Int)) : Int × Int × Int × Int

/-- RMS residual of that fit, binary32 (R71 FIT_ERR). -/
opaque fitResidual (race : Nat) (samples : List (Nat × Nat)) (ts : Nat) : W32

/-- Servo rate of a PTP domain in ppb after a Sync with this offset (R65: the servo's law is not stated). -/
opaque servoRate (domain : Nat) (rate offset : Int) : Int

/-- Natural logarithm in binary32 as Fantail rounds it (R171 and R168 use it; the rounding is not stated). -/
opaque logF (x : W32) : W32

/-- Payload and sign of a NaN result of a binary32 operation (R288 states that the result is a NaN only). -/
opaque nanPayload (op : Nat) (a b : W32) : W32

/-- Measurement of a capture record in binary64 rounded to binary32 where it needs a square root or a sum order (R255). -/
opaque measure (field : Nat) (xs : List Int) (ts : List Nat) : W32

/-- NPARAM and PTYPE of an event code as this stepping's catalogue gives them (R259). -/
opaque catalogue (code : Nat) : List Nat

/-- Priority (low 4 bits), target mask (bits 4 to 7) and level rather than edge (bit 8) of concentrator sources 1 to 383, which the firmware configures (R457). -/
opaque firmwareSource (n : Nat) : Nat

/-- Field `i` of a runtime task's state, 0 to 127, at LMT `t`: the firmware's tasks and their run are not in the spec (R447, R466). -/
opaque firmwareTask (task : Nat) (flags : W32) (t i : Nat) : Nat

/-- Copy format that the firmware of a VERSION declares to its partner (R485; the redundancy link's coding is private). -/
opaque copyFormat (version : Nat) : Nat

end Sys2Proof.Config
end

