-- ==== Sys2Proof/Machine/Map.lean ====
section
/-! DEFINITION. Operations on numbered families: sorted association lists with one entry a number. -/

namespace Sys2Proof

/-- The value at a number, if listed. -/
def SMap.get? {α : Type} : SMap α → Nat → Option α
  | [], _ => none
  | (k, v) :: r, n => if n = k then some v else SMap.get? r n

/-- The value at a number, `d` where none is listed. -/
def SMap.getD {α : Type} (m : SMap α) (n : Nat) (d : α) : α := (SMap.get? m n).getD d

/-- Lists a value at a number, in place. -/
def SMap.set {α : Type} : SMap α → Nat → α → SMap α
  | [], n, v => [(n, v)]
  | (k, w) :: r, n, v =>
    if n < k then (n, v) :: (k, w) :: r else if n = k then (n, v) :: r else (k, w) :: SMap.set r n v

/-- Lists nothing at a number. -/
def SMap.erase {α : Type} : SMap α → Nat → SMap α
  | [], _ => []
  | (k, w) :: r, n => if n = k then r else (k, w) :: SMap.erase r n

/-- Writes a value where unlisted numbers read as `d`: the value `d` is not listed. -/
def SMap.put {α : Type} [DecidableEq α] (d : α) (m : SMap α) (n : Nat) (v : α) : SMap α :=
  if v = d then SMap.erase m n else SMap.set m n v

/-- Changes the value at a number, listed or not. -/
def SMap.upd {α : Type} (m : SMap α) (n : Nat) (d : α) (f : α → α) : SMap α := SMap.set m n (f (SMap.getD m n d))

/-- Every listed value through a function of its number. -/
def SMap.mapV {α : Type} (f : Nat → α → α) : SMap α → SMap α
  | [] => []
  | (k, v) :: r => (k, f k v) :: SMap.mapV f r

/-- The listed numbers, ascending. -/
def SMap.keys {α : Type} (m : SMap α) : List Nat := List.map Prod.fst m

/-- Numbers strictly rising from `lo`. -/
def SMap.risingFrom {α : Type} : Nat → SMap α → Bool
  | _, [] => true
  | lo, (k, _) :: r => decide (lo ≤ k) && SMap.risingFrom (k + 1) r

/-- Canonical form: numbers strictly rising. -/
def SMap.sorted {α : Type} (m : SMap α) : Bool := SMap.risingFrom 0 m

/-- Canonical form of a memory: numbers strictly rising and no entry equal to what an unlisted number reads as. -/
def SMap.wf {α : Type} [DecidableEq α] (d : α) (m : SMap α) : Bool :=
  SMap.sorted m && m.all (fun e => !decide (e.2 = d))

end Sys2Proof
end

