-- ==== Sys2Proof/Machine/Operands.lean ====
section
/-! DEFINITION. Operand forms: byte fields of records, descriptors and frames (R8), signed fields, and the parameter bytes of a descriptor (R410, R426). -/

namespace Sys2Proof.Machine

/-- Byte `i` of a byte string; bytes beyond its end read as zero. -/
def byteAt (b : Bytes) (i : Nat) : Nat := (b.getD i 0).toNat

/-- Unsigned little-endian field of `n` bytes at offset `o` (R8). -/
def le (b : Bytes) (o : Nat) : Nat → Nat
  | 0 => 0
  | n + 1 => byteAt b o + 256 * le b (o + 1) n

/-- Unsigned field of `n` bytes in network byte order at offset `o`. -/
def be (b : Bytes) (o : Nat) : Nat → Nat
  | 0 => 0
  | n + 1 => byteAt b o * 256 ^ n + be b (o + 1) n

/-- A number as `n` little-endian bytes. -/
def toLe (v : Nat) : Nat → Bytes
  | 0 => []
  | n + 1 => BitVec.ofNat 8 v :: toLe (v / 256) n

/-- A number as `n` bytes in network byte order. -/
def toBe (v n : Nat) : Bytes := (toLe v n).reverse

/-- Bytes `o` to `o + n - 1`. -/
def slice (b : Bytes) (o n : Nat) : Bytes := (b.drop o).take n

/-- The signature block at offset `g` is well formed and names a key of the class, 0 firmware or 1 configuration, whose slot is programmed and not
revoked; `keys` holds 1 for such a slot (R438, R473). -/
def sigBlockOk (b : Bytes) (g cls : Nat) (keys : List Nat) : Bool :=
  le b g 2 == 1 && le b (g + 2) 2 == 0 && (slice b (g + 3381) 3).all (· == 0) && le b (g + 4) 4 / 16 == cls && keys.getD (le b (g + 4) 4 % 16) 0 == 1

/-- Bit `i` of a number. -/
def bit (v i : Nat) : Bool := v.testBit i

/-- Bits `hi` to `lo` of a number. -/
def bits (v hi lo : Nat) : Nat := v / 2 ^ lo % 2 ^ (hi + 1 - lo)

/-- A flag as bit `i`. -/
def mkBit (f : Bool) (i : Nat) : Nat := if f then 2 ^ i else 0

/-- The signed reading of an unsigned `w`-bit number. -/
def sgn (w v : Nat) : Int := if v < 2 ^ (w - 1) then (v : Int) else (v : Int) - 2 ^ w

/-- The `w`-bit pattern of an integer (two's complement, wrapping). -/
def wrapN (w : Nat) (x : Int) : Nat := (x % 2 ^ w).toNat

/-- Signed little-endian field. -/
def leS (b : Bytes) (o n : Nat) : Int := sgn (8 * n) (le b o n)

/-- An integer as a 32-bit word. -/
def w32 (x : Int) : W32 := BitVec.ofInt 32 x

/-- Saturation to the range `lo` to `hi`. -/
def satI (lo hi x : Int) : Int := if x < lo then lo else if hi < x then hi else x

/-- Saturation to 16 signed bits (sat16). -/
def sat16 (x : Int) : Int := satI (-32768) 32767 x

/-- Saturation to 32 signed bits (sat32). -/
def sat32 (x : Int) : Int := satI (-2147483648) 2147483647 x

/-- Arithmetic shift right: division by a power of two, rounding down (asr). -/
def asr (x : Int) (n : Nat) : Int := x / 2 ^ n

/-- One bit of CRC-32C, reflected (R91). -/
def crcBit (c : BitVec 32) : BitVec 32 := if c.getLsbD 0 then (c >>> 1) ^^^ 0x82F63B78#32 else c >>> 1

/-- One byte of CRC-32C (R91). -/
def crcByte (c : BitVec 32) (b : Byte) : BitVec 32 :=
  crcBit (crcBit (crcBit (crcBit (crcBit (crcBit (crcBit (crcBit (c ^^^ b.zeroExtend 32))))))))

/-- CRC-32C with the parameters of R91: initial value and final exclusive-or of all ones. -/
def crc32c (bs : Bytes) : Nat := (~~~ (bs.foldl crcByte 0xFFFFFFFF#32)).toNat

/-- Bytes as numbers, for a host buffer. -/
def nums (bs : Bytes) : List Nat := bs.map (·.toNat)

end Sys2Proof.Machine

namespace Sys2Proof
open Sys2Proof.Machine

/-- Parameter byte P`n` to P`n+k-1` of a descriptor, unsigned (R426). -/
def CmdHdr.p (h : CmdHdr) (n k : Nat) : Nat := le h.params n k

/-- The same, signed. -/
def CmdHdr.pS (h : CmdHdr) (n k : Nat) : Int := leS h.params n k

/-- Length of the named host buffer; 0 with BUF clear (R410). -/
def CmdHdr.bufLen (h : CmdHdr) : Nat := if h.buf then le h.params 8 4 else 0

/-- TARGET as a number. -/
def CmdHdr.tgt (h : CmdHdr) : Nat := h.target.toNat

/-- Unit kind of a TARGET of form U (R37). -/
def CmdHdr.kind (h : CmdHdr) : Nat := h.target.toNat / 4096

/-- Unit instance of a TARGET of form U (R37). -/
def CmdHdr.inst (h : CmdHdr) : Nat := h.target.toNat % 4096

/-- The parameter bytes from `a` up to `b - 1` are zero: reserved bytes (R9, R426). -/
def CmdHdr.zeroFrom (h : CmdHdr) (a b : Nat) : Bool := (slice h.params a (b - a)).all (fun x => x == 0)

end Sys2Proof
end

