-- ==== Sys2Proof/Machine/F32.lean ====
section
/-! DEFINITION. Binary32 arithmetic on bit patterns: exact rational results rounded once, to nearest, ties to even (R24, R288). -/

namespace Sys2Proof.Machine

/-- Sign bit of a pattern. -/
def f32Neg (x : W32) : Bool := x.getLsbD 31
def f32Exp (x : W32) : Nat := x.toNat / 8388608 % 256
def f32Frac (x : W32) : Nat := x.toNat % 8388608
def f32NaN (x : W32) : Bool := f32Exp x == 255 && f32Frac x != 0
def f32Inf (x : W32) : Bool := f32Exp x == 255 && f32Frac x == 0
def f32Zero (x : W32) : Bool := f32Exp x == 0 && f32Frac x == 0

/-- A finite value as mantissa x 2^(e - 149): the signed mantissa. -/
def f32Man (x : W32) : Int :=
  let m : Nat := if f32Exp x = 0 then f32Frac x else f32Frac x + 8388608
  if f32Neg x then -(m : Int) else m

/-- Its exponent above 2^-149. -/
def f32Sh (x : W32) : Nat := f32Exp x - 1

/-- Numerator of a finite value over 2^149. -/
def f32Num (x : W32) : Int := f32Man x * 2 ^ f32Sh x

def f32InfOf (neg : Bool) : W32 := if neg then 0xFF800000#32 else 0x7F800000#32
def f32ZeroOf (neg : Bool) : W32 := if neg then 0x80000000#32 else 0#32

/-- Nearest even of `n / d`. -/
def rne (n d : Nat) : Nat :=
  let q := n / d
  let r := n % d
  if 2 * r < d then q else if d < 2 * r then q + 1 else if q % 2 = 0 then q else q + 1

/-- The magnitude `n / d x 2^-149` as a pattern without sign. -/
def f32Mag (n d : Nat) : Nat :=
  -- exponent field such that the mantissa has 24 bits, at least 1
  let e0 := n.log2 - d.log2
  let sh := if e0 ≤ 23 then 0 else e0 - 23
  let sh := if n / (d * 2 ^ sh) ≥ 16777216 then sh + 1 else if 0 < sh ∧ n / (d * 2 ^ sh) < 8388608 then sh - 1 else sh
  let m := rne n (d * 2 ^ sh)
  let pat := if m < 8388608 then m else sh * 8388608 + m
  if 0x7F800000 ≤ pat then 0x7F800000 else pat

/-- The rational `n / d x 2^-149` rounded to binary32; `zneg` is the sign of a zero result. -/
def f32Round (n : Int) (d : Nat) (zneg : Bool) : W32 :=
  if n = 0 then f32ZeroOf zneg
  else
    let neg := decide (n < 0)
    BitVec.ofNat 32 ((if neg then 2147483648 else 0) + f32Mag n.natAbs d)

/-- A rational number `n / d` rounded to binary32. -/
def f32OfRat (n : Int) (d : Nat) : W32 := f32Round (n * 2 ^ 149) d false

/-- A NaN result: quiet, its payload the implementation's (R288). -/
def f32Nan (op : Nat) (a b : W32) : W32 := (Config.nanPayload op a b) ||| 0x7FC00000#32

def f32Add (a b : W32) : W32 :=
  if f32NaN a || f32NaN b then f32Nan 0 a b
  else if f32Inf a then (if f32Inf b && f32Neg a != f32Neg b then f32Nan 0 a b else a)
  else if f32Inf b then b
  else f32Round (f32Num a + f32Num b) 1 (f32Neg a && f32Neg b)

def f32NegOf (a : W32) : W32 := a ^^^ 0x80000000#32

def f32Sub (a b : W32) : W32 := if f32NaN a || f32NaN b then f32Nan 1 a b else f32Add a (f32NegOf b)

def f32Mul (a b : W32) : W32 :=
  let neg := f32Neg a != f32Neg b
  if f32NaN a || f32NaN b then f32Nan 2 a b
  else if f32Inf a || f32Inf b then (if f32Zero a || f32Zero b then f32Nan 2 a b else f32InfOf neg)
  else f32Round (f32Num a * f32Num b) (2 ^ 149) neg

def f32Div (a b : W32) : W32 :=
  let neg := f32Neg a != f32Neg b
  if f32NaN a || f32NaN b then f32Nan 3 a b
  else if f32Inf a then (if f32Inf b then f32Nan 3 a b else f32InfOf neg)
  else if f32Inf b then f32ZeroOf neg
  else if f32Zero b then (if f32Zero a then f32Nan 3 a b else f32InfOf neg)
  else
    let n := f32Num a * 2 ^ 149
    f32Round (if decide (f32Num b < 0) then -n else n) (f32Num b).natAbs neg

/-- Integer to binary32. -/
def f32OfInt (x : Int) : W32 := f32OfRat x 1

/-- Less-than; false where an operand is a NaN. -/
def f32Lt (a b : W32) : Bool :=
  if f32NaN a || f32NaN b then false
  else
    let v := fun (x : W32) => if f32Inf x then (if f32Neg x then -(2 : Int) ^ 300 * 2 ^ 149 else (2 : Int) ^ 300 * 2 ^ 149) else f32Num x
    decide (v a < v b)

/-- Truncation towards zero of a finite value. -/
def f32Trunc (x : W32) : Int :=
  let n := f32Num x
  if n < 0 then -(((-n).toNat / 2 ^ 149 : Nat) : Int) else ((n.toNat / 2 ^ 149 : Nat) : Int)

end Sys2Proof.Machine
end

