-- ==== Sys2Proof/Machine/Flags.lean ====
section
/-! DEFINITION. Flags and codes computed from conditions: point quality (R26), stored forms (R24, R25), completion statuses (R412). -/

namespace Sys2Proof.Machine

/-- Quality codes (R26). -/
abbrev qGood : Nat := 0
abbrev qLimited : Nat := 1
abbrev qStale : Nat := 2
abbrev qUndelivered : Nat := 3
abbrev qAbsent : Nat := 4
abbrev qForced : Nat := 5

/-- Condition bits of a slot: 0 LIMITED, 1 STALE, 2 UNDELIVERED, 3 ABSENT. -/
abbrev cLimited : Nat := 0
abbrev cStale : Nat := 1
abbrev cUndelivered : Nat := 2
abbrev cAbsent : Nat := 3

/-- The highest code among the conditions present (R26); a forced point reads FORCED. -/
def quality (cond : Nat) (forced : Bool) : Nat :=
  if forced then qForced
  else if cond.testBit cAbsent then qAbsent
  else if cond.testBit cUndelivered then qUndelivered
  else if cond.testBit cStale then qStale
  else if cond.testBit cLimited then qLimited
  else qGood

/-- A bit of a condition mask set or cleared. -/
def condSet (cond i : Nat) (on : Bool) : Nat :=
  if on then (if cond.testBit i then cond else cond + 2 ^ i)
  else (if cond.testBit i then cond - 2 ^ i else cond)

/-- Slots of a point type (R24). -/
def typeSlots (typ : Nat) : Nat := if typ = 5 ∨ typ = 6 then 2 else 1

/-- A 32-bit value fits the stored form of a one-slot type (R24, R25). -/
def fitsType (typ v : Nat) : Bool :=
  if typ = 0 then decide (v < 2)
  else if typ = 1 ∨ typ = 2 then decide (v < 32768 ∨ (4294934528 ≤ v ∧ v < 4294967296))
  else decide (v < 4294967296)

/-- A 64-bit command value is legal for a point type (R25). -/
def valueOk (typ : Nat) (v : Nat) : Bool :=
  if typeSlots typ = 2 then decide (v < 18446744073709551616) else decide (v < 4294967296) && fitsType typ v

/-- Completion statuses (R412). -/
abbrev ST_OK : Nat := 0
abbrev ST_ABORTED : Nat := 1
abbrev ST_ABORT_LATE : Nat := 2
abbrev ST_REFUSED : Nat := 3
abbrev ST_INVALID : Nat := 4
abbrev ST_DISABLED : Nat := 5
abbrev ST_TIMEOUT : Nat := 6
abbrev ST_FAULT : Nat := 7

end Sys2Proof.Machine
end

