-- ==== Sys2Proof/Machine/Events.lean ====
section
/-! DEFINITION. Event codes, names and severities (R258): the event tables of the chapters, each code 64 times its area plus its place. -/

namespace Sys2Proof.Machine

/-- 18_start_retention_update.md. -/
abbrev EV_FAULT_HALT : Nat := 0x000
/-- 18_start_retention_update.md. -/
abbrev EV_POWER_FAIL : Nat := 0x001
/-- 18_start_retention_update.md. -/
abbrev EV_BOOT_FALLBACK : Nat := 0x002
/-- 18_start_retention_update.md. -/
abbrev EV_RETAIN_REPLAY : Nat := 0x003
/-- 18_start_retention_update.md. -/
abbrev EV_ECC_CORRECTED : Nat := 0x004
/-- 18_start_retention_update.md. -/
abbrev EV_DRAM_CORRUPT : Nat := 0x005
/-- 18_start_retention_update.md. -/
abbrev EV_CYCLE_OVERRUN : Nat := 0x006
/-- 18_start_retention_update.md. -/
abbrev EV_COMMIT_LATE : Nat := 0x007
/-- 15_host_rings.md. -/
abbrev EV_HOST_RESET : Nat := 0x040
/-- 15_host_rings.md. -/
abbrev EV_HOST_POWER : Nat := 0x041
/-- 15_host_rings.md. -/
abbrev EV_HOST_HB_LOST : Nat := 0x042
/-- 15_host_rings.md. -/
abbrev EV_RING_ERROR : Nat := 0x043
/-- 15_host_rings.md. -/
abbrev EV_EVQ_LOST : Nat := 0x044
/-- 15_host_rings.md. -/
abbrev EV_HOST_LINK_DEGRADED : Nat := 0x045
/-- 15_host_rings.md. -/
abbrev EV_HOST_LINK_ERROR : Nat := 0x046
/-- 16_commands_and_sluice.md. -/
abbrev EV_CFG_STAGED : Nat := 0x080
/-- 16_commands_and_sluice.md. -/
abbrev EV_CFG_ADMITTED : Nat := 0x081
/-- 16_commands_and_sluice.md. -/
abbrev EV_SLUICE_REFUSED : Nat := 0x082
/-- 16_commands_and_sluice.md. -/
abbrev EV_UNIT_DISABLED : Nat := 0x083
/-- 16_commands_and_sluice.md. -/
abbrev EV_UNIT_ENABLED : Nat := 0x084
/-- 02_races_and_time.md. -/
abbrev EV_RACE_HOLDOVER : Nat := 0x0C0
/-- 02_races_and_time.md. -/
abbrev EV_RACE_LOST : Nat := 0x0C1
/-- 02_races_and_time.md. -/
abbrev EV_RACE_RECOVERED : Nat := 0x0C2
/-- 02_races_and_time.md. -/
abbrev EV_RACE_STEP_LIMIT : Nat := 0x0C3
/-- 02_races_and_time.md. -/
abbrev EV_SEG_LATE : Nat := 0x0C4
/-- 02_races_and_time.md. -/
abbrev EV_DOMAIN_SLEWING : Nat := 0x0C5
/-- 02_races_and_time.md. -/
abbrev EV_DOMAIN_STEP : Nat := 0x0C6
/-- 02_races_and_time.md. -/
abbrev EV_DOMAIN_LOCKED : Nat := 0x0C7
/-- 02_races_and_time.md. -/
abbrev EV_DOMAIN_HOLDOVER : Nat := 0x0C8
/-- 03_cogs_and_placement.md. -/
abbrev EV_COG_MISSED : Nat := 0x100
/-- 03_cogs_and_placement.md. -/
abbrev EV_FO_SPACING : Nat := 0x101
/-- 03_cogs_and_placement.md. -/
abbrev EV_FO_OVERFLOW : Nat := 0x102
/-- 03_cogs_and_placement.md. -/
abbrev EV_GROUP_PACED : Nat := 0x103
/-- 03_cogs_and_placement.md. -/
abbrev EV_BANK_SWAPPED : Nat := 0x104
/-- 03_cogs_and_placement.md. -/
abbrev EV_BANK_DEFERRED : Nat := 0x105
/-- 03_cogs_and_placement.md. -/
abbrev EV_BANK_NODE_MISMATCH : Nat := 0x106
/-- 04_points_and_oczon.md. -/
abbrev EV_NODE_JOINED : Nat := 0x140
/-- 04_points_and_oczon.md. -/
abbrev EV_NODE_REJOINED : Nat := 0x141
/-- 04_points_and_oczon.md. -/
abbrev EV_NODE_DROPPED : Nat := 0x142
/-- 04_points_and_oczon.md. -/
abbrev EV_NODE_LEFT : Nat := 0x143
/-- 04_points_and_oczon.md. -/
abbrev EV_NODE_REPLACED : Nat := 0x144
/-- 04_points_and_oczon.md. -/
abbrev EV_NODE_CONFLICT : Nat := 0x145
/-- 04_points_and_oczon.md. -/
abbrev EV_NODE_MISMATCH : Nat := 0x146
/-- 04_points_and_oczon.md. -/
abbrev EV_NODE_UNKNOWN : Nat := 0x147
/-- 04_points_and_oczon.md. -/
abbrev EV_SWEEP_LATE : Nat := 0x148
/-- 05_loops.md. -/
abbrev EV_LOOP_MODE : Nat := 0x180
/-- 05_loops.md. -/
abbrev EV_LOOP_OVERRIDE : Nat := 0x181
/-- 05_loops.md. -/
abbrev EV_LOOP_PV_BAD : Nat := 0x182
/-- 05_loops.md. -/
abbrev EV_LOOP_PV_GOOD : Nat := 0x183
/-- 05_loops.md. -/
abbrev EV_LOOP_SP_BAD : Nat := 0x184
/-- 05_loops.md. -/
abbrev EV_LOOP_OVERRUN : Nat := 0x185
/-- 06_fantail.md. -/
abbrev EV_FT_RESULT : Nat := 0x1C0
/-- 06_fantail.md. -/
abbrev EV_FT_FROZEN : Nat := 0x1C1
/-- 06_fantail.md. -/
abbrev EV_FT_REJECTED : Nat := 0x1C2
/-- 06_fantail.md. -/
abbrev EV_FT_MODEL_INVALID : Nat := 0x1C3
/-- 06_fantail.md. -/
abbrev EV_FT_CANDIDATE : Nat := 0x1C4
/-- 06_fantail.md. -/
abbrev EV_FT_TEST_ABORTED : Nat := 0x1C5
/-- 06_fantail.md. -/
abbrev EV_FT_HELD_FULL : Nat := 0x1C6
/-- 07_motion.md. -/
abbrev EV_AXIS_OVERSHOOT : Nat := 0x200
/-- 07_motion.md. -/
abbrev EV_AXIS_LIMIT : Nat := 0x201
/-- 07_motion.md. -/
abbrev EV_AXIS_DEVIATION : Nat := 0x202
/-- 07_motion.md. -/
abbrev EV_AXIS_LOST_STEPS : Nat := 0x203
/-- 07_motion.md. -/
abbrev EV_AXIS_FAULT : Nat := 0x204
/-- 07_motion.md. -/
abbrev EV_AXIS_HOMED : Nat := 0x205
/-- 07_motion.md. -/
abbrev EV_AXIS_HOME_FAILED : Nat := 0x206
/-- 07_motion.md. -/
abbrev EV_AXIS_OVERRUN : Nat := 0x207
/-- 07_motion.md. -/
abbrev EV_AXIS_RESTART : Nat := 0x208
/-- 08_analogue.md. -/
abbrev EV_ADC_OVERLAP : Nat := 0x240
/-- 08_analogue.md. -/
abbrev EV_ADC_OVERRANGE : Nat := 0x241
/-- 08_analogue.md. -/
abbrev EV_VREF_FAULT : Nat := 0x242
/-- 08_analogue.md. -/
abbrev EV_CL_FAULT : Nat := 0x243
/-- 08_analogue.md. -/
abbrev EV_CL_COMPLIANCE : Nat := 0x244
/-- 08_analogue.md. -/
abbrev EV_CL_OPEN : Nat := 0x245
/-- 08_analogue.md. -/
abbrev EV_CL_THERMAL : Nat := 0x246
/-- 08_analogue.md. -/
abbrev EV_CL_ALARM : Nat := 0x247
/-- 08_analogue.md. -/
abbrev EV_CL_CAL : Nat := 0x248
/-- 08_analogue.md. -/
abbrev EV_CL_CAL_REFUSED : Nat := 0x249
/-- 08_analogue.md. -/
abbrev EV_DIO_OVERLOAD : Nat := 0x24A
/-- 08_analogue.md. -/
abbrev EV_FIELD_LOW : Nat := 0x24B
/-- 09_capture_and_recording.md. -/
abbrev EV_CAP_CLOSED : Nat := 0x280
/-- 09_capture_and_recording.md. -/
abbrev EV_CAP_LOST : Nat := 0x281
/-- 09_capture_and_recording.md. -/
abbrev EV_TR_SPILL : Nat := 0x282
/-- 09_capture_and_recording.md. -/
abbrev EV_TR_DRAINED : Nat := 0x283
/-- 09_capture_and_recording.md. -/
abbrev EV_TR_GAP : Nat := 0x284
/-- 09_capture_and_recording.md. -/
abbrev EV_LOG_DROPPED : Nat := 0x285
/-- 09_capture_and_recording.md. -/
abbrev EV_LOG_OVERLOAD : Nat := 0x286
/-- 09_capture_and_recording.md. -/
abbrev EV_LOG_THAWED : Nat := 0x287
/-- 09_capture_and_recording.md. -/
abbrev EV_LOG_CLEARED : Nat := 0x288
/-- 10_logic_engines.md. -/
abbrev EV_LOGIC_MODE : Nat := 0x2C0
/-- 10_logic_engines.md. -/
abbrev EV_LOGIC_BREAK : Nat := 0x2C1
/-- 10_logic_engines.md. -/
abbrev EV_LOGIC_SWAPPED : Nat := 0x2C2
/-- 10_logic_engines.md. -/
abbrev EV_LOGIC_STOPPED : Nat := 0x2C3
/-- 10_logic_engines.md. -/
abbrev EV_LOGIC_USER : Nat := 0x2C4
/-- 10_logic_engines.md. -/
abbrev EV_FORCE_SET : Nat := 0x2C5
/-- 10_logic_engines.md. -/
abbrev EV_FORCE_REMOVED : Nat := 0x2C6
/-- 10_logic_engines.md. -/
abbrev EV_FORCE_DROPPED : Nat := 0x2C7
/-- 10_logic_engines.md. -/
abbrev EV_LOGIC_RESTART : Nat := 0x2C8
/-- 11_spindle_programs.md. -/
abbrev EV_SPIN_SWAPPED : Nat := 0x300
/-- 11_spindle_programs.md. -/
abbrev EV_SPIN_BAD_VERDICT : Nat := 0x301
/-- 11_spindle_programs.md. -/
abbrev EV_SPIN_BACKLOG : Nat := 0x302
/-- 12_can_ports.md. -/
abbrev EV_CAN_PASSIVE : Nat := 0x340
/-- 12_can_ports.md. -/
abbrev EV_CAN_BUSOFF : Nat := 0x341
/-- 12_can_ports.md. -/
abbrev EV_CAN_ALONE : Nat := 0x342
/-- 12_can_ports.md. -/
abbrev EV_CAN_RATE_FOUND : Nat := 0x343
/-- 12_can_ports.md. -/
abbrev EV_CAN_TX_LATE : Nat := 0x344
/-- 12_can_ports.md. -/
abbrev EV_CAN_RX_TIMEOUT : Nat := 0x345
/-- 12_can_ports.md. -/
abbrev EV_CAN_RING_FULL : Nat := 0x346
/-- 13_safety.md. -/
abbrev EV_SAFE_DEMAND : Nat := 0x380
/-- 13_safety.md. -/
abbrev EV_SAFE_RUN : Nat := 0x381
/-- 13_safety.md. -/
abbrev EV_SAFE_DISCREPANCY : Nat := 0x382
/-- 13_safety.md. -/
abbrev EV_SAFE_TEST_FAULT : Nat := 0x383
/-- 13_safety.md. -/
abbrev EV_SAFE_OUTPUT_FAULT : Nat := 0x384
/-- 13_safety.md. -/
abbrev EV_SAFE_RAMP_VIOLATION : Nat := 0x385
/-- 13_safety.md. -/
abbrev EV_SAFE_RESET_LONG : Nat := 0x386
/-- 13_safety.md. -/
abbrev EV_SAFE_CHANNEL_FAULT : Nat := 0x387
/-- 13_safety.md. -/
abbrev EV_SAFE_CONFIG : Nat := 0x388
/-- 13_safety.md. -/
abbrev EV_SAFE_CONFIG_MISMATCH : Nat := 0x389
/-- 13_safety.md. -/
abbrev EV_NALAT_RUN : Nat := 0x38A
/-- 13_safety.md. -/
abbrev EV_NALAT_TIMEOUT : Nat := 0x38B
/-- 13_safety.md. -/
abbrev EV_NALAT_FAULT : Nat := 0x38C
/-- 14_redundancy.md. -/
abbrev EV_RED_PAIRED : Nat := 0x3C0
/-- 14_redundancy.md. -/
abbrev EV_RED_SYNCED : Nat := 0x3C1
/-- 14_redundancy.md. -/
abbrev EV_RED_PATH_LOST : Nat := 0x3C2
/-- 14_redundancy.md. -/
abbrev EV_RED_PARTNER_LOST : Nat := 0x3C3
/-- 14_redundancy.md. -/
abbrev EV_RED_SWITCHOVER : Nat := 0x3C4
/-- 14_redundancy.md. -/
abbrev EV_RED_TAKEOVER_REFUSED : Nat := 0x3C5
/-- 14_redundancy.md. -/
abbrev EV_RED_REVERT : Nat := 0x3C6
/-- 14_redundancy.md. -/
abbrev EV_RED_DUAL_ACTIVE : Nat := 0x3C7
/-- 14_redundancy.md. -/
abbrev EV_RED_MISMATCH : Nat := 0x3C8
/-- 14_redundancy.md. -/
abbrev EV_RED_COPY_LATE : Nat := 0x3C9
/-- 18_start_retention_update.md. -/
abbrev EV_UPD_STAGED : Nat := 0x400
/-- 18_start_retention_update.md. -/
abbrev EV_UPD_ARMED : Nat := 0x401
/-- 18_start_retention_update.md. -/
abbrev EV_UPD_ACTIVATED : Nat := 0x402
/-- 18_start_retention_update.md. -/
abbrev EV_UPD_SKIPPED : Nat := 0x403
/-- 18_start_retention_update.md. -/
abbrev EV_UPD_COMMITTED : Nat := 0x404
/-- 18_start_retention_update.md. -/
abbrev EV_UPD_ROLLBACK : Nat := 0x405
/-- 17_hopper.md. -/
abbrev EV_HOP_AGED : Nat := 0x440
/-- 17_hopper.md. -/
abbrev EV_HOP_TRACE_LOST : Nat := 0x441
/-- 17_hopper.md. -/
abbrev EV_EXT_FAULT : Nat := 0x442
/-- 17_hopper.md. -/
abbrev EV_EXT_OVERRUN : Nat := 0x443
/-- 17_hopper.md. -/
abbrev EV_EC_OVERRUN : Nat := 0x444

/-- Part 0 of the catalogue: code, severity, name (R259). -/
def evTable0 : List (Nat × Nat × String) :=
  [(0x000, 7, "EV_FAULT_HALT"),
   (0x001, 7, "EV_POWER_FAIL"),
   (0x002, 6, "EV_BOOT_FALLBACK"),
   (0x003, 3, "EV_RETAIN_REPLAY"),
   (0x004, 3, "EV_ECC_CORRECTED"),
   (0x005, 5, "EV_DRAM_CORRUPT"),
   (0x006, 5, "EV_CYCLE_OVERRUN"),
   (0x007, 4, "EV_COMMIT_LATE"),
   (0x040, 4, "EV_HOST_RESET"),
   (0x041, 2, "EV_HOST_POWER"),
   (0x042, 5, "EV_HOST_HB_LOST"),
   (0x043, 5, "EV_RING_ERROR"),
   (0x044, 3, "EV_EVQ_LOST"),
   (0x045, 5, "EV_HOST_LINK_DEGRADED"),
   (0x046, 5, "EV_HOST_LINK_ERROR"),
   (0x080, 2, "EV_CFG_STAGED"),
   (0x081, 3, "EV_CFG_ADMITTED"),
   (0x082, 4, "EV_SLUICE_REFUSED"),
   (0x083, 3, "EV_UNIT_DISABLED"),
   (0x084, 2, "EV_UNIT_ENABLED"),
   (0x0C0, 5, "EV_RACE_HOLDOVER"),
   (0x0C1, 6, "EV_RACE_LOST"),
   (0x0C2, 4, "EV_RACE_RECOVERED"),
   (0x0C3, 4, "EV_RACE_STEP_LIMIT"),
   (0x0C4, 4, "EV_SEG_LATE"),
   (0x0C5, 4, "EV_DOMAIN_SLEWING"),
   (0x0C6, 4, "EV_DOMAIN_STEP"),
   (0x0C7, 3, "EV_DOMAIN_LOCKED"),
   (0x0C8, 5, "EV_DOMAIN_HOLDOVER"),
   (0x100, 4, "EV_COG_MISSED")]

/-- Part 1 of the catalogue: code, severity, name (R259). -/
def evTable1 : List (Nat × Nat × String) :=
  [(0x101, 4, "EV_FO_SPACING"),
   (0x102, 5, "EV_FO_OVERFLOW"),
   (0x103, 3, "EV_GROUP_PACED"),
   (0x104, 2, "EV_BANK_SWAPPED"),
   (0x105, 4, "EV_BANK_DEFERRED"),
   (0x106, 5, "EV_BANK_NODE_MISMATCH"),
   (0x140, 2, "EV_NODE_JOINED"),
   (0x141, 3, "EV_NODE_REJOINED"),
   (0x142, 5, "EV_NODE_DROPPED"),
   (0x143, 4, "EV_NODE_LEFT"),
   (0x144, 4, "EV_NODE_REPLACED"),
   (0x145, 5, "EV_NODE_CONFLICT"),
   (0x146, 5, "EV_NODE_MISMATCH"),
   (0x147, 2, "EV_NODE_UNKNOWN"),
   (0x148, 3, "EV_SWEEP_LATE"),
   (0x180, 2, "EV_LOOP_MODE"),
   (0x181, 2, "EV_LOOP_OVERRIDE"),
   (0x182, 5, "EV_LOOP_PV_BAD"),
   (0x183, 3, "EV_LOOP_PV_GOOD"),
   (0x184, 4, "EV_LOOP_SP_BAD"),
   (0x185, 6, "EV_LOOP_OVERRUN"),
   (0x1C0, 2, "EV_FT_RESULT"),
   (0x1C1, 2, "EV_FT_FROZEN"),
   (0x1C2, 3, "EV_FT_REJECTED"),
   (0x1C3, 3, "EV_FT_MODEL_INVALID"),
   (0x1C4, 3, "EV_FT_CANDIDATE"),
   (0x1C5, 4, "EV_FT_TEST_ABORTED"),
   (0x1C6, 4, "EV_FT_HELD_FULL"),
   (0x200, 4, "EV_AXIS_OVERSHOOT"),
   (0x201, 5, "EV_AXIS_LIMIT")]

/-- Part 2 of the catalogue: code, severity, name (R259). -/
def evTable2 : List (Nat × Nat × String) :=
  [(0x202, 4, "EV_AXIS_DEVIATION"),
   (0x203, 5, "EV_AXIS_LOST_STEPS"),
   (0x204, 6, "EV_AXIS_FAULT"),
   (0x205, 2, "EV_AXIS_HOMED"),
   (0x206, 5, "EV_AXIS_HOME_FAILED"),
   (0x207, 6, "EV_AXIS_OVERRUN"),
   (0x208, 4, "EV_AXIS_RESTART"),
   (0x240, 4, "EV_ADC_OVERLAP"),
   (0x241, 3, "EV_ADC_OVERRANGE"),
   (0x242, 6, "EV_VREF_FAULT"),
   (0x243, 5, "EV_CL_FAULT"),
   (0x244, 4, "EV_CL_COMPLIANCE"),
   (0x245, 5, "EV_CL_OPEN"),
   (0x246, 5, "EV_CL_THERMAL"),
   (0x247, 5, "EV_CL_ALARM"),
   (0x248, 3, "EV_CL_CAL"),
   (0x249, 3, "EV_CL_CAL_REFUSED"),
   (0x24A, 4, "EV_DIO_OVERLOAD"),
   (0x24B, 6, "EV_FIELD_LOW"),
   (0x280, 2, "EV_CAP_CLOSED"),
   (0x281, 4, "EV_CAP_LOST"),
   (0x282, 4, "EV_TR_SPILL"),
   (0x283, 3, "EV_TR_DRAINED"),
   (0x284, 5, "EV_TR_GAP"),
   (0x285, 5, "EV_LOG_DROPPED"),
   (0x286, 5, "EV_LOG_OVERLOAD"),
   (0x287, 6, "EV_LOG_THAWED"),
   (0x288, 6, "EV_LOG_CLEARED"),
   (0x2C0, 2, "EV_LOGIC_MODE"),
   (0x2C1, 3, "EV_LOGIC_BREAK")]

/-- Part 3 of the catalogue: code, severity, name (R259). -/
def evTable3 : List (Nat × Nat × String) :=
  [(0x2C2, 2, "EV_LOGIC_SWAPPED"),
   (0x2C3, 5, "EV_LOGIC_STOPPED"),
   (0x2C4, 3, "EV_LOGIC_USER"),
   (0x2C5, 3, "EV_FORCE_SET"),
   (0x2C6, 3, "EV_FORCE_REMOVED"),
   (0x2C7, 4, "EV_FORCE_DROPPED"),
   (0x2C8, 3, "EV_LOGIC_RESTART"),
   (0x300, 2, "EV_SPIN_SWAPPED"),
   (0x301, 4, "EV_SPIN_BAD_VERDICT"),
   (0x302, 4, "EV_SPIN_BACKLOG"),
   (0x340, 4, "EV_CAN_PASSIVE"),
   (0x341, 6, "EV_CAN_BUSOFF"),
   (0x342, 4, "EV_CAN_ALONE"),
   (0x343, 2, "EV_CAN_RATE_FOUND"),
   (0x344, 4, "EV_CAN_TX_LATE"),
   (0x345, 5, "EV_CAN_RX_TIMEOUT"),
   (0x346, 4, "EV_CAN_RING_FULL"),
   (0x380, 4, "EV_SAFE_DEMAND"),
   (0x381, 2, "EV_SAFE_RUN"),
   (0x382, 5, "EV_SAFE_DISCREPANCY"),
   (0x383, 5, "EV_SAFE_TEST_FAULT"),
   (0x384, 6, "EV_SAFE_OUTPUT_FAULT"),
   (0x385, 6, "EV_SAFE_RAMP_VIOLATION"),
   (0x386, 3, "EV_SAFE_RESET_LONG"),
   (0x387, 7, "EV_SAFE_CHANNEL_FAULT"),
   (0x388, 3, "EV_SAFE_CONFIG"),
   (0x389, 6, "EV_SAFE_CONFIG_MISMATCH"),
   (0x38A, 2, "EV_NALAT_RUN"),
   (0x38B, 5, "EV_NALAT_TIMEOUT"),
   (0x38C, 5, "EV_NALAT_FAULT")]

/-- Part 4 of the catalogue: code, severity, name (R259). -/
def evTable4 : List (Nat × Nat × String) :=
  [(0x3C0, 2, "EV_RED_PAIRED"),
   (0x3C1, 2, "EV_RED_SYNCED"),
   (0x3C2, 4, "EV_RED_PATH_LOST"),
   (0x3C3, 5, "EV_RED_PARTNER_LOST"),
   (0x3C4, 6, "EV_RED_SWITCHOVER"),
   (0x3C5, 7, "EV_RED_TAKEOVER_REFUSED"),
   (0x3C6, 3, "EV_RED_REVERT"),
   (0x3C7, 7, "EV_RED_DUAL_ACTIVE"),
   (0x3C8, 6, "EV_RED_MISMATCH"),
   (0x3C9, 5, "EV_RED_COPY_LATE"),
   (0x400, 2, "EV_UPD_STAGED"),
   (0x401, 3, "EV_UPD_ARMED"),
   (0x402, 4, "EV_UPD_ACTIVATED"),
   (0x403, 5, "EV_UPD_SKIPPED"),
   (0x404, 3, "EV_UPD_COMMITTED"),
   (0x405, 6, "EV_UPD_ROLLBACK"),
   (0x440, 3, "EV_HOP_AGED"),
   (0x441, 3, "EV_HOP_TRACE_LOST"),
   (0x442, 5, "EV_EXT_FAULT"),
   (0x443, 5, "EV_EXT_OVERRUN"),
   (0x444, 3, "EV_EC_OVERRUN")]

/-- The catalogue of every code the stepping uses (R259). -/
def evTable : List (Nat × Nat × String) := evTable0 ++ evTable1 ++ evTable2 ++ evTable3 ++ evTable4

/-- Severity that the event table of its chapter gives a code (R258). -/
def evSev (code : Nat) : Nat :=
  match evTable.find? (fun e => e.1 == code) with
  | some e => e.2.1
  | none => 0

end Sys2Proof.Machine
end

