-- ==== Sys2Proof/Machine/StAnalogue.lean ====
section
/-! DEFINITION. State of converters, timers, PWM, current loops and digital channels (R215 to R245). -/

namespace Sys2Proof.Machine

/-- One converter sequence (R217 to R222). -/
structure AdcSeq where
  /-- Running: index of the entry in progress. 08_analogue.md R218. Reset none. -/
  running : Option Nat := none
  /-- Start of the run in progress. 08_analogue.md R218. Reset 0. -/
  startAt : Nat := 0
  /-- Result registers, 32 bits each, key entry: CODE, REF_UNSETTLED, OVERRANGE, RUN. 08_analogue.md R221. Reset REF_UNSETTLED. -/
  results : SMap W32 := []
  /-- Runs, wraps; retained. 08_analogue.md R241. Reset 0. -/
  runs : W32 := 0
  /-- OVERLAPS, 32 bits. 08_analogue.md R219, R241. Reset 0. -/
  overlaps : W32 := 0
  /-- Instant of the last EV_ADC_OVERLAP. 08_analogue.md R219. Reset none. -/
  overlapAt : Option Nat := none
  /-- Entries with an open overrange episode. 08_analogue.md R221. Reset none. -/
  ovr : List Nat := []
  /-- DISABLE waits for the end of the running entry. 08_analogue.md R237. Reset 0. -/
  stopping : Bool := false
  /-- End of the last entry of the latest run. 09_capture_and_recording.md R248. Reset none. -/
  endedAt : Option Nat := none
  /-- Instants of the starts that wait out their DELAY, ns of LMT, oldest first. 08_analogue.md R218. Reset none. -/
  starts : List Nat := []
  deriving DecidableEq, Repr

/-- One PWM output (R224, R225). -/
structure Pwm where
  /-- Latest duty written, Q15. 08_analogue.md R225. Reset 0 (DESIGN CHOICE, log 1). -/
  duty : Int := 0
  /-- On-time of the present period, 10 ns counts. 08_analogue.md R225. Reset 0. -/
  on : Nat := 0
  /-- Start of the present period. 08_analogue.md R225. Reset 0. -/
  startAt : Nat := 0
  /-- The generator drives its output (off: IDLE_LEVEL or low). 08_analogue.md R224, R225. Reset 0. -/
  live : Bool := false
  deriving DecidableEq, Repr

/-- Input fault class of a channel (R228). -/
inductive ClClass where
  | ok | low | high
  deriving DecidableEq, Repr

/-- Compliance flag of an output channel (R231). -/
inductive ClFlag where
  | none | short | open'
  deriving DecidableEq, Repr

/-- One current-loop channel (R226 to R237). -/
structure ClChan where
  /-- MODE in force 0 to 3; kept by the front end. 08_analogue.md R226, R232. Reset 0. -/
  mode : Nat := 0
  /-- ALARM_HIGH as stored by the front end. 08_analogue.md R232. Reset 0. -/
  alarmHigh : Bool := false
  /-- The first admitted record has reached the front end since power-on. 08_analogue.md R232. Reset 0. -/
  ruled : Bool := false
  /-- ZERO_UA and SPAN_UA in force; retained. 08_analogue.md R226, R236. Reset 4,000 and 20,000. -/
  zero : Int := 4000
  span : Int := 20000
  /-- RAW, uA. 08_analogue.md R226. Reset 0 (DESIGN CHOICE, log 1). -/
  raw : Int := 0
  /-- VTERM and VSUP, mV. 08_analogue.md R241. Reset 0 (DESIGN CHOICE, log 1). -/
  vterm : Int := 0
  vsup : Int := 0
  /-- Stage temperature, C. 08_analogue.md R241. Reset 0 (DESIGN CHOICE, log 1). -/
  temp : Int := 0
  /-- VAL, Q15. 08_analogue.md R227. Reset 0 (DESIGN CHOICE, log 1). -/
  val : Int := 0
  /-- CMD as the regulator takes it, Q15; retained. 08_analogue.md R229, R243. Reset 0 (DESIGN CHOICE, log 1). -/
  cmd : Int := 0
  /-- Instant CMD was last written. 08_analogue.md R232. Reset 0. -/
  cmdAt : Nat := 0
  /-- Current commanded of the stage, uA. 08_analogue.md R229, R232. Reset 0. -/
  drive : Int := 0
  /-- Fault class; retained. 08_analogue.md R228. Reset none. -/
  cls : ClClass := .ok
  /-- Consecutive updates in FAULT_LOW, FAULT_HIGH and the normal range. 08_analogue.md R228. Reset 0. -/
  nLow : Nat := 0
  nHigh : Nat := 0
  nNorm : Nat := 0
  /-- Compliance flag; retained. 08_analogue.md R231. Reset none. -/
  flag : ClFlag := .none
  /-- Consecutive updates with a shortfall above 120 uA. 06_fantail.md R179. Reset 0. -/
  nFall : Nat := 0
  /-- Consecutive updates: shortfall > 240 uA, clean, OPEN condition. 08_analogue.md R231. Reset 0. -/
  nShort : Nat := 0
  nClean : Nat := 0
  nOpen : Nat := 0
  /-- The supply is held at maximum. 08_analogue.md R231. Reset 0. -/
  supMax : Bool := false
  /-- Supply voltage, mV. 08_analogue.md R230. Reset 0. -/
  supply : Int := 0
  /-- HEADROOM setpoint, Q15 of 32 V; retained. 06_fantail.md R179. Reset 2,048. -/
  headroom : Int := 2048
  /-- THERMAL, and its entry instant. 08_analogue.md R233. Reset 0. -/
  thermal : Bool := false
  thermalAt : Nat := 0
  /-- Alarm current driven, and its direction high. 08_analogue.md R232. Reset 0. -/
  alarm : Bool := false
  alarmDir : Bool := false
  /-- CMD_TIMEOUT has expired. 08_analogue.md R232. Reset 0. -/
  timedOut : Bool := false
  /-- The command was clamped in the last update. 08_analogue.md R229. Reset 0. -/
  clamped : Bool := false
  /-- End of the off period of a mode change, and the MODE to start. 08_analogue.md R237. Reset none. -/
  offUntil : Option (Nat × Nat) := none
  /-- Calibration averaging: kind (0 zero, 1 span), updates left, sum of RAW, by button. 08_analogue.md R235. Reset none. -/
  cal : Option (Nat × Nat × Int × Bool) := none
  /-- CL_ZERO_SPAN waits for the next update: (zero, span). 08_analogue.md R236. Reset none. -/
  zsNext : Option (Int × Int) := none
  deriving DecidableEq, Repr

/-- One digital channel (R238, R239). -/
structure Dio where
  /-- Terminal level at the last sample. 08_analogue.md R238. Reset 0. -/
  level : Bool := false
  /-- Instant since which the level has been stable. 08_analogue.md R238. Reset 0. -/
  since : Nat := 0
  /-- IN, filtered. 08_analogue.md R242. Reset 0 (DESIGN CHOICE, log 1). -/
  inp : Bool := false
  /-- Output on. 08_analogue.md R238. Reset 0: off. -/
  on : Bool := false
  /-- OUT last applied. 08_analogue.md R238. Reset 0. -/
  out : Bool := false
  /-- Overload latch; retained. 08_analogue.md R239. Reset 0. -/
  latched : Bool := false
  /-- Overload instant, and the last restart. 08_analogue.md R239. Reset none. -/
  overAt : Option Nat := none
  restartAt : Option Nat := none
  /-- Only 0-then-1 or DIO_RESET restarts it. 08_analogue.md R239. Reset 0. -/
  hard : Bool := false
  /-- The writer has committed 0 since the latch. 08_analogue.md R239. Reset 0. -/
  sawZero : Bool := false
  /-- COUNT, 32 bits. 08_analogue.md R242. Reset 0. -/
  count : W32 := 0
  deriving DecidableEq, Repr

/-- The analogue and digital section. -/
structure Analogue where
  /-- Sequences 0 to 3. 08_analogue.md R217. Reset none running. -/
  seqs : SMap AdcSeq := []
  /-- PWM0 to PWM15. 08_analogue.md R224. Reset low. -/
  pwms : SMap Pwm := []
  /-- CL0 to CL31. 08_analogue.md R226. Reset as R232 lays down. -/
  cls : SMap ClChan := []
  /-- DIO0 to DIO63. 08_analogue.md R238. Reset off. -/
  dios : SMap Dio := []
  /-- Last ticks of timers 0 to 7, ns of the timer's base. 08_analogue.md R223. Reset 0. -/
  timers : SMap Nat := []
  /-- VREFBUF was last switched on at this LMT. 08_analogue.md R222. Reset 0. -/
  vrefAt : Nat := 0
  /-- The last reference check failed. 08_analogue.md R222. Reset 0. -/
  vrefBad : Bool := false
  /-- ALMSEL as last sampled. 08_analogue.md R232, R241. Reset 0 (open selects low). -/
  almsel : Bool := false
  /-- FIELD_LOW. 08_analogue.md R240. Reset 0. -/
  fieldLow : Bool := false
  /-- PAIRED bit stored by the front end. 20_connectors.md R522. Reset 0. -/
  pairedFe : Bool := false
  deriving DecidableEq, Repr

end Sys2Proof.Machine
end

