-- ==== Sys2Proof/Machine/StHost.lean ====
section
/-! DEFINITION. State of the host interface: registers, rings, commands in flight, entries in host memory (R399 to R425). -/

namespace Sys2Proof.Machine

/-- Power state of the PCI Express function (R399, R420). -/
inductive PwrState where
  | d0 | d3hot | d3cold
  deriving DecidableEq, Repr

/-- One ring of any of the four kinds (R417). -/
structure HostRing where
  /-- 0 command, 1 completion, 2 event, 3 Tailrace buffer. -/
  kind : Nat := 0
  num : Nat := 0
  base : Nat := 0
  size : Nat := 16
  /-- Command ring: the bound completion ring; otherwise the MSI-X vector. -/
  bound : Nat := 0
  prio : Nat := 0
  fetchMax : Nat := 1
  modCount : Nat := 1
  modTime : Nat := 0
  minSev : Nat := 0
  immSev : Nat := 8
  wakeSev : Nat := 8
  areaMask : Nat := 0
  /-- Index of the next entry the producer fills (command, Tailrace: as the last sweep read it). -/
  prod : Nat := 0
  /-- Index of the next entry the consumer takes (completion, event: as the last sweep read it). -/
  cons : Nat := 0
  /-- PHASE of the next entry written (R413). -/
  phase : Bool := true
  /-- Descriptors fetched from the ring since the last sweep (R408). -/
  taken : Nat := 0
  /-- Completion slots reserved and not yet written (R409). -/
  reserved : Nat := 0
  /-- In ERROR: neither fetched nor written (R409). -/
  err : Bool := false
  /-- A RING_DELETE has stopped it (R418). -/
  stopping : Bool := false
  /-- Unsignalled entries (R419). -/
  unsig : Nat := 0
  /-- When the oldest unsignalled entry was written (R419). -/
  unsigSince : Nat := 0
  /-- An unsignalled entry alone makes a message due: event severity at or above IMM_SEV (R419). -/
  unsigNow : Bool := false
  /-- An unsignalled entry may wake the host: completion WAKE or event severity at or above WAKE_SEV (R420). -/
  unsigWake : Bool := false
  /-- Event messages this ring could not hold since the previous one written (R414 LOST). -/
  lost : Nat := 0
  /-- A loss episode is open (R415). -/
  episode : Bool := false
  deriving DecidableEq, Repr

/-- A descriptor fetched whose command has not started yet: its ring and TAG, its fetch instant, the completion ring that holds its slot (R408, R409). -/
structure Fetched where
  ring : Nat
  tag : W32
  at' : Nat
  cpl : Nat
  deriving DecidableEq, Repr

/-- A command in flight: fetched and not yet completed (R408 to R411, R428, R430). -/
structure Flight where
  h : CmdHdr
  /-- OPCODE. -/
  op : Nat
  /-- Unit the command stands on: a unit identifier (R37); 0xF000 system. -/
  unit : Nat := 0xF000
  /-- Completion ring in which its slot is reserved (R409). -/
  cpl : Nat := 0
  /-- Held by FENCE: fetched and not yet started (R410, R430). -/
  held : Bool := false
  /-- LMT of the commit point once reached (R428). -/
  commit : Option Nat := none
  /-- What the command's own rule waits for: a journal entry, a sequence, an instant. -/
  mark : Nat := 0
  /-- RESULT and DETAIL decided so far. -/
  res : Nat := 0
  detail : Nat := 0
  /-- What the command writes to its host buffer, where it is decided before the completion. -/
  out : List Nat := []
  /-- The completion is not written before the standby holds the change (R387). -/
  waitStandby : Bool := false
  /-- A function reset has orphaned it (R422). -/
  orphan : Bool := false
  /-- A POINT_WRITE of a nozzle point that a later write has replaced: its commit writes nothing (R176). -/
  replaced : Bool := false
  deriving DecidableEq, Repr

/-- A completion entry (R412), with what its command wrote to the host buffer. -/
structure Completion where
  ring : Nat          -- completion ring
  slot : Nat := 0
  tag : W32
  op : Nat
  status : Nat
  phase : Bool := true
  orphan : Bool := false
  cmdRing : Nat
  head : Nat := 0
  detail : Nat := 0
  commitLmt : Nat := 0
  result : Nat := 0
  noint : Bool := false
  wake : Bool := false
  inBuf : Bool := false
  /-- The host buffer's contents as written (bytes where the rule gives a byte layout, else the named figures in order). -/
  out : List Nat := []
  deriving DecidableEq, Repr

/-- An event as raised (R260). -/
structure Event where
  code : Nat
  sev : Nat
  cleared : Bool := false
  bootId : Nat := 0
  lmt : Nat := 0
  suppressed : Nat := 0
  unit : Nat := 0
  point : Nat := 0
  params : List Nat := []
  deriving DecidableEq, Repr

/-- An event message on an event ring (R414). -/
structure EvtMsg where
  ring : Nat
  slot : Nat := 0
  ev : Event
  phase : Bool := true
  held : Bool := false
  lost : Nat := 0
  deriving DecidableEq, Repr

/-- A Tailrace buffer descriptor and its write-back (R416). -/
structure TrBuf where
  addr : Nat
  len : Nat
  used : Nat := 0
  firstOfs : Option Nat := none
  firstSeq : Nat := 0
  phase : Bool := true
  early : Bool := false
  flushed : Bool := false
  deriving DecidableEq, Repr

/-- A message sent to the host: an MSI-X vector, a PME message or a WAKE# assertion (R419, R420). -/
inductive HostMsg where
  | msix (t vec : Nat)
  | pme (t : Nat)
  | wake (t : Nat)
  deriving DecidableEq, Repr

/-- The host interface (R399 to R425). -/
structure HostIf where
  /-- HCTL.ADMIN_EN. 1 bit. 15_host_rings.md R404. Reset 0. -/
  adminEn : Bool := false
  /-- HCTL.QUIESCE. 1 bit. 15_host_rings.md R404. Reset 0. -/
  quiesce : Bool := false
  /-- HSTAT.ADMIN_UP. 1 bit. 15_host_rings.md R404. Reset 0. -/
  adminUp : Bool := false
  /-- HSTAT.SETUP_ERR. 1 bit. 15_host_rings.md R404. Reset 0. -/
  setupErr : Bool := false
  /-- HSTAT.SETUP_CODE. 4 bits. 15_host_rings.md R404. Reset 0. -/
  setupCode : Nat := 0
  /-- SULOCK.LOCK, HSTAT.LOCKED. 1 bit. 15_host_rings.md R402, R404. Reset 0. -/
  locked : Bool := false
  /-- HSTAT.HB_LOST. 1 bit. 15_host_rings.md R404, R411. Reset 0. -/
  hbLost : Bool := false
  /-- LMT_HI latch. 32 bits. 15_host_rings.md R402. Reset 0. -/
  lmtHi : W32 := 0
  /-- The last register read's value on the bus. 32 bits. 15_host_rings.md R402. Reset 0 (DESIGN CHOICE, log 1). -/
  readData : W32 := 0
  /-- DBLK_LO. 32 bits. 15_host_rings.md R402. Reset 0. -/
  dblkLo : W32 := 0
  /-- DBLK_HI. 32 bits. 15_host_rings.md R402. Reset 0. -/
  dblkHi : W32 := 0
  /-- SWEEP, the sweep period in us. 7 bits. 15_host_rings.md R402. Reset 2. -/
  sweep : W32 := 2
  /-- HBCFG, the heartbeat timeout in ms. 16 bits. 15_host_rings.md R402. Reset 0. -/
  hbcfg : W32 := 0
  /-- ACQ_LO. 32 bits. 15_host_rings.md R402. Reset 0. -/
  acqLo : W32 := 0
  /-- ACQ_HI. 32 bits. 15_host_rings.md R402. Reset 0. -/
  acqHi : W32 := 0
  /-- ACQ_SIZE. 17 bits. 15_host_rings.md R402. Reset 0. -/
  acqSize : W32 := 0
  /-- ACMP_LO. 32 bits. 15_host_rings.md R402. Reset 0. -/
  acmpLo : W32 := 0
  /-- ACMP_HI. 32 bits. 15_host_rings.md R402. Reset 0. -/
  acmpHi : W32 := 0
  /-- ACMP_SIZE. 17 bits. 15_host_rings.md R402. Reset 0. -/
  acmpSize : W32 := 0
  /-- ACMP_VEC. 7 bits. 15_host_rings.md R402. Reset 0. -/
  acmpVec : W32 := 0
  /-- EVR0_LO. 32 bits. 15_host_rings.md R402. Reset 0. -/
  evrLo : W32 := 0
  /-- EVR0_HI. 32 bits. 15_host_rings.md R402. Reset 0. -/
  evrHi : W32 := 0
  /-- EVR0_SIZE. 17 bits. 15_host_rings.md R402. Reset 0. -/
  evrSize : W32 := 0
  /-- EVR0_VEC. 7 bits. 15_host_rings.md R402. Reset 0. -/
  evrVec : W32 := 0
  /-- Doorbell block address in force since the last sweep. 64 bits. 15_host_rings.md R405. Reset 0. -/
  dblkNow : Nat := 0
  /-- Sweep period in force since the last sweep, us. 15_host_rings.md R405. Reset 2. -/
  sweepNow : Nat := 2
  /-- Heartbeat timeout in force since the last sweep, ms. 15_host_rings.md R405. Reset 0. -/
  hbNow : Nat := 0
  /-- First instant a sweep may start, ns of LMT. 15_host_rings.md R405. Reset 0. -/
  sweepFrom : Nat := 0
  /-- Heartbeat word of the last sweep. 32 bits. 15_host_rings.md R411. Reset 0 (DESIGN CHOICE, log 1). -/
  hbWord : W32 := 0
  /-- Instant the heartbeat word last changed. 15_host_rings.md R411. Reset 0. -/
  hbSince : Nat := 0
  /-- Power state of the function. 15_host_rings.md R420. Reset D0 (PRESUMED, the PCI power-on state, log 1). -/
  power : PwrState := .d0
  /-- Bus Master Enable. 1 bit. 15_host_rings.md R400. Reset 0 (PRESUMED, PCI's value, log 1). -/
  bme : Bool := false
  /-- PME_En. 1 bit. 15_host_rings.md R420. Reset 0 (PRESUMED, PCI's value, log 1). -/
  pmeEn : Bool := false
  /-- PME_Status. 1 bit. 15_host_rings.md R420. Reset 0 (PRESUMED, PCI's value, log 1). -/
  pmeStatus : Bool := false
  /-- WAKE# asserted. 1 bit. 15_host_rings.md R420, 20_connectors.md R502. Reset 0. -/
  wakeOut : Bool := false
  /-- PERST# deasserted: the link may train. 20_connectors.md R502. Reset 0. -/
  perstHigh : Bool := false
  /-- Instant by which configuration requests must be answered. 20_connectors.md R502. Reset 0. -/
  cfgReadyBy : Nat := 0
  /-- Link rate, tenths of GT/s; 0 not trained. 15_host_rings.md R401. Reset 0. -/
  linkRate : Nat := 0
  /-- Link width in lanes. 15_host_rings.md R401. Reset 0. -/
  linkWidth : Nat := 0
  /-- The four kinds of rings, key KIND x 64 + RING. 15_host_rings.md R405, R417. Reset none. -/
  rings : SMap HostRing := []
  /-- Descriptors fetched whose command has not started yet, in fetch order. 15_host_rings.md R408. Reset none. -/
  fetched : List Fetched := []
  /-- Completion ring that holds the slot of the command that starts. 15_host_rings.md R409. Reset 0 (the model's own, log 245). -/
  cplNow : Nat := 0
  /-- MSI-X Function Mask. 1 bit. 15_host_rings.md R419. Reset 0 (PRESUMED, PCI's value, log 1). -/
  funcMask : Bool := false
  /-- MSI-X mask bit of each vector, listed where clear. 128 bits. 15_host_rings.md R399, R419. Reset set (PRESUMED, PCI's value, log 1). -/
  unmasked : List Nat := []
  /-- Pending Bit Array: vectors whose message waits. 128 bits. 15_host_rings.md R419. Reset 0. -/
  pba : List Nat := []
  /-- Messages sent, newest last. 15_host_rings.md R419, R420. Reset none. -/
  sent : List HostMsg := []
  /-- Completion entries in host memory, written and not yet consumed. 15_host_rings.md R412. Reset none. -/
  cpls : List Completion := []
  /-- Event messages in host memory, written and not yet consumed. 15_host_rings.md R414. Reset none. -/
  evts : List EvtMsg := []
  /-- Completions held out of D0 (R421). 15_host_rings.md R420. Reset none. -/
  heldCpls : List Completion := []
  /-- Event messages held out of D0 (R421). 15_host_rings.md R420. Reset none. -/
  heldEvts : List EvtMsg := []
  /-- Completions held after a function reset, for ring 0 with ORPHAN. 15_host_rings.md R422. Reset none. -/
  orphans : List Completion := []
  /-- Event messages held after a function reset, for ring 0 with HELD. 15_host_rings.md R422. Reset none. -/
  orphanEvts : List EvtMsg := []
  /-- EV_HOST_RESET is still to be written first: the reset cause. 15_host_rings.md R422. Reset none. -/
  resetCause : Option Nat := none
  /-- Event messages a function reset dropped. 15_host_rings.md R422. Reset 0. -/
  droppedEvts : Nat := 0
  /-- Tailrace buffers given by the host and not yet returned, key channel. 15_host_rings.md R416. Reset none. -/
  trBufs : SMap (List TrBuf) := []
  /-- Tailrace buffers returned, in order, as (channel, write-back). 15_host_rings.md R416. Reset none. -/
  trDone : List (Nat × TrBuf) := []
  deriving DecidableEq, Repr

end Sys2Proof.Machine
end

