-- ==== Sys2Proof/Machine/StEvents.lean ====
section
/-! DEFINITION. State of the event log, its buckets and its freeze (R258 to R265), and of Tailrace (R266 to R274). -/

namespace Sys2Proof.Machine

/-- A token bucket of one event code (R261). -/
structure Bucket where
  /-- Tokens in units of 10^-9. -/
  tokens : Nat
  /-- Instant up to which tokens have been added. -/
  at' : Nat
  suppressed : Nat := 0
  deriving DecidableEq, Repr

/-- A held log record (R263, R264). -/
structure LogRec where
  seq : Nat
  ev : Event
  reserve : Bool := false
  durable : Bool := false
  deriving DecidableEq, Repr

/-- The event log (R261 to R265). -/
structure EvLog where
  /-- Token bucket of each code that has met one since the start. 09_capture_and_recording.md R261. Reset full (none listed). -/
  buckets : SMap Bucket := []
  /-- Held records, oldest first; retained. 09_capture_and_recording.md R263, R264. Reset none. -/
  recs : List LogRec := []
  /-- Next sequence number, 64 bits; retained. 09_capture_and_recording.md R264. Reset 0 (DESIGN CHOICE, log 1). -/
  nextSeq : Nat := 0
  /-- DROPPED. 32 bits, wraps. 09_capture_and_recording.md R261, R263, R275. Reset 0 (DESIGN CHOICE, log 1). -/
  dropped : W32 := 0
  /-- A drop episode is open. 09_capture_and_recording.md R263. Reset 0. -/
  episode : Bool := false
  /-- Records written in the present whole second of LMT. 09_capture_and_recording.md R261. Reset 0. -/
  secCount : Nat := 0
  /-- The present whole second of LMT. 09_capture_and_recording.md R261. Reset 0. -/
  sec : Nat := 0
  /-- EV_LOG_OVERLOAD has been reported for this second. 09_capture_and_recording.md R261. Reset 0. -/
  overload : Bool := false
  /-- The log is frozen; retained. 09_capture_and_recording.md R265. Reset 0. -/
  frozen : Bool := false
  /-- Instant of the freeze. 09_capture_and_recording.md R265. Reset 0. -/
  frozenAt : Nat := 0
  /-- Freeze counters of severities 0 to 7; retained. 09_capture_and_recording.md R265. Reset 0. -/
  counters : List Nat := [0, 0, 0, 0, 0, 0, 0, 0]
  /-- Freeze reserve, at most 256 entries; retained. 09_capture_and_recording.md R265. Reset none. -/
  reserve : List Event := []
  /-- Severity 7 records counted but not reserved. 09_capture_and_recording.md R265. Reset 0. -/
  notReserved : Nat := 0
  /-- Events held during a runtime restart, each with whether it is to be logged, at most 4,096. 18_start_retention_update.md R486. Reset none. -/
  held : List (Event × Bool) := []
  deriving DecidableEq, Repr

/-- State of a Tailrace channel (R271). -/
inductive TrState where
  | stopped | running | spilling | draining
  deriving DecidableEq, Repr

/-- A Tailrace record (R267): type, instant, stamps and body. -/
structure TrRec where
  len : Nat
  typ : Nat
  flags : Nat := 0
  lmt : Nat := 0
  bootId : Nat := 0
  seq : W32 := 0
  stamps : List (List Nat) := []
  body : List Nat := []
  deriving DecidableEq, Repr

/-- A loss not yet told by a GAP record (R271). -/
structure TrGap where
  records : Nat
  bytes : Nat
  first : Nat
  last : Nat
  reason : Nat
  deriving DecidableEq, Repr

/-- A LOOP_TRACE record whose entries wait for their verdicts (R272, R320). -/
structure TraceWait where
  /-- Frame start, the record's instant. -/
  at' : Nat
  /-- Verdicts still to come. -/
  left : Nat
  /-- Entries kept so far: place in the record and the entry's fields. -/
  kept : List (Nat × List Nat) := []
  /-- Places of the entries whose verdicts are still to come, in order. -/
  places : List (Nat × List Nat) := []
  deriving DecidableEq, Repr

/-- One Tailrace channel (R266 to R274). -/
structure TrChan where
  /-- Channel state; retained. 09_capture_and_recording.md R271. Reset STOPPED. -/
  st : TrState := .stopped
  /-- SEQ of the next record, 32 bits; retained. 09_capture_and_recording.md R267. Reset 0 (DESIGN CHOICE, log 1). -/
  seq : W32 := 0
  /-- Records in the spill, oldest first; lost at power loss. 09_capture_and_recording.md R271. Reset none. -/
  spill : List TrRec := []
  /-- Bytes in the spill. 09_capture_and_recording.md R271, R275. Reset 0. -/
  spillBytes : Nat := 0
  /-- Loss waiting for its GAP record. 09_capture_and_recording.md R271. Reset none. -/
  gap : Option TrGap := none
  /-- GAPS. 32 bits, wraps. 09_capture_and_recording.md R275. Reset 0. -/
  gaps : W32 := 0
  /-- LOST_RECORDS. 32 bits, wraps. 09_capture_and_recording.md R275. Reset 0. -/
  lostRecords : W32 := 0
  /-- LMT of the oldest record in the buffer being filled. 09_capture_and_recording.md R270. Reset none. -/
  oldest : Option Nat := none
  /-- Records written to host buffers, oldest first. 09_capture_and_recording.md R267, R269. Reset none. -/
  outRecs : List TrRec := []
  /-- Last status block recorded, key segment and node. 09_capture_and_recording.md R267. Reset none. -/
  nodeSeen : SMap (List Nat) := []
  /-- Samples of each traced loop since its last trace, key loop. 09_capture_and_recording.md R266. Reset none. -/
  traceCnt : SMap Nat := []
  /-- Loop-trace records whose entries wait for verdicts, oldest first. 09_capture_and_recording.md R272, 11_spindle_programs.md R320. Reset none. -/
  wait : List TraceWait := []
  /-- Records of each counted source in the present second, key type. 09_capture_and_recording.md R271, R273. Reset none. -/
  counts : SMap Nat := []
  /-- The second that `counts` belongs to. 09_capture_and_recording.md R271. Reset 0. -/
  countSec : Nat := 0
  deriving DecidableEq, Repr

end Sys2Proof.Machine
end

