-- ==== Sys2Proof/Machine/StHopper.lean ====
section
/-! DEFINITION. State of the Hopper scheduler, the extension partition and the event concentrator (R447 to R466). -/

namespace Sys2Proof.Machine

/-- State of a Hopper task (R450). -/
inductive HopState where
  | dormant | waiting | ready | running | faulted
  deriving DecidableEq, Repr

/-- One Hopper task (R447 to R455). -/
structure HopTask where
  /-- State; retained. 17_hopper.md R450, R465. Reset DORMANT. -/
  st : HopState := .dormant
  /-- Event flags, 32 bits; retained. 17_hopper.md R449. Reset 0. -/
  flags : W32 := 0
  /-- Flag settings held back by MIN_GAP, and the instant they may be taken. 17_hopper.md R455. Reset none. -/
  heldFlags : W32 := 0
  /-- The present run or readiness is aged. 17_hopper.md R452. Reset 0. -/
  aged : Bool := false
  /-- Deal at which it became ready, end of deal in ns (WAIT statistics, AGE_LIMIT). 17_hopper.md R451, R452. Reset 0. -/
  readyAt : Nat := 0
  /-- Its place in the order: the deal at which it counts as ready. 17_hopper.md R451, R452. Reset 0. -/
  orderAt : Nat := 0
  /-- The run has been dispatched: it executes or is preempted. 17_hopper.md R451. Reset 0. -/
  started : Bool := false
  /-- A release has been handed to the engine and has not started (logic event task). 17_hopper.md R450. Reset 0. -/
  released : Bool := false
  /-- Core time used by the present run, ns. 17_hopper.md R455. Reset 0. -/
  coreNs : Nat := 0
  /-- Instant since which the run executes without a break. 17_hopper.md R455. Reset 0. -/
  since : Nat := 0
  /-- Last release (MIN_GAP). 17_hopper.md R455. Reset none. -/
  lastRel : Option Nat := none
  /-- READIES, RUNS, AGED since start, 64 bits each. 17_hopper.md R466. Reset 0. -/
  readies : Nat := 0
  runs : Nat := 0
  agedRuns : Nat := 0
  /-- LONGEST and MAX_WAIT, ns. 17_hopper.md R466. Reset 0. -/
  longest : Nat := 0
  maxWait : Nat := 0
  deriving DecidableEq, Repr

/-- What the present deal has still to take (R448). -/
inductive HopReq where
  | flags (task : Nat) (bits : W32)
  | cancel (task : Nat)
  | runEnd (task : Nat)
  | start (task : Nat)
  | stop (task : Nat) (aged : Bool)
  | fault (task : Nat) (aged : Bool)
  | overrun (task : Nat)
  | engineStart (task engine : Nat)
  deriving DecidableEq, Repr

/-- A deal record (R454). -/
structure DealRec where
  seq : Nat
  lmt : Nat
  task : Nat
  action : Nat
  prio : Nat
  where' : Nat
  flags : Nat
  flag : Nat
  deriving DecidableEq, Repr

/-- One concentrator source (R457, R460). -/
structure EcSource where
  /-- Latched or pending. 17_hopper.md R460, R461. Reset 0. -/
  pending : Bool := false
  /-- Claimed by a core and not completed. 17_hopper.md R460. Reset none. -/
  claimed : Option Nat := none
  /-- A new edge was latched, or a level holds, during handling. 17_hopper.md R460. Reset 0. -/
  again : Bool := false
  /-- The condition of a level source holds. 17_hopper.md R457. Reset 0. -/
  level : Bool := false
  /-- Edges merged while unclaimed, counted to the core that claims. 17_hopper.md R460. Reset 0. -/
  merged : Nat := 0
  /-- An edge arrived while the fabric clocks were stopped. 17_hopper.md R461. Reset 0. -/
  held : Bool := false
  /-- Instant of the last EV_EC_OVERRUN. 17_hopper.md R460. Reset none. -/
  toldAt : Option Nat := none
  deriving DecidableEq, Repr

/-- One core's concentrator block (R459). -/
structure EcCore where
  /-- THRESHOLD. 4 bits. 17_hopper.md R459. Reset 0xF. -/
  threshold : Nat := 15
  /-- OVERRUNS. 32 bits, saturates. 17_hopper.md R459. Reset 0. -/
  overruns : Nat := 0
  /-- Value the core's last register read or environment call returned. 17_hopper.md R459, R463. Reset 0 (DESIGN CHOICE, log 1). -/
  result : Nat := 0
  /-- a0 of the last environment call: a completion status. 17_hopper.md R463. Reset 0 (DESIGN CHOICE, log 1). -/
  a0 : Nat := 0
  deriving DecidableEq, Repr

/-- Hopper, the extension partition and the event concentrator. -/
structure Hopper where
  /-- Tasks 0 to 1023. 17_hopper.md R447. Reset DORMANT. -/
  tasks : SMap HopTask := []
  /-- What arrived since the last deal, oldest first. 17_hopper.md R448. Reset none. -/
  reqs : List HopReq := []
  /-- Trace ring, oldest first, at most 65,536. 17_hopper.md R454. Reset none. -/
  trace : List DealRec := []
  /-- Sequence of the next deal record, 64 bits. 17_hopper.md R454. Reset 0 (DESIGN CHOICE, log 1). -/
  nextSeq : Nat := 0
  /-- Task executing on each extension core, key core 4 to 7. 17_hopper.md R451. Reset none. -/
  onCore : SMap Nat := []
  /-- End of the last deal: period ticks after it are still to come. 17_hopper.md R448, R449. Reset 0. -/
  dealAt : Nat := 0
  /-- Extension image in the programs region of MRAM; retained. 17_hopper.md R462. Reset none. -/
  image : Bytes := []
  /-- Extension image in the extension partition of DRAM. 17_hopper.md R462, R465. Reset none. -/
  partition : Bytes := []
  /-- Concentrator sources 1 to 511. 17_hopper.md R457. Reset not pending. -/
  sources : SMap EcSource := []
  /-- Concentrator blocks, key core 0 to 7. 17_hopper.md R459. Reset THRESHOLD 0xF. -/
  cores : SMap EcCore := []
  deriving DecidableEq, Repr

end Sys2Proof.Machine
end

