-- ==== Sys2Proof/Machine/StRed.lean ====
section
/-! DEFINITION. State of the redundant pair (R380 to R396). -/

namespace Sys2Proof.Machine

/-- Role of the module (R381); `single` is an unpaired module, `starting` waits for a partner. -/
inductive Role where
  | single | starting | active | syncing | standby | blocked
  deriving DecidableEq, Repr

/-- What the module last heard from its partner (R383). -/
structure Partner where
  role : Role := .starting
  health : Nat := 0
  epoch : Nat := 0
  variantS : Bool := true
  stepping : Nat := 0
  unit : Nat := 0
  mac : Nat := 0
  /-- Its domain 0 is LOCKED or FREE. -/
  dom0 : Bool := false
  /-- Its update state as heard on the link, in the order of R483 (R494). -/
  upd : Nat := 0
  /-- Copy format that it declares on the link; none before it is heard there (R485). -/
  copyFmt : Option Nat := none
  deriving DecidableEq, Repr

/-- One heartbeat path (R383). -/
structure Path where
  /-- LMT of the last heartbeat received. 14_redundancy.md R383. Reset none. -/
  heardAt : Option Nat := none
  /-- The path is silent and EV_RED_PATH_LOST is open. 14_redundancy.md R383. Reset 0. -/
  silent : Bool := false
  deriving DecidableEq, Repr

/-- A heartbeat sent: path (0 link, 1 port A), instant, from the PAIR_MAC (announce), role, health, epoch (R122, R383, R389). -/
structure HbSent where
  path : Nat
  at' : Nat
  port : Nat := 1
  announce : Bool := false
  role : Role
  health : Nat
  epoch : Nat
  /-- It asks for a planned switch (R393). -/
  ask : Bool := false
  /-- Update state and copy format declared on the link (R485, R494). -/
  upd : Nat := 0
  copyFmt : Nat := 0
  deriving DecidableEq, Repr

/-- A delta block received and not yet applied (R385, R387): kind, key, contents. -/
structure DeltaBlk where
  kind : Nat
  key : Nat
  cycle : Nat
  complete : Bool
  data : List (Nat × Nat)
  deriving DecidableEq, Repr

/-- The redundant pair (R380 to R396). -/
structure Red where
  /-- Role; retained as a preference. 14_redundancy.md R381. Reset single. -/
  role : Role := .single
  /-- Redundancy epoch, EPOCH of R57, 8 bits; retained. 14_redundancy.md R389. Reset 0 (DESIGN CHOICE, log 1). -/
  epoch : Nat := 0
  /-- Start of PAIR_WAIT, ns of LMT. 14_redundancy.md R381. Reset 0. -/
  waitFrom : Nat := 0
  /-- Redundancy link path. 14_redundancy.md R383. Reset not heard. -/
  link : Path := {}
  /-- Field port A path. 14_redundancy.md R383. Reset not heard. -/
  portA : Path := {}
  /-- The partner as last heard. 14_redundancy.md R383. Reset none. -/
  partner : Option Partner := none
  /-- The partner has been declared failed. 14_redundancy.md R384. Reset 0. -/
  partnerLost : Bool := false
  /-- HEALTH 0, 1 or 2 as sent. 14_redundancy.md R383, R384. Reset 0. -/
  health : Nat := 0
  /-- HEALTH 2 has been sent on the link and on port A. 14_redundancy.md R384. Reset 0. -/
  faultSent : List Bool := [false, false]
  /-- SWITCHES, 32 bits. 14_redundancy.md R396. Reset 0. -/
  switches : W32 := 0
  /-- Time and cause of the last switch-over (0 none, 1 failure, 2 planned). 14_redundancy.md R394. Reset none. -/
  lastAt : Nat := 0
  lastCause : Nat := 0
  /-- Revert inhibit; retained. 14_redundancy.md R393. Reset 0. -/
  inhibit : Bool := false
  /-- STANDBY with HEALTH 0 and both paths heard since. 14_redundancy.md R393. Reset none. -/
  goodSince : Option Nat := none
  /-- The module asks its partner for a planned switch. 14_redundancy.md R393. Reset 0. -/
  asking : Bool := false
  /-- S of the planned switch that took the active role away: frames of commits before it are still launched. 14_redundancy.md R392. Reset none. -/
  gaveAt : Option Nat := none
  /-- Planned switch instant S. 14_redundancy.md R392. Reset none. -/
  planned : Option Nat := none
  /-- Declaration instant D of a takeover: first segments, updates and commits count from it. 14_redundancy.md R389. Reset none. -/
  tookAt : Option Nat := none
  /-- SYNC_PCT. 14_redundancy.md R396. Reset 0. -/
  syncPct : Nat := 0
  /-- A full copy has begun. 14_redundancy.md R386. Reset 0. -/
  copying : Bool := false
  /-- COPY_LOAD, 1/10,000 of the link. 14_redundancy.md R396. Reset 0. -/
  copyLoad : Nat := 0
  /-- Delta blocks held. 14_redundancy.md R385. Reset none. -/
  blocks : List DeltaBlk := []
  /-- Blocks asked to be resent. 14_redundancy.md R387. Reset 0. -/
  resends : Nat := 0
  /-- Heartbeats sent, oldest first. 14_redundancy.md R383, R122. Reset none. -/
  sent : List HbSent := []
  /-- Port A unit MAC address, 48 bits. 14_redundancy.md R382. Reset 0 (DESIGN CHOICE, log 2). -/
  mac : Nat := 0
  /-- Stepping of the module. 00_scope.md R1, R4. Reset 0xB0. -/
  stepping : Nat := 0xB0
  /-- Mismatch last reported: 0 none, 1 variant, 2 stepping, 3 same PAIR_UNIT. 14_redundancy.md R382. Reset 0. -/
  mismatch : Nat := 0
  /-- BLOCKED because the partner declares another copy format. 18_start_retention_update.md R485. Reset 0. -/
  fmtBlock : Bool := false
  /-- SEQ of the next pair heartbeat, 32 bits. 04_points_and_oczon.md R122. Reset 0 (DESIGN CHOICE, log 1). -/
  hbSeq : W32 := 0
  /-- One-way delay of the port A path, ns, where it is known. 04_points_and_oczon.md R123. Reset none. -/
  hbDelay : Option Int := none
  /-- Mirrored partner points, key point index of local node 0, or 0x1000 + index of node 3. 14_redundancy.md R396. Reset none. -/
  mirror : SMap W32 := []
  /-- ACTIVE bit of the drive links. 14_redundancy.md R391, 07_motion.md R187. Reset 0. -/
  driveActive : Bool := false
  deriving DecidableEq, Repr

end Sys2Proof.Machine
end

