-- ==== Sys2Proof/Machine/StSafety.lean ====
section
/-! DEFINITION. State of the safety channels and the Nalat layer (R349 to R377). -/

namespace Sys2Proof.Machine

/-- State of the safety layer, LAYER [1:0] (R375). -/
inductive LayerState where
  | notFitted | selfTest | running | halt
  deriving DecidableEq, Repr

/-- One leg of a safety input pair, as one channel sees it (R353, R354). -/
structure Leg where
  /-- Filtered state, true closed. 13_safety.md R353. Reset open (DESIGN CHOICE, log 1). -/
  closed : Bool := false
  /-- Consecutive samples that agree with the other state. 13_safety.md R353. Reset 0. -/
  run : Nat := 0
  /-- TEST_FAULT, kept in the channels' stores. 13_safety.md R354, R377. Reset 0. -/
  testFault : Bool := false
  /-- Pulse tests passed in a row. 13_safety.md R356. Reset 0. -/
  passed : Nat := 0
  deriving DecidableEq, Repr

/-- One safety pair (R352 to R356). -/
structure Pair where
  a : Leg := {}
  b : Leg := {}
  /-- Disagreement count. 13_safety.md R355. Reset 0. -/
  count : Nat := 0
  /-- DISC_FAULT latch, kept in the channels' stores. 13_safety.md R356, R377. Reset 0. -/
  disc : Bool := false
  /-- Progress of clearing a latch: 0 none, 1 both legs have shown demand, 2 released since. 13_safety.md R356. Reset 0. -/
  clearing : Nat := 0
  /-- Guard test: 0 not yet, 1 demanded on both legs, 2 tested. 13_safety.md R360. Reset 0. -/
  guard : Nat := 0
  deriving DecidableEq, Repr

/-- One safety output (R357). -/
structure SafeOut where
  /-- Channel A and channel B command on. 13_safety.md R357. Reset 0. -/
  aOn : Bool := false
  bOn : Bool := false
  /-- Readback failures in a row. 13_safety.md R357. Reset 0. -/
  bad : Nat := 0
  /-- FAULT latch, kept in the channels' stores. 13_safety.md R357, R377. Reset 0. -/
  fault : Bool := false
  /-- Readback correct since, with the output commanded off. 13_safety.md R357. Reset none. -/
  goodFrom : Option Nat := none
  /-- Functions naming the output whose reset edge has arrived since the readback was correct for 1 s. 13_safety.md R357. Reset none. -/
  edges : List Nat := []
  /-- Switch opened for its test in this cycle: 0 and 1 channels A and B of SOoP, 2 and 3 of SOoM. 13_safety.md R357. Reset none. -/
  dip : Option Nat := none
  /-- Switch to be tested next, and LMT from which the 250 ms to it count. 13_safety.md R357. Reset 0. -/
  dipNext : Nat := 0
  dipAt : Nat := 0
  deriving DecidableEq, Repr

/-- State of a safety function (R359). -/
inductive FnState where
  | startTest | safe | ready | stopping | run
  deriving DecidableEq, Repr

/-- One safety function as one channel evaluates it (R358 to R364). -/
structure SafeFn where
  /-- State. 13_safety.md R359. Reset SAFE. -/
  st : FnState := .safe
  /-- Reason of the last SAFE entry. 13_safety.md R375. Reset 0. -/
  reason : Nat := 0
  /-- Latch of reason 5 or 6, kept in the channels' stores. 13_safety.md R362, R377. Reset 0. -/
  latch : Bool := false
  /-- Demand instant of a stop in progress. 13_safety.md R361. Reset 0. -/
  demandAt : Nat := 0
  /-- Cycles since the demand, v0, cycles at zero, cycles over the limit, cycles differing. 13_safety.md R362. Reset 0. -/
  k : Nat := 0
  v0 : Nat := 0
  nZero : Nat := 0
  nOver : Nat := 0
  nDiff : Nat := 0
  /-- Torque has been removed. 13_safety.md R361. Reset 1. -/
  torqueOff : Bool := true
  /-- Speed, ticks/s. 13_safety.md R362, R375. Reset 0. -/
  speed : Int := 0
  /-- DEMANDS, 32 bits. 13_safety.md R375. Reset 0. -/
  demands : W32 := 0
  /-- INPUTS: bit i set while input i is released. 13_safety.md R375. Reset 0. -/
  inputs : Nat := 0
  deriving DecidableEq, Repr

/-- A reset source (R363), key: leg number, or 256 x connection + bit + 4,096. -/
structure ResetSrc where
  closed : Bool := true
  /-- It has opened since the layer started. -/
  seenOpen : Bool := false
  since : Nat := 0
  /-- EV_SAFE_RESET_LONG has been reported for this closure. -/
  long : Bool := false
  deriving DecidableEq, Repr

/-- State of a Nalat connection (R369). -/
inductive ConnState where
  | off | starting | run | timeout | fault
  deriving DecidableEq, Repr

/-- One Nalat connection (R365 to R370). -/
structure Conn where
  /-- State. 13_safety.md R369. Reset not configured. -/
  st : ConnState := .off
  /-- Last accepted SEQ (consumer), or SEQ of the last frame (producer). 13_safety.md R366. Reset 0. -/
  seq : W32 := 0
  /-- Last PROD_TIME. 13_safety.md R366. Reset 0. -/
  prodTime : W32 := 0
  /-- OFS samples, newest first, at most 1,024. 13_safety.md R369. Reset none. -/
  ofs : List Nat := []
  /-- Consecutive accepted frames in STARTING. 13_safety.md R369. Reset 0. -/
  good : Nat := 0
  /-- LMT of the last accepted frame. 13_safety.md R369. Reset 0. -/
  lastAt : Nat := 0
  /-- FS in the last accepted frame. 13_safety.md R375. Reset 0. -/
  fs : Bool := false
  /-- Data of the last accepted frame, words. 13_safety.md R369. Reset none. -/
  data : List W32 := []
  /-- A frame has been accepted since the connection last started, so a last accepted SEQ exists. 13_safety.md R369. Reset 0. -/
  has : Bool := false
  /-- The block as last read: a frame is judged once. 13_safety.md R369. Reset none. -/
  seen : List W32 := []
  /-- PROD_TIME less the module's own clock after a switch-over, us. 13_safety.md R370. Reset 0. -/
  shift : Int := 0
  /-- ERRORS, 32 bits. 13_safety.md R375. Reset 0. -/
  errors : W32 := 0
  /-- Frames produced since the producer's start (START and FS while below 8). 13_safety.md R368. Reset 0. -/
  produced : Nat := 0
  deriving DecidableEq, Repr

/-- One of the two channels: its own samples, evaluation and commands (R349). -/
structure SafeChan where
  /-- Raw terminal states SI0 to SI23 of the last sample, bit i set while closed. 13_safety.md R349. Reset 0 (DESIGN CHOICE, log 1). -/
  si : Nat := 0
  /-- Readback of TP0 to TP3 of the last sample, bit n set while TPn is high. 13_safety.md R349. Reset 0 (DESIGN CHOICE, log 1). -/
  tp : Nat := 0
  /-- Readback of SO0 to SO7 of the last sample, bit o for SOoP, bit o + 8 for SOoM. 13_safety.md R349. Reset 0 (DESIGN CHOICE, log 1). -/
  so : Nat := 0
  /-- Pairs 0 to 11. 13_safety.md R352. Reset open. -/
  pairs : SMap Pair := []
  /-- Functions 0 to 127. 13_safety.md R358. Reset SAFE. -/
  fns : SMap SafeFn := []
  /-- Reset sources. 13_safety.md R363. Reset closed and not yet opened. -/
  resets : SMap ResetSrc := []
  /-- Outputs this channel commands on. 13_safety.md R357, R364. Reset none. -/
  on : List Nat := []
  deriving DecidableEq, Repr

/-- The safety side (R349 to R377). -/
structure Safety where
  /-- Layer state. 13_safety.md R351, R375. Reset self-test. -/
  layer : LayerState := .selfTest
  /-- Self-tests passed by channels A and B. 13_safety.md R351. Reset 0. -/
  passA : Bool := false
  passB : Bool := false
  /-- Safety images handed to both channels. 18_start_retention_update.md R471. Reset 0. -/
  loaded : Bool := false
  /-- Accepted safety section records, in MRAM; retained. 13_safety.md R373, R377. Reset none. -/
  recs : List (Nat × Bytes) := []
  /-- SAFETY_CRC in force; retained. 13_safety.md R373, R375. Reset 0. -/
  crc : W32 := 0
  /-- Copies held in the channels' own stores: their CRC; retained. 13_safety.md R377. Reset 0. -/
  crcA : W32 := 0
  crcB : W32 := 0
  /-- Staged section: records and SAFETY_CRC. 13_safety.md R373. Reset none. -/
  staged : Option (List (Nat × Bytes) × W32) := none
  /-- SAFE_CONFIG_ACCEPT takes effect at the next safety cycle. 13_safety.md R373. Reset 0. -/
  accepting : Bool := false
  /-- The channels' copies differ from MRAM: the layer waits. 13_safety.md R377. Reset 0. -/
  mismatch : Bool := false
  /-- Channel A. 13_safety.md R349. -/
  a : SafeChan := {}
  /-- Channel B. 13_safety.md R349. -/
  b : SafeChan := {}
  /-- Data in which the channels differed in the last cycle. 13_safety.md R350. Reset none. -/
  diff : List Nat := []
  /-- Cycles in a row in which the cross-link was silent. 13_safety.md R350. Reset 0. -/
  nSilent : Nat := 0
  /-- Safety cycles since the layer started. 13_safety.md R354. Reset 0. -/
  cyc : Nat := 0
  /-- TP faults: n while TPn last read high during its pulse, n + 4 while it last read low outside it. 13_safety.md R354, R375. Reset none. -/
  tpFault : List Nat := []
  /-- SO0 to SO7. 13_safety.md R357. Reset off. -/
  outs : SMap SafeOut := []
  /-- Encoder increments of the last 8 cycles, newest first, channels A and B, key encoder. 13_safety.md R362. Reset none. -/
  cntA : SMap (List Int) := []
  cntB : SMap (List Int) := []
  /-- Axes that receive a quick-stop request. 13_safety.md R361, R364. Reset none. -/
  quick : List Nat := []
  /-- Nalat connections 0 to 255. 13_safety.md R365. Reset not configured. -/
  conns : SMap Conn := []
  /-- LMT of the start of the last safety cycle. 13_safety.md R349. Reset 0. -/
  cycleAt : Nat := 0
  /-- -N variant: SI0 to SI23 standard inputs. 13_safety.md R376. Reset 0. -/
  siStd : Nat := 0
  deriving DecidableEq, Repr

end Sys2Proof.Machine
end

