-- ==== Sys2Proof/Machine/StSys.lean ====
section
/-! DEFINITION. State of the module as a whole: start, supplies, straps, faults, ECC, firmware slots and update (R469 to R491, R496 to R522). -/

namespace Sys2Proof.Machine

/-- HSTAT.STATE (R404, R469). -/
inductive HState where
  | boot | verify | load | ready | running | faultHalt
  deriving DecidableEq, Repr

/-- Phase of a power fail (R480) or of a reset held by RESET# (R518). -/
inductive PwrPhase where
  | ok          -- no power fail declared
  | sealing     -- steps 1 to 3: commits due within 1,000 us are sealed
  | stopped     -- step 4 on: final commit made, outputs stopped
  deriving DecidableEq, Repr

/-- Firmware slot status (R473, R489). -/
inductive SlotSt where
  | empty | committed | trial | staged
  deriving DecidableEq, Repr

/-- What the model keeps of a firmware image header (R474). -/
structure FwSlot where
  st : SlotSt := .empty
  version : Nat := 0
  secVer : Nat := 0
  /-- FLAGS: [0] changes safety images, [1] cold activation required, [2] key image. -/
  flags : Nat := 0
  /-- Format version of each MRAM region of R18, in table order. -/
  rformat : List Nat := []
  deriving DecidableEq, Repr

/-- Update state (R483). -/
inductive UpdState where
  | idle | staged | armed | activating | trial
  deriving DecidableEq, Repr

/-- Update state as a number (R476). -/
def updCode (u : UpdState) : Nat := match u with
  | .idle => 0
  | .staged => 1
  | .armed => 2
  | .activating => 3
  | .trial => 4

/-- The activation that UPD_ARM, or UPD_CANCEL in TRIAL, sets (R484, R485, R489). -/
structure UpdArm where
  /-- 0 domain time, 1 race position, 2 next start. -/
  kind : Nat
  /-- Domain 0 to 3 or race 0 to 7. -/
  unit : Nat := 0
  /-- Domain time in ns, or target in Q64.32. -/
  at' : Nat := 0
  /-- A in ns of domain time once a crossing is found (KIND 1). -/
  found : Option Nat := none
  /-- From TRIAL back to the committed image. -/
  reverse : Bool := false
  deriving DecidableEq, Repr

/-- Module-wide state. -/
structure Sys where
  /-- Ordering variant: fitted with safety channels (-S). 00_scope.md R2. Reset -S (DESIGN CHOICE, log 2). -/
  variantS : Bool := true
  /-- Module number in the line, 4 bits. 01_architecture.md R19. Reset 0 (DESIGN CHOICE, log 2). -/
  modNo : Nat := 0
  /-- Module serial, 64 bits. 15_host_rings.md R399. Reset 0 (DESIGN CHOICE, log 2). -/
  serial : Nat := 0
  /-- HSTAT.STATE. 3 bits. 15_host_rings.md R404. Reset 0 BOOT. -/
  st : HState := .boot
  /-- HSTAT.START_MODE. 2 bits. 18_start_retention_update.md R470. Reset 0. -/
  startMode : Nat := 0
  /-- BOOT_ID, 32 bits; retained. 02_races_and_time.md R61. Reset 0 (DESIGN CHOICE, log 1). -/
  bootId : Nat := 0
  /-- HFAULT. 32 bits. 15_host_rings.md R402, 18_start_retention_update.md R472. Reset 0. -/
  hfault : W32 := 0
  /-- START_MODE1 and START_MODE0 strap pins, low where strapped. 20_connectors.md R517. Reset open (DESIGN CHOICE, log 2). -/
  strapMode : Nat := 0
  /-- PAIR_UNIT strap pin tied to GND. 20_connectors.md R506. Reset open (DESIGN CHOICE, log 2). -/
  strapPair : Bool := false
  /-- PAIR_UNIT as sampled at BOOT: unit 0 or 1. 20_connectors.md R506. Reset 0. -/
  pairUnit : Nat := 0
  /-- LOGIC is in regulation. 20_connectors.md R499. Reset 0: unpowered. -/
  powered : Bool := false
  /-- LOGIC supply, mV. 18_start_retention_update.md R476. Reset 0 (DESIGN CHOICE, log 1). -/
  logicMv : Nat := 0
  /-- FIELD supply, mV. 18_start_retention_update.md R476. Reset 0 (DESIGN CHOICE, log 1). -/
  fieldMv : Nat := 0
  /-- Temperatures TEMP_BASE, TEMP_MAIN, TEMP_SAFETY, TEMP_AFE, 0.1 C. 18_start_retention_update.md R476. Reset 0 (DESIGN CHOICE, log 1). -/
  temps : List Int := [0, 0, 0, 0]
  /-- Holdup store energy, mJ. 18_start_retention_update.md R476. Reset 0. -/
  holdupMj : Nat := 0
  /-- The holdup store holds 2.5 J or more: HOLDUP_RDY. 20_connectors.md R499. Reset 0. -/
  holdupOk : Bool := false
  /-- The holdup store is charging. 18_start_retention_update.md R471. Reset 0. -/
  charging : Bool := false
  /-- LOAD's work is done: components loaded, journal replayed. 18_start_retention_update.md R469. Reset 0. -/
  loadDone : Bool := false
  /-- Instant the present BOOT began, ns of LMT. 18_start_retention_update.md R471. Reset 0. -/
  bootAt : Nat := 0
  /-- The clocks run (until step 6 of R480). 18_start_retention_update.md R480. Reset 0: unpowered. -/
  clocksOn : Bool := false
  /-- MRAM is write-protected. 18_start_retention_update.md R480. Reset 0. -/
  mramWp : Bool := false
  /-- Power-fail phase. 18_start_retention_update.md R480. Reset none. -/
  pfail : PwrPhase := .ok
  /-- Declaration of the power fail, ns of LMT. 18_start_retention_update.md R480. Reset 0. -/
  pfailAt : Nat := 0
  /-- RESET# is low and holds the module. 20_connectors.md R518. Reset 0. -/
  resetLow : Bool := false
  /-- RESET# was released while the sequence of R480 was running: the straps to boot with once the sequence ends. 20_connectors.md R518. Reset none. -/
  bootNext : Option (Nat × Bool) := none
  /-- Starts in a row that failed to reach READY; retained. 18_start_retention_update.md R470. Reset 0. -/
  failedStarts : Nat := 0
  /-- The present start has not reached READY yet. 18_start_retention_update.md R470. Reset 0. -/
  starting : Bool := false
  /-- POWER_FAILS since manufacture, 32 bits; retained. 18_start_retention_update.md R476. Reset 0. -/
  powerFails : W32 := 0
  /-- ECC_SRAM, ECC_MRAM, ECC_DRAM, ECC_PROG corrected errors, 32 bits each. 01_architecture.md R11, 18_start_retention_update.md R476. Reset 0 (DESIGN CHOICE, log 1). -/
  ecc : List W32 := [0, 0, 0, 0]
  /-- COMMIT_LATE, 32 bits. 18_start_retention_update.md R476. Reset 0 (DESIGN CHOICE, log 1). -/
  commitLate : W32 := 0
  /-- OVERRUNS, 32 bits. 18_start_retention_update.md R476. Reset 0 (DESIGN CHOICE, log 1). -/
  overruns : W32 := 0
  /-- VREFBUF is on. 08_analogue.md R222, 18_start_retention_update.md R471. Reset 0. -/
  vrefOn : Bool := false
  /-- VREFBUF has settled. 08_analogue.md R222. Reset 0. -/
  vrefSettled : Bool := false
  /-- Console lines written: (LMT, HSTAT state or event code, is-event). 20_connectors.md R519. Reset none. -/
  console : List (Nat × Nat × Bool) := []
  /-- Maintenance ports M1 and M2 have link; drives M1_LED, M2_LED. 20_connectors.md R516, R519. Reset 0. -/
  mLink : List Bool := [false, false]
  /-- Firmware slots 0 and 1. 18_start_retention_update.md R474. Reset slot 0 committed, slot 1 empty (DESIGN CHOICE, log 2). -/
  slots : List FwSlot := [{ st := .committed }, {}]
  /-- Running slot. 18_start_retention_update.md R475. Reset 0. -/
  runSlot : Nat := 0
  /-- OTP anti-rollback level, 0 to 255. 18_start_retention_update.md R475. Reset 0 (DESIGN CHOICE, log 2). -/
  otpLevel : Nat := 0
  /-- Configuration key slots CK0 to CK7: 0 free, 1 programmed, 2 revoked. 18_start_retention_update.md R473. Reset free (DESIGN CHOICE, log 2). -/
  ckSlots : List Nat := [0, 0, 0, 0, 0, 0, 0, 0]
  /-- Unsigned packages and extensions are permitted although a key slot is programmed. 18_start_retention_update.md R473. Reset 0. -/
  unsignedOk : Bool := false
  /-- Update state; retained. 18_start_retention_update.md R483. Reset IDLE. -/
  upd : UpdState := .idle
  /-- The armed activation; retained. 18_start_retention_update.md R484. Reset none. -/
  updArm : Option UpdArm := none
  /-- Format version of each MRAM region, from the region table. 18_start_retention_update.md R482. Reset that of the committed slot. -/
  formats : List Nat := []
  /-- Engines still to swap to the preloaded microcode. 18_start_retention_update.md R486. Reset none. -/
  swapLeft : List Nat := []
  /-- The runtime is restarting (from A to the restart's end). 18_start_retention_update.md R486. Reset 0. -/
  restarting : Bool := false
  /-- Formats migrated in TRIAL are written in both forms. 18_start_retention_update.md R488. Reset 0. -/
  dualWrite : Bool := false
  /-- FAULT_HALT was entered, or a start failed, in TRIAL. 18_start_retention_update.md R489. Reset 0. -/
  trialFailed : Bool := false
  /-- Migration progress, percent. 18_start_retention_update.md R484. Reset 0. -/
  migration : Nat := 0
  /-- The start has fallen back to the other slot. 18_start_retention_update.md R475. Reset 0. -/
  fellBack : Bool := false
  /-- Instant from which the armed activation's instant is looked for, ns of LMT. 18_start_retention_update.md R481, R485. Reset 0. -/
  updFrom : Nat := 0
  /-- Last change of LOGIC/optics: optics of ports A to D identified. 20_connectors.md R504. Reset 0. -/
  opticsId : List Bool := [false, false, false, false]
  deriving DecidableEq, Repr

end Sys2Proof.Machine
end

