-- ==== Sys2Proof/Machine/State.lean ====
section
/-! DEFINITION. State: everything the spec gives the module, its reset value, and the reasons a step can stop.
No command of the table faults: every one has an effect the spec gives, so `Fault` has no constructor. -/

namespace Sys2Proof.Machine

/-- No command faults the block: a module fault is an effect on the state (FAULT_HALT, R472). -/
inductive Fault where
  deriving DecidableEq, Repr

/-- Why a command has no meaning. -/
inductive Refusal where
  /-- Raised by `exec` for a row whose meaning is not written. Safe: the model stops. -/
  | notModelled (mnemonic : String)
  deriving DecidableEq, Repr

/-- Unit state as the two-phase commit of local group 0 retains it (R477), and the image (R14, R479). -/
structure Retained where
  front : SMap W32 := []
  frontQ : SMap Nat := []
  cycles : SMap Nat := []
  forces : SMap Force := []
  races : SMap Race := []
  /-- Counters, SSI words and Fantail's corrections of the encoder inputs (R181, R210, R541). -/
  encs : SMap Encoder := []
  cogs : SMap Cog := []
  sets : SMap BankSet := []
  nodes : SMap Node := []
  loops : SMap Loop := []
  ogs : SMap OGroup := []
  fts : SMap FtTask := []
  axes : SMap Axis := []
  ana : Analogue := {}
  caps : SMap CapUnit := []
  tr : SMap TrChan := []
  logic : Logic := {}
  spins : SMap Spin := []
  cans : SMap CanPort := []
  hopTasks : SMap HopTask := []
  paged : SMap W32 := []
  pqual : SMap Nat := []
  disabled : List Nat := []
  /-- The admitted configuration (R439); the stage has a place of its own. -/
  cfg : Cfg := {}
  stage : Option Package := none
  /-- Extension image (R465). -/
  image : Bytes := []
  role : Role := .single
  epoch : Nat := 0
  inhibit : Bool := false
  deriving DecidableEq, Repr

/-- A journal entry (R477): what one commit of one group writes through. -/
structure JEntry where
  seq : Nat
  /-- segment x 8 + group; 72 for the stage of CFG_LOAD, which belongs to no group (R439). -/
  grp : Nat
  cycle : Nat
  slots : List (Nat × W32)
  quals : List (Nat × Nat) := []
  paged : List (Nat × W32) := []
  forces : Option (SMap Force) := none
  unit : Option Retained := none
  /-- The entry sets the durable stage (R439). -/
  stage : Option (Option Package) := none
  /-- The seal is durable: the entry survives a power loss. -/
  sealed : Bool := false
  deriving DecidableEq, Repr

/-- The machine. -/
structure State where
  /-- Commands that wait, first in first out (the model's queue). -/
  pending : List Instr := []
  /-- LMT, local monotonic time, ns. 64 bits. 02_races_and_time.md R61. Reset 0. -/
  lmt : Nat := 0
  sys : Sys := {}
  host : HostIf := {}
  /-- Commands in flight, in fetch order. 15_host_rings.md R408, 16_commands_and_sluice.md R430. Reset none. -/
  flights : List Flight := []
  log : EvLog := {}
  /-- Tailrace channels, key channel. 09_capture_and_recording.md R266. Reset STOPPED. -/
  tr : SMap TrChan := []
  cfg : Cfg := {}
  img : Image := {}
  /-- Journal of write-through commits not yet settled, oldest first; retained where sealed. 18_start_retention_update.md R477. Reset none. -/
  journal : List JEntry := []
  /-- Sequence of the next journal entry; retained. 18_start_retention_update.md R477. Reset 0 (DESIGN CHOICE, log 1). -/
  jseq : Nat := 0
  /-- Settled marker: entries below it are written home; retained. 18_start_retention_update.md R478. Reset 0. -/
  settled : Nat := 0
  /-- Home locations in MRAM; retained. 01_architecture.md R18, 18_start_retention_update.md R478. Reset all initial. -/
  home : Retained := {}
  /-- Encoder inputs E0 to E19. 02_races_and_time.md R38. Reset 0. -/
  encs : SMap Encoder := []
  /-- Races 0 to 7. 02_races_and_time.md R41. Reset IDLE. -/
  races : SMap Race := []
  /-- PTP domains 0 to 3. 02_races_and_time.md R62. Reset DISABLED. -/
  doms : SMap Domain := []
  /-- Cogs 0 to 4,095. 03_cogs_and_placement.md R73. Reset DISARMED. -/
  cogs : SMap Cog := []
  /-- Fast outputs FO0 to FO15. 03_cogs_and_placement.md R83. Reset high-impedance. -/
  fos : SMap FastOut := []
  /-- Placement bank sets 0 to 63. 03_cogs_and_placement.md R92. Reset empty. -/
  sets : SMap BankSet := []
  net : Net := {}
  /-- Loops 0 to 2,047. 05_loops.md R131. Reset DISABLED. -/
  loops : SMap Loop := []
  /-- Override groups 0 to 255. 05_loops.md R153. Reset none. -/
  ogs : SMap OGroup := []
  /-- Loop lanes 0 to 7. 05_loops.md R131. Reset 0 overruns. -/
  lanes : SMap Lane := []
  /-- Fantail tasks, key task. 06_fantail.md R162. Reset IDLE. -/
  fts : SMap FtTask := []
  mot : Motion := {}
  ana : Analogue := {}
  /-- Capture units CAP0 to CAP15. 09_capture_and_recording.md R247. Reset IDLE. -/
  caps : SMap CapUnit := []
  logic : Logic := {}
  /-- Spindle programs. 11_spindle_programs.md R310. Reset none loaded. -/
  spins : SMap Spin := []
  /-- CAN ports CAN0 to CAN3. 12_can_ports.md R329. Reset off. -/
  cans : SMap CanPort := []
  safe : Safety := {}
  red : Red := {}
  hop : Hopper := {}
  /-- The model's own: index of the next free value (values the spec leaves open). Reset 0 (DESIGN CHOICE, log 3). -/
  free : Nat := 0
  deriving DecidableEq, Repr

/-- The module right after reset: unpowered, every field at its default, HSTAT BOOT, no command waiting. -/
def State.reset : State := {}

end Sys2Proof.Machine
end

