-- ==== Sys2Proof/Machine/Access.lean ====
section
/-! DEFINITION. Named access to the units of the state and to the admitted records (R434, R435). -/

namespace Sys2Proof.Machine

/-- Key bytes of a record type (R435). -/
def keyLen (rt : Nat) : Nat :=
  if rt = 0x07 ∨ rt = 0x0A then 4
  else if rt = 0x05 ∨ rt = 0x09 ∨ rt = 0x0B ∨ rt = 0x0D ∨ rt = 0x19 ∨ rt = 0x22 ∨ rt = 0x23 ∨ rt = 0x30 ∨ rt = 0x31 then 2
  else if rt = 0x15 ∨ rt = 0x1A ∨ rt = 0x1B ∨ rt = 0x21 then 0
  else 1

/-- The key of a record, as a number (R434). -/
def CfgRec.key (r : CfgRec) : Nat := le r.body 0 (keyLen r.rtype)

/-- The admitted record of a type and key, where the configuration is in force. -/
def State.rec? (s : State) (rt key : Nat) : Option Bytes :=
  if s.cfg.inForce then (s.cfg.recs.find? (fun r => r.rtype == rt && r.key == key)).map (·.body) else none

/-- The same; no bytes (every field zero) where there is none. -/
def State.rcd (s : State) (rt key : Nat) : Bytes := (s.rec? rt key).getD []

/-- Every admitted record of a type, in key order as held. -/
def State.recsOf (s : State) (rt : Nat) : List Bytes :=
  if s.cfg.inForce then (s.cfg.recs.filter (fun r => r.rtype == rt)).map (·.body) else []

/-- A unit is disabled (R432). -/
def State.isDis (s : State) (unit : Nat) : Bool := s.cfg.disabled.contains unit

def State.enc (s : State) (n : Nat) : Encoder := s.encs.getD n {}
def State.race (s : State) (n : Nat) : Race := s.races.getD n {}
def State.dom (s : State) (n : Nat) : Domain := s.doms.getD n {}
def State.cog (s : State) (n : Nat) : Cog := s.cogs.getD n {}
def State.fo (s : State) (n : Nat) : FastOut := s.fos.getD n {}
def State.pset (s : State) (n : Nat) : BankSet := s.sets.getD n {}
def State.port (s : State) (n : Nat) : Port := s.net.ports.getD n {}
def State.node (s : State) (k : Nat) : Node := s.net.nodes.getD k {}
def State.loop (s : State) (n : Nat) : Loop := s.loops.getD n {}
def State.ft (s : State) (n : Nat) : FtTask := s.fts.getD n {}
def State.axis (s : State) (n : Nat) : Axis := s.mot.axes.getD n {}
def State.cl (s : State) (n : Nat) : ClChan := s.ana.cls.getD n {}
def State.dio (s : State) (n : Nat) : Dio := s.ana.dios.getD n {}
def State.seq (s : State) (n : Nat) : AdcSeq := s.ana.seqs.getD n {}
def State.cap (s : State) (n : Nat) : CapUnit := s.caps.getD n {}
def State.chan (s : State) (n : Nat) : TrChan := s.tr.getD n {}
def State.eng (s : State) (n : Nat) : Engine := s.logic.engines.getD n {}
def State.spin (s : State) (n : Nat) : Spin := s.spins.getD n {}
def State.can (s : State) (n : Nat) : CanPort := s.cans.getD n {}
def State.group (s : State) (k : Nat) : GroupSt := s.img.groups.getD k {}
def State.hopT (s : State) (n : Nat) : HopTask := s.hop.tasks.getD n {}

def State.setEnc (s : State) (n : Nat) (x : Encoder) : State := { s with encs := s.encs.set n x }
def State.setRace (s : State) (n : Nat) (x : Race) : State := { s with races := s.races.set n x }
def State.setDom (s : State) (n : Nat) (x : Domain) : State := { s with doms := s.doms.set n x }
def State.setCog (s : State) (n : Nat) (x : Cog) : State := { s with cogs := s.cogs.set n x }
def State.setFo (s : State) (n : Nat) (x : FastOut) : State := { s with fos := s.fos.set n x }
def State.setPset (s : State) (n : Nat) (x : BankSet) : State := { s with sets := s.sets.set n x }
def State.setPort (s : State) (n : Nat) (x : Port) : State := { s with net := { s.net with ports := s.net.ports.set n x } }
def State.setNode (s : State) (k : Nat) (x : Node) : State := { s with net := { s.net with nodes := s.net.nodes.set k x } }
def State.setLoop (s : State) (n : Nat) (x : Loop) : State := { s with loops := s.loops.set n x }
def State.setFt (s : State) (n : Nat) (x : FtTask) : State := { s with fts := s.fts.set n x }
def State.setAxis (s : State) (n : Nat) (x : Axis) : State := { s with mot := { s.mot with axes := s.mot.axes.set n x } }
def State.setCl (s : State) (n : Nat) (x : ClChan) : State := { s with ana := { s.ana with cls := s.ana.cls.set n x } }
def State.setDio (s : State) (n : Nat) (x : Dio) : State := { s with ana := { s.ana with dios := s.ana.dios.set n x } }
def State.setSeq (s : State) (n : Nat) (x : AdcSeq) : State := { s with ana := { s.ana with seqs := s.ana.seqs.set n x } }
def State.setCap (s : State) (n : Nat) (x : CapUnit) : State := { s with caps := s.caps.set n x }
def State.setChan (s : State) (n : Nat) (x : TrChan) : State := { s with tr := s.tr.set n x }
def State.setEng (s : State) (n : Nat) (x : Engine) : State := { s with logic := { s.logic with engines := s.logic.engines.set n x } }
def State.setSpin (s : State) (n : Nat) (x : Spin) : State := { s with spins := s.spins.set n x }
def State.setCan (s : State) (n : Nat) (x : CanPort) : State := { s with cans := s.cans.set n x }
def State.setGroup (s : State) (k : Nat) (x : GroupSt) : State := { s with img := { s.img with groups := s.img.groups.set k x } }
def State.setHopT (s : State) (n : Nat) (x : HopTask) : State := { s with hop := { s.hop with tasks := s.hop.tasks.set n x } }

/-- Unit identifiers (R37). -/
abbrev uRace (n : Nat) : Nat := 0x1000 + n
abbrev uCog (n : Nat) : Nat := 0x2000 + n
abbrev uLoop (n : Nat) : Nat := 0x3000 + n
abbrev uGroup (n : Nat) : Nat := 0x4000 + n
abbrev uAxis (n : Nat) : Nat := 0x5000 + n
abbrev uCap (n : Nat) : Nat := 0x6000 + n
abbrev uLogic (n : Nat) : Nat := 0x7000 + n
abbrev uCan (n : Nat) : Nat := 0x8000 + n
abbrev uSeg (n : Nat) : Nat := 0x9000 + n
abbrev uCl (n : Nat) : Nat := 0xA000 + n
abbrev uSeq (n : Nat) : Nat := 0xB000 + n
abbrev uFt (n : Nat) : Nat := 0xC000 + n
abbrev uSpin (n : Nat) : Nat := 0xD000 + n
abbrev uSafe (n : Nat) : Nat := 0xE000 + n
abbrev uSys : Nat := 0xF000

/-- A unit identifier's kind and instance are in the table (R37). -/
def unitOk (u : Nat) : Bool :=
  let i := u % 4096
  match u / 4096 with
  | 1 => i ≤ 7
  | 2 => true
  | 3 => i ≤ 2047
  | 4 => i ≤ 255
  | 5 => i ≤ 63
  | 6 => i ≤ 15
  | 7 => i ≤ 0x7FF
  | 8 => i ≤ 3
  | 9 => 1 ≤ i && i ≤ 4
  | 10 => i ≤ 31
  | 11 => i ≤ 3
  | 12 => i ≤ 3
  | 13 => i ≤ 39
  | 14 => i ≤ 127
  | 15 => i == 0
  | _ => false

/-- A point address from its fields (R19). -/
def ptAddr (s : State) (seg node idx : Nat) : Nat := s.sys.modNo * 0x10000000 + seg * 0x1000000 + node * 0x4000 + idx

/-- The point map entry in force that an address names: a one-slot point, or either slot of a two-slot point (R25; R212 puts GOTO_REQ at indices 15 and 16). -/
def State.pointOf (s : State) (a : Nat) : Option PointDef :=
  if !s.cfg.inForce then none
  else match s.cfg.points.get? a with
  | some p => some p
  | none =>
    if a = 0 then none
    else match s.cfg.points.get? (a - 1) with
      | some p => if typeSlots p.typ = 2 then some p else none
      | none => none

/-- Group key of a point: segment x 8 + group. -/
def PointDef.gkey (p : PointDef) : Nat := bits p.addr 27 24 * 8 + p.group

/-- PKG_ID of the next admitted change: never 0 (R440). -/
def nextPkg (id : Nat) : Nat := if id + 1 = 4294967296 then 1 else id + 1

end Sys2Proof.Machine
end

