-- ==== Sys2Proof/Machine/RaceEval.lean ====
section
/-! DEFINITION. Evaluation arithmetic of race segments (R58 to R60), domain time (R62) and race stamps (R246). -/

namespace Sys2Proof.Machine

/-- Rate of a domain relative to LMT, ppb: the servo's and the slew (R65, R66, R71). -/
def Domain.speed (d : Domain) : Int := d.rate + d.slew

/-- Part of the offset slewed out after `dt` ns of LMT: it ends when all of it is (R66). -/
def Domain.slewed (d : Domain) (dt : Int) : Int :=
  let m := dt * d.slew / 1000000000
  if dt ≤ 0 then m else if 0 < d.residual then max (-d.residual) m else min (-d.residual) m

/-- Domain time in ns at an LMT instant, by the domain's servo and slew (R62, R66, R71). -/
def domTime (d : Domain) (t : Nat) : Nat :=
  let dt : Int := (t : Int) - d.lmtAt
  ((d.now : Int) + dt + dt * d.rate / 1000000000 + d.slewed dt).toNat

/-- LMT of a domain time, by the domain's servo and slew. -/
def lmtOf (d : Domain) (tau : Nat) : Nat :=
  let u : Int := (tau : Int) - d.now
  let dt := u * 1000000000 / (1000000000 + d.speed)
  let dt1 := if d.slewed dt = dt * d.slew / 1000000000 then dt else (u + d.residual) * 1000000000 / (1000000000 + d.rate)
  ((d.lmtAt : Int) + dt1).toNat

/-- Position in Q64.32 at an offset from the segment's start (R58). -/
def segPos (g : Segment) (tau : Int) : Nat :=
  (((g.c0 : Int) * 4294967296 + asr (g.c1 * tau) 16 + asr (g.c2 * tau * tau) 40 + asr (g.c3 * tau * tau * tau) 64)
    % 79228162514264337593543950336).toNat

/-- The segment applies at a domain time (R58). -/
def segApplies (g : Segment) (t : Nat) : Bool := g.ts ≤ t && t < g.ts + g.dur

/-- EPOCH `a` is newer than `b` (R60). -/
def epochNewer (a b : Nat) : Bool := let d := (a + 256 - b % 256) % 256; 1 ≤ d && d ≤ 127

/-- Of two segments, the one to use: the newest EPOCH, then the greatest T_S (R60). -/
def segBetter (a b : Segment) : Bool := epochNewer a.epoch b.epoch || (a.epoch == b.epoch && b.ts < a.ts)

/-- The segment to use at a domain time (R60 item 3). -/
def chooseSeg (gs : List Segment) (t : Nat) : Option Segment :=
  (gs.filter (fun g => segApplies g t)).foldl
    (fun acc g => match acc with
      | none => some g
      | some b => if segBetter g b then some g else some b) none

/-- A 96-bit difference read as signed (R59). -/
def diff96 (a b : Nat) : Int := sgn 96 (wrapN 96 ((a : Int) - b))

/-- A 64-bit difference of two positions read as signed (R41). -/
def diff64 (a b : Nat) : Int := sgn 64 (wrapN 64 ((a : Int) - b))

/-- The segments that give a race's position: for a running remote race those received, under the source's EPOCH (R46, R60). -/
def Race.live (r : Race) : List Segment := if r.st == .running && !r.remote.isEmpty then r.remote else r.segs

/-- Position in Q64.32 of a race at a domain time: its segment's value, or the frozen position. -/
def racePos (r : Race) (t : Nat) : Nat :=
  match r.st with
  | .idle => 0
  | .lost => r.pos.toNat * 4294967296
  | _ => match chooseSeg r.live t with
    | some g => segPos g ((t : Int) - g.ts)
    | none => r.pos.toNat * 4294967296

/-- The crossing condition of a target at an offset (R59). -/
def crossed (g : Segment) (fwd : Bool) (x : Nat) (tau : Nat) : Bool :=
  let d := diff96 (segPos g tau) x
  if fwd then decide (0 ≤ d) else decide (d ≤ 0)

/-- The smallest offset from `i` on, within `n`, that meets a condition. -/
def firstFrom (f : Nat → Bool) : Nat → Nat → Option Nat
  | 0, _ => none
  | n + 1, i => if f i then some i else firstFrom f n (i + 1)

/-- The smallest offset in `lo` to `hi` that meets a condition which, once met, stays met. -/
def bisect (f : Nat → Bool) : Nat → Nat → Nat → Nat
  | 0, _, hi => hi
  | n + 1, lo, hi => if hi ≤ lo then hi else
      let m := (lo + hi) / 2
      if f m then bisect f n lo m else bisect f n (m + 1) hi

/-- The crossing instant of R59 as an offset from T_S, from offset `lo` below offset `hi`.
Where the three terms of R58 all run in the direction of travel the condition, once met, stays met and a bisection finds it. -/
def crossing (g : Segment) (fwd : Bool) (x lo hi : Nat) : Option Nat :=
  let mono := if fwd then decide (0 ≤ g.c1 ∧ 0 ≤ g.c2 ∧ 0 ≤ g.c3) else decide (g.c1 ≤ 0 ∧ g.c2 ≤ 0 ∧ g.c3 ≤ 0)
  if hi ≤ lo then none
  else if mono then
    if crossed g fwd x (hi - 1) then some (bisect (crossed g fwd x) 24 lo (hi - 1)) else none
  else firstFrom (crossed g fwd x) (hi - lo) lo

/-- Race state as its code (R71, R246). -/
def raceCode : RaceState → Nat
  | .idle => 0
  | .running => 1
  | .holdover => 2
  | .lost => 3

/-- A race stamp at an LMT instant (R246), as four words: header, FRAC, POS low, POS high. -/
def raceStamp (s : State) (n t : Nat) : List Nat :=
  let r := s.race n
  let dt := domTime (s.dom (byteAt (s.rcd 0x02 n) 3)) t
  let p := racePos r dt
  let disc := match chooseSeg r.live dt with
    | some g => g.disc
    | none => false
  let st := raceCode r.st + mkBit (r.unref && r.st ≠ .idle) 2 + mkBit disc 3
  [n + 256 * st, p % 4294967296, p / 4294967296 % 4294967296, p / 18446744073709551616]

end Sys2Proof.Machine
end

