-- ==== Sys2Proof/Machine/Frames.lean ====
section
/-! DEFINITION. Ethernet frames that the module sends: addresses, EtherType, VLAN tag, padding, queues (R106, R107, R124, R380). -/

namespace Sys2Proof.Machine

/-- The admitted pair record (R380). -/
def State.pairRec (s : State) : Bytes := s.rcd 0x1A 0
def State.paired (s : State) : Bool := byteAt s.pairRec 0 == 1

/-- PAIR_MAC of a field port (R380). -/
def State.pairMac (s : State) (port : Nat) : Nat := be s.pairRec (8 + 6 * (port - 1)) 6

/-- Unit MAC address of a field port: those of the ports follow port A's (log 2). -/
def State.unitMac (s : State) (port : Nat) : Nat := s.red.mac + (port - 1)

/-- Source address of a port's traffic: the PAIR_MAC of the active module of a pair, else the unit's (R380). -/
def State.portMac (s : State) (port : Nat) : Nat :=
  if s.paired && s.red.role == .active then s.pairMac port else s.unitMac port

/-- The payload with zeros up to the Ethernet minimum: 46 bytes, or 42 with a tag (R106). -/
def ethPad (tagged : Bool) (pay : Bytes) : Bytes := pay ++ List.replicate ((if tagged then 42 else 46) - pay.length) 0

/-- A frame of an EtherType, untagged (R63, R114). -/
def State.plainFrame (s : State) (port queue dst etype : Nat) (pay : Bytes) : TxFrame := {
  port := port, queue := queue, dst := dst, src := s.portMac port, at' := s.lmt, etype := etype, bytes := nums (ethPad false pay) }

/-- An Oczon frame: the segment's ETHERTYPE, its VLAN tag with the queue number as PCP, padded to the minimum (R57, R96, R106). -/
def State.oczFrame (s : State) (port queue dst : Nat) (pay : Bytes) : TxFrame :=
  let b := s.rcd 0x08 port
  let vid := le b 4 2 % 4096
  { port := port, queue := queue, dst := dst, src := s.portMac port, at' := s.lmt, etype := le b 2 2
    tag := if vid = 0 then none else some (queue, vid), bytes := nums (ethPad (vid != 0) pay) }

/-- Frames go onto the wire. -/
def State.put (s : State) (fr : List TxFrame) : State := { s with net := { s.net with sent := s.net.sent ++ fr } }

/-- Frames wait on queue 7 for their launch times (R53, R95). -/
def State.putQueued (s : State) (fr : List TxFrame) : State := { s with net := { s.net with queue := s.net.queue ++ fr } }

/-- Frames of queue 6 go onto the wire, or are discarded and counted more than 1 us after their launch time (R69). -/
def State.putLaunched (s : State) (port due : Nat) (fr : List TxFrame) : State :=
  if due + 1000 < s.lmt then
    let q := s.port port
    s.setPort port { q with lateFrames := q.lateFrames + BitVec.ofNat 32 fr.length }
  else s.put fr

/-- An Oczon frame of a queue without launch time (R107, R124). -/
def State.sendTo (s : State) (seg queue dst : Nat) (payload : Bytes) : State := s.put [s.oczFrame seg queue dst payload]

/-- Common header of a module frame (R106). -/
def oczHead (s : State) (ftype flen srcLow flags last : Nat) : Bytes :=
  toBe ftype 1 ++ toBe 1 1 ++ toBe flen 2 ++ toBe (s.sys.modNo * 16 + srcLow) 1 ++ toBe flags 1 ++ toBe s.red.epoch 1 ++ toBe last 1

/-! Timestamps on the wire (R68). -/

/-- Internal egress and ingress corrections, 1/2,560 ns (R68). -/
def portLat (mode : Nat) : Int × Int :=
  if mode = 1 then (172032, 229376) else if mode = 2 then (286720, 401408) else (471040, 634880)

/-- Egress and ingress latency of a port to the wire and its asymmetry, 1/2,560 ns (R68). -/
def State.portTiming (s : State) (port : Nat) : Int × Int × Int :=
  let b := s.rcd 0x04 (port - 1)
  let l := portLat (byteAt (s.rcd 0x08 port) 1)
  (l.1 + 10 * leS b 4 4, l.2 + 10 * leS b 8 4, 10 * leS b 12 4)

/-- Egress time of a message that leaves now, on the wire (R68). -/
def State.egress (s : State) (port d : Nat) : Nat := (((domTime (s.dom d) s.lmt : Int)) + (s.portTiming port).1 / 2560).toNat

/-- Ingress time, on the wire, of a message that arrived at `rx` of LMT (R68). -/
def State.ingress (s : State) (port d rx : Nat) : Nat := (((domTime (s.dom d) rx : Int)) - (s.portTiming port).2.1 / 2560).toNat

end Sys2Proof.Machine
end

