-- ==== Sys2Proof/Machine/Trace.lean ====
section
/-! DEFINITION. The event path (R261), the event rings (R414, R415), the event log (R263 to R265), Tailrace records (R266 to R271) and interrupt messages (R419, R420). -/

namespace Sys2Proof.Machine

/-- The three recorders an event touches. -/
structure Recorders where
  tr : SMap TrChan
  log : EvLog
  host : HostIf
  /-- Console lines (R519). -/
  con : List (Nat × Nat × Bool)
  deriving DecidableEq, Repr

/-- An event to raise. -/
structure EvReq where
  code : Nat
  sev : Nat
  cleared : Bool := false
  unit : Nat := 0
  point : Nat := 0
  params : List Nat := []
  /-- Always logged, without bucket, LOG_MIN_SEV or rate limit (R264). -/
  always : Bool := false
  reserve : Bool := false
  deriving DecidableEq, Repr

/-- A 64-bit parameter as its two words, low first (R260). -/
def par64 (v : Nat) : List Nat := [v % 4294967296, v / 4294967296 % 4294967296]

/-- Bytes of an event record (R260). -/
def evLen (e : Event) : Nat :=
  if e.params.isEmpty && e.unit == 0 && e.point == 0 && e.suppressed == 0 then 16
  else 24 + (4 * e.params.length + 7) / 8 * 8

/-! Interrupt messages. -/

/-- DMA runs: D0 with Bus Master Enable (R420). -/
def HostIf.dma (h : HostIf) : Bool := h.power == .d0 && h.bme

/-- A message has been sent on a vector: every ring of it restarts (R419). -/
def HostIf.signalled (h : HostIf) (v : Nat) : HostIf :=
  { h with
    rings := h.rings.mapV (fun _ r => if r.kind ≠ 0 ∧ r.bound = v then { r with unsig := 0, unsigNow := false, unsigWake := false } else r)
    pba := h.pba.filter (· ≠ v) }

/-- A message falls due on a vector (R419, R420). -/
def HostIf.msgDue (h : HostIf) (t v : Nat) : HostIf :=
  let wake := h.rings.any (fun e => decide (e.2.kind ≠ 0) && decide (e.2.bound = v) && e.2.unsigWake)
  let pend := { h with pba := if h.pba.contains v then h.pba else h.pba ++ [v] }
  match h.power with
  | .d0 =>
    if h.bme && !h.funcMask && h.unmasked.contains v then { (h.signalled v) with sent := h.sent ++ [.msix t v] } else pend
  | .d3hot => if h.pmeEn && wake then { pend with pmeStatus := true, sent := h.sent ++ [.pme t] } else pend
  | .d3cold => if h.pmeEn && wake then { pend with pmeStatus := true, wakeOut := true, sent := h.sent ++ [.wake t] } else pend

/-- A message is due for a ring (R419), MOD_TIME apart. -/
def HostRing.due (r : HostRing) : Bool := r.unsigNow || (decide (0 < r.unsig) && decide (r.modCount ≤ r.unsig))

/-- An entry of ring `k` has been written (or is held) and counts as unsignalled (R419). -/
def HostIf.entry (h : HostIf) (t k : Nat) (now wake : Bool) : HostIf :=
  match h.rings.get? k with
  | none => h
  | some r =>
    let r' := { r with
      unsig := r.unsig + 1
      unsigSince := if r.unsig = 0 then t else r.unsigSince
      unsigNow := r.unsigNow || now
      unsigWake := r.unsigWake || wake }
    let h' := { h with rings := h.rings.set k r' }
    if r'.due then h'.msgDue t r'.bound else h'

/-- Entries written and not yet consumed. -/
def HostRing.used (r : HostRing) : Nat := (r.prod + r.size - r.cons) % r.size

/-- Entries a ring can still take: its size less one, less those written and not consumed, less those reserved (R409). -/
def HostRing.free (r : HostRing) : Nat := r.size - 1 - r.used - r.reserved

/-- The producer moves on by one entry; PHASE turns at the end of the ring (R413). -/
def HostRing.step (r : HostRing) : HostRing :=
  if r.prod + 1 = r.size then { r with prod := 0, phase := !r.phase } else { r with prod := r.prod + 1 }

/-- Key of a ring in `HostIf.rings`. -/
def ringKey (kind n : Nat) : Nat := kind * 64 + n

/-- One event ring takes an event (R415): written, held out of D0, or dropped and counted. Answers whether a loss episode opened. -/
def HostIf.ringEvent (h : HostIf) (t k : Nat) (ev : Event) : HostIf × Bool :=
  match h.rings.get? k with
  | none => (h, false)
  | some r =>
    if r.kind ≠ 2 ∨ r.err ∨ r.stopping ∨ ev.sev < r.minSev ∨ !r.areaMask.testBit (ev.code / 64) then (h, false)
    else
      let dropIt : HostIf × Bool := ({ h with rings := h.rings.set k ({ r with lost := min 4294967295 (r.lost + 1), episode := true } : HostRing) }, !r.episode)
      let now := decide (r.immSev ≤ ev.sev)
      let wake := decide (r.wakeSev ≤ ev.sev)
      if h.dma then
        if r.free = 0 then dropIt
        else
          let m : EvtMsg := { ring := r.num, slot := r.prod, ev := ev, phase := r.phase, lost := r.lost }
          (({ h with rings := h.rings.set k ({ r.step with lost := 0, episode := false } : HostRing), evts := h.evts ++ [m] } : HostIf).entry t k now wake, false)
      else if 65536 ≤ (h.heldEvts.filter (fun m => m.ring == r.num)).length then dropIt
      else (({ h with heldEvts := h.heldEvts ++ [{ ring := r.num, ev := ev, held := true }] } : HostIf).entry t k now wake, false)

/-! The event log. -/

/-- The admitted event log record (R262). -/
def State.logRec (s : State) : Bytes := s.rcd 0x15 0

/-- LOG_MIN_SEV in force; 2 where no record is admitted (R262). -/
def State.logMinSev (s : State) : Nat := match s.rec? 0x15 0 with
  | some b => byteAt b 0
  | none => 2

/-- FREEZE_MAX in force, s (R262). -/
def State.freezeMax (s : State) : Nat := match s.rec? 0x15 0 with
  | some b => le b 2 2
  | none => 10

/-- RATE and BURST of an override, if the record names the code (R262). -/
def bucketOvr (b : Bytes) (code : Nat) : Nat → Option (Nat × Nat)
  | 0 => none
  | n + 1 => let o := 8 + 8 * n
    if le b o 2 % 4096 = code then some (le b (o + 4) 4, le b (o + 2) 2) else bucketOvr b code n

/-- RATE and BURST of a code's bucket in force (R261, R262). -/
def State.bucketSet (s : State) (code : Nat) : Nat × Nat :=
  match bucketOvr s.logRec code (byteAt s.logRec 1) with
  | some rb => rb
  | none =>
    let v := evSev code
    if v ≤ 3 then (20, 100) else if v ≤ 5 then (50, 200) else if v = 6 then (200, 1000) else (0, 0)

/-- Bytes of records the log may hold: 62 MiB (R263). -/
abbrev logBytes : Nat := 65011712

def logUsed (rs : List LogRec) : Nat := rs.foldl (fun n r => n + evLen r.ev) 0

/-- Removes the oldest records of severity at or below `sev` until `need` bytes are free; answers what is still needed (R263). -/
def evict (sev : Nat) : List LogRec → Nat → List LogRec × Nat
  | [], n => ([], n)
  | r :: rs, n =>
    if n = 0 then (r :: rs, 0)
    else if r.ev.sev ≤ sev then evict sev rs (n - evLen r.ev)
    else let k := evict sev rs n; (r :: k.1, k.2)

/-- A record written into a log that is not frozen, making room (R263). Answers the log and whether EV_LOG_DROPPED is due. -/
def EvLog.write (l : EvLog) (ev : Event) (reserve : Bool) : EvLog × Bool :=
  let need := logUsed l.recs + evLen ev - logBytes
  let k := evict ev.sev l.recs need
  if k.2 = 0 then
    ({ l with recs := k.1 ++ [{ seq := l.nextSeq, ev := ev, reserve := reserve }], nextSeq := l.nextSeq + 1, episode := false }, false)
  else ({ l with dropped := l.dropped + 1, episode := true }, !l.episode)

/-- The count of records restarts with each whole second of LMT (R261). -/
def EvLog.second (l : EvLog) (t : Nat) : EvLog :=
  if t / 1000000000 = l.sec then l else { l with sec := t / 1000000000, secCount := 0, overload := false }

/-- An event that has passed its bucket and LOG_MIN_SEV reaches the log (R261, R265). Answers the codes that fall due. -/
def EvLog.take (l : EvLog) (ev : Event) (always reserve : Bool) : EvLog × List Nat :=
  if l.frozen && !always then
    let c := l.counters.set ev.sev (l.counters.getD ev.sev 0 + 1)
    if ev.sev = 7 then
      if l.reserve.length < 256 then ({ l with counters := c, reserve := l.reserve ++ [ev] }, [])
      else ({ l with counters := c, notReserved := l.notReserved + 1 }, [])
    else ({ l with counters := c }, [])
  else
    let l := l.second ev.lmt
    if !always && decide (65536 ≤ l.secCount) then
      ({ l with dropped := l.dropped + 1, overload := true }, if l.overload then [] else [EV_LOG_OVERLOAD])
    else
      let w := ({ l with secCount := if always then l.secCount else l.secCount + 1 } : EvLog).write ev reserve
      (w.1, if w.2 then [EV_LOG_DROPPED] else [])

/-! Tailrace. -/

/-- The races that a channel stamps (R266). -/
def stampRaces (b : Bytes) : List Nat := ([byteAt b 4, byteAt b 5]).filter (· ≠ 255)

/-- Bytes of a record with its header and stamps (R267). -/
def trLen (nstamp body : Nat) : Nat := 24 + 16 * nstamp + (body + 7) / 8 * 8

/-- Free bytes of the buffers a channel holds (R270). -/
def trFree (bs : List TrBuf) : Nat := bs.foldl (fun n b => n + (b.len - b.used)) 0

/-- Writes `n` bytes into the buffers in ring order: those left, those filled and returned, bytes not placed (R270). -/
def trFill (seq : Nat) : List TrBuf → Nat → Bool → List TrBuf × List TrBuf × Nat
  | [], n, _ => ([], [], n)
  | b :: r, n, start =>
    let b := if start && b.firstOfs.isNone then { b with firstOfs := some b.used, firstSeq := seq } else b
    let room := b.len - b.used
    if n < room then ({ b with used := b.used + n } :: r, [], 0)
    else
      let done := { b with used := b.len }
      if n = room then (r, [done], 0)
      else let k := trFill seq r (n - room) false; (k.1, done :: k.2.1, k.2.2)

/-- Returns buffers to the host, in order, with their write-backs (R416). -/
def HostIf.trReturn (h : HostIf) (t c : Nat) : List TrBuf → HostIf
  | [] => h
  | b :: bs =>
    let ph := match h.rings.get? (ringKey 3 c) with
      | some r => r.phase
      | none => true
    let h1 := { h with
      trDone := h.trDone ++ [(c, { b with phase := ph })]
      rings := match h.rings.get? (ringKey 3 c) with
        | some r => h.rings.set (ringKey 3 c) (if r.cons + 1 = r.size then { r with cons := 0, phase := !r.phase } else { r with cons := r.cons + 1 })
        | none => h.rings }
    HostIf.trReturn (h1.entry t (ringKey 3 c) false false) t c bs

/-- A record lost on a channel joins the loss that the next GAP record tells (R271). -/
def TrChan.lose (ch : TrChan) (r : TrRec) (reason : Nat) : TrChan :=
  { ch with
    lostRecords := ch.lostRecords + 1
    gap := match ch.gap with
      | some g => some { g with records := g.records + 1, bytes := g.bytes + r.len, last := r.lmt }
      | none => some { records := 1, bytes := r.len, first := r.lmt, last := r.lmt, reason := reason } }

/-- The GAP record of a loss (R271). -/
def gapRec (g : TrGap) (lmt boot : Nat) (seq : W32) : TrRec :=
  { len := 64, typ := 0x7F, lmt := lmt, bootId := boot, seq := seq,
    body := [g.records, 0] ++ par64 g.bytes ++ par64 g.first ++ par64 g.last ++ [g.reason, 0] }

/-- One record, its SEQ given, goes to the buffers or to the spill (R270, R271). Answers whether the channel began to spill and whether it kept the record. -/
def trStore (share : Nat) (t c : Nat) (r : TrRec) (a : Recorders) : Recorders × Bool × Bool :=
  let ch := a.tr.getD c {}
  let bs := a.host.trBufs.getD c []
  if ch.st == .running && a.host.dma && decide (r.len ≤ trFree bs) then
    let f := trFill r.seq.toNat bs r.len true
    let oldest := if f.1.isEmpty || (f.1.headD { addr := 0, len := 0 }).used = 0 then none
      else if f.2.1.isEmpty then some (ch.oldest.getD r.lmt) else some r.lmt
    ({ a with
        tr := a.tr.set c { ch with outRecs := ch.outRecs ++ [r], oldest := oldest }
        host := ({ a.host with trBufs := a.host.trBufs.set c f.1 } : HostIf).trReturn t c f.2.1 }, false, true)
  else
    let began := ch.st == .running
    let ch := if began then { ch with st := TrState.spilling } else ch
    if ch.spillBytes + r.len ≤ share then
      ({ a with tr := a.tr.set c { ch with spill := ch.spill ++ [r], spillBytes := ch.spillBytes + r.len } }, began, true)
    else ({ a with tr := a.tr.set c (ch.lose r 0) }, began, false)

/-- Records of a type that a channel counts in one second: EVENT_RATE of events, 1,000 of Fantail states and of capture notices (R273). -/
def trLimit (b : Bytes) (typ : Nat) : Option Nat :=
  if typ = 4 then some (le b 16 4) else if typ = 7 ∨ typ = 8 then some 1000 else none

/-- Records of a type that a channel has produced in the present second of LMT. -/
def TrChan.counted (ch : TrChan) (typ sec : Nat) : Nat := if ch.countSec = sec then ch.counts.getD typ 0 else 0

/-- The channel after one more record of a type. -/
def TrChan.count (ch : TrChan) (typ sec : Nat) : TrChan :=
  { ch with countSec := sec, counts := (if ch.countSec = sec then ch.counts else []).set typ (ch.counted typ sec + 1) }

/-- A channel produces a record of `bodyLen` bytes with figures `fig` (R267); one beyond its source's counted rate is dropped, a SHADOW record of more than
the 32,800 bytes counted for it too (R271, R273). -/
def trPut (s : State) (c typ flags lmt bodyLen : Nat) (fig : List Nat) (stamps : Bool) (a : Recorders) : Recorders × List EvReq :=
  let b := s.rcd 0x16 c
  let ch0 := a.tr.getD c {}
  if ch0.st == .stopped then (a, [])
  else
    let sec := s.lmt / 1000000000
    let ovr := (match trLimit b typ with
      | some n => decide (n ≤ ch0.counted typ sec)
      | none => false) || (typ == 2 && decide (32800 < 24 + bodyLen))
    let ch := if (trLimit b typ).isSome then ch0.count typ sec else ch0
    let sr := if stamps then stampRaces b else []
    let mk := fun (q : W32) => ({ len := trLen sr.length bodyLen, typ := typ, flags := flags, lmt := lmt, bootId := s.sys.bootId,
                                  seq := q, stamps := sr.map (fun r => raceStamp s r lmt), body := fig } : TrRec)
    if ovr then ({ a with tr := a.tr.set c { (ch.lose (mk ch.seq) 3) with seq := ch.seq + 1 } }, [])
    else
      let share := byteAt b 12 * 67108864
      match ch.gap with
      | none =>
        let a1 := { a with tr := a.tr.set c { ch with seq := ch.seq + 1 } }
        let k := trStore share s.lmt c (mk ch.seq) a1
        (k.1, if k.2.1 then [{ code := EV_TR_SPILL, sev := evSev EV_TR_SPILL, params := [c] }] else [])
      | some g =>
        let room := ch.st == .running && a.host.dma && decide (64 + (mk 0).len ≤ trFree (a.host.trBufs.getD c []))
          || decide (ch.spillBytes + 64 + (mk 0).len ≤ share)
        if room then
          let a1 := { a with tr := a.tr.set c { ch with seq := ch.seq + 2, gap := none, gaps := ch.gaps + 1 } }
          let k1 := trStore share s.lmt c (gapRec g lmt s.sys.bootId ch.seq) a1
          let k2 := trStore share s.lmt c (mk (ch.seq + 1)) k1.1
          (k2.1, [{ code := EV_TR_GAP, sev := evSev EV_TR_GAP, params := [c, g.records, g.reason] }]
            ++ (if k1.2.1 || k2.2.1 then [{ code := EV_TR_SPILL, sev := evSev EV_TR_SPILL, params := [c] }] else []))
        else ({ a with tr := a.tr.set c { (ch.lose (mk ch.seq) 0) with seq := ch.seq + 1 } }, [])

/-! The path of an event. -/

/-- Figures of an event record (R260). -/
def evFigures (e : Event) : List Nat := [e.sev + mkBit e.cleared 3, e.code] ++ [e.bootId] ++ par64 e.lmt ++ [e.suppressed, e.unit, e.point] ++ e.params

/-- Step 1 of R261: Tailrace. -/
def traceEvent (s : State) (ev : Event) (flags : Nat) (a : Recorders) : Recorders × List EvReq :=
  (s.recsOf 0x16).foldl (fun p b =>
    let c := byteAt b 0
    if (byteAt b 1).testBit 3 && decide (byteAt b 3 ≤ ev.sev) then
      let k := trPut s c 0x04 flags ev.lmt (evLen ev) (evFigures ev) true p.1
      (k.1, p.2 ++ k.2)
    else p) (a, [])

/-- Step 2 of R261: the code's bucket gives a token or suppresses the event. -/
def Bucket.take (rate burst t : Nat) (b : Option Bucket) : Bucket × Bool :=
  let b0 := b.getD { tokens := burst * 1000000000, at' := t }
  let tok := min (burst * 1000000000) (b0.tokens + rate * (t - b0.at'))
  if rate = 0 ∨ 1000000000 ≤ tok then ({ tokens := tok - (if rate = 0 then 0 else 1000000000), at' := t }, true)
  else ({ tokens := tok, at' := t, suppressed := min 65535 (b0.suppressed + 1) }, false)

/-- Steps 3 and 4 of R261: the event rings and the log take an event. Answers the events that fall due in turn. -/
def deliver1 (s : State) (ev : Event) (logIt always reserve : Bool) (a : Recorders) : Recorders × List EvReq :=
  let rings := if reserve then (a.host, []) else
    (a.host.rings.keys).foldl (fun p kk =>
      let r := p.1.ringEvent s.lmt kk ev
      (r.1, if r.2 then p.2 ++ [({ code := EV_EVQ_LOST, sev := evSev EV_EVQ_LOST, params := [kk - 128, 1] } : EvReq)] else p.2))
      (a.host, [])
  let lg := if logIt then a.log.take ev always reserve else (a.log, [])
  ({ a with host := rings.1, log := lg.1 }, rings.2 ++ lg.2.map (fun c => { code := c, sev := evSev c }))

/-- One event through R261; during a runtime restart it is held after Tailrace (R486). Answers the recorders and the events that fall due in turn. -/
def raise1 (s : State) (q : EvReq) (a : Recorders) : Recorders × List EvReq :=
  let a := if 5 ≤ q.sev ∧ !q.reserve then { a with con := a.con ++ [(s.lmt, q.code, true)] } else a
  let rb := s.bucketSet q.code
  let old := a.log.buckets.get? q.code
  let bk := if q.always then (old.getD { tokens := rb.2 * 1000000000, at' := s.lmt }, true) else Bucket.take rb.1 rb.2 s.lmt old
  let ev : Event := { code := q.code, sev := q.sev, cleared := q.cleared, bootId := s.sys.bootId, lmt := s.lmt,
                      suppressed := if q.always then 0 else (old.map (·.suppressed)).getD 0,
                      unit := q.unit, point := q.point, params := q.params }
  let logIt := bk.2 && (q.always || decide (s.logMinSev ≤ q.sev))
  let logged := logIt && (q.always || !a.log.frozen)
  let a1 := if q.always then a else { a with log := { a.log with buckets := a.log.buckets.set q.code bk.1 } }
  let k := if q.reserve then (a1, []) else traceEvent s ev (mkBit (!bk.2) 0 + mkBit (!logged) 1) a1
  if bk.2 then
    if s.sys.restarting then
      if k.1.log.held.length < 4096 then ({ k.1 with log := { k.1.log with held := k.1.log.held ++ [(ev, logIt)] } }, k.2)
      else ({ k.1 with log := { k.1.log with dropped := k.1.log.dropped + 1 } }, k.2)
    else
      let d := deliver1 s ev logIt q.always q.reserve k.1
      (d.1, k.2 ++ d.2)
  else k

/-- Events and those they bring about, `n` rounds at most. -/
def raiseAll (s : State) : Nat → List EvReq → Recorders → Recorders
  | 0, _, a => a
  | n + 1, qs, a =>
    let r := qs.foldl (fun p q => let k := raise1 s q p.1; (k.1, p.2 ++ k.2)) (a, ([] : List EvReq))
    if r.2.isEmpty then r.1 else raiseAll s n r.2 r.1

/-- The recorders of a state. -/
def State.recorders (s : State) : Recorders := ⟨s.tr, s.log, s.host, s.sys.console⟩

/-- A state with other recorders. -/
def State.withRecorders (s : State) (a : Recorders) : State := { s with tr := a.tr, log := a.log, host := a.host, sys := { s.sys with console := a.con } }

/-- Raises events (R261). Nothing but Tailrace, the log and the host interface changes. -/
def State.raiseReq (s : State) (qs : List EvReq) : State := s.withRecorders (raiseAll s 5 qs s.recorders)

/-- Raises one event at the severity its chapter gives. -/
def State.raise (s : State) (code : Nat) (unit : Nat := 0) (params : List Nat := []) (point : Nat := 0) (cleared : Bool := false) : State :=
  s.raiseReq [{ code := code, sev := evSev code, cleared := cleared, unit := unit, point := point, params := params }]

/-- Raises an event where a condition holds. -/
def State.raiseIf (s : State) (c : Bool) (code : Nat) (unit : Nat := 0) (params : List Nat := []) (point : Nat := 0) (cleared : Bool := false) : State :=
  if c then s.raise code unit params point cleared else s

/-- Every channel that selects a source (bit of SOURCES) and passes `sel` produces a record (R266, R267). -/
def State.emit (s : State) (bitNo typ flags lmt bodyLen : Nat) (fig : List Nat) (stamps : Bool) (sel : Bytes → Bool) : State :=
  let k := (s.recsOf 0x16).foldl (fun p b =>
    if (byteAt b 1).testBit bitNo && sel b then
      let r := trPut s (byteAt b 0) typ flags lmt bodyLen fig stamps p.1
      (r.1, p.2 ++ r.2)
    else p) (s.recorders, [])
  (s.withRecorders k.1).withRecorders (raiseAll s 5 k.2 k.1)

end Sys2Proof.Machine
end

