-- ==== Sys2Proof/Machine/Ops.lean ====
section
/-! DEFINITION. Operations every family uses: time, the image, completions, the start of a host command (R426 to R428), module faults (R472). -/

namespace Sys2Proof.Machine

/-- LMT moves on to an instant; it never goes back (R61). -/
def State.tick (s : State) (t : Nat) : State := { s with lmt := max s.lmt t }

/-- An event or instant acts only while the module's clocks run (R480, R499). -/
def live (s : State) (t : Nat) (f : State → State) : Host.Outcome State Fault Refusal :=
  if s.sys.clocksOn then .next (f (s.tick t)) else .next s

/-- The module drives its field outputs: single, or the ACTIVE one of a pair (R381, R391). -/
def State.drives (s : State) : Bool := s.red.role == .single || s.red.role == .active

/-! The image. -/

/-- Committed value of a slot (R14). -/
def State.rd (s : State) (a : Nat) : W32 := s.img.front.getD a 0

/-- Committed 64-bit value of a two-slot point at its even address. -/
def State.rd64 (s : State) (a : Nat) : Nat := (s.rd a).toNat + 4294967296 * (s.rd (a + 1)).toNat

/-- Committed quality of a slot (R26). -/
def State.rdQ (s : State) (a : Nat) : Nat := s.img.frontQ.getD a 0

/-- The latest value written to a slot: in the back buffer if written since the commit, else committed (R14, R32). -/
def State.latest (s : State) (a : Nat) : W32 := (s.img.back.get? a).getD (s.rd a)

/-- A write to a defined one-slot point, or to one slot of a point: it is in the back buffer until its group commits (R32). -/
def State.wr (s : State) (a : Nat) (v : W32) : State :=
  if (s.pointOf a).isSome then { s with img := { s.img with back := s.img.back.set a v } } else s

/-- A write to a two-slot point at its even address. -/
def State.wr64 (s : State) (a v : Nat) : State :=
  (s.wr a (BitVec.ofNat 32 v)).wr (a + 1) (BitVec.ofNat 32 (v / 4294967296))

/-- A condition of a slot begins or ends (R26). -/
def State.setCond (s : State) (a i : Nat) (on : Bool) : State :=
  { s with img := { s.img with cond := s.img.cond.put 0 a (condSet (s.img.cond.getD a 0) i on) } }

/-- A writer's local point: segment 0 (R21). -/
def State.wrLocal (s : State) (node idx : Nat) (v : Int) : State := s.wr (ptAddr s 0 node idx) (w32 v)

/-! Free values. -/

/-- The next value the spec leaves open, as a number of 64 bits. -/
def State.freeVal (s : State) : Nat := (Config.freeValue s.free).toNat

/-- That value has been used. -/
def State.useFree (s : State) : State := { s with free := s.free + 1 }

/-! Completions. -/

/-- A completion in host memory, or held out of D0 (R412, R413, R420). -/
def HostIf.writeCpl (h : HostIf) (t : Nat) (c : Completion) : HostIf :=
  let k := ringKey 1 c.ring
  match h.rings.get? k with
  | none => { h with heldCpls := h.heldCpls ++ [c] }
  | some r =>
    let r0 := { r with reserved := r.reserved - 1 }
    if h.dma && !r.err then
      let h1 : HostIf := { h with rings := h.rings.set k r0.step, cpls := h.cpls ++ [{ c with slot := r.prod, phase := r.phase }] }
      if c.noint then h1 else h1.entry t k false c.wake
    else
      let h1 : HostIf := { h with rings := h.rings.set k r, heldCpls := h.heldCpls ++ [c] }
      if c.noint then h1 else h1.entry t k false c.wake

/-- The completion ring bound to a command ring (R405, R417). -/
def HostIf.boundOf (h : HostIf) (ring : Nat) : Nat := match h.rings.get? (ringKey 0 ring) with
  | some r => r.bound
  | none => 0

/-- The command's entry in the table of flights is the one with its ring and TAG (R430). -/
def Flight.is (f : Flight) (ring : Nat) (tag : W32) : Bool := f.h.ring == ring && f.h.tag == tag

/-- What a command's completion reports beside its status (R412). -/
structure Report0 where
  detail : Nat := 0
  result : Nat := 0
  commit : Option Nat := none
  inBuf : Bool := false
  out : List Nat := []
  deriving DecidableEq, Repr

/-- An orphaned completion goes into completion ring 0 with ORPHAN, or waits for a free slot of it (R422). -/
def HostIf.orphanPut (t : Nat) (h : HostIf) (c : Completion) : HostIf :=
  let k := ringKey 1 0
  match h.rings.get? k with
  | none => { h with orphans := h.orphans ++ [c] }
  | some r =>
    if !h.dma || r.err || r.free = 0 || !h.orphans.isEmpty then { h with orphans := h.orphans ++ [c] }
    else
      let h1 : HostIf := { h with rings := h.rings.set k r.step, cpls := h.cpls ++ [{ c with ring := 0, slot := r.prod, phase := r.phase, orphan := true }] }
      if c.noint then h1 else h1.entry t k false c.wake

/-- Orphaned completions are written once ADMIN_UP is set again (R422). -/
def HostIf.orphansOut (h : HostIf) (t : Nat) : HostIf :=
  if h.adminUp then h.orphans.foldl (HostIf.orphanPut t) { h with orphans := [] } else h

/-- Completes a command: it leaves the flights and its completion is written, or held as an orphan (R412, R422). -/
def State.finish (s : State) (f : Flight) (status : Nat) (r : Report0 := {}) : State :=
  let c : Completion := {
    ring := f.cpl, tag := f.h.tag, op := f.op, status := status, orphan := f.orphan, cmdRing := f.h.ring,
    head := match s.host.rings.get? (ringKey 0 f.h.ring) with
      | some q => q.cons
      | none => 0
    detail := r.detail, commitLmt := (r.commit.orElse (fun _ => f.commit)).getD f.h.t, result := r.result,
    noint := f.h.noint, wake := f.h.wake, inBuf := r.inBuf, out := r.out }
  { s with
    flights := s.flights.filter (fun g => !(g.is f.h.ring f.h.tag && g.orphan == f.orphan))
    host := if f.orphan then ({ s.host with orphans := s.host.orphans ++ [c] } : HostIf).orphansOut s.lmt else s.host.writeCpl s.lmt c }

/-- Completes with ST_OK at an instant that is also the commit point. -/
def State.ok (s : State) (f : Flight) (result : Nat := 0) (detail : Nat := 0) : State :=
  s.finish f ST_OK { result := result, detail := detail, commit := some (f.commit.getD s.lmt) }

/-- Completes a read command with what it wrote to the host buffer (R428, R429). -/
def State.okOut (s : State) (f : Flight) (out : List Nat) (result : Nat := 0) (detail : Nat := 0) : State :=
  s.finish f ST_OK { result := result, detail := detail, commit := some s.lmt, inBuf := true, out := out }

/-- The flight of a ring and TAG. -/
def State.flight? (s : State) (ring : Nat) (tag : W32) : Option Flight := s.flights.find? (fun f => f.is ring tag)

/-- Changes the entry of a flight. -/
def State.setFlight (s : State) (f : Flight) : State :=
  { s with flights := s.flights.map (fun g => if g.is f.h.ring f.h.tag && g.orphan == f.orphan then f else g) }

/-- Started flights that meet a test, in fetch order. -/
def State.flightsOf (s : State) (p : Flight → Bool) : List Flight := s.flights.filter (fun f => !f.held && p f)

/-- Started flights of an opcode on a unit, in fetch order. -/
def State.flightsOn (s : State) (op unit : Nat) : List Flight := s.flightsOf (fun f => f.op == op && f.unit == unit)

/-- Completes each flight of a list in order. -/
def State.finishAll (s : State) (fs : List Flight) (status : Nat) (r : Report0 := {}) : State :=
  fs.foldl (fun s f => s.finish f status r) s

/-- Completes commands ST_OK at their commit point with what each decided earlier for its host buffer (R304, R324, R428). -/
def State.finishOut (s : State) (fs : List Flight) : State :=
  fs.foldl (fun s f => s.finish f ST_OK { commit := some s.lmt, inBuf := !f.out.isEmpty, out := f.out }) s

/-! Fetch and start of a host command. -/

/-- The module fetches no commands: power fail, reset pin, or an update's restart (R480, R486, R518). -/
def State.fetchStop (s : State) : Bool := s.sys.pfail != .ok || s.sys.restarting || s.sys.resetLow

/-- A command ring gives a descriptor in this sweep: one is there, FETCH_MAX is not reached, a completion slot is free (R408, R409). -/
def HostIf.gives (h : HostIf) (r : HostRing) : Bool :=
  r.kind == 0 && !r.err && !r.stopping && r.prod != r.cons && decide (r.taken < r.fetchMax) &&
  (match h.rings.get? (ringKey 1 r.bound) with
   | some c => !c.err && decide (0 < c.free)
   | none => false)

/-- A descriptor of a ring may be fetched now: rings of higher PRIORITY, then of lower number, come first (R404, R405, R408, R409). -/
def State.fetchable (s : State) (ring : Nat) : Bool :=
  s.host.adminUp && s.host.dma && !s.host.quiesce && !s.fetchStop &&
  (s.sys.st == .ready || s.sys.st == .running || s.sys.st == .faultHalt) && decide (s.flights.length + s.host.fetched.length < 8192) &&
  (match s.host.rings.get? (ringKey 0 ring) with
   | some r => s.host.gives r && !s.host.rings.any (fun e => s.host.gives e.2 && (decide (r.prio < e.2.prio) || (e.2.prio == r.prio && decide (e.2.num < r.num))))
   | none => false)

/-- A descriptor read has completed: the consumer index moves on and a completion slot is reserved (R408, R409). -/
def State.fetchOne (s : State) (ring : Nat) : State :=
  match s.host.rings.get? (ringKey 0 ring) with
  | none => s
  | some r =>
    let h1 := { s.host with rings := s.host.rings.set (ringKey 0 ring) { r with cons := if r.cons + 1 = r.size then 0 else r.cons + 1, taken := r.taken + 1 }, cplNow := r.bound }
    match h1.rings.get? (ringKey 1 r.bound) with
    | none => { s with host := h1 }
    | some c => { s with host := { h1 with rings := h1.rings.set (ringKey 1 r.bound) { c with reserved := c.reserved + 1 } } }

/-- The descriptor of a ring that was fetched first and whose command has not started: commands of one ring start in ring order (R411). -/
def HostIf.nextFetched (h : HostIf) (ring : Nat) : Option Fetched := h.fetched.find? (fun x => x.ring == ring)

/-- The command of this descriptor can run: its descriptor has been fetched and is the ring's next, or can be fetched now. -/
def State.canTake (s : State) (h : CmdHdr) : Bool :=
  s.sys.clocksOn && (match s.host.nextFetched h.ring with
    | some x => x.tag == h.tag
    | none => s.fetchable h.ring)

/-- The command is taken: fetched unless it has been. -/
def State.take (s : State) (h : CmdHdr) : State :=
  let s1 := s.tick h.t
  match s1.host.nextFetched h.ring with
  | some x => { s1 with host := { s1.host with fetched := s1.host.fetched.erase x, cplNow := x.cpl } }
  | none => s1.fetchOne h.ring

/-- Its descriptor with the fetch instant, which may lie before the instant it starts (R408). -/
def State.asFetched (s : State) (h : CmdHdr) : CmdHdr := match s.host.nextFetched h.ring with
  | some x => { h with t := x.at' }
  | none => h

/-- What the tables of R427 and R429 say of one command before its own rule runs. -/
structure Gate where
  /-- Marked "read", or otherwise exempt from ST_DISABLED (R427 order 3). -/
  exempt : Bool := false
  /-- ST_INVALID, with DETAIL the offset of the first offending descriptor field (R412). -/
  invalid : Option Nat := none
  unit : Nat := 0xF000
  disabled : Bool := false
  refused : Bool := false
  /-- DETAIL of that refusal where the command's rule names a place. -/
  detail : Nat := 0
  deriving DecidableEq, Repr

/-- Opcodes accepted in FAULT_HALT (R411). -/
def okInFaultHalt (op : Nat) : Bool := op / 256 == 1 || op / 256 == 0x0A || op / 256 == 0x10

/-- ST_REFUSED by the module's mode or role: recovery start and test mode (R470), a module that is not ACTIVE (R394). -/
def State.modeRefuses (s : State) (op : Nat) : Bool :=
  (s.sys.startMode == 2 && !okInFaultHalt op) ||
  (s.sys.startMode == 1 && (op == 0x0203 || op == 0x0204 || op / 256 == 0x0B)) ||
  (!s.drives && ((2 ≤ op / 256 && op / 256 ≤ 9) || (0x0B ≤ op / 256 && op / 256 ≤ 0x0D) || op / 256 == 0x11
    || op == 0x0E03 || op == 0x0E04 || op == 0x0E05))

/-- In test mode and recovery start the configuration is retained but not applied (R470): a command that acts on one of its units or points
completes ST_REFUSED (DEDUCED, log 71). -/
def State.startRefuses (s : State) (op : Nat) (g : Gate) : Bool :=
  s.sys.startMode != 0 && ((!g.exempt && ((3 ≤ op / 256 && op / 256 ≤ 9) || op / 256 == 0x0C || op / 256 == 0x0D || op / 256 == 0x11)) ||
    op == 0x0206 || op == 0x0207)

/-- Offset of the first offending field of a descriptor (R410, R411, R412): an admin opcode on another ring, FLAGS, what the command's own checks find, bytes
12 to 15. -/
def Gate.badAt (g : Gate) (op : Nat) (h : CmdHdr) : Option Nat :=
  if op / 256 == 1 && h.ring != 0 then some 0
  else if h.rsv then some 2
  else match g.invalid with
    | some o => some (if h.rsv12 then min o 12 else o)
    | none => if h.rsv12 then some 12 else none

/-- A command that has started: R427's order of reasons to fail, then its own rule on its flight. -/
def start (op : Nat) (g : Gate) (go : Flight → State → State) (h : CmdHdr) (s : State) : State :=
  let f : Flight := { h := h, op := op, unit := g.unit, orphan := (s.host.rings.get? (ringKey 0 h.ring)).isNone, cpl := s.host.cplNow }
  let s1 := { s with flights := s.flights ++ [f] }
  if s.sys.st == .faultHalt && !okInFaultHalt op then s1.finish f ST_FAULT
  else match g.badAt op h with
    | some o => s1.finish f ST_INVALID { detail := o }
    | none =>
      if g.disabled && !g.exempt then s1.finish f ST_DISABLED
      else if s.modeRefuses op || s.startRefuses op g then s1.finish f ST_REFUSED
      else if g.refused then s1.finish f ST_REFUSED { detail := g.detail }
      else go f s1

/-- Earlier commands of the ring are in flight: a FENCE holds the command (R410). -/
def State.fenced (s : State) (h : CmdHdr) : Bool := h.fence && s.flights.any (fun f => f.h.ring == h.ring && !f.orphan)

/-- A host command: taken, refused for its TAG (R411), held by FENCE, or started. -/
def hostRow (op : Nat) (h : CmdHdr) (run : CmdHdr → State → State) (s : State) : State :=
  let s1 := s.take h
  let h := s.asFetched h
  if s1.flights.any (fun f => f.is h.ring h.tag && !f.orphan) then
    let f : Flight := { h := h, op := op, orphan := false, cpl := s1.host.cplNow }
    { s1 with host := (s1.finish { f with held := true } ST_INVALID { detail := 4 }).host }
  else if s1.fenced h then { s1 with flights := s1.flights ++ [{ h := h, op := op, held := true, cpl := s1.host.cplNow }] }
  else run h s1

/-! Validity helpers of R427 order 2: the offset of the first offending field. -/

/-- TARGET must be the system unit. -/
def needSys (h : CmdHdr) : Option Nat := if h.tgt = 0xF000 then none else some 8

/-- TARGET must be a unit of a kind with its instance in range (R37). -/
def needKind (h : CmdHdr) (k : Nat) : Option Nat := if h.tgt < 65536 ∧ h.kind = k ∧ unitOk h.tgt then none else some 8

/-- A buffer must be named and hold at least `n` bytes, 8-byte aligned (R410). -/
def needBuf (h : CmdHdr) (n : Nat) : Option Nat :=
  if !h.buf then some 2 else if h.p 0 8 % 8 ≠ 0 then some 16 else if h.bufLen < n then some 24 else none

/-- No buffer may be named. -/
def noBuf (h : CmdHdr) : Option Nat := if h.buf then some 2 else none

/-- Parameter bytes from `a` to 47 are reserved (R426). -/
def zeroTail (h : CmdHdr) (a : Nat) : Option Nat :=
  ((List.range (48 - a)).find? (fun i => byteAt h.params (a + i) ≠ 0)).map (fun i => 16 + a + i)

/-- Parameter bytes from `a` to `b - 1` are reserved (R426). -/
def zeroGap (h : CmdHdr) (a b : Nat) : Option Nat :=
  ((List.range (b - a)).find? (fun i => byteAt h.params (a + i) ≠ 0)).map (fun i => 16 + a + i)

/-- A parameter at byte `o` must meet a condition. -/
def needP (o : Nat) (c : Bool) : Option Nat := if c then none else some (16 + o)

/-- The first of several findings, by descriptor offset. -/
def firstBad (l : List (Option Nat)) : Option Nat :=
  l.foldl (fun a b => match a, b with
    | some x, some y => some (min x y)
    | some x, none => some x
    | none, y => y) none

/-- Gate of a command on a unit of a kind whose record is of a type: its TARGET is of that kind and configured (R22, R37, R427). -/
def unitGate (h : CmdHdr) (s : State) (kind rt : Nat) (bad : List (Option Nat)) (refused : Bool) : Gate :=
  { invalid := firstBad ([needKind h kind, if (s.rec? rt h.inst).isSome then none else some 8] ++ bad), unit := h.tgt,
    disabled := s.isDis h.tgt, refused := refused }

/-- Gate of a command on the system unit. -/
def sysGate (h : CmdHdr) (bad : List (Option Nat)) (refused : Bool) : Gate :=
  { invalid := firstBad (needSys h :: bad), refused := refused }

/-! Disabling (R432). -/

/-- A unit goes out of service for a UNIT_DISABLE: commands in flight on it complete ST_DISABLED in fetch order, then the UNIT_DISABLE completes. -/
def State.disableUnit (s : State) (f : Flight) : State :=
  let s1 := s.finishAll (s.flights.filter (fun g => g.unit == f.unit && !(g.is f.h.ring f.h.tag) && g.op != 0x0206 && g.op != 0x0207)) ST_DISABLED
  let s2 := { s1 with cfg := { s1.cfg with disabled := if s1.isDis f.unit then s1.cfg.disabled else s1.cfg.disabled ++ [f.unit] } }
  (s2.raise EV_UNIT_DISABLED f.unit).ok f

/-- A unit returns to service for a UNIT_ENABLE (R433). -/
def State.enableUnit (s : State) (f : Flight) : State :=
  let s1 := { s with cfg := { s.cfg with disabled := s.cfg.disabled.filter (fun u => u != f.unit) } }
  (s1.raise EV_UNIT_ENABLED f.unit).ok f

/-! Module faults. -/

/-- A heartbeat of the partner is heard (R391). -/
def State.partnerHeard (s : State) : Bool := (s.red.link.heardAt.isSome && !s.red.link.silent) || (s.red.portA.heardAt.isSome && !s.red.portA.silent)

/-- A channel's functions of a set enter SAFE for a fault, except in START_TEST; its outputs open (R360). -/
def SafeChan.force (c : SafeChan) (reason : Nat) (p : Nat → Bool) : SafeChan :=
  { c with
    fns := c.fns.mapV (fun n f => if p n && f.st != FnState.startTest then { f with st := .safe, reason := reason, torqueOff := true } else f)
    on := [] }

/-- All four switches of an output open (R350, R357). -/
def SafeOut.open (o : SafeOut) : SafeOut := { o with aOn := false, bOn := false, dip := none }

/-- Both channels open their switches of every output; the functions of a set enter SAFE (R350, R360, R377). -/
def Safety.force (x : Safety) (reason : Nat) (p : Nat → Bool) : Safety :=
  { x with a := x.a.force reason p, b := x.b.force reason p, outs := x.outs.mapV (fun _ o => o.open) }

/-- Outputs take the FAULT_HALT column of R521. -/
def State.faultOutputs (s : State) : State :=
  { s with
    fos := s.fos.mapV (fun _ f => { f with hiZ := true, pending := [] })
    mot := { s.mot with links := s.mot.links.mapV (fun _ l => { l with frame := [] }) }
    ana := { s.ana with
      pwms := s.ana.pwms.mapV (fun _ p => { p with live := false, on := 0 })
      dios := s.ana.dios.mapV (fun _ d => { d with on := false })
      cls := s.ana.cls.mapV (fun _ c =>
        if c.mode = 3 then
          if s.red.role ≠ .single ∧ s.partnerHeard then { c with alarm := false, drive := 0, supply := 0 }
          else { c with alarm := true, alarmDir := c.alarmHigh, drive := if c.alarmHigh then 21000 else 3600 }
        else c) }
    safe := s.safe.force 13 (fun _ => true) }

/-- HSTAT.STATE (R404). -/
def stateCode : HState → Nat
  | .boot => 0
  | .verify => 1
  | .load => 2
  | .ready => 3
  | .running => 4
  | .faultHalt => 5

/-- HSTAT moves, with its console line (R469, R519). -/
def State.setSt (s : State) (x : HState) : State :=
  { s with sys := { s.sys with st := x, console := s.sys.console ++ [(s.lmt, stateCode x, false)] } }

/-- A fault of the module: FAULT_HALT, HFAULT, EV_FAULT_HALT, outputs, and the pair's own-fault report (R11, R384, R472). -/
def State.faultHalt (s : State) (code detail : Nat) : State :=
  if s.sys.st == .faultHalt then s
  else
    let s0 := s.setSt .faultHalt
    let s1 := { s0 with
      sys := { s0.sys with hfault := BitVec.ofNat 32 (code % 65536 + 65536 * detail)
                           trialFailed := (s.sys.trialFailed || s.sys.upd == UpdState.trial || s.sys.upd == UpdState.activating) }
      red := if s.red.role = Role.single then s.red else { s.red with role := .blocked, health := 2 } }
    (s1.faultOutputs).raise EV_FAULT_HALT 0 [code, detail]

/-- Every banked table's bank. -/
def State.mapBanks (s : State) (f : Bank → Bank) : State :=
  { s with
    mot := { s.mot with axes := s.mot.axes.mapV (fun _ a => { a with table := f a.table }) }
    loops := s.loops.mapV (fun _ l => { l with coef := f l.coef })
    logic := { s.logic with engines := s.logic.engines.mapV (fun _ e => { e with prog := f e.prog }) }
    spins := s.spins.mapV (fun _ p => { p with prog := f p.prog }) }

/-- A pair in step: this module ACTIVE, its partner STANDBY (R387). -/
def State.synced (s : State) : Bool := s.red.role == .active && !s.red.partnerLost && s.red.partner.any (fun p => p.role == .standby)

end Sys2Proof.Machine
end

