-- ==== Sys2Proof/Machine/Races.lean ====
section
/-! DEFINITION. Races: sources, positions, segments and their frames, race points (R41 to R58, R71). -/

namespace Sys2Proof.Machine

/-- Admitted record of a race (R47). -/
def State.raceRec (s : State) (n : Nat) : Bytes := s.rcd 0x02 n
def raceSource (b : Bytes) : Nat := byteAt b 1
def raceSrc (b : Bytes) : Nat := byteAt b 2
def raceDom (b : Bytes) : Nat := byteAt b 3
/-- FLAGS[0]: invert counting direction (R47). -/
def raceInvert (b : Bytes) : Bool := (byteAt b 9).testBit 0
def raceHoldMax (b : Bytes) : Nat := le b 12 4 * 1000
def raceScale (b : Bytes) : Nat := le b 16 8
def raceOrigin (b : Bytes) : Nat := le b 24 8

/-- Domain time of a race now. -/
def State.raceTime (s : State) (n : Nat) : Nat := domTime (s.dom (raceDom (s.raceRec n))) s.lmt

/-- Encoder record of an input (R40). -/
def State.encRec (s : State) (e : Nat) : Bytes := s.rcd 0x01 e
def encMode (b : Bytes) : Nat := byteAt b 1

/-- The race that an encoder input feeds (R38). -/
def State.encRace? (s : State) (e : Nat) : Option Nat :=
  ((s.recsOf 0x02).find? (fun b => raceSource b == 0 && raceSrc b == e)).map (fun b => byteAt b 0)

/-- The races derived directly from a race (R43). -/
def State.derivedOf (s : State) (n : Nat) : List Nat :=
  ((s.recsOf 0x02).filter (fun b => raceSource b == 1 && raceSrc b == n)).map (fun b => byteAt b 0)

/-- A race and every race derived from it, to the depth of R43. -/
def State.raceTree (s : State) : Nat → Nat → List Nat
  | 0, n => [n]
  | f + 1, n => n :: (s.derivedOf n).flatMap (s.raceTree f)

/-- Position of an encoder race from its counter (R41, R47 FLAGS). -/
def Race.encPos (r : Race) (count : W64) : W64 := if r.inv then r.base - count else r.base + count

/-- Base that puts an encoder race at a position, in a counting direction (R41, R47). -/
def encBase (inv : Bool) (at' count : W64) : W64 := if inv then at' + count else at' - count

/-- Position of a derived race from its parent's (R43): the product is exact, the division rounds towards -inf, the result wraps. -/
def gearPos (b : Bytes) (p p0 q0 : W64) : W64 :=
  BitVec.ofInt 64 (diff64 p.toNat p0.toNat * leS b 32 4 / (le b 36 4 : Int) + leS b 40 8 + q0.toNat)

/-- Present position of a race in whole ticks. -/
def State.raceNow (s : State) : Nat → Nat → W64
  | 0, n => (s.race n).pos
  | f + 1, n =>
    let r := s.race n
    let b := s.raceRec n
    match r.st with
    | .idle => r.pos
    | .lost => r.pos
    | .holdover => BitVec.ofNat 64 (racePos r (s.raceTime n) / 4294967296)
    | .running => match raceSource b with
      | 0 => r.encPos (s.enc (raceSrc b)).count
      | 1 => gearPos b (s.raceNow f (raceSrc b)) r.p0 r.q0
      | _ => BitVec.ofNat 64 (racePos r (s.raceTime n) / 4294967296)

/-- Signal frequency limit of an encoder input as ticks per second (R38). -/
def encLimit (b : Bytes) : Nat :=
  if encMode b = 2 then 400000 * 4096
  else if byteAt b 2 ≤ 16 then 10000000 * 4096 else 160000000 * 4096 / byteAt b 2

/-- Speed limit of a race in ticks per second (R52). The rule gives none for a remote race and those derived from it: it is 0 here, so that
any motion of such a derived race refuses a RACE_PRESET (DESIGN CHOICE, log 201). -/
def State.raceLimit (s : State) : Nat → Nat → Nat
  | 0, _ => 0
  | f + 1, n =>
    let b := s.raceRec n
    match raceSource b with
    | 0 => let e := s.encRec (raceSrc b)
      if encMode e = 3 then le e 12 4 * 4096 * 1000000 / le e 8 2 else encLimit e
    | 1 => s.raceLimit f (raceSrc b) * (leS b 32 4).natAbs / le b 36 4
    | 3 => 0
    | _ => (s.race n).rate

/-- The encoder input at the root of a race's chain, if it has one. -/
def State.raceRoot (s : State) : Nat → Nat → Option Nat
  | 0, _ => none
  | f + 1, n =>
    let b := s.raceRec n
    match raceSource b with
    | 0 => some (raceSrc b)
    | 1 => s.raceRoot f (raceSrc b)
    | _ => none

/-- A race that measures increments: resumes with UNREFERENCED (R51). -/
def State.raceIncremental (s : State) : Nat → Nat → Bool
  | 0, _ => false
  | f + 1, n =>
    let b := s.raceRec n
    match raceSource b with
    | 0 => encMode (s.encRec (raceSrc b)) != 3
    | 1 => s.raceIncremental f (raceSrc b)
    | 2 => true
    | _ => false

/-- Race state word of R71. -/
def raceStateWord (s : State) (n : Nat) : Nat :=
  let r := s.race n
  let b := s.raceRec n
  let fault := if raceSource b = 0 then (s.enc (raceSrc b)).fault else 0
  raceCode r.st + mkBit (r.unref && r.st != .idle) 8 + mkBit r.refArmed 9 + mkBit (fault != 0) 16 + 1048576 * fault

/-- The race points of R71, at a position and its domain time. -/
def State.racePoints (s : State) (n : Nat) : State :=
  let r := s.race n
  let b := s.raceRec n
  let g := r.segs.head?
  let a := ptAddr s 0 4 (n * 32)
  let sc : Int := raceScale b
  let s1 := match g with
    | none => s
    | some g => ((((s.wr64 a g.c0).wr64 (a + 2) g.ts).wr (a + 4) (f32OfRat (g.c1 * sc) (2 ^ 80))).wr (a + 5)
        (f32OfRat (2 * g.c2 * sc * 1000000000) (2 ^ 104))).wr (a + 12) (BitVec.ofNat 32 g.seq)
  let s2 := ((s1.wr (a + 6) (BitVec.ofNat 32 (raceStateWord s n))).wr64 (a + 8) r.refPos.toNat).wr (a + 11) r.fitErr
  let s3 := s2.wr (a + 13) r.segLate
  if raceSource b = 0 then s3.wr (a + 10) (BitVec.ofNat 32 (s.enc (raceSrc b)).ampl) else s3

/-- Payload of a race segment frame (R57), in network byte order. -/
def segFrame (modNo race epoch : Nat) (g : Segment) : Bytes :=
  toBe 0x20 1 ++ toBe 1 1 ++ toBe 68 2 ++ toBe (modNo * 16 + race) 1
    ++ toBe (mkBit g.holdover 7 + mkBit g.lost 6 + mkBit g.unref 5 + mkBit g.disc 4 + g.dom) 1 ++ toBe epoch 1 ++ toBe 0 1
    ++ toBe g.seq 2 ++ toBe 0 2 ++ toBe (g.ts / 1000000000) 8 ++ toBe (g.ts % 1000000000) 4 ++ toBe g.dur 4 ++ toBe 0 4
    ++ toBe g.c0 8 ++ toBe (wrapN 64 g.c1) 8 ++ toBe (wrapN 64 g.c2) 8 ++ toBe (wrapN 64 g.c3) 8 ++ toBe g.scale 8

/-- Destination of a race's frames on a segment (R57, R103): the base with the race number added in the last byte. -/
def raceDst (seg : Bytes) (n : Nat) : Nat := be seg 20 6 / 256 * 256 + (be seg 20 6 % 256 + n) % 256

/-- The field ports (1 to 4) of a PORTS field. -/
def portsOf (m : Nat) : List Nat := [1, 2, 3, 4].filter (fun p => m.testBit (p - 1))

/-- Queues a segment's frame on queue 7 of each port of the race, launch T_S - LEAD; the standby sends none (R53, R57). -/
def State.sendSeg (s : State) (n : Nat) (g : Segment) : State :=
  if !s.drives then s
  else
    let r := s.race n
    let fr := (portsOf r.ports).map (fun p =>
      { s.oczFrame p 7 (raceDst (s.rcd 0x08 p) n) (segFrame s.sys.modNo n s.red.epoch g) with launch := some (g.ts - r.lead * 1000), dom := g.dom })
    s.putQueued fr

/-- A segment becomes the newest of its race: kept, numbered, sent, and the race's points follow (R53, R57, R60, R71). -/
def State.pushSeg (s : State) (n : Nat) (g0 : Segment) : State :=
  let r := s.race n
  let g := { g0 with seq := r.seq, epoch := s.red.epoch }
  let s1 := s.setRace n { r with segs := (g :: r.segs).take 8, seq := (r.seq + 1) % 65536, discNext := false }
  (s1.sendSeg n g).racePoints n

/-- The frozen segment of a race that is LOST or goes IDLE (R49, R50). -/
def State.frozenSeg (s : State) (n ts : Nat) : Segment :=
  let r := s.race n
  let b := s.raceRec n
  { ts := ts, dur := r.segPeriod * 250000, c0 := r.pos.toNat, c1 := 0, c2 := 0, c3 := 0, scale := raceScale b, seq := 0, epoch := 0,
    dom := raceDom b, lost := true, unref := r.unref, disc := r.discNext }

/-- A value of the record, where it has changed since it was last taken up; the value in force otherwise (R45, R47). -/
def taken (born : Bool) (rec last now : Nat) : Nat := if born && rec == last then now else rec

/-- Binds a derived race: it takes its parent's state and flags (R43, R50). -/
def State.bindDerived (s : State) (n : Nat) (at' : W64) : State :=
  let b := s.raceRec n
  let r := s.race n
  let p := s.race (raceSrc b)
  s.setRace n { r with p0 := s.raceNow 4 (raceSrc b), q0 := at' - BitVec.ofInt 64 (leS b 40 8), pos := at', st := p.st, unref := r.unref || p.unref,
                       holdAt := p.holdAt }

/-- A race leaves IDLE, or starts again after a restart, at its ORIGIN or its retained position (R43, R44, R50, R51, R541). -/
def State.raceStart (s : State) (n : Nat) (unref : Bool) : State :=
  let b := s.raceRec n
  let r := s.race n
  let at' : W64 := if r.born then r.pos else BitVec.ofNat 64 (raceOrigin b)
  let r1 := { r with
    st := .running, unref := unref, born := true, pos := at', tB := at'.toNat, tFrom := s.raceTime n
    rate := taken r.born (le b 48 8) r.recRate r.rate, vmAcc := taken r.born (le b 56 8) r.recAcc r.vmAcc
    vmJerk := taken r.born (le b 64 8) r.recJerk r.vmJerk
    recRate := le b 48 8, recAcc := le b 56 8, recJerk := le b 64 8, vmV := 0, vmA := 0, vmF := 0
    inv := raceInvert b, base := encBase (raceInvert b) at' (s.enc (raceSrc b)).count
    segPeriod := le b 4 2, lead := le b 6 2, ports := byteAt b 8, stepMax := le b 10 2
    segs := [], remote := [], jump := false, fitTs := none, discNext := false, stepRun := 0, stepOpen := false }
  let s1 := s.setRace n r1
  if raceSource b = 1 then s1.bindDerived n at' else s1

/-- Starts a race and every enabled race derived from it, parents first (R50). -/
def State.raceStartTree (s : State) : Nat → Nat → Bool → State
  | 0, _, _ => s
  | f + 1, n, unref =>
    let s1 := s.raceStart n unref
    (s1.derivedOf n).foldl (fun s d => if s.isDis (uRace d) || (s.race d).st != .idle then s else s.raceStartTree f d unref) s1

/-- UNREFERENCED is cleared on a race and on the races that take its flags (R50, R51). -/
def State.clearUnref (s : State) (n : Nat) : State :=
  (s.raceTree 3 n).foldl (fun s m => (s.setRace m { s.race m with unref := false }).racePoints m) s

/-- A derived race whose parent is IDLE: it stays IDLE (R50). -/
def State.parentIdle (s : State) (n : Nat) : Bool :=
  let b := s.raceRec n
  raceSource b == 1 && (s.race (raceSrc b)).st == .idle

end Sys2Proof.Machine
end

