-- ==== Sys2Proof/Machine/Cogs.lean ====
section
/-! DEFINITION. Cogs and fast outputs (R73 to R84, R87). -/

namespace Sys2Proof.Machine

/-- Admitted record of a cog (R73). -/
def State.cogRec (s : State) (c : Nat) : Bytes := s.rcd 0x05 c
def cogRace (b : Bytes) : Nat := byteAt b 2
def cogFwd (b : Bytes) : Bool := byteAt b 3 == 0
def cogAction (b : Bytes) : Nat := byteAt b 4
def cogRepeats (b : Bytes) : Bool := (byteAt b 5).testBit 1
/-- TARGET and TARGET_FRAC as Q64.32. -/
def cogTarget (b : Bytes) : Nat := le b 8 8 * 4294967296 + le b 16 4
def cogCount (b : Bytes) : Nat := le b 20 4
def cogDist (b : Bytes) : Nat := le b 24 8
def cogMinInt (b : Bytes) : Nat := le b 32 4
def cogOffset (b : Bytes) : Int := leS b 36 4
def cogArg (b : Bytes) (o n : Nat) : Nat := le b (40 + o) n

/-- The cogs of a race, ascending as recorded. -/
def State.cogsOf (s : State) (race : Nat) : List Nat :=
  ((s.recsOf 0x05).filter (fun b => cogRace b == race)).map (fun b => le b 0 2)

/-- Q64.32 arithmetic modulo 2^96. -/
def add96 (a : Nat) (d : Int) : Nat := wrapN 96 (a + d)

/-- A cog starts again from its record (R81): `armed` as FLAGS[0] and its race allow. -/
def freshCog (b : Bytes) (armed : Bool) : Cog := { st := if armed then .armed else .disarmed, target := cogTarget b }

/-- One repetition is used; the cog goes on or is DONE (R77, R78). -/
def Cog.advance (c : Cog) (b : Bytes) : Cog :=
  if !cogRepeats b then { c with st := .done }
  else
    let t := add96 c.target (if cogFwd b then (cogDist b : Int) else - (cogDist b : Int))
    if cogCount b ≠ 0 ∧ cogCount b ≤ c.used + 1 then { c with st := .done, used := c.used + 1 }
    else { c with target := t, used := c.used + 1 }

/-- Targets a jump to `c0x` has passed over in the cog's direction; one equal to the new position counts as not passed over, and fires at once
(R81; DESIGN CHOICE, log 213). -/
def passedOver (b : Bytes) (c : Cog) (c0x : Nat) : Nat :=
  let ovr : Int := if cogFwd b then diff96 c0x c.target else diff96 c.target c0x
  if ovr ≤ 0 then 0
  else if !cogRepeats b then 1
  else
    let k := (ovr.toNat + cogDist b - 1) / max 1 (cogDist b)
    if cogCount b ≠ 0 then min k (cogCount b - c.used) else k

/-- Recovery with DISCONTINUITY: targets passed over are not fired (R81). -/
def State.cogJump (s : State) (c c0x : Nat) : State :=
  let k := s.cog c
  let b := s.cogRec c
  let n := passedOver b k c0x
  if k.st != .armed || n = 0 then s
  else
    let done := !cogRepeats b || (cogCount b != 0 && decide (cogCount b ≤ k.used + n))
    let t := if done then k.target else add96 k.target ((if cogFwd b then (1 : Int) else -1) * (n : Int) * (cogDist b : Int))
    (s.setCog c { k with st := if done then .done else .armed, target := t, used := if cogRepeats b then k.used + n else k.used,
                         missed := k.missed + BitVec.ofNat 32 n }).raise EV_COG_MISSED (uCog c) [n]

/-! Fast outputs. -/

/-- Fast-output record (R83). -/
def State.foRec (s : State) (o : Nat) : Bytes := s.rcd 0x06 o

/-- Inserts a pending edge in the order of instants, after those of the same instant. -/
def insEdge (e : FoEdge) : List FoEdge → List FoEdge
  | [] => [e]
  | x :: xs => if e.at' < x.at' then e :: x :: xs else x :: insEdge e xs

/-- Edges a list counts as: a pulse is two (R84). -/
def edgeCount (es : List FoEdge) : Nat := es.foldl (fun n e => n + (if e.kind = 3 then 2 else 1)) 0

/-- Level after edges of one instant, in order, and whether any of them is an edge: a rise on a high output or a fall on a low one is none (R79, R84). -/
def edgeLevel (lvl : Bool) (es : List FoEdge) : Bool × Bool :=
  es.foldl (fun l e =>
    let v := if e.kind = 0 then true else if e.kind = 1 then false else !l.1
    (v, l.2 || v != l.1)) (lvl, false)

/-- The output takes a level at an instant: an edge on the wire where it differs (R79, R87). -/
def FastOut.take (f : FastOut) (t : Nat) (l : Bool) : FastOut :=
  if l == f.level then f else { f with level := l, lastEdge := some t, edges := f.edges + 1 }

/-- All edges of one instant on one output: at most one edge on the wire, dropped within 40 ns of the last (R79, R84). -/
def FastOut.instant (f : FastOut) (t : Nat) : FastOut × Bool :=
  let now := f.pending.filter (fun e => e.at' == t)
  let rest := f.pending.filter (fun e => e.at' != t)
  let trails := now.filter (·.trail)
  let f1 := ({ f with pending := rest }).take t (edgeLevel f.level trails).1
  let cmds := now.filter (fun e => !e.trail)
  let l := edgeLevel f1.level cmds
  if !l.2 then (f1, false)
  else if (match f1.lastEdge with
      | some p => decide (t < p + 40)
      | none => false) then ({ f1 with dropped := f1.dropped + 1 }, true)
  else
    let tr := (cmds.filter (fun e => e.kind == 3)).map (fun e => ({ at' := t + e.width, kind := 2, trail := true } : FoEdge))
    ({ f1.take t l.1 with pending := tr.foldl (fun a e => insEdge e a) f1.pending }, false)

/-- Edges due by an instant, one instant after another; answers how many were dropped. -/
def FastOut.flush (t : Nat) : Nat → FastOut → FastOut × Nat
  | 0, f => (f, 0)
  | n + 1, f =>
    match f.pending with
    | [] => (f, 0)
    | e :: _ =>
      if e.at' ≤ t then
        let k := f.instant e.at'
        let r := FastOut.flush t n k.1
        (r.1, r.2 + (if k.2 then 1 else 0))
      else (f, 0)

/-- Points of a fast output (R87). -/
def State.foPoints (s : State) (o : Nat) : State :=
  let f := s.fo o
  ((s.wrLocal 4 (12800 + o * 4) (if f.level then 1 else 0)).wrLocal 4 (12800 + o * 4 + 2) f.edges.toNat).wrLocal 4 (12800 + o * 4 + 3) f.dropped.toNat

/-- Point address of an output's LEVEL, which its events name. -/
def State.foPoint (s : State) (o : Nat) : Nat := ptAddr s 0 4 (12800 + o * 4)

/-- Every edge due by an instant is performed (R84). -/
def State.foFlush (s : State) (t : Nat) : State :=
  (s.fos.keys).foldl (fun s o =>
    let f := s.fo o
    match f.pending with
    | [] => s
    | e :: _ =>
      if t < e.at' then s
      else
        let k := FastOut.flush t (2 * f.pending.length + 2) f
        ((List.range k.2).foldl (fun s _ => s.raise EV_FO_SPACING 0 [] (s.foPoint o)) (s.setFo o k.1)).foPoints o) s

/-- Edges pending on an output: accepted, or of firings found and not yet performed (R84; log 23). -/
def State.foPending (s : State) (o : Nat) : Nat :=
  (s.recsOf 0x05).foldl (fun n b =>
    if cogAction b = 1 ∧ cogArg b 0 1 = o then
      n + ((s.cog (le b 0 2)).due.filter (fun d => !d.noEdge)).length * (if cogArg b 1 1 = 3 then 2 else 1)
    else n) (edgeCount (s.fo o).pending)

/-- ON_LOST: the output goes to IDLE_LEVEL and drops its pending edges, those of firings found among them (R83). -/
def State.foLost (s : State) (o : Nat) : State :=
  let b := s.foRec o
  let f := s.fo o
  let idle := byteAt b 2 == 1
  if byteAt b 1 = 1 ∧ byteAt b 3 = 1 ∧ !f.hiZ then
    let drop := fun (c : Nat) (k : Cog) =>
      if cogAction (s.cogRec c) = 1 ∧ cogArg (s.cogRec c) 0 1 = o then { k with due := k.due.map (fun (d : Firing) => { d with noEdge := true }) } else k
    let s1 : State := { s with cogs := s.cogs.mapV drop }
    (s1.setFo o (({ f with pending := [] }).take s.lmt idle)).foPoints o
  else s

/-! Cogs and the state of their race. -/

/-- Cog points (R87). -/
def State.cogPoints (s : State) (c : Nat) : State :=
  let k := s.cog c
  let b := s.cogRec c
  let st := match k.st with
    | .disarmed => 0
    | .armed => 1
    | .done => 2
  let r := (s.race (cogRace b)).st
  let v := st + mkBit (r == .idle || r == .lost) 8 + mkBit (cogRepeats b) 16
  ((s.wrLocal 4 (512 + c * 3) v).wrLocal 4 (512 + c * 3 + 1) k.fires.toNat).wrLocal 4 (512 + c * 3 + 2) k.missed.toNat

/-- LMT of a firing's action instant, by the servo of the race's domain. -/
def State.cogLmt (s : State) (b : Bytes) (d : Firing) : Nat := lmtOf (s.dom (raceDom (s.raceRec (cogRace b)))) d.at'

/-- A new target for COG_ARM (R80): none where an absolute one lies behind the arming position. -/
def armTarget (b : Bytes) (h : CmdHdr) (c0x : Nat) : Option Nat :=
  let x := h.p 8 8 * 4294967296 + h.p 16 4
  if h.p 0 1 = 1 then some (add96 c0x (if cogFwd b then (x : Int) else - (x : Int)))
  else
    let d := diff96 x c0x
    if (if cogFwd b then decide (d < 0) else decide (0 < d)) then none else some x

/-- Waiting COG_ARM, COG_DISARM and UNIT_DISABLE of a race's cogs: at a fit with the arming position, or at the entry to LOST or IDLE (R80, R432). -/
def State.cogOps (s : State) (race : Nat) (c0x : Option Nat) : State :=
  let mine := s.flightsOf (fun f => f.unit / 4096 == 2 && (f.op == 0x0401 || f.op == 0x0402 || f.op == 0x0206)
    && cogRace (s.cogRec (f.unit % 4096)) == race && (s.rec? 0x05 (f.unit % 4096)).isSome)
  let s1 := (mine.filter (fun f => f.op == 0x0206)).foldl (fun s f =>
    let c := f.unit % 4096
    (s.setCog c { s.cog c with st := .disarmed }).disableUnit f) s
  (mine.filter (fun f => f.op != 0x0206)).foldl (fun s f =>
    if (s.flight? f.h.ring f.h.tag).isNone then s
    else
      let c := f.unit % 4096
      let k := s.cog c
      let b := s.cogRec c
      if f.op = 0x0402 then (s.setCog c { k with st := .disarmed }).ok f
      else match c0x.bind (armTarget b f.h) with
        | none => s.finish f ST_REFUSED
        | some x => (s.setCog c { k with st := .armed, target := x, used := 0 }).ok f) s1

/-- Entry of a race to LOST: later actions are cancelled and counted, and MIN_INTERVAL counts from the last firing not cancelled; outputs take ON_LOST
(R78, R80, R81, R83). -/
def State.cogsLost (s : State) (race : Nat) : State :=
  let cs := s.cogsOf race
  let s1 := cs.foldl (fun s c =>
    let k := s.cog c
    let b := s.cogRec c
    let gone := k.due.filter (fun d => decide (s.lmt < s.cogLmt b d))
    if gone.isEmpty then s
    else
      let left := k.due.filter (fun d => decide (s.cogLmt b d ≤ s.lmt))
      let last := left.foldl (fun m d => some (max ((d.at' : Int) - cogOffset b).toNat (m.getD 0))) k.doneFire
      let s1 := s.setCog c { k with due := left, lastFire := last, missed := k.missed + BitVec.ofNat 32 gone.length }
      gone.foldl (fun s _ => s.raise EV_COG_MISSED (uCog c)) s1) s
  let s2 := s1.cogOps race none
  (cs.filter (fun c => cogAction (s.cogRec c) == 1)).foldl (fun s c => s.foLost (cogArg (s.cogRec c) 0 1)) s2

/-- A race goes IDLE: its cogs are DISARMED and waiting commands end (R80, R81). -/
def State.cogsIdle (s : State) (race : Nat) : State :=
  let s1 := (s.cogsOf race).foldl (fun s c => s.setCog c { s.cog c with st := .disarmed }) s
  s1.cogOps race none

/-! Commands (R80). -/

def State.cogRaceIdle (s : State) (c : Nat) : Bool :=
  let st := (s.race (cogRace (s.cogRec c))).st
  st == .idle || st == .lost

/-- What CogArm checks before its rule runs (R427, R429). -/
def gateCogArm (h : CmdHdr) (s : State) : Gate :=
  unitGate h s 2 0x05 [noBuf h, needP 0 (decide (h.p 0 1 ≤ 1)), zeroGap h 1 8, zeroTail h 20] (s.cogRaceIdle h.inst)

/-- CogArm waits among the commands in flight; its rule acts at the instant it names. -/
def goCogArm (_ : Flight) (s : State) : State :=
  s

/-- COG_ARM waits for the first fit after its fetch (R80). -/
def runCogArm (h : CmdHdr) (s : State) : State := start 0x0401 (gateCogArm h s) goCogArm h s

/-- What CogDisarm checks before its rule runs (R427, R429). -/
def gateCogDisarm (h : CmdHdr) (s : State) : Gate :=
  unitGate h s 2 0x05 [noBuf h, zeroTail h 0] false

/-- Effect of CogDisarm. -/
def goCogDisarm (f : Flight) (s : State) : State :=
  let h := f.h
  if s.cogRaceIdle h.inst then (s.setCog h.inst { s.cog h.inst with st := .disarmed }).ok f else s

/-- COG_DISARM waits for the same fit; on a race that is LOST or IDLE it acts at once (R80). -/
def runCogDisarm (h : CmdHdr) (s : State) : State := start 0x0402 (gateCogDisarm h s) goCogDisarm h s

end Sys2Proof.Machine
end

