-- ==== Sys2Proof/Machine/Planner.lean ====
section
/-! DEFINITION. The jerk-limited planner that axes and virtual masters share (R44, R193 to R202).
The rules bound the profile and say that it is time-optimal; among the jerks of one update the planner here takes the greatest that still
lets the profile keep every limit and come to rest without passing its target (log 200). -/

namespace Sys2Proof.Machine

/-- The greatest value of `lo` to `hi` that meets a condition which, once missed, stays missed; `lo` where none does. -/
def greatest (f : Int → Bool) : Nat → Int → Int → Int
  | 0, lo, _ => lo
  | n + 1, lo, hi =>
    if hi ≤ lo then lo
    else if f hi then hi
    else
      let m := (lo + hi) / 2
      if f (m + 1) then greatest f n (m + 1) (hi - 1) else greatest f n lo m

/-- Speed still gained while an acceleration `a` of 0 or more is brought to 0 under J. -/
def coast (a j : Int) : Int := if j ≤ 0 then 0 else a / j * a - j * (a / j) * (a / j + 1) / 2

/-- Speed still gained while an acceleration of either sign is brought to 0 under J. -/
def glide (a j : Int) : Int := if 0 ≤ a then coast a j else -coast (-a) j

/-- Limits in internal units (R185, R193). -/
structure AxLim where
  v : Int
  a : Int
  d : Int
  j : Int
  deriving DecidableEq, Repr

/-- Speed gained in the updates in which an acceleration above `A` is brought down to it under J. -/
def shed (a1 lim j : Int) : Int :=
  if j ≤ 0 ∨ a1 ≤ lim then 0
  else
    let q := (a1 - lim - 1) / j
    q * a1 - j * q * (q + 1) / 2

/-- An acceleration in the positive direction keeps its limit: A with the speed's sign or at speed 0, D against it, brought to A by the
update at which the speed changes sign (R193, R195). -/
def accOk (L : AxLim) (v a1 : Int) : Bool :=
  if a1 ≤ 0 then true
  else if 0 ≤ v + a1 then decide (a1 ≤ L.a)
  else decide (a1 ≤ L.d) && (decide (a1 ≤ L.a) || decide (v + a1 + shed a1 L.a L.j < 0))

/-- Acceleration of the next update on the way to a speed `u`: the speed reaches it as the acceleration reaches 0 (R193, R196, R201). -/
def rampTo (L : AxLim) (u v a : Int) : Int :=
  let up (u v a : Int) : Int := greatest (fun a1 => accOk L v a1 && decide (v + a1 + glide a1 L.j ≤ u)) 70 (a - L.j) (a + L.j)
  if v + glide a L.j ≤ u then up u v a else -(up (-u) (-v) (-a))

/-- Distance until the ramp to `u` is done; `n` bounds its updates. -/
def rampDist (L : AxLim) (u : Int) : Nat → Int → Int → Int → Int
  | 0, _, _, x => x
  | n + 1, v, a, x =>
    if v = u ∧ a = 0 then x
    else
      let a1 := rampTo L u v a
      rampDist L u n (v + a1) a1 (x + (v + a1))

/-- Distance until the ramp to `u` is done; 0 where it cannot be. -/
def runOut (L : AxLim) (u v a : Int) : Int :=
  if L.j ≤ 0 ∨ L.d ≤ 0 ∨ L.a ≤ 0 then 0
  else rampDist L u ((v - u).natAbs + (2 * (a.natAbs + L.d.natAbs + L.a.natAbs)) / (max 1 L.j.natAbs) + 8) v a 0

/-- Distance needed to be at rest, or no faster than a joint speed `vj` above 0. -/
def needs (L : AxLim) (vj v a : Int) : Int := if 0 < vj ∧ v + glide a L.j ≤ vj then 0 else runOut L vj v a

/-- An acceleration `a1` of the next update keeps the limits and still lets the move end: `rem` is the distance ahead before the update. -/
def moveOk (L : AxLim) (rem vj v a1 : Int) : Bool :=
  let v1 := v + a1
  accOk L v a1 && decide (v1 + glide a1 L.j ≤ L.v) &&
    (if rem - v1 ≤ 0 ∧ 0 < vj then decide (v1 + glide a1 L.j ≤ vj) else decide (needs L vj v1 a1 ≤ rem - v1))

/-- Acceleration of the next update of a move with `rem` still to go, to rest (`vj` 0) or through a joint at `vj` (R193 to R199): towards
the target as hard as the limits and the stop ahead allow; past it, through zero and back. -/
def planAcc (L : AxLim) (rem vj v a : Int) : Int :=
  let e := v + glide a L.j
  let towards (rem vj v a : Int) : Int := greatest (moveOk L rem vj v) 70 (a - L.j) (a + L.j)
  if needs L vj v a ≤ rem then (if L.v < e then rampTo L L.v v a else towards rem vj v a)
  else if 0 < vj then rampTo L vj v a
  else if e < -L.v then rampTo L (-L.v) v a
  else -(towards (-rem) 0 (-v) (-a))

/-- The position condition holds the planner back at this update: the deceleration for the target has begun (R199). -/
def braking (L : AxLim) (v a a1 : Int) : Bool :=
  decide (a1 < greatest (fun x => accOk L v x && decide (v + x + glide x L.j ≤ L.v)) 70 (a - L.j) (a + L.j))

/-- The greatest speed from which a move of a length can come to rest under its own limits (R199). -/
def restFrom (L : AxLim) (len : Int) : Int := greatest (fun u => decide (runOut L 0 u 0 ≤ len)) 70 0 L.v

end Sys2Proof.Machine
end

