-- ==== Sys2Proof/Machine/RaceSteps.lean ====
section
/-! DEFINITION. Race states and their events: encoder samples, SSI reads, index captures, remote segments, launches, race commands (R38 to R52, R60, R69, R541). -/

namespace Sys2Proof.Machine

/-- A race and those derived from it enter LOST: position frozen, cogs stopped (R49, R50, R81). -/
def State.raceLost (s : State) (n : Nat) : State :=
  (s.raceTree 3 n).foldl (fun s m =>
    let r := s.race m
    if r.st == .idle || r.st == .lost then s
    else
      let p := s.raceNow 4 m
      let s1 := (s.setRace m { r with st := .lost, pos := p }).raise EV_RACE_LOST (uRace m)
      (s1.cogsLost m).racePoints m) s

/-- A running race and those derived from it enter HOLDOVER; with HOLDOVER_MAX 0, LOST at once (R50). -/
def State.raceHoldover (s : State) (n : Nat) : State :=
  if (s.race n).st != .running then s
  else
    let s1 := (s.raceTree 3 n).foldl (fun s m =>
      let r := s.race m
      if r.st == .running then
        ((s.setRace m { r with st := .holdover, holdAt := s.lmt }).raise EV_RACE_HOLDOVER (uRace m)).racePoints m
      else s) s
    if raceHoldMax (s1.raceRec n) = 0 then s1.raceLost n else s1

/-- The source of a race is healthy again: RUNNING with UNREFERENCED; the next segment carries DISCONTINUITY from LOST, or where the source's
position `at'` now differs from the held one by more than STEP_MAX (R50, R51). -/
def State.raceRecover (s : State) (n : Nat) (at' : W64) : State :=
  let r := s.race n
  if r.st != .holdover && r.st != .lost then s
  else
    let disc := r.st == .lost || decide (r.stepMax < (diff64 at'.toNat (s.raceNow 4 n).toNat).natAbs)
    (s.raceTree 3 n).foldl (fun s m =>
      let q := s.race m
      if q.st == .holdover || q.st == .lost then
        ((s.setRace m { q with st := .running, unref := true, discNext := q.discNext || disc, jump := q.jump || disc }).raise EV_RACE_RECOVERED
          (uRace m)).racePoints m
      else s) s

/-- A sample without a fault counts, at its instant; a race in HOLDOVER or LOST recovers (R39, R50). -/
def State.encGood (s : State) (e : Nat) (x : Encoder) (delta : Int) (at' : Nat) : State :=
  let c := x.count + BitVec.ofInt 64 delta
  let keep := x.samples.filter (fun p => decide (s.lmt ≤ p.1 + 2400000))
  let s1 := s.setEnc e { x with count := c, lastT := s.lmt, seen := true, fault := 0, samples := keep ++ [(at', c.toNat)] }
  match s1.encRace? e with
  | none => s1
  | some n =>
    let s2 := s1.raceRecover n ((s1.race n).encPos c)
    let r := s2.race n
    if r.st == .running then s2.setRace n { r with pos := r.encPos c } else s2

/-- A faulty sample does not count; the race that the input feeds enters HOLDOVER (R39, R50). -/
def State.encFault (s : State) (e : Nat) (x : Encoder) (code : Nat) : State :=
  let s1 := s.setEnc e { x with lastT := s.lmt, seen := true, fault := code }
  match s1.encRace? e with
  | none => s1
  | some n => (s1.raceHoldover n).racePoints n

/-- The signal frequency of a sample exceeds its limit (R38, R39). -/
def overspeed (b : Bytes) (x : Encoder) (t : Nat) (delta : Int) : Bool :=
  x.seen && decide (x.lastT < t) && decide (encLimit b * (t - x.lastT) < delta.natAbs * 1000000000)

/-- The raw vector with Fantail's correction, Q15 of the converter's full scale (R178). -/
def corrected (corr : List Int) (sn cs : Int) : Int × Int :=
  let s1 := sn - corr.getD 0 0
  (s1, (cs - corr.getD 1 0) * (131072 + corr.getD 2 0) / 131072 - s1 * corr.getD 3 0 / 131072)

/-- Vector amplitude, mV peak to peak: full scale is ±1 V (R39, R178). -/
def vectorAmpl (v : Int × Int) : Nat :=
  ((greatest (fun x => decide (x * x ≤ 4000000 * (v.1 * v.1 + v.2 * v.2))) 40 0 200000000) / 32768).toNat

/-- Ticks from one place in the signal period to the next, the short way (R38). -/
def phaseStep (old : Option Nat) (now : Nat) : Int := match old with
  | none => 0
  | some p => sgn 12 (wrapN 12 ((now : Int) - p))

/-- A raw sample is kept once the counter lies 16 ticks from the last one kept, so that 4,096 samples spread over at least 16 signal periods of 4,096
ticks (R178; DESIGN CHOICE, log 226). -/
def Encoder.keepRaw (x : Encoder) (sn cs : Int) : Encoder :=
  if x.raw.isEmpty ∨ 16 ≤ (diff64 x.count.toNat x.rawAt.toNat).natAbs then
    let raw := x.raw ++ [(sn, cs)]
    { x with raw := raw.drop (raw.length - 4096), rawAt := x.count }
  else x

/-- ENCODER_SAMPLE: a sine/cosine vector (8 converter samples; log 24), corrected and interpolated, or a quadrature edge of 1,024 ticks forward
where `sn` is 0 or more, backward where it is negative (R38, R39, R178). -/
def encoderSample (e : Nat) (sn cs : Int) (illegal : Bool) (s : State) : State :=
  let b := s.encRec e
  let x := s.enc e
  if encMode b = 2 then
    let v := corrected x.corr sn cs
    let ampl := vectorAmpl v
    let ph := Config.interpolate v.1 v.2 % 4096
    let delta := phaseStep x.phase ph
    let bad := decide (ampl < 400) || decide (1400 < ampl)
    let x1 := { x with ampl := ampl, badAmpl := if bad then x.badAmpl + 8 else 0, phase := some ph }.keepRaw sn cs
    if 8 ≤ x1.badAmpl then s.encFault e x1 1
    else if overspeed b x s.lmt delta then s.encFault e x1 2
    else s.encGood e x1 delta s.lmt
  else if encMode b = 1 then
    let delta : Int := if sn < 0 then -1024 else 1024
    if overspeed b x s.lmt delta then s.encFault e x 2
    else if illegal then s.encFault e x 3
    else s.encGood e x delta s.lmt
  else s

/-- Gray code to binary: each bit is the exclusive-or of the bits at and above it (R541). -/
def grayToBin (w : Nat) : Nat → Nat
  | 0 => w
  | n + 1 => w ^^^ (grayToBin (w / 2) n)

/-- SSI_READ: the counter advances by the signed difference from the previous word, at the read's first clock edge, which is this row's instant,
less SSI_LATENCY (R38, R39, R541). The first good word after a start is taken against the retained word and is no JUMP. The movement of a JUMP
is not counted later: its word is the previous one of the next read (DESIGN CHOICE, log 208). -/
def ssiRead (e word : Nat) (checkOk : Bool) (s : State) : State :=
  let b := s.encRec e
  let x := s.enc e
  if encMode b ≠ 3 then s
  else
    let nb := byteAt b 3
    let raw := word % 2 ^ nb
    let bad := ((byteAt b 4).testBit 1 && !checkOk) || raw == 0 || raw == 2 ^ nb - 1
    if bad then
      let x1 := { x with badCheck := x.badCheck + 1 }
      if 2 ≤ x1.badCheck then s.encFault e x1 4 else s.setEnc e { x1 with lastT := s.lmt }
    else
      let w := if (byteAt b 4).testBit 0 then grayToBin raw nb % 2 ^ nb else raw
      let x1 := { x with badCheck := 0, word := some w, back := false }
      let d : Int := match x.word with
        | none => 0
        | some p => sgn nb (wrapN nb ((w : Int) - p))
      if !x.back && decide (le b 12 4 < d.natAbs) then s.encFault e x1 5
      else s.encGood e x1 (d * 4096) (s.lmt - le b 10 2)

/-- INDEX_CAPTURE: the armed capture writes REF_POS and clears UNREFERENCED (R52). -/
def indexCapture (n : Nat) (count : W64) (s : State) : State :=
  let r := s.race n
  if !r.refArmed then s
  else
    let p := r.encPos count
    let s1 := (s.setRace n { r with refArmed := false, refPos := p }).clearUnref n
    s1.finishAll (s1.flightsOn 0x0303 (uRace n)) ST_OK { result := p.toNat, commit := some s1.lmt }

/-- RACE_HOLDOVER_EXPIRY: HOLDOVER_MAX after its entry, a race in HOLDOVER enters LOST (R50). -/
def raceHoldoverExpiry (n : Nat) (s : State) : State :=
  let r := s.race n
  if r.st == .holdover && decide (r.holdAt + raceHoldMax (s.raceRec n) ≤ s.lmt) then s.raceLost n else s

/-- A segment frame that R60 item 1 accepts, as a segment with its source (module, race). -/
def parseSeg (p : Bytes) : Option (Nat × Segment) :=
  let ns := be p 20 4
  let d := be p 24 4
  let c3 := sgn 64 (be p 56 8)
  if be p 0 1 = 0x20 ∧ be p 1 1 = 1 ∧ be p 2 2 = 68 ∧ 72 ≤ p.length ∧ ns < 1000000000 ∧ d % 250000 = 0 ∧ 250000 ≤ d ∧ d ≤ 4000000
      ∧ c3.natAbs ≤ 1152921504606846976 then
    let f := be p 5 1
    some (be p 4 1, {
      ts := be p 12 8 * 1000000000 + ns, dur := d, c0 := be p 32 8, c1 := sgn 64 (be p 40 8), c2 := sgn 64 (be p 48 8), c3 := c3,
      scale := be p 64 8, seq := be p 8 2, epoch := be p 6 1, dom := f % 4, holdover := bit f 7, lost := bit f 6, unref := bit f 5, disc := bit f 4 })
  else none

/-- A remote race takes an accepted segment of its source: kept, republished under the own numbers with unchanged coefficients, LOST ones too, and
the race recovers where it can be used (R46, R50, R60). What the rules leave open (DESIGN CHOICE, log 209): UNREFERENCED of the source is taken over
and stays set until it is cleared here; DISCONTINUITY of the source is passed on to the races derived from this one. -/
def State.remoteTake (s : State) (n : Nat) (g : Segment) : State :=
  let r := s.race n
  let s1 := s.setRace n { r with remote := (g :: r.remote).take 8, jump := r.jump || g.disc, unref := r.unref || g.unref }
  let t := s1.raceTime n
  let s2 := if g.lost then s1 else s1.raceRecover n (BitVec.ofNat 64 (segPos g ((t : Int) - g.ts) / 4294967296))
  let s3 := if g.disc then (s2.raceTree 3 n).foldl (fun s m => if m = n then s else s.setRace m { s.race m with discNext := true }) s2 else s2
  let q := s3.race n
  s3.pushSeg n { g with scale := raceScale (s.raceRec n), unref := q.unref, disc := g.disc || q.discNext }

/-- REMOTE_SEGMENT_RECEIVE: every remote race of that source takes the segment, where its domain is the race's; another frame is ignored and counted
(R46, R60). The domain that a source last named is kept: a record of a remote race with another one is refused (log 209). -/
def remoteSegmentReceive (payload : Bytes) (s : State) : State :=
  match parseSeg payload with
  | none => (s.recsOf 0x02).foldl (fun s b =>
      if raceSource b = 3 ∧ raceSrc b = be payload 4 1 then
        let r := s.race (byteAt b 0)
        s.setRace (byteAt b 0) { r with badFrames := r.badFrames + 1 }
      else s) s
  | some q =>
    let s1 := { s with net := { s.net with srcDoms := s.net.srcDoms.set q.1 q.2.dom } }
    (s1.recsOf 0x02).foldl (fun s b =>
      let n := byteAt b 0
      if raceSource b = 3 ∧ raceSrc b = q.1 ∧ raceDom b = q.2.dom ∧ (s.race n).st ≠ .idle then s.remoteTake n q.2 else s) s1

/-- SEGMENT_FRAME_LAUNCH: the head of queue 7 of a port starts onto the wire, or is discarded more than 1 us late (R69). -/
def segmentFrameLaunch (port : Nat) (s : State) : State :=
  match s.net.queue.find? (fun f => f.port == port && f.queue == 7) with
  | none => s
  | some f =>
    let due := lmtOf (s.dom f.dom) (f.launch.getD 0)
    if s.lmt < due then s
    else
      let s1 := { s with net := { s.net with queue := s.net.queue.erase f } }
      if due + 1000 < s.lmt then
        let p := s1.port port
        let s2 := s1.setPort port { p with lateFrames := p.lateFrames + 1 }
        if f.bytes.headD 0 = 0x20 then
          let n := f.bytes.getD 4 0 % 8
          let r := s2.race n
          ((s2.setRace n { r with segLate := r.segLate + 1 }).raise EV_SEG_LATE (uRace n)).racePoints n
        else s2
      else s1.put [{ f with at' := s.lmt }]

/-! Commands (R45, R52). -/

/-- A race command on a race that is IDLE is refused (R45, R52). -/
def State.raceIdle (s : State) (n : Nat) : Bool := (s.race n).st == .idle

/-- An earlier command of the same opcode on the unit that still waits is replaced: it completes ST_ABORTED (R45, R52). -/
def State.replaceOlder (s : State) (f : Flight) : State :=
  s.finishAll ((s.flightsOn f.op f.unit).filter (fun g => !(g.is f.h.ring f.h.tag))) ST_ABORTED

/-- What RaceVmSet checks before its rule runs (R427, R429). -/
def gateRaceVmSet (h : CmdHdr) (s : State) : Gate :=
  unitGate h s 1 0x02 [noBuf h, zeroTail h 24] (s.raceIdle h.inst || raceSource (s.raceRec h.inst) != 2)

/-- Effect of RaceVmSet. -/
def goRaceVmSet (f : Flight) (s : State) : State :=
  s.replaceOlder f

/-- RACE_VM_SET takes effect at the first segment not yet fitted (R45). -/
def runRaceVmSet (h : CmdHdr) (s : State) : State := start 0x0301 (gateRaceVmSet h s) goRaceVmSet h s

/-- What RaceTimeSet checks before its rule runs (R427, R429). -/
def gateRaceTimeSet (h : CmdHdr) (s : State) : Gate :=
  unitGate h s 1 0x02 [noBuf h, zeroTail h 8] (s.raceIdle h.inst || raceSource (s.raceRec h.inst) != 4)

/-- Effect of RaceTimeSet. -/
def goRaceTimeSet (f : Flight) (s : State) : State :=
  s.replaceOlder f

/-- RACE_TIME_SET takes effect at the first segment not yet fitted (R45). -/
def runRaceTimeSet (h : CmdHdr) (s : State) : State := start 0x0302 (gateRaceTimeSet h s) goRaceTimeSet h s

/-- What RaceReference checks before its rule runs (R427, R429). -/
def gateRaceReference (h : CmdHdr) (s : State) : Gate :=
  let b := s.raceRec h.inst
  let e := s.encRec (raceSrc b)
  unitGate h s 1 0x02 [noBuf h, zeroTail h 0]
    (s.raceIdle h.inst || (s.race h.inst).refArmed || raceSource b != 0 || encMode e == 3 || !(byteAt e 5).testBit 0)

/-- Effect of RaceReference. -/
def goRaceReference (f : Flight) (s : State) : State :=
  let h := f.h
  s.setRace h.inst { s.race h.inst with refArmed := true }

/-- RACE_REFERENCE arms a one-time index capture (R52). -/
def runRaceReference (h : CmdHdr) (s : State) : State := start 0x0303 (gateRaceReference h s) goRaceReference h s

/-- A cog is ARMED on a race or on a race derived from it (R52). -/
def State.cogArmed (s : State) (n : Nat) : Bool :=
  (s.raceTree 3 n).any (fun m => (s.cogsOf m).any (fun c => (s.cog c).st == .armed))

/-- The race has been faster than 0.1 percent of its speed limit in the last 10 ms (R52). -/
def State.raceFast (s : State) (n : Nat) : Bool := match (s.race n).fastAt with
  | some t => decide (s.lmt ≤ t + 10000000)
  | none => false

/-- What RacePreset checks before its rule runs (R427, R429). -/
def gateRacePreset (h : CmdHdr) (s : State) : Gate :=
  unitGate h s 1 0x02 [noBuf h, zeroTail h 8]
    (s.raceIdle h.inst || raceSource (s.raceRec h.inst) == 3 || s.cogArmed h.inst || s.raceFast h.inst)

/-- Effect of RacePreset. -/
def goRacePreset (f : Flight) (s : State) : State :=
  s.replaceOlder f

/-- RACE_PRESET waits for the next segment start (R52). -/
def runRacePreset (h : CmdHdr) (s : State) : State := start 0x0304 (gateRacePreset h s) goRacePreset h s

/-- What RaceConfirm checks before its rule runs (R427, R429). -/
def gateRaceConfirm (h : CmdHdr) (s : State) : Gate :=
  unitGate h s 1 0x02 [noBuf h, zeroTail h 0] (s.raceIdle h.inst)

/-- Effect of RaceConfirm. -/
def goRaceConfirm (f : Flight) (s : State) : State :=
  let h := f.h
  (s.clearUnref h.inst).ok f

/-- RACE_CONFIRM clears UNREFERENCED at its fetch (R51, R52). -/
def runRaceConfirm (h : CmdHdr) (s : State) : State := start 0x0305 (gateRaceConfirm h s) goRaceConfirm h s

end Sys2Proof.Machine
end

