-- ==== Sys2Proof/Machine/Placement.lean ====
section
/-! DEFINITION. Placement banks, bank notices and transfers, and the commands on them (R88 to R97, R121). -/

namespace Sys2Proof.Machine

/-- Head-node record (R89). -/
def State.headRec? (s : State) (seg node : Nat) : Option Bytes := s.rec? 0x07 (seg + 65536 * node)
def headSet (b : Bytes) : Nat := byteAt b 5

/-- Key of a node's state: segment x 1,024 + node. -/
def nodeKey (seg node : Nat) : Nat := seg * 1024 + node

/-- Node keys of the head nodes of a set, as recorded. -/
def State.setNodes (s : State) (set : Nat) : List Nat :=
  ((s.recsOf 0x07).filter (fun b => headSet b == set)).map (fun b => nodeKey (byteAt b 0) (le b 2 2))

/-- Present nodes: bound and exchanging (R97, R117). -/
def State.nodePresent (s : State) (k : Nat) : Bool := (s.node k).st == .preop || (s.node k).st == .operate

/-- One nozzle record in the layout of R91. -/
def nozzleBytes (n : Nozzle) : Bytes := toBe n.fireTrim.toNat 2 ++ toBe n.driveTrim.toNat 2 ++ toBe n.health.toNat 4

/-- Records `from` to `from + n - 1` of a node in a bank, in the layout of R91. -/
def bankBytes (bank : SMap Nozzle) (k : Nat) (first : Nat) : Nat → Bytes
  | 0 => []
  | n + 1 => nozzleBytes (bank.getD (k * 4096 + first) {}) ++ bankBytes bank k (first + 1) n

/-- CRC-32C of a node's bank (R91). -/
def bankCrc (bank : SMap Nozzle) (k : Nat) : Nat := crc32c (bankBytes bank k 0 4096)

/-- Station status fields of R109 as last received. -/
def Node.flag (n : Node) (i : Nat) : Bool := (byteAt n.status 1).testBit i
def Node.crc (n : Node) (bank : Nat) : Nat := be n.status (4 + 4 * bank) 4

/-- A node reports a bank ready with the CRC of the module's copy (R91, R92). -/
def State.bankReady (s : State) (k bank : Nat) (content : SMap Nozzle) : Bool :=
  (s.node k).flag (3 + bank) && (s.node k).crc bank == bankCrc content k

/-- What a point address of a head node names: set, node key, field (0 FIRE_TRIM, 1 DRIVE_TRIM, 2 HEALTH, 3 DROP_COUNT) and nozzle (R88). -/
def State.nozzleOf (s : State) (a : Nat) : Option (Nat × Nat × Nat × Nat) :=
  let seg := bits a 27 24
  let node := bits a 23 14
  let i := a % 16384
  (s.headRec? seg node).map (fun b => (headSet b, nodeKey seg node, i / 4096, i % 4096))

/-- POINT_WRITEs of nozzle points of a set that wait for the commit that brings them into its background (R36, R88). -/
def State.setWrites (s : State) (set : Nat) : List Flight :=
  s.flightsOf (fun f => f.op == 0x0502 && f.commit.isNone && (s.nozzleOf f.h.tgt).any (fun z => z.1 == set))

/-- Present nodes of a set whose background is not ready with a matching CRC (R92). -/
def State.setNotReady (s : State) (set : Nat) : List Nat :=
  let x := s.pset set
  (s.setNodes set).filter (fun k => s.nodePresent k && !s.bankReady k (1 - x.sel) x.bg)

/-- The rebuild of a sealed bank is finished (R92, R95). -/
def State.setFinished (s : State) (set : Nat) : Bool :=
  let x := s.pset set
  !x.undurable && !x.unheld && !x.catchup && (s.setWrites set).isEmpty && x.toSwitch.isEmpty && (s.setNotReady set).isEmpty

/-- Bank-set points (R87). -/
def State.setPoints (s : State) (set : Nat) : State :=
  let x := s.pset set
  let v := x.sel + mkBit x.sealed 1 + mkBit (!x.toSwitch.isEmpty) 2 + 65536 * ((s.setNotReady set).length % 65536)
  (((s.wrLocal 4 (12864 + set * 4) v).wrLocal 4 (12864 + set * 4 + 1) x.swaps.toNat).wrLocal 4 (12864 + set * 4 + 2) x.deferrals.toNat).wrLocal 4
    (12864 + set * 4 + 3) x.swapSeq.toNat

/-- Waiting POINT_WRITEs of one nozzle, key node x 4,096 + nozzle, that no later write has replaced, in fetch order (R176). -/
def State.nozzleWrites (s : State) (set key : Nat) : List Flight :=
  (s.setWrites set).filter (fun f => !f.replaced && (s.nozzleOf f.h.tgt).any (fun z => z.2.1 * 4096 + z.2.2.2 == key))

/-- Fields of a nozzle that are written now leave nothing of the waiting POINT_WRITEs to them: the later write stands (R176). -/
def State.nozzleReplace (s : State) (set key : Nat) (fields : List Nat) : State :=
  ((s.nozzleWrites set key).filter (fun f => (s.nozzleOf f.h.tgt).any (fun z => fields.contains z.2.2.1))).foldl
    (fun s f => s.setFlight { f with replaced := true }) s

/-- A node that leaves PREOP or OPERATE switches no more: it does not hold back its set, and its foreground is compared when it rejoins (R97). -/
def State.bankLeave (s : State) (k : Nat) : State :=
  match s.headRec? (k / 1024) (k % 1024) with
  | none => s
  | some b =>
    let set := headSet b
    let x := s.pset set
    (s.setPset set { x with toSwitch := x.toSwitch.filter (· ≠ k), tries := x.tries.erase k }).setPoints set

/-- The 23 BANK_XFER frames of one bank of a head node (R121). -/
def State.sendBank (s : State) (k set bank seq : Nat) (content : SMap Nozzle) : State :=
  (List.range 23).foldl (fun s c =>
    let n := if c = 22 then 136 else 180
    let pay := toBe 0x12 1 ++ toBe 1 1 ++ toBe (20 + 8 * n) 2 ++ toBe (s.sys.modNo * 16) 1 ++ toBe 0 1 ++ toBe s.red.epoch 1 ++ toBe 0 1
      ++ toBe (k % 1024) 2 ++ toBe set 1 ++ toBe bank 1 ++ toBe seq 4 ++ toBe c 1 ++ toBe 23 1 ++ toBe (180 * c) 2 ++ toBe n 2 ++ toBe 0 2
      ++ bankBytes content k (180 * c) n
    s.sendTo (k / 1024) 3 (s.node k).mac pay) (s.setNode k { s.node k with xferAt := s.lmt })

/-- Transfer of a sealed background bank to one present node: begun, or repeated after a CRC that does not match, 3 failures a boundary (R95, R97).
`fresh`: the node's status is one of a cycle that began after the last transfer to it (log 217). -/
def State.bankService (s : State) (set k : Nat) (fresh : Bool) : State :=
  let x := s.pset set
  let b := 1 - x.sel
  let n := s.node k
  if !x.sealed || !s.nodePresent k || !n.bankOk || x.toSwitch.contains k || !(s.setWrites set).isEmpty || !s.drives then s
  else if s.bankReady k b x.bg then s
  else match x.tries.get? k with
    | none => (s.setPset set { x with tries := x.tries.set k 0 }).sendBank k set b (x.swapSeq.toNat + 1) x.bg
    | some t =>
      if !(fresh && n.flag (3 + b)) || 3 ≤ t then s
      else if t = 2 then (s.setPset set { x with tries := x.tries.set k 3 }).raise EV_BANK_NODE_MISMATCH 0 [set, k] (ptAddr s (k / 1024) (k % 1024) 0)
      else (s.setPset set { x with tries := x.tries.set k (t + 1) }).sendBank k set b (x.swapSeq.toNat + 1) x.bg

/-- Bank notice frames with the launch times of three segments (R95, R96). -/
def State.sendNotice (s : State) (race set : Nat) (g : Segment) (gap : Nat) : State :=
  let x := s.pset set
  let r := s.race race
  let pay := toBe 0x21 1 ++ toBe 1 1 ++ toBe 28 2 ++ toBe (s.sys.modNo * 16 + race) 1 ++ toBe x.sel 1 ++ toBe s.red.epoch 1 ++ toBe set 1
    ++ toBe x.swapSeq.toNat 4 ++ toBe (gap / 4294967296) 8 ++ toBe (gap % 4294967296) 4 ++ toBe 0 4
  let ports := [1, 2, 3, 4].filter (fun p => (s.setNodes set).any (fun k => k / 1024 == p))
  let fr := [0, 1, 2].flatMap (fun i => ports.map (fun p =>
    { s.oczFrame p 7 (0x030000724100 + set) pay with launch := some (g.ts + i * r.segPeriod * 62500 - r.lead * 1000), dom := g.dom }))
  if s.drives then s.putQueued fr else s

/-- A held or new Fantail result goes into a background bank. -/
def BankSet.putBg (x : BankSet) (key : Nat) (n : Nozzle) : BankSet :=
  { x with bg := x.bg.put {} key n, undurable := true, durMark := 0, written := if x.written.contains key then x.written else x.written ++ [key] }

/-- A node whose foreground could not be loaded is tried again at the boundary (R97). -/
def State.bankRetry (s : State) (k : Nat) : State :=
  if (s.node k).bankOk then s else s.setNode k { s.node k with fgTries := none }

/-- BANK_SWAP firing found at a fit: the swap of a sealed set is decided, or deferred (R92, R95). -/
def State.bankSwap (s : State) (race set : Nat) (g : Segment) (target : Nat) : State :=
  let s := (s.setNodes set).foldl State.bankRetry s
  let x := s.pset set
  if !x.sealed then s
  else if s.setFinished set then
    let x1 := { x with
      fg := x.bg, bg := x.bg, sel := 1 - x.sel, sealed := false, catchup := true, written := [], tries := [], deferred := false, undurable := false
      durMark := 0, swaps := x.swaps + 1, swapSeq := x.swapSeq + 1, heldFt := [], toSwitch := (s.setNodes set).filter s.nodePresent }
    let x2 := x.heldFt.foldl (fun a e => a.putBg e.1 e.2) x1
    let s1 := (s.setPset set x2).finishAll (s.flightsOf (fun f => f.op == 0x0405 && f.mark == set)) ST_OK { commit := some s.lmt }
    ((s1.raise EV_BANK_SWAPPED 0 [set, x2.swapSeq.toNat]).sendNotice race set g target).setPoints set
  else
    let s1 := s.setPset set { x with deferrals := x.deferrals + 1, deferred := true, tries := [] }
    let s2 := s1.raiseIf (!x.deferred) EV_BANK_DEFERRED 0 [0, set, (s.setNotReady set).length]
    let s3 := s2.setPoints set
    (s.setNodes set).foldl (fun s k => s.bankService set k false) s3

/-! Nozzle points. -/

/-- A field of a nozzle in a bank, as a stored word. -/
def nozzleField (n : Nozzle) (f : Nat) : W32 :=
  if f = 0 then w32 (sgn 16 n.fireTrim.toNat) else if f = 1 then w32 (sgn 16 n.driveTrim.toNat) else n.health

/-- A field written; the host writes HEALTH[0] only (R88; log 25). -/
def nozzleSet (n : Nozzle) (f v : Nat) : Nozzle :=
  if f = 0 then { n with fireTrim := BitVec.ofNat 16 v } else if f = 1 then { n with driveTrim := BitVec.ofNat 16 v }
  else { n with health := BitVec.ofNat 32 (v % 2 + mkBit (n.health.getLsbD 1) 1) }

/-! Commands. -/

/-- A TARGET of form A: a point of this module (R19, R22). -/
def State.addrOk (s : State) (a : Nat) : Bool := decide (a / 268435456 = s.sys.modNo)

/-- What PlaceRead checks before its rule runs (R427, R429). -/
def gatePlaceRead (h : CmdHdr) (s : State) : Gate :=
  let z := s.nozzleOf h.tgt
  let ok := s.addrOk h.tgt && h.tgt % 16384 == 0 && z.isSome
  { invalid := firstBad [if ok then none else some 8, needBuf h 32768, needP 12 (decide (h.p 12 1 ≤ 1)), zeroTail h 13], exempt := true }

/-- Effect of PlaceRead. -/
def goPlaceRead (f : Flight) (s : State) : State :=
  let h := f.h
  match s.nozzleOf h.tgt with
      | some (set, k, _, _) => s.okOut f (nums (bankBytes (if h.p 12 1 = 0 then (s.pset set).fg else (s.pset set).bg) k 0 4096))
      | none => s

/-- PLACE_READ: 4,096 records of either bank (R91). -/
def runPlaceRead (h : CmdHdr) (s : State) : State := start 0x0403 (gatePlaceRead h s) goPlaceRead h s

/-- What PlaceWrite checks before its rule runs (R427, R429). -/
def gatePlaceWrite (h : CmdHdr) (s : State) : Gate :=
  let z := s.nozzleOf h.tgt
  let n := h.p 12 2
  let ok := s.addrOk h.tgt && (match z with
    | some (_, _, f, i) => f == 0 && decide (i + n ≤ 4096)
    | none => false)
  let resv := (List.range n).any (fun i => be h.data (8 * i + 4) 4 / 4 != 0)
  { invalid := firstBad [if ok then none else some 8, needBuf h (8 * n), needP 12 (decide (1 ≤ n ∧ n ≤ 4096)), if resv then some 16 else none, zeroTail h 14],
                 refused := match z with
                   | some (set, _, _, _) => (s.pset set).sealed
                   | none => false }

/-- Effect of PlaceWrite. -/
def goPlaceWrite (f : Flight) (s : State) : State :=
  let h := f.h
  let n := h.p 12 2
  match s.nozzleOf h.tgt with
      | some (set, k, _, i) =>
        let x := (List.range n).foldl (fun (x : BankSet) j =>
          let key := k * 4096 + i + j
          let o := x.bg.getD key {}
          x.putBg key (nozzleSet (nozzleSet (nozzleSet o 0 (be h.data (8 * j) 2)) 1 (be h.data (8 * j + 2) 2)) 2 (be h.data (8 * j + 4) 4))) (s.pset set)
        (List.range n).foldl (fun s j => s.nozzleReplace set (k * 4096 + i + j) [0, 1, 2]) (s.setPset set x)
      | none => s

/-- PLACE_WRITE: records into the background bank; ST_OK when durable (R92). -/
def runPlaceWrite (h : CmdHdr) (s : State) : State := start 0x0404 (gatePlaceWrite h s) goPlaceWrite h s

/-- What PlaceSeal checks before its rule runs (R427, R429). -/
def gatePlaceSeal (h : CmdHdr) (s : State) : Gate :=
  let set := h.p 0 1
  sysGate h [noBuf h, needP 0 (decide (set < 64)), zeroTail h 1] (s.pset set).sealed

/-- A new seal of a set: its Fantail tasks may report EV_FT_HELD_FULL again (R176). -/
def State.ftNewSeal (s : State) (set : Nat) : State :=
  { s with fts := s.fts.mapV (fun k x =>
      let b := s.rcd 0x0D k
      if byteAt b 3 = 3 ∧ le b 6 2 = set then { x with fullTold := false } else x) }

/-- Effect of PlaceSeal. -/
def goPlaceSeal (f : Flight) (s : State) : State :=
  let h := f.h
  let set := h.p 0 1
  let s1 := ((s.setPset set { s.pset set with sealed := true, deferred := false, tries := [] }).setFlight { f with mark := set }).ftNewSeal set
  ((s1.setNodes set).foldl (fun s k => s.bankService set k false) s1).setPoints set

/-- PLACE_SEAL: waits for the swap; transfers to the present nodes begin (R92, R95). -/
def runPlaceSeal (h : CmdHdr) (s : State) : State := start 0x0405 (gatePlaceSeal h s) goPlaceSeal h s

end Sys2Proof.Machine
end

