-- ==== Sys2Proof/Machine/Points.lean ====
section
/-! DEFINITION. The point image: snapshot, forces, commit, write-through, journal, and the point commands (R22 to R36, R300 to R303, R477 to R479). -/

namespace Sys2Proof.Machine

/-- Group key (segment x 8 + group) of a cyclic slot's point. -/
def State.slotGroup (s : State) (a : Nat) : Option Nat := match s.pointOf a with
  | some p => if p.cyclic then some p.gkey else none
  | none => none

/-- Slots of a point. -/
def PointDef.slots (p : PointDef) : List Nat := if typeSlots p.typ = 2 then [p.addr, p.addr + 1] else [p.addr]

/-- The half of a 64-bit value that a slot holds: the low word at the even slot of a two-slot point (R24). -/
def slotHalf (p : PointDef) (a : Nat) (v : W64) : W32 :=
  if a = p.addr then BitVec.ofNat 32 v.toNat else BitVec.ofNat 32 (v.toNat / 4294967296)

/-- The force on the point of a slot. -/
def forceOf (forces : SMap Force) (p : PointDef) : Option Force := forces.get? p.addr

/-- The value a slot's writer last had committed: the shadow where the point is forced (R301). -/
def State.written (s : State) (p : PointDef) (a : Nat) : W32 := match forceOf s.img.forces p with
  | some f => slotHalf p a f.shadow
  | none => s.rd a

/-! Snapshot (R30, R301). -/

/-- The snapshot of a group: committed values, the inputs just latched into the back buffer, and forced values. -/
def State.takeSnapshot (s : State) (k : Nat) (inputs : List Nat) : State :=
  let g := s.group k
  let v1 := inputs.foldl (fun m a => SMap.set m a (s.latest a)) s.img.front
  let v2 := s.img.forces.foldl (fun m e => match s.cfg.points.get? e.1 with
    | some p => p.slots.foldl (fun m a => SMap.set m a (slotHalf p a e.2.value)) m
    | none => m) v1
  let q1 := inputs.foldl (fun m a =>
    let p := ((s.pointOf a).map (·.addr)).getD a
    SMap.put 0 m a (quality (s.img.cond.getD p 0) (s.img.forces.get? p).isSome)) s.img.frontQ
  s.setGroup k { g with snap := v2, snapQ := q1 }

/-! Forces that act at a commit (R301). -/

/-- A waiting force command of a group: the point address it names. -/
def Flight.forceAddr (f : Flight) : Nat := f.h.p 0 4

/-- Waiting force commands that act at a commit of a group, in fetch order. -/
def State.forceOps (s : State) (k : Nat) : List Flight :=
  s.flightsOf (fun f =>
    ((f.op == 0x0B06 || f.op == 0x0B07) && s.slotGroup f.forceAddr == some k) || (f.op == 0x0B08 && f.mark.testBit k))

/-- The force table after the force commands of one commit. -/
def applyForces (s : State) (k : Nat) (ops : List Flight) (t : SMap Force) : SMap Force :=
  ops.foldl (fun t f =>
    if f.op = 0x0B06 then t.set f.forceAddr { value := BitVec.ofNat 64 (f.h.p 8 8), shadow := ((t.get? f.forceAddr).map (·.shadow)).getD 0 }
    else if f.op = 0x0B07 then t.erase f.forceAddr
    else t.filter (fun e => s.slotGroup e.1 != some k)) t

/-- A later command of the same commit acts on the point too (R301). -/
def forceReplaced (f : Flight) : List Flight → Bool
  | [] => false
  | g :: r => g.op == 0x0B08 || (f.op != 0x0B08 && g.forceAddr == f.forceAddr) || forceReplaced f r

/-- Completes the force commands of a commit (R301). -/
def State.forcesDone (s : State) (k : Nat) : List Flight → State
  | [] => s
  | f :: r =>
    let s1 :=
      if f.op = 0x0B08 then
        let m := f.mark - 2 ^ k
        if m = 0 then s.finish f ST_OK { commit := some s.lmt, detail := f.detail } else s.setFlight { f with mark := m }
      else s.finish f ST_OK { commit := some s.lmt, detail := if forceReplaced f r then 1 else 0 }
    State.forcesDone s1 k r

/-! Retained state (R477). -/

/-- The unit state that a commit of local group 0 retains. -/
def State.retain (s : State) : Retained := {
  front := s.img.front, frontQ := s.img.frontQ, cycles := s.img.groups.map (fun e => (e.1, e.2.cycle)), forces := s.img.forces
  races := s.races.mapV (fun n r => { r with pos := s.raceNow 4 n }), encs := s.encs, cogs := s.cogs, sets := s.sets, nodes := s.net.nodes
  loops := s.loops, ogs := s.ogs, fts := s.fts, axes := s.mot.axes, ana := s.ana, caps := s.caps, tr := s.tr, logic := s.logic, spins := s.spins
  cans := s.cans, hopTasks := s.hop.tasks, paged := s.img.paged, pqual := s.img.pqual, disabled := s.cfg.disabled
  cfg := { s.cfg with stage := none, stageDurable := false, queue := [], inForce := false, report := {} }, image := s.hop.image
  role := s.red.role, epoch := s.red.epoch, inhibit := s.red.inhibit }

/-! Tailrace COMMIT and SHADOW records (R267, R268). -/

/-- Every channel that selects a source and for which `mk` gives a record produces it. -/
def State.emitBy (s : State) (bitNo typ lmt : Nat) (stamps : Bool) (mk : Bytes → Option (Nat × List Nat)) : State :=
  let k := (s.recsOf 0x16).foldl (fun p b =>
    if (byteAt b 1).testBit bitNo then
      match mk b with
      | some m => let r := trPut s (byteAt b 0) typ 0 lmt m.1 m.2 stamps p.1
        (r.1, p.2 ++ r.2)
      | none => p
    else p) (s.recorders, [])
  (s.withRecorders k.1).withRecorders (raiseAll s 5 k.2 k.1)

/-- Selections of a channel that name a group: (first, last) image slots (R266). -/
def trSelections (b : Bytes) (seg grp : Nat) : List (Nat × Nat) :=
  ((List.range (byteAt b 6)).filter (fun i => byteAt b (24 + 8 * i) = seg ∧ byteAt b (25 + 8 * i) = grp)).map
    (fun i => (le b (26 + 8 * i) 3, le b (29 + 8 * i) 3))

/-- Inserts a number in ascending order, once. -/
def insNat (x : Nat) : List Nat → List Nat
  | [] => [x]
  | y :: ys => if x < y then x :: y :: ys else if x = y then y :: ys else y :: insNat x ys

/-- Runs of ascending changed image slots, `a` to `b` the run so far: fewer than 5 apart share one until it has 1,024 slots (R268). Answers (first, last). -/
def runsFrom (a b : Nat) : List Nat → List (Nat × Nat)
  | [] => [(a, b)]
  | x :: r => if x < b + 5 ∧ x < a + 1024 then runsFrom a x r else (a, b) :: runsFrom x x r

/-- Runs of ascending changed image slots (R268). -/
def slotRuns : List Nat → List (Nat × Nat)
  | [] => []
  | x :: r => runsFrom x x r

/-- Slot address that holds an image slot of a group. -/
def State.isSlot (s : State) (k islot : Nat) : Nat :=
  match s.cfg.points.find? (fun e => e.2.cyclic && e.2.gkey == k && (e.2.islot == islot || (typeSlots e.2.typ == 2 && e.2.islot + 1 == islot))) with
  | some e => e.2.addr + (islot - e.2.islot)
  | none => 0

/-- Image slot of a slot address. -/
def State.slotIs (s : State) (a : Nat) : Nat := match s.pointOf a with
  | some p => p.islot + (a - p.addr)
  | none => 0

/-- Body of a COMMIT record for one channel: its length and figures (R268). -/
def commitBody (s : State) (k : Nat) (changed : List Nat) (b : Bytes) : Option (Nat × List Nat) :=
  let sels := trSelections b (k / 8) (k % 8)
  if sels.isEmpty then none
  else
    let rs := sels.flatMap (fun w =>
      slotRuns ((changed.map s.slotIs).foldl (fun l x => if w.1 ≤ x ∧ x ≤ w.2 then insNat x l else l) []))
    let len := 16 + (rs.map (fun r => 8 + ((r.2 - r.1 + 1) * 5 + 7) / 8 * 8)).foldl (· + ·) 0
    let fig := rs.flatMap (fun r =>
      let n := r.2 - r.1 + 1
      let as := (List.range n).map (fun i => s.isSlot k (r.1 + i))
      [r.1, n] ++ as.map (fun a => (s.rd a).toNat) ++ as.map (fun a =>
        s.rdQ a + mkBit ((s.pointOf a).any (fun p => (s.img.forces.get? p.addr).isSome)) 3 + mkBit (changed.contains a) 4))
    some (len, [k / 8, k % 8, mkBit (s.red.role == .standby) 0, (s.group k).cycle % 4294967296, rs.length] ++ fig)

/-- Body of a SHADOW record for one channel: forced slots whose written value changed (R267). -/
def shadowBody (s : State) (k : Nat) (shadows : List (Nat × W32)) (b : Bytes) : Option (Nat × List Nat) :=
  let sels := trSelections b (k / 8) (k % 8)
  let l := shadows.filter (fun e => sels.any (fun w => decide (w.1 ≤ s.slotIs e.1 ∧ s.slotIs e.1 ≤ w.2)))
  if l.isEmpty then none else some (8 + 8 * l.length, l.length :: l.flatMap (fun e => [s.slotIs e.1, e.2.toNat]))

/-! The commit (R29, R31 to R35). -/

/-- Commands whose write becomes durable with a commit of local group 0 (R36, R92, R439, R462). -/
def durableOp (op : Nat) : Bool :=
  op == 0x0404 || op == 0x0502 || op == 0x0603 || op == 0x080A || op == 0x0B01 || op == 0x0C01 || op == 0x1104 || op == 0x0201 || op == 0x0704

/-- A waiting POINT_WRITE of a cyclic point of a group. -/
def State.hostWrites (s : State) (k : Nat) : List Flight :=
  s.flightsOf (fun f => f.op == 0x0502 && f.commit.isNone && s.slotGroup f.h.tgt == some k)

/-- A waiting POINT_WRITE of a paged point (nozzle points among them). -/
def State.pagedWrites (s : State) : List Flight :=
  s.flightsOf (fun f => f.op == 0x0502 && f.commit.isNone && (s.slotGroup f.h.tgt).isNone)

/-- Values of a host write, slot by slot. -/
def State.writeSlots (s : State) (f : Flight) : List (Nat × W32) := match s.pointOf f.h.tgt with
  | some p => p.slots.map (fun a => (a, slotHalf p a (BitVec.ofNat 64 (f.h.p 0 8))))
  | none => []

/-- A write of an output channel's CMD counts for its CMD_TIMEOUT, whether or not it changes the value (R232). -/
def State.cmdWritten (s : State) (as : List Nat) : State :=
  { s with ana := { s.ana with cls := s.ana.cls.mapV (fun n c =>
    if as.contains (ptAddr s 0 1 (256 + n * 8)) then { c with cmdAt := s.lmt, timedOut := false } else c) } }

/-- Step 1: the hand-ins and host writes that this commit carries are in the back buffer (R31, R35, R281). -/
def State.gather (s : State) (k : Nat) : State :=
  let hs := s.logic.handIns.filter (fun h => h.group == k && decide (h.at' ≤ s.lmt))
  let b1 := hs.foldl (fun b h => h.writes.foldl (fun b e => SMap.set b e.1 e.2) b) s.img.back
  let fs := s.hostWrites k
  let b2 := fs.foldl (fun b f => (s.writeSlots f).foldl (fun b e => SMap.set b e.1 e.2) b) b1
  let g := s.group k
  let m := hs.foldl (fun m h => min m ((s.lmt - h.at') / 1000)) g.margin
  let s1 := { s with
    img := { s.img with back := b2 }
    logic := { s.logic with handIns := s.logic.handIns.filter (fun h => !(h.group == k && decide (h.at' ≤ s.lmt))) } }
  let s2 := (s1.setGroup k { g with margin := m }).cmdWritten (fs.flatMap (fun f => (s.writeSlots f).map Prod.fst))
  fs.foldl (fun s f => s.setFlight { f with commit := some s.lmt, mark := s.jseq + 1 }) s2

/-- What a commit does to the slots of its group. -/
structure CommitOut where
  front : SMap W32
  changed : List Nat := []
  shadows : List (Nat × W32) := []
  deriving DecidableEq, Repr

/-- One slot at a commit: `w` its new written value (R29, R301). -/
def CommitOut.slot (o : CommitOut) (old : W32) (a : Nat) (wOld w : W32) (forced : Option W32) : CommitOut :=
  let v := forced.getD w
  { front := SMap.put 0 o.front a v
    changed := if v = old then o.changed else o.changed ++ [a]
    shadows := if forced.isSome && w != wOld then o.shadows ++ [(a, w)] else o.shadows }

/-- Slots of a group that this commit may change: those written, those forced before and those forced after. -/
def commitSlots (s : State) (k : Nat) (f0 f1 : SMap Force) : List Nat :=
  let pts := (f0.map Prod.fst ++ f1.map Prod.fst).filter (fun a => s.slotGroup a == some k)
  let fs := pts.flatMap (fun a => match s.cfg.points.get? a with
    | some p => p.slots
    | none => [])
  (((s.img.back.map Prod.fst).filter (fun a => s.slotGroup a == some k)) ++ fs).foldl (fun l a => insNat a l) []

/-- The back buffer becomes the front buffer for a group, forces applied (R14, R29, R32, R301). -/
def State.commitImage (s : State) (k : Nat) : State × List Nat × List (Nat × W32) :=
  let ops := s.forceOps k
  let f0 := s.img.forces
  let f1 := applyForces s k ops f0
  let slots := commitSlots s k f0 f1
  let o := slots.foldl (fun o a => match s.pointOf a with
    | none => o
    | some p =>
      let wOld := s.written p a
      let w := (s.img.back.get? a).getD wOld
      o.slot (s.rd a) a wOld w ((f1.get? p.addr).map (fun f => slotHalf p a f.value))) ({ front := s.img.front } : CommitOut)
  -- shadows of the forces in force
  let f2 : SMap Force := f1.map (fun e => match s.cfg.points.get? e.1 with
    | some p =>
      if p.cyclic && p.gkey == k then
        let w := fun a => ((s.img.back.get? a).getD (s.written p a)).toNat
        (e.1, { e.2 with shadow := BitVec.ofNat 64 (w p.addr + (if typeSlots p.typ = 2 then 4294967296 * w (p.addr + 1) else 0)) })
      else e
    | none => e)
  let back := s.img.back.filter (fun e => s.slotGroup e.1 != some k)
  -- quality of every slot of the group whose conditions or force may have changed
  let qk := (s.img.cond.map Prod.fst ++ s.img.frontQ.map Prod.fst ++ f0.map Prod.fst ++ f1.map Prod.fst).filter (fun a => s.slotGroup a == some k)
  let fq := qk.foldl (fun m a => match s.pointOf a with
    | some p => p.slots.foldl (fun m x => SMap.put 0 m x (quality (s.img.cond.getD p.addr 0) (f2.get? p.addr).isSome)) m
    | none => m) s.img.frontQ
  let ch0 := s.img.changed.filter (fun e => s.slotGroup e.1 != some k)
  let ch := o.changed.foldl (fun m a => SMap.set m a true) ch0
  let s1 := { s with img := { s.img with front := o.front, back := back, forces := f2, frontQ := fq, changed := ch } }
  -- events of the net change, point by point (R301)
  let pts := ((f0.map Prod.fst ++ f1.map Prod.fst).filter (fun a => s.slotGroup a == some k)).foldl (fun l a => insNat a l) []
  let s2 := pts.foldl (fun s a => match f0.get? a, f1.get? a with
    | none, some _ => s.raise EV_FORCE_SET 0 [] a
    | some x, some y => s.raiseIf (decide (x.value ≠ y.value)) EV_FORCE_SET 0 [] a
    | some _, none => s.raise EV_FORCE_REMOVED 0 [] a
    | none, none => s) s1
  (s2.forcesDone k ops, o.changed, o.shadows)

/-- Paged writes that the commit of local group 0 takes: from the DRAM journal and of waiting commands (R36). -/
def State.commitPaged (s : State) : State × List (Nat × W32) :=
  let fs := s.pagedWrites
  let cells := s.img.pagedJournal ++ fs.flatMap (fun f => if (s.nozzleOf f.h.tgt).isSome then [] else s.writeSlots f)
  let s1 := (fs.filter (fun f => !f.replaced)).foldl (fun s f => match s.nozzleOf f.h.tgt with
    | some (set, k, fld, n) =>
      let x := s.pset set
      let key := k * 4096 + n
      s.setPset set (x.putBg key (nozzleSet (x.bg.getD key {}) fld (f.h.p 0 4)))
    | none => s) s
  let s2 := fs.foldl (fun s f => s.setFlight { f with commit := some s.lmt, mark := s.jseq + 1 }) s1
  ({ s2 with img := { s2.img with paged := cells.foldl (fun m e => SMap.put 0 m e.1 e.2) s2.img.paged, pagedJournal := [] } }, cells)

/-- A hitless activation is migrating the unit-state region: its write-through is held in DRAM until the format has changed (R488). -/
def State.unitHeld (s : State) : Bool :=
  s.sys.upd == .activating && s.sys.restarting && (s.sys.slots.getD (1 - s.sys.runSlot) {}).rformat.getD 4 0 != s.sys.formats.getD 4 0

/-- Bank writes accepted before a commit of local group 0 are carried by its entry (R92). -/
def State.markBanks (s : State) : State :=
  if s.unitHeld then { s with flights := s.flights.map (fun f => if !f.held && f.op == 0x0502 && f.mark == 0 && f.commit.isSome then { f with mark := s.jseq + 1 } else f) } else
  let m := s.jseq + 1
  let s1 := s.mapBanks (fun b => if b.undurable && b.durMark == 0 then { b with durMark := m } else b)
  let s2 := { s1 with sets := s1.sets.mapV (fun _ x => if x.undurable && x.durMark == 0 then { x with durMark := m } else x) }
  { s2 with flights := s2.flights.map (fun f => if !f.held && durableOp f.op && f.mark == 0 && (f.op != 0x0502 || f.commit.isSome)
      && (f.op != 0x0704 || (s.ft (f.h.p 0 2)).held.isNone) then { f with mark := m } else f) }

/-- Points of a configuration that another has not, or has with another type. -/
def newPoints (o n : Cfg) : List PointDef :=
  (n.points.filter (fun e => !(o.points.get? e.1).any (fun q => q.typ == e.2.typ && q.cyclic == e.2.cyclic))).map Prod.snd

/-- The configuration that the journal or the home locations hold last. -/
def State.heldCfg (s : State) : Cfg := match s.journal.reverse.findSome? (fun e => e.unit) with
  | some u => u.cfg
  | none => s.home.cfg

/-- The write-through of a commit: an entry of the journal, merged with the group's last one if that is not durable (R33, R477). -/
def State.writeThrough (s : State) (k : Nat) (changed : List Nat) (paged : List (Nat × W32)) : State :=
  let g := s.group k
  let old := s.journal.find? (fun e => e.grp == k && !e.sealed)
  let new := if k = 0 then newPoints s.heldCfg s.cfg else []
  let cells := changed.map (fun a => (a, s.rd a)) ++ (new.filter (·.cyclic)).flatMap (fun p => p.slots.map (fun a => (a, s.rd a)))
  let paged := (new.filter (fun p => !p.cyclic)).flatMap (fun p => p.slots.map (fun a => (a, s.img.paged.getD a 0))) ++ paged
  let quals := changed.map (fun a => (a, s.rdQ a))
  let e : JEntry := {
    seq := s.jseq, grp := k, cycle := g.cycle
    slots := match old with
      | some o => o.slots.filter (fun c => !changed.contains c.1) ++ cells
      | none => cells
    quals := quals
    paged := match old with
      | some o => o.paged ++ paged
      | none => paged
    forces := some s.img.forces
    unit := if k = 0 && !s.unitHeld then some s.retain else none
    stage := if k = 0 && s.cfg.stage.isNone then some none else none }
  let late := g.wtOpen && old.isSome
  let s1 : State := { s with
    journal := s.journal.filter (fun (x : JEntry) => !(x.grp == k && !x.sealed)) ++ [e]
    jseq := s.jseq + 1
    flights := match old with
      | some o => s.flights.map (fun (f : Flight) => if (durableOp f.op) && f.mark == o.seq + 1 then { f with mark := s.jseq + 1 } else f)
      | none => s.flights
    sys := if late then { s.sys with commitLate := s.sys.commitLate + 1 } else s.sys }
  let s2 := match old with
    | some o => (s1.mapBanks (fun b => if b.durMark == o.seq + 1 then { b with durMark := s.jseq + 1 } else b))
    | none => s1
  let s3 := match old with
    | some o => { s2 with sets := s2.sets.mapV (fun _ x => if x.durMark == o.seq + 1 then { x with durMark := s.jseq + 1 } else x) }
    | none => s2
  (s3.setGroup k { s3.group k with wtOpen := true }).raiseIf late EV_COMMIT_LATE 0 [k / 8, k % 8]

/-- A command that a synced pair completes only once the standby holds it (R387): packages, programs, paged and bank writes. -/
def State.needsStandby (s : State) (f : Flight) : Bool :=
  s.synced && (f.op != 0x0502 || (s.slotGroup f.h.tgt).isNone)

/-- The durable value of a paged slot: the last sealed entry's, else the home location's (R36, R478). -/
def State.durablePaged (s : State) (a : Nat) : W32 :=
  s.journal.foldl (fun v e => if e.sealed then e.paged.foldl (fun v c => if c.1 = a then c.2 else v) v else v) (s.home.paged.getD a 0)

/-- A durable command completes, or waits for the standby (R35, R36, R92, R387). -/
def State.durableDone (s : State) (f : Flight) : State :=
  if s.needsStandby f then s.setFlight { f with waitStandby := true } else s.finish f ST_OK { result := f.res, detail := f.detail, inBuf := !f.out.isEmpty, out := f.out }

/-- Paged outputs of field nodes become UNDELIVERED and wait for their write frame; other paged points are GOOD (R102). -/
def State.pagedDurable (s : State) (cells : List (Nat × W32)) : State :=
  cells.foldl (fun s e => match s.pointOf e.1 with
    | none => s
    | some p =>
      let seg := bits p.addr 27 24
      if 1 ≤ seg ∧ seg ≤ 4 ∧ p.writer ≠ 0 then
        let k := nodeKey seg (bits p.addr 23 14)
        let n := s.node k
        let i := e.1 % 16384
        let s1 := s.setNode k { n with pageOut := n.pageOut.filter (fun x => x.1 ≠ i) ++ [(i, e.2)] }
        { s1 with img := { s1.img with pqual := s1.img.pqual.put 4 p.addr (if n.st == .preop || n.st == .operate then 3 else 4) } }
      else if seg = 0 then { s with img := { s.img with pqual := s.img.pqual.put 4 p.addr 0 } }
      else s) s

/-- WRITE_THROUGH_DURABLE: the oldest entry not yet sealed gets its seal; what waited for it completes (R33, R35, R36, R92, R477). -/
def writeThroughDurable (s : State) : State :=
  match s.journal.find? (fun e => !e.sealed) with
  | none => s
  | some e =>
    let m := e.seq + 1
    let s1 : State := { s with journal := s.journal.map (fun (x : JEntry) => if x.seq == e.seq then { x with sealed := true } else x) }
    let s2 := if e.grp < 72 then s1.setGroup e.grp { s1.group e.grp with wtOpen := false } else s1
    let s3 := s2.mapBanks (fun b => if b.durMark == m then { b with undurable := false, durMark := 0, unheld := s.synced } else b)
    let s4 := { s3 with sets := s3.sets.mapV (fun _ x => if x.durMark == m then { x with undurable := false, durMark := 0, unheld := s.synced } else x) }
    let s5 := s4.pagedDurable e.paged
    let s6 := if s5.flights.any (fun f => f.op == 0x0201 && f.mark == m) then { s5 with cfg := { s5.cfg with stageDurable := true } } else s5
    (s6.flightsOf (fun f => durableOp f.op && f.mark == m && !f.waitStandby)).foldl State.durableDone s6

/-- One sealed entry applied to the retained home locations (R478, R479). -/
def Retained.apply (h : Retained) (e : JEntry) : Retained :=
  let h0 := match e.unit with
    | some u => { u with front := h.front, frontQ := h.frontQ, cycles := h.cycles, paged := h.paged, forces := h.forces, stage := h.stage }
    | none => h
  { h0 with
    front := e.slots.foldl (fun m c => SMap.put 0 m c.1 c.2) h0.front
    frontQ := e.quals.foldl (fun m c => SMap.put 0 m c.1 c.2) h0.frontQ
    cycles := if e.grp < 72 then SMap.set h0.cycles e.grp e.cycle else h0.cycles
    paged := e.paged.foldl (fun m c => SMap.put 0 m c.1 c.2) h0.paged
    forces := if e.grp = 0 then e.forces.getD h0.forces else h0.forces
    stage := e.stage.getD h0.stage }

/-- Sealed entries from the front of the journal, up to the first without its seal. -/
def sealedHead : List JEntry → List JEntry
  | [] => []
  | e :: r => if e.sealed then e :: sealedHead r else []

/-- JOURNAL_SETTLE: the sealed entries are written home once and the settled marker advances (R478). -/
def journalSettle (s : State) : State :=
  let es := sealedHead s.journal
  { s with home := es.foldl Retained.apply s.home, journal := s.journal.drop es.length,
           settled := match es.getLast? with
             | some e => e.seq + 1
             | none => s.settled }

/-! Point commands. -/

/-- A defined point of this module, or of the partner's mirror (R20, R22). -/
def State.pointTarget (s : State) (a : Nat) : Bool :=
  s.addrOk a && ((s.pointOf a).isSome
    || (s.paired && bits a 27 24 == 9 && (bits a 23 14 == 0 || bits a 23 14 == 3) && (s.pointOf (ptAddr s 0 (bits a 23 14) (a % 16384))).isSome))

/-- Index of a mirrored point of the partner (R396). -/
def mirrorKey (a : Nat) : Nat := (if bits a 23 14 = 3 then 0x1000 else 0) + a % 16384

/-- A paged slot with journalled writes applied (R36). -/
def State.pagedLatest (s : State) (a : Nat) : W32 :=
  let j := s.img.pagedJournal.foldl (fun v e => if e.1 = a then some e.2 else v) (none : Option W32)
  let j2 := s.pagedWrites.foldl (fun v f => (s.writeSlots f).foldl (fun v e => if e.1 = a then some e.2 else v) v) j
  j2.getD (s.img.paged.getD a 0)

/-- Value of one slot as a host reads it (R25, R36, R88). -/
def State.readSlot (s : State) (a : Nat) : W32 :=
  if bits a 27 24 = 9 then s.red.mirror.getD (mirrorKey a) 0
  else match s.pointOf a with
    | none => 0
    | some p =>
      if p.cyclic then s.rd a
      else match s.nozzleOf a with
        | some (set, k, f, n) => if f < 3 then nozzleField ((s.pset set).fg.getD (k * 4096 + n) {}) f else s.pagedLatest a
        | none => s.pagedLatest a

/-- PQUAL of a paged point now: GOOD turns STALE 2 x SWEEP_PERIOD after its last successful read (R101). -/
def State.pqNow (s : State) (p : PointDef) : Nat :=
  let seg := bits p.addr 27 24
  let q := s.img.pqual.getD p.addr 4
  let t := (s.node (nodeKey seg (bits p.addr 23 14))).readAt.getD (p.addr % 16384) s.lmt
  if q = qGood ∧ 1 ≤ seg ∧ seg ≤ 4 ∧ t + 2 * (le (s.rcd 0x08 seg) 8 4 * 1000000) ≤ s.lmt then qStale else q

/-- Quality of a point as a host reads it; a mirrored point reads STALE while the link is silent (R26, R27, R396). -/
def State.readQ (s : State) (a : Nat) : Nat :=
  if bits a 27 24 = 9 then (if s.red.link.heardAt.isSome && !s.red.link.silent then qGood else qStale)
  else match s.pointOf a with
    | none => 0
    | some p => if p.cyclic then s.rdQ p.addr else s.pqNow p

/-- Value of a point address as POINT_READ returns it (R25). -/
def State.readPoint (s : State) (a : Nat) : Nat := match s.pointOf a with
  | some p => if typeSlots p.typ = 2 ∧ a = p.addr then (s.readSlot a).toNat + 4294967296 * (s.readSlot (a + 1)).toNat else (s.readSlot a).toNat
  | none => (s.readSlot a).toNat

/-- What PointRead checks before its rule runs (R427, R429). -/
def gatePointRead (h : CmdHdr) (s : State) : Gate :=
  let n := if h.buf then h.p 12 4 else 1
  let ok := (List.range n).all (fun i => s.pointTarget (h.tgt + i)) && decide ((h.tgt + n - 1) / 16384 = h.tgt / 16384)
  { invalid := firstBad ([if ok then none else some 8] ++
      (if h.buf then [needBuf h (8 * n), needP 12 (decide (1 ≤ n ∧ n ≤ 16384)), zeroTail h 16] else [zeroTail h 0])), exempt := true }

/-- Effect of PointRead. -/
def goPointRead (f : Flight) (s : State) : State :=
  let h := f.h
  let n := if h.buf then h.p 12 4 else 1
  if h.buf then s.okOut f ((List.range n).flatMap (fun i => nums (toLe (s.readSlot (h.tgt + i)).toNat 4 ++ toLe (s.readQ (h.tgt + i)) 4)))
  else s.finish f ST_OK { result := s.readPoint h.tgt, detail := s.readQ h.tgt, commit := some s.lmt }

/-- POINT_READ: one point inline, or consecutive indices to a buffer (R25, R429). -/
def runPointRead (h : CmdHdr) (s : State) : State := start 0x0501 (gatePointRead h s) goPointRead h s

/-- What PointWrite checks before its rule runs (R427, R429). -/
def gatePointWrite (h : CmdHdr) (s : State) : Gate :=
  let p := s.pointOf h.tgt
  let seg := bits h.tgt 27 24
  let bad := !s.addrOk h.tgt || p.isNone || seg == 9 || (seg == 0 && bits h.tgt 23 14 == 3)
  let z := s.nozzleOf h.tgt
  { invalid := firstBad [if bad || p.any (fun p => h.tgt != p.addr) then some 8 else none, noBuf h,
                   needP 0 (p.all (fun p => valueOk p.typ (h.p 0 8))), zeroTail h 8],
                 refused := (match z with
                   | some (set, _, f, _) => f == 3 || (s.pset set).sealed
                   | none => p.any (fun p => p.writer != 3)) }

/-- PointWrite waits among the commands in flight; its rule acts at the instant it names. -/
def goPointWrite (_ : Flight) (s : State) : State :=
  s

/-- POINT_WRITE: to a point the host owns; waits for the commit that carries it (R25, R35, R36, R88, R92). -/
def runPointWrite (h : CmdHdr) (s : State) : State := start 0x0502 (gatePointWrite h s) goPointWrite h s

/-- Metadata record of a point (R27). -/
def State.metadata (s : State) (p : PointDef) : Nat :=
  p.addr + 4294967296 * p.typ + mkBit p.cyclic 36 + 137438953472 * p.group + 1099511627776 * (if p.cyclic then p.islot else 0)
    + 1152921504606846976 * (if p.cyclic then 0 else s.pqNow p)

/-- What PointMeta checks before its rule runs (R427, R429). -/
def gatePointMeta (h : CmdHdr) (s : State) : Gate :=
  { invalid := firstBad [if s.addrOk h.tgt && (s.pointOf h.tgt).isSome then none else some 8, noBuf h, zeroTail h 0], exempt := true }

/-- Effect of PointMeta. -/
def goPointMeta (f : Flight) (s : State) : State :=
  let h := f.h
  s.finish f ST_OK { result := ((s.pointOf h.tgt).map s.metadata).getD 0, commit := some s.lmt }

/-- POINT_META: the metadata record, named by either slot (R25, R27). -/
def runPointMeta (h : CmdHdr) (s : State) : State := start 0x0503 (gatePointMeta h s) goPointMeta h s

/-- Node record by segment and node (R105): its key holds the home group too. -/
def State.nodeRec? (s : State) (seg node : Nat) : Option Bytes := (s.recsOf 0x0A).find? (fun b => byteAt b 0 == seg && le b 2 2 == node)

/-- Code of a node state, in R117's order. -/
def nodeCode : NodeState → Nat
  | .absent => 0
  | .binding => 1
  | .preop => 2
  | .operate => 3
  | .dropped => 4

/-- What NodeRead checks before its rule runs (R427, R429). -/
def gateNodeRead (h : CmdHdr) (s : State) : Gate :=
  let node := h.p 12 2
  { invalid := firstBad [needKind h 9, needBuf h 128, needP 12 (s.nodeRec? h.inst node).isSome, zeroTail h 14], unit := h.tgt, exempt := true }

/-- Effect of NodeRead. -/
def goNodeRead (f : Flight) (s : State) : State :=
  let h := f.h
  let node := h.p 12 2
  let n := s.node (nodeKey h.inst node)
  s.okOut f ([nodeCode n.st, n.bindId] ++ nums n.hello ++ nums n.status)

/-- NODE_READ: state, BIND_ID, HELLO body and last status block (R429). -/
def runNodeRead (h : CmdHdr) (s : State) : State := start 0x0504 (gateNodeRead h s) goNodeRead h s

end Sys2Proof.Machine
end

