-- ==== Sys2Proof/Machine/LoopArith.lean ====
section
/-! DEFINITION. Arithmetic of the loop engines (R135 to R137, R142, R143, R144). -/

namespace Sys2Proof.Machine

/-- Saturation to 40 signed bits (R136). -/
def sat40 (x : Int) : Int := satI (-549755813888) 549755813887 x
/-- Saturation to 17 signed bits (R136). -/
def sat17 (x : Int) : Int := satI (-65536) 65535 x

/-- Shift of a product by a gain's SHIFT (R136). -/
def sh (p : Int) (n : Int) : Int := if 0 ≤ n then sat40 (p * 2 ^ n.toNat) else asr p (-n).toNat

/-- Accumulator to Q15, round half up (R136). -/
def store (acc : Int) : Int := sat16 (asr (acc + 16384) 15)

/-- A setpoint weight applied (R136). -/
def wt (w r : Int) : Int := asr (w * r + 16384) 15

/-- MANT and SHIFT of a gain (R137). -/
structure Gain where
  mant : Int
  shift : Int
  deriving DecidableEq, Repr

/-- The gain at an offset of a record (R137). -/
def gainAt (b : Bytes) (o : Nat) : Gain := ⟨leS b o 2, sgn 5 (byteAt b (o + 2) % 32)⟩

/-- A term: the gain applied to an operand, in Q30 (R137). -/
def Gain.term (g : Gain) (x : Int) : Int := sh (g.mant * x) g.shift

/-- One step of the limited setpoint towards the target (R142). -/
def spLimit (spl tgt : Int) (up down : Nat) : Int :=
  let d := tgt * 65536 - spl
  if 0 < d then (if up = 0 ∨ d ≤ up then spl + d else spl + up)
  else if down = 0 ∨ -d ≤ down then spl + d else spl - down

/-- One biquad, direct form I, its gains at an offset of the coefficient set (R143). -/
def bqStep (c : Bytes) (o : Nat) (st : BqState) (x : Int) : Int × BqState :=
  let a0 := (gainAt c o).term x
  let a1 := sat40 (a0 + (gainAt c (o + 4)).term st.x1)
  let a2 := sat40 (a1 + (gainAt c (o + 8)).term st.x2)
  let a3 := sat40 (a2 - (gainAt c (o + 12)).term st.w1)
  let a4 := sat40 (a3 - (gainAt c (o + 16)).term st.w2)
  let w := store a4
  (w, { x1 := x, x2 := st.x1, w1 := w, w2 := st.w1 })

/-- The biquads in series, from the `i`-th on (R143). -/
def bqChain (c : Bytes) : Nat → Nat → List BqState → Int → Int × List BqState
  | 0, _, _, x => (x, [])
  | n + 1, i, sts, x =>
    let r := bqStep c (32 + 20 * i) (sts.headD {}) x
    let q := bqChain c n (i + 1) sts.tail r.1
    (q.1, r.2 :: q.2)

/-- Offsets of the gains in a coefficient set (bytes 96 to 287 of the record, R156). -/
def coefKp (c : Bytes) : Gain := gainAt c 0
def coefKi (c : Bytes) : Gain := gainAt c 4
def coefKd (c : Bytes) : Gain := gainAt c 8
def coefKt (c : Bytes) : Gain := gainAt c 12
def coefKff (c : Bytes) : Gain := gainAt c 16
def coefDa (c : Bytes) : Int := le c 20 2
def coefB (c : Bytes) : Int := le c 22 2
def coefC (c : Bytes) : Int := le c 24 2

/-- Clamp of a Q15 value. -/
def clampQ (lo hi x : Int) : Int := satI lo hi x

/-- p and d of one sample with a coefficient set (R138). -/
def loopPd (c : Bytes) (r y dq xdPrev : Int) : Int × Int :=
  let xp := sat17 (wt (coefB c) r - y)
  let xd := sat17 (wt (coefC c) r - y)
  ((coefKp c).term xp, sat40 (coefDa c * dq + (coefKd c).term (sat17 (xd - xdPrev))))

/-! Banked tables held as bytes (R92 to R94). -/

/-- The rebuild of a bank is finished: writes durable, catch-up complete (R92). -/
def Bank.finished (b : Bank) : Bool := !b.undurable && !b.unheld && !b.catchup

/-- The swap: the background becomes the foreground and is rebuilt as a copy of it (R92, R94). -/
def Bank.swap (b : Bank) : Bank :=
  { fg := b.bg, bg := b.bg, sel := 1 - b.sel, catchup := true }

/-- A write into the background bank (R92, R94). -/
def Bank.write (b : Bank) (x : Bytes) : Bank := { b with bg := x, written := true, undurable := true, durMark := 0 }

end Sys2Proof.Machine
end

