-- ==== Sys2Proof/Machine/Spindle.lean ====
section
/-! DEFINITION. Spindle engines: windows, registers, instructions, loading (R310 to R325). What a verdict does is in the places' own files. -/

namespace Sys2Proof.Machine

/-! Program images (R323). -/

def spinLen (img : Bytes) : Nat := le img 4 2
def spinKeep (img : Bytes) : Bool := (byteAt img 3).testBit 0
/-- The instruction word at an address. -/
def spinWord (img : Bytes) (pc : Nat) : Nat := le img (16 + 4 * pc) 4
/-- The place of a program number: 0 CAN, 1 Ethernet, 2 qualifier, 3 reduction (R310). -/
def spinPlace (n : Nat) : Nat := if n < 4 then 0 else if n < 8 then 1 else if n < 24 then 2 else 3
/-- Port, unit or channel of a program's place (R310, R311). -/
def spinUnit (n : Nat) : Nat := if n < 4 then n else if n < 8 then n - 4 else if n < 24 then n - 8 else n - 24
/-- Windows an engine queues (R322). -/
def spinDepth (n : Nat) : Nat := if n < 4 then 4 else if n < 8 then 32 else if n < 24 then 4 else 65536

/-- A program runs on an engine: loaded and enabled (R310, R325). -/
def State.spinRuns (s : State) (n : Nat) : Bool := !(s.spin n).prog.fg.isEmpty && !s.isDis (uSpin n)

/-- Reports at most once per second per program (R321, R322). -/
def oncePerSec (last : Option Nat) (t : Nat) : Bool := match last with
  | none => true
  | some u => decide (u + 1000000000 ≤ t)

/-- A window is offered to an engine: queued, or to be given its default verdict at once (none) (R310, R322). -/
def State.spinOffer (s : State) (n : Nat) (w : SpinWin) : Option State :=
  let p := s.spin n
  if !s.spinRuns n then none
  else if p.queue.length < spinDepth n then some (s.setSpin n { p with queue := p.queue ++ [w] })
  else none

/-- A window found its queue full: UNFILTERED and EV_SPIN_BACKLOG (R322). -/
def State.spinBacklog (s : State) (n : Nat) : State :=
  let p := s.spin n
  if !s.spinRuns n then s
  else
    let rep := oncePerSec p.backAt s.lmt
    (s.setSpin n { p with unfiltered := p.unfiltered + 1, backAt := if rep then some s.lmt else p.backAt }).raiseIf rep EV_SPIN_BACKLOG (uSpin n)

/-- A verdict outside what the place defines: BAD_VERDICT and its event (R321). -/
def State.spinBad (s : State) (n : Nat) : State :=
  let p := s.spin n
  let rep := oncePerSec p.badAt s.lmt
  (s.setSpin n { p with badVerdict := p.badVerdict + 1, badAt := if rep then some s.lmt else p.badAt }).raiseIf rep EV_SPIN_BAD_VERDICT (uSpin n)

/-- The swap at a gap between two windows, or its deferral (R92, R311, R324). -/
def State.spinGap (s : State) (n : Nat) : State :=
  let p := s.spin n
  if p.prog.sealed && p.prog.finished && p.window.isNone then
    let kept := if spinKeep p.prog.bg then p.kept else []
    let s0 := { s with cfg := { s.cfg with spin := s.cfg.spin.set n p.prog.bg, pkgId := nextPkg s.cfg.pkgId } }
    let s1 := (s0.setSpin n { p with prog := p.prog.swap, kept := kept }).raise EV_SPIN_SWAPPED (uSpin n)
    s1.finishOut (s1.flightsOn 0x0C02 (uSpin n))
  else if p.prog.sealed && p.window.isNone && !p.prog.deferred then
    (s.setSpin n { p with prog := { p.prog with deferred := true } }).raise EV_BANK_DEFERRED (uSpin n) [3, n, mkBit p.prog.undurable 0 + mkBit p.prog.catchup 1]
  else s

/-- The registers at a window's start (R311). -/
def spinRegs (n : Nat) (kept : SMap W32) (w : SpinWin) : SMap W32 :=
  let r0 := ((kept.put 0 0 w.dflt).put 0 1 (BitVec.ofNat 32 w.size)).put 0 2 (BitVec.ofNat 32 w.lmt)
  r0.put 0 3 (BitVec.ofNat 32 (spinUnit n))

/-- The next queued window starts (R311, R322). -/
def State.spinStart (s : State) (n : Nat) : State :=
  let p := s.spin n
  match p.window, p.queue with
  | none, w :: q => s.setSpin n { p with window := some w, queue := q, regs := spinRegs n p.kept w, pc := 0, steps := 0 }
  | _, _ => s

/-! Window bytes (R313, R317 to R320). -/

/-- Size of an engine's window. -/
def spinSize (n : Nat) (w : SpinWin) : Nat := match spinPlace n with
  | 0 => 80
  | 1 => 144
  | 2 => w.size
  | _ => 16

/-- Byte at a window index; 0 outside the window (R313, R318). -/
def spinByte (n : Nat) (w : SpinWin) (i : Int) : Nat :=
  if i < 0 ∨ (spinSize n w : Int) ≤ i then 0
  else
    let j := i.toNat
    if spinPlace n = 1 then
      if j < 128 then byteAt w.bytes j
      else if j < 132 then w.size / 256 ^ (j - 128) % 256
      else if j < 136 then 0
      else w.lmt / 256 ^ (j - 136) % 256
    else byteAt w.bytes j

/-- `k` bytes from an index, big-endian. -/
def spinBe (n : Nat) (w : SpinWin) (i : Int) : Nat → Nat
  | 0 => 0
  | k + 1 => spinBe n w i k * 256 + spinByte n w (i + k)

/-- `k` bytes from an index, little-endian. -/
def spinLe (n : Nat) (w : SpinWin) (i : Int) : Nat → Nat
  | 0 => 0
  | k + 1 => spinByte n w i + 256 * spinLe n w (i + 1) k

/-! Instructions (R312 to R315). -/

/-- Fields of an instruction word's low 26 bits (R314). -/
def fD (o : Nat) : Nat := bits o 25 22
def fA (o : Nat) : Nat := bits o 21 18
def fB (o : Nat) : Nat := bits o 17 14
def fImm18 (o : Nat) : Nat := o % 262144
def fImm10 (o : Nat) : Nat := bits o 17 8
def fOfs (o : Nat) : Nat := o % 256

/-- Sign-extended and zero-extended IMM18. -/
def sImm18 (o : Nat) : W32 := BitVec.ofInt 32 (sgn 18 (fImm18 o))
def zImm18 (o : Nat) : W32 := BitVec.ofNat 32 (fImm18 o)

def Spin.w (p : Spin) (r : Nat) : W32 := p.regs.getD r 0
def Spin.setW (p : Spin) (r : Nat) (v : W32) : Spin := { p with regs := p.regs.put 0 r v }

/-- CNT: a counter wraps (R315). -/
def Spin.count (p : Spin) (c : Nat) : Spin := { p with counters := p.counters.put 0 c (p.counters.getD c 0 + 1) }

/-- One instruction word executes on the window in progress: the row's word must be the one at the program's next address. -/
def State.spinAt (s : State) (n op opnd : Nat) : Bool :=
  let p := s.spin n
  p.window.isSome && decide (p.pc < spinLen p.prog.fg) && decide (opnd < 67108864) && spinWord p.prog.fg p.pc == op * 67108864 + opnd

/-- The instruction's effect on its engine, then the next address (R312). -/
def State.spinExec (s : State) (n : Nat) (f : SpinWin → Spin → Spin) (next : Spin → Nat) : State :=
  let p := s.spin n
  match p.window with
  | none => s
  | some w =>
    let q := f w p
    s.setSpin n { q with pc := next p, steps := p.steps + 1 }

/-- The window exits with verdict W0: the counters of the window, the state registers (R311, R312, R325). Answers the window and the verdict. -/
def State.spinEnd (s : State) (n : Nat) : State × Option (SpinWin × W32) :=
  let p := s.spin n
  match p.window with
  | none => (s, none)
  | some w =>
    let v := p.w 0
    (s.setSpin n { p with window := none, kept := p.regs.filter (fun e => 8 ≤ e.1), verdict := v, windows := p.windows + 1, most := max p.most p.steps },
     some (w, v))

/-! Validity of an image (R314 to R316). -/

/-- A word's opcode is defined and its reserved fields are zero (R314, R315). -/
def spinWordOk (len pc w : Nat) : Bool :=
  let op := w / 67108864
  let a := fA w == 0
  let b := fB w == 0
  let low := w % 16384 == 0
  let br := decide (fOfs w ≠ 0) && decide (pc + fOfs w ≤ len)
  if op = 0 then w == 0
  else if 1 ≤ op ∧ op ≤ 0xD then low
  else if op = 0xE then low && b
  else if 0x10 ≤ op ∧ op ≤ 0x16 then true
  else if op = 0x17 ∨ op = 0x18 then a
  else if 0x20 ≤ op ∧ op ≤ 0x25 then true
  else if 0x30 ≤ op ∧ op ≤ 0x35 then br && fImm10 w == 0
  else if 0x36 ≤ op ∧ op ≤ 0x39 then br && bits w 21 18 == 0
  else if op = 0x3C then w % 67108864 < 8
  else if op = 0x3E then w % 67108864 == 0
  else false

/-- The header of an image stands for a program: FORMAT, PLACE, LENGTH and CRC (R323). -/
def spinHeadOk (n : Nat) (img : Bytes) : Bool :=
  let len := spinLen img
  le img 0 2 == 2 && byteAt img 2 == spinPlace n && decide (byteAt img 3 < 2) && decide (1 ≤ len ∧ len ≤ 256) && le img 6 2 == 0
    && decide (16 + 4 * len ≤ img.length) && le img 12 4 == crc32c (slice img 16 (4 * len))

/-- The first address of an image whose instruction R316 refuses. -/
def spinBadAt (img : Bytes) : Option Nat := (List.range (spinLen img)).find? (fun i => !spinWordOk (spinLen img) i (spinWord img i))

/-- An image that Sluice accepts for a program (R316, R323). -/
def spinImageOk (n : Nat) (img : Bytes) : Bool := spinHeadOk n img && (spinBadAt img).isNone

/-! Commands (R324, R325). -/

/-- A TARGET of a spindle program. -/
def spinGate (h : CmdHdr) (s : State) (bad : List (Option Nat)) (refused exempt : Bool) : Gate :=
  { invalid := firstBad (needKind h 13 :: bad), unit := h.tgt, disabled := s.isDis h.tgt, refused := refused, exempt := exempt }

/-- What SpinLoad checks before its rule runs (R427, R429). -/
def gateSpinLoad (h : CmdHdr) (s : State) : Gate :=
  { spinGate h s [needBuf h 20, zeroTail h 12, if spinHeadOk h.inst h.data then none else some 16]
      ((s.spin h.inst).prog.sealed || (spinBadAt h.data).isSome) false with
    detail := (spinBadAt h.data).getD 0 }

/-- Effect of SpinLoad. -/
def goSpinLoad (f : Flight) (s : State) : State :=
  let h := f.h
  let p := s.spin h.inst; s.setSpin h.inst { p with prog := p.prog.write h.data }

/-- SPIN_LOAD writes the background bank; ST_OK when durable. A program that R316 refuses completes ST_REFUSED, DETAIL its address (R316, R324;
DEDUCED, log 237). -/
def runSpinLoad (h : CmdHdr) (s : State) : State := start 0x0C01 (gateSpinLoad h s) goSpinLoad h s

/-- What SpinReadState checks before its rule runs (R427, R429). -/
def gateSpinReadState (h : CmdHdr) (s : State) : Gate :=
  spinGate h s [needBuf h 128, zeroTail h 12] false true

/-- Effect of SpinReadState. -/
def goSpinReadState (f : Flight) (s : State) : State :=
  let h := f.h
  let p := s.spin h.inst
  let b0 := if p.prog.sel = 0 then p.prog.fg else p.prog.bg
  let b1 := if p.prog.sel = 0 then p.prog.bg else p.prog.fg
  s.okOut f ([le b0 8 4, le b1 8 4, p.prog.sel] ++ (List.range 8).map (fun i => (p.kept.getD (8 + i) 0).toNat)
    ++ (List.range 8).map (fun i => (p.counters.getD i 0).toNat) ++ [p.windows.toNat, p.badVerdict.toNat, p.unfiltered.toNat, p.most])

/-- SPIN_READ_STATE (R325). -/
def runSpinReadState (h : CmdHdr) (s : State) : State := start 0x0C03 (gateSpinReadState h s) goSpinReadState h s

end Sys2Proof.Machine
end

