-- ==== Sys2Proof/Machine/Can.lean ====
section
/-! DEFINITION. CAN FD ports: objects, signals, arbitration, receive path, error states, rate detection, commands (R328 to R348). -/

namespace Sys2Proof.Machine

def State.canRec (s : State) (p : Nat) : Bytes := s.rcd 0x18 p
def State.canObjRec? (s : State) (p o : Nat) : Option Bytes := s.rec? 0x19 (p + 256 * o)
def State.canObjRec (s : State) (p o : Nat) : Bytes := (s.canObjRec? p o).getD []
def canFlag (b : Bytes) (i : Nat) : Bool := (byteAt b 2).testBit i
def coDir (b : Bytes) : Nat := byteAt b 2
def coFlag (b : Bytes) (i : Nat) : Bool := (byteAt b 3).testBit i
def coId (b : Bytes) : Nat := le b 4 4 % 536870912
def coLen (b : Bytes) : Nat := byteAt b 12
def coTrigger (b : Bytes) : Nat := byteAt b 13

/-- A bit in quanta of 80 MHz, and where it is sampled (R330). -/
def CanTiming.quanta (t : CanTiming) : Nat := t.brp * (1 + t.tseg1 + t.tseg2)
def CanTiming.sample (t : CanTiming) : Nat := t.brp * (1 + t.tseg1)

/-- Preset nominal and data timings by rate in kb/s, SJW = TSEG2 (R330). -/
def canPresetNom (kb : Nat) : CanTiming :=
  if kb = 1000 then { brp := 1, tseg1 := 63, tseg2 := 16, sjw := 16 } else { brp := 500 / max 1 kb, tseg1 := 127, tseg2 := 32, sjw := 32 }
def canPresetData (kb : Nat) : CanTiming :=
  if kb = 5000 then { brp := 1, tseg1 := 11, tseg2 := 4, sjw := 4 } else { brp := 4000 / max 1 kb, tseg1 := 14, tseg2 := 5, sjw := 5 }

/-- Nominal and data timing of a port record: a preset, or its own (R329, R330). -/
def canNomTiming (b : Bytes) : CanTiming :=
  if byteAt b 3 = 0 then { brp := le b 8 2, tseg1 := le b 10 2, tseg2 := byteAt b 12, sjw := byteAt b 13 } else canPresetNom ([125, 250, 500, 1000].getD (byteAt b 3 - 1) 1000)
def canDataTiming (b : Bytes) : CanTiming :=
  if byteAt b 4 = 0 then { brp := byteAt b 14, tseg1 := byteAt b 15, tseg2 := byteAt b 16, sjw := byteAt b 17 }
  else canPresetData ([1000, 2000, 4000, 5000].getD (byteAt b 4 - 1) 5000)

/-- Timing in force: the rate being tried, the rates found, or the record's; none where no data rate is known (R330, R339). -/
def State.canNominal (s : State) (p : Nat) : CanTiming :=
  match (s.can p).detect, (s.can p).found with
  | some d, _ => canPresetNom (d.nominal.getD ([1000, 500, 250, 125].getD d.idx 1000))
  | none, some f => canPresetNom f.1
  | none, none => canNomTiming (s.canRec p)
def State.canDataBit (s : State) (p : Nat) : Option CanTiming :=
  match (s.can p).detect, (s.can p).found with
  | some d, _ => some (canPresetData ([5000, 4000, 2000, 1000].getD d.dataIdx 5000))
  | none, some f => if f.2 = 0 then none else some (canPresetData f.2)
  | none, none => some (canDataTiming (s.canRec p))

/-- Object records of a port, by object number. -/
def State.canObjs (s : State) (p : Nat) : List (Nat × Bytes) :=
  ((s.recsOf 0x19).filter (fun b => byteAt b 0 == p)).map (fun b => (byteAt b 1, b))

def CanPort.obj (c : CanPort) (o : Nat) : CanObj := c.objs.getD o {}
def CanPort.setObj (c : CanPort) (o : Nat) (x : CanObj) : CanPort := { c with objs := c.objs.set o x }

/-- The port takes part in bus traffic: admitted, not off, not disabled. -/
def State.canOn (s : State) (p : Nat) : Bool := byteAt (s.canRec p) 1 != 0 && !s.isDis (uCan p) && (s.can p).st != .off

/-- Listen-only: by record, or on a module that does not drive its field (R339, R345). -/
def State.canListen (s : State) (p : Nat) : Bool := byteAt (s.canRec p) 1 == 2 || !s.drives

/-! Signals (R332). -/

/-- The data bit that holds bit `i` (from the least significant) of a signal. -/
def sigBit (b : Bytes) (g i : Nat) : Nat :=
  let start := le b (24 + 8 * g) 2
  let len := byteAt b (26 + 8 * g)
  if (byteAt b (27 + 8 * g)).testBit 0 then
    -- big-endian: `j` counted from the most significant bit at START
    let j := len - 1 - i
    let first := start % 8
    if j ≤ first then start - j
    else
      let k := j - first - 1
      (start / 8 + 1 + k / 8) * 8 + 7 - k % 8
  else start + i

def sigLen (b : Bytes) (g : Nat) : Nat := byteAt b (26 + 8 * g)
def sigPoint (s : State) (p : Nat) (b : Bytes) (g : Nat) : Nat := ptAddr s (5 + p) (le b 16 2) (le b (28 + 8 * g) 2)
def sigs (b : Bytes) : List Nat := List.range (byteAt b 15)

/-- The value of a signal in frame data. -/
def sigRead (b : Bytes) (g : Nat) (data : Bytes) : Int :=
  let n := sigLen b g
  let v := (List.range n).foldl (fun a i => let k := sigBit b g i; if (byteAt data (k / 8)).testBit (k % 8) then a + 2 ^ i else a) 0
  if (byteAt b (27 + 8 * g)).testBit 1 then sgn n v else v

/-- Frame data with a signal's low LENGTH bits written. -/
def sigWrite (b : Bytes) (g : Nat) (v : Nat) (data : Bytes) : Bytes :=
  (List.range (sigLen b g)).foldl (fun d i =>
    let k := sigBit b g i
    if v.testBit i then d.set (k / 8) (BitVec.ofNat 8 (byteAt d (k / 8) ||| 2 ^ (k % 8))) else d) data

/-- A received value in its point's stored form. -/
def sigStore (typ : Nat) (v : Int) : W32 :=
  if typ = 0 then BitVec.ofNat 32 (mkBit (v != 0) 0) else if typ = 1 ∨ typ = 2 then w32 (sat16 v) else w32 v

/-- Highest data bit that a signal of an object uses, plus 1. -/
def sigTop (b : Bytes) : Nat :=
  (sigs b).foldl (fun m g => (List.range (sigLen b g)).foldl (fun m i => max m (sigBit b g i + 1)) m) 0

/-- Data of a send object from the committed image (R332, R335). -/
def State.canData (s : State) (p : Nat) (b : Bytes) : Bytes :=
  (sigs b).foldl (fun d g => sigWrite b g (s.rd (sigPoint s p b g)).toNat d) (List.replicate (coLen b) 0)

/-! Points (R346). -/

def State.canObjPoint (s : State) (p o : Nat) : State :=
  let b := s.canObjRec p o
  let x := (s.can p).obj o
  let taken := match x.takenAt with
    | some u => le b 20 4 = 0 || decide (s.lmt < u + le b 20 4 * 1000)
    | none => false
  let v := coDir b + mkBit x.pending.isSome 2 + mkBit taken 3 + mkBit x.overwritten 4 + mkBit x.timedOut 5 + mkBit x.failed 6 + mkBit x.short 7
    + 256 * x.late + 65536 * (x.frames % 65536)
  s.wrLocal 19 (p * 256 + o) v

def State.canPoints (s : State) (p : Nat) : State :=
  let c := s.can p
  let st := match c.st with
    | .off => 0
    | .active => 1
    | .passive => 2
    | .busOff => 3
    | .recovering => 3
  let v := st + mkBit (c.st == .recovering) 2 + mkBit c.alone 3 + mkBit c.aloneHold 4 + mkBit (c.st != .off && c.listen) 5 + mkBit c.detect.isSome 6
  let a := 1024 + p * 8
  (((((((s.wrLocal 19 a v).wrLocal 19 (a + 1) c.tec).wrLocal 19 (a + 2) c.rec').wrLocal 19 (a + 3) c.rxFrames.toNat).wrLocal 19 (a + 4) c.txFrames.toNat).wrLocal 19
    (a + 5) c.errors.toNat).wrLocal 19 (a + 6) c.load).wrLocal 19 (a + 7) c.ringLost.toNat

/-- Conditions of the points an object maps. -/
def State.canCond (s : State) (p : Nat) (b : Bytes) (i : Nat) (on : Bool) : State :=
  (sigs b).foldl (fun s g => s.setCond (sigPoint s p b g) i on) s

/-! Arbitration (R335). -/

/-- Arbitration field of a send object: the lower wins. -/
def arbKey (b : Bytes) : Nat :=
  let id := coId b
  if coFlag b 0 then id / 262144 * 2097152 + 1048576 + 524288 + id % 262144 * 2 + mkBit (coFlag b 3) 0
  else id % 2048 * 2097152 + mkBit (coFlag b 3) 0 * 1048576

/-- The pending object that wins: the lowest field, then the lowest number. -/
def State.canBest (s : State) (p : Nat) : Option Nat :=
  ((s.canObjs p).filter (fun e => ((s.can p).obj e.1).pending.isSome)).foldl (fun (best : Option (Nat × Bytes)) e => match best with
    | none => some e
    | some q => if arbKey e.2 < arbKey q.2 ∨ (arbKey e.2 = arbKey q.2 ∧ e.1 < q.1) then some e else some q) none |>.map Prod.fst

/-- The port may arbitrate. -/
def State.canMay (s : State) (p : Nat) : Bool :=
  let c := s.can p
  s.canOn p && !s.canListen p && !c.integrating && !c.aloneHold && (c.st == .active || c.st == .passive)

/-- The next object goes on the bus. -/
def State.canNext (s : State) (p : Nat) : State :=
  let c := s.can p
  if c.onBus.isSome || !s.canMay p then s
  else match s.canBest p with
    | some o => s.setCan p { c.setObj o { c.obj o with again := false } with onBus := some o, busData := ((c.obj o).pending).getD [], noRetry := false }
    | none => s

/-- An object becomes pending with data, or its data are replaced (R335). -/
def State.canLoad (s : State) (p o : Nat) (data : Bytes) : State :=
  let c := s.can p
  let x := c.obj o
  let s1 := match x.pending with
    | none => s.setCan p (c.setObj o { x with pending := some data, since := s.lmt, failed := false, behind := false })
    | some _ => (s.setCan p (c.setObj o { x with
        pending := some data, again := c.onBus == some o, late := min 255 (x.late + 1), lateOpen := true, behind := false })).raiseIf (!x.lateOpen) EV_CAN_TX_LATE (uCan p) [o]
  (s1.canNext p).canObjPoint p o

/-- CAN_SEND in flight on an object. -/
def State.canSends (s : State) (p o : Nat) : List Flight := (s.flightsOn 0x0D01 (uCan p)).filter (fun f => f.mark == o)

/-- ABORTs in flight that name a command (R430). -/
def State.abortsOf (s : State) (f : Flight) : List Flight :=
  s.flights.filter (fun g => g.op == 0x0104 && g.h.p 0 1 == f.h.ring && BitVec.ofNat 32 (g.h.p 4 4) == f.h.tag)

/-- An object leaves pending without its frame having been acknowledged: a ONE_SHOT failure, or an ABORT's withdrawal (R335, R336). -/
def State.canDrop (s : State) (p o : Nat) (failed : Bool) : State :=
  let c := s.can p
  let s1 := s.setCan p (c.setObj o { c.obj o with pending := none, failed := failed, lateOpen := false })
  let s2 := (s1.canSends p o).foldl (fun s f =>
    let as := s.abortsOf f
    let s1 := s.finish f (if failed then ST_FAULT else ST_ABORTED)
    if failed then s1 else s1.finishAll as ST_OK { commit := some s1.lmt }) s1
  s2.canObjPoint p o

/-! Error states (R340 to R342). -/

/-- ERROR_ACTIVE and ERROR_PASSIVE follow the counters; EV_CAN_PASSIVE at the change. -/
def State.canState (s : State) (p : Nat) : State :=
  let c := s.can p
  let high := decide (128 ≤ c.tec) || decide (128 ≤ c.rec')
  if c.st == .active && high then (s.setCan p { c with st := .passive }).raise EV_CAN_PASSIVE (uCan p)
  else if c.st == .passive && !high then (s.setCan p { c with st := .active }).raise EV_CAN_PASSIVE (uCan p) [] 0 true
  else s

/-- BUS_OFF: pending objects stay; recovery starts at once with AUTO_RECOVER (R341). -/
def State.canBusOff (s : State) (p : Nat) : State :=
  let c := s.can p
  let best := s.canBest p
  let wait := match best with
    | some o => s.lmt - (c.obj o).since
    | none => 0
  let s1 := s.setCan p { c with st := if canFlag (s.canRec p) 1 then .recovering else .busOff, onBus := none, busOffObj := best }
  s1.raise EV_CAN_BUSOFF (uCan p) ([best.getD 0xFFFF] ++ par64 wait ++ [c.tec])

/-- Other traffic is heard: a lone port resumes (R342). -/
def State.canHeard (s : State) (p : Nat) : State :=
  let c := s.can p
  let s1 := s.setCan p { c with ackErrs := 0, alone := false, aloneHold := false }
  if c.alone then s1.raise EV_CAN_ALONE (uCan p) [] 0 true else s1

/-- Mode follows the record and the role: from listen-only to normal through bus integration (R345). -/
def State.canSync (s : State) (p : Nat) : State :=
  let c := s.can p
  let l := s.canListen p
  if c.listen == l then s
  else if l then
    -- send objects never become pending, and their points read UNDELIVERED
    ((s.canObjs p).filter (fun e => coDir e.2 == 2)).foldl (fun s e => s.canCond p e.2 cUndelivered true)
      (s.setCan p { c with listen := true, onBus := none, objs := c.objs.mapV (fun _ x => { x with pending := none }) })
  else s.setCan p { c with listen := false, integrating := true }

/-! Reception (R317, R333, R337). -/

/-- The 80-byte window of a frame (R317). -/
def canWindow (f : CanFrame) (sof : Nat) : Bytes :=
  let n := f.data.length
  let dlc := if n ≤ 8 then n else if n ≤ 12 then 9 else if n ≤ 16 then 10 else if n ≤ 20 then 11 else if n ≤ 24 then 12 else if n ≤ 32 then 13 else if n ≤ 48 then 14 else 15
  toLe (f.id % 536870912 + mkBit f.ext 29 + mkBit f.rtr 30) 4 ++ toLe (mkBit f.fd 0 + mkBit f.brs 1 + mkBit f.esi 2) 1 ++ toLe dlc 1 ++ toLe n 1 ++ toLe 0 1
    ++ toLe sof 8 ++ (f.data ++ List.replicate 64 0).take 64

/-- Fields of a window. -/
def winId (w : Bytes) : Nat := le w 0 4 % 536870912
def winExt (w : Bytes) : Bool := (le w 0 4).testBit 29
def winRtr (w : Bytes) : Bool := (le w 0 4).testBit 30
def winFd (w : Bytes) : Bool := (byteAt w 4).testBit 0
def winData (w : Bytes) : Bytes := slice w 16 (byteAt w 6)

/-- A receive object matches a window (R333); remote frames go to the ring only (R328). -/
def canMatch (b w : Bytes) : Bool :=
  coDir b == 1 && coFlag b 0 == winExt w && coFlag b 1 == winFd w && ((winId w ^^^ coId b) &&& le b 8 4) == 0 && !(winRtr w && !winFd w)

/-- The lowest-numbered object of a list. -/
def lowestObj : List (Nat × Bytes) → Option Nat
  | [] => none
  | (o, _) :: r => match lowestObj r with
    | some m => some (min o m)
    | none => some o

/-- The port's default verdict on a window (R333). -/
def State.canDefault (s : State) (p : Nat) (w : Bytes) : Nat :=
  let b := s.canRec p
  match lowestObj ((s.canObjs p).filter (fun e => canMatch e.2 w)) with
  | some o => o + 256 + mkBit (canFlag b 3) 9
  | none => mkBit (canFlag b 3 || canFlag b 4) 9

/-- A frame is appended to the receive ring, or lost (R337). -/
def State.canRing (s : State) (p : Nat) (w : Bytes) : State :=
  let c := s.can p
  if c.ring.length < 65536 then s.setCan p { c with ring := c.ring ++ [w] }
  else (s.setCan p { c with ringLost := c.ringLost + 1, ringFull := true }).raiseIf (!c.ringFull) EV_CAN_RING_FULL (uCan p)

/-- A frame is delivered to a receive object (R333, R334). -/
def State.canAccept (s : State) (p o : Nat) (w : Bytes) : State :=
  let c := s.can p
  let x := c.obj o
  let x1 := if 8 * byteAt w 6 < sigTop (s.canObjRec p o) then { x with short := true }
    else { x with inbox := winData w :: x.inbox, takenAt := some s.lmt, short := false, frames := (x.frames + 1) % 65536, timedOut := false }
  (s.setCan p (c.setObj o x1)).canObjPoint p o

/-- A verdict takes effect (R317, R321); a remote frame is received only into the ring (R328). -/
def State.canDeliver (s : State) (p v : Nat) (w : Bytes) : State :=
  let o := v % 256
  let s1 := if v.testBit 8 && (winFd w || !winRtr w) then
      if ((s.canObjRec? p o).any (fun b => coDir b == 1)) then s.canAccept p o w else s.spinBad p
    else s
  if v.testBit 9 then s1.canRing p w else s1

/-- The verdict of a program on a window: bits outside the place's fields give the default verdict (R321). -/
def State.canVerdict (s : State) (p : Nat) (w : SpinWin) (v : W32) : State :=
  if 1024 ≤ v.toNat then (s.spinBad p).canDeliver p w.dflt.toNat w.bytes else s.canDeliver p v.toNat w.bytes

/-- Data rates in kb/s in the order of R339, and nominal rates. -/
def dataRates : List Nat := [5000, 4000, 2000, 1000]
def nomRates : List Nat := [1000, 500, 250, 125]

/-- Rate detection ends (R339). -/
def State.canFound (s : State) (p nom data : Nat) : State :=
  let s1 := (s.setCan p { s.can p with detect := none, found := some (nom, data) }).raise EV_CAN_RATE_FOUND (uCan p) [nom, data]
  s1.finishAll (s1.flightsOn 0x0D03 (uCan p)) ST_OK { commit := some s1.lmt, result := nom + 4294967296 * data }

/-- A good frame during detection (R339). -/
def State.canDetectFrame (s : State) (p : Nat) (brs : Bool) : State :=
  let c := s.can p
  match c.detect with
  | none => s
  | some d => match d.nominal with
    | none =>
      if d.good + 1 < 2 then s.setCan p { c with detect := some { d with good := d.good + 1 } }
      else
        let nom := nomRates.getD d.idx 0
        if canFlag (s.canRec p) 0 then s.setCan p { c with detect := some { d with nominal := some nom, good := 0, started := s.lmt } } else s.canFound p nom 0
    | some nom => if brs then s.canFound p nom (dataRates.getD d.dataIdx 0) else s

/-- The frame an object sends (R331). -/
def canSent (b data : Bytes) : CanFrame :=
  { id := coId b, ext := coFlag b 0, fd := coFlag b 1, brs := coFlag b 2, rtr := coFlag b 3, data := if coFlag b 3 then [] else data }

/-- A frame of the port's own comes back in internal loopback, by the default verdict, since programs see no own transmissions (R310, R328; PRESUMED,
log 239). -/
def State.canReceived (s : State) (p sof : Nat) (f : CanFrame) : State :=
  let w := canWindow f sof
  (s.setCan p { s.can p with rxFrames := (s.can p).rxFrames + 1 }).canDeliver p (s.canDefault p w) w

/-! Sending (R335, R336, R338). -/

/-- Time a frame held the bus counts to BUS_LOAD (R346). -/
def CanPort.busTime (c : CanPort) (t sof : Nat) : CanPort := { c with busNs := c.busNs + (t - sof) }

/-- CAN_FRAME_ACKNOWLEDGED: the frame on the bus, whose SOF is stamped, is acknowledged (R335, R336, R338). -/
def canFrameAcknowledged (p sof : Nat) (s0 : State) : State :=
  let s := s0.canSync p
  let c := s.can p
  match c.onBus with
  | none => s
  | some o =>
    if !s.canMay p then s
    else
      let x := c.obj o
      let b := s.canObjRec p o
      let same := !x.again
      let x1 := { x with pending := if same then none else x.pending, since := s.lmt, frames := (x.frames + 1) % 65536, lateOpen := x.lateOpen && !same, failed := false }
      let c1 := ({ c with tec := c.tec - 1, txFrames := c.txFrames + 1, onBus := none, noRetry := false, ackErrs := 0 }.busTime s.lmt sof).setObj o x1
      let s1 := (s.setCan p c1).canHeard p
      let s2 := if same && !x.behind then s1.canCond p b cUndelivered false else s1
      let s3 := s2.finishAll (s2.canSends p o) ST_OK { commit := some s2.lmt, result := sof }
      let s4 := if byteAt (s.canRec p) 1 = 3 then s3.canReceived p sof (canSent b c.busData) else s3
      (((s4.canState p).canNext p).canObjPoint p o).canPoints p

/-- CAN_ARBITRATION_LOST: the port's frame yields and its object stays pending, a ONE_SHOT one too; the winner among the pending objects is next (R335;
DEDUCED, log 238). -/
def canArbitrationLost (p : Nat) (s : State) : State :=
  let c := s.can p
  match c.onBus with
  | none => s
  | some o =>
    let s1 := s.setCan p { c with onBus := none }
    let s2 := if c.noRetry then s1.canDrop p o false else s1
    (s2.canHeard p).canNext p

/-- CAN_TX_ERROR: an attempt failed; TEC rises by 8, but not for an acknowledge error of a passive port (R340 to R342). -/
def canTxError (p : Nat) (ackError : Bool) (s : State) : State :=
  let c := s.can p
  match c.onBus with
  | none => s
  | some o =>
    if !s.canMay p then s
    else
      let b := s.canRec p
      let tec := if ackError && c.st == .passive then c.tec else c.tec + 8
      let acks := if ackError then c.ackErrs + 1 else 0
      let s1 := s.setCan p { c with tec := tec, errors := c.errors + 1, onBus := none, ackErrs := acks }
      let s2 := if ackError then s1 else s1.canHeard p
      let s3 := if c.noRetry then s2.canDrop p o false else if coFlag (s2.canObjRec p o) 4 then s2.canDrop p o true else s2
      let s4 := if 255 < tec then s3.canBusOff p else s3.canState p
      let c4 := s4.can p
      let s5 := if acks = 16 ∧ !c4.alone then (s4.setCan p { c4 with alone := true, aloneHold := canFlag b 2 }).raise EV_CAN_ALONE (uCan p) else s4
      (s5.canNext p).canPoints p

/-- CAN_RECOVERY_COMPLETE: 128 times 11 recessive bits; ERROR_ACTIVE with both counters 0 (R340, R341). -/
def canRecoveryComplete (p : Nat) (s : State) : State :=
  let c := s.can p
  if c.st != .recovering then s
  else
    let wait := match c.busOffObj with
      | some o => s.lmt - (c.obj o).since
      | none => 0
    let s1 := (s.setCan p { c with st := .active, tec := 0, rec' := 0, busOffObj := none }).raise EV_CAN_BUSOFF (uCan p) ([c.busOffObj.getD 0xFFFF] ++ par64 wait ++ [0]) 0 true
    let s2 := s1.finishAll (s1.flightsOn 0x0D02 (uCan p)) ST_OK { commit := some s1.lmt }
    (s2.canNext p).canPoints p

/-- CAN_BUS_INTEGRATION: the port has integrated and takes part in traffic (R345). -/
def canBusIntegration (p : Nat) (s0 : State) : State :=
  let s := s0.canSync p
  if (s.can p).integrating && s.canOn p then ((s.setCan p { s.can p with integrating := false }).canNext p).canPoints p else s

/-! Receiving (R333, R338 to R340). -/

/-- CAN_FRAME_RECEIVE: a frame without error (R333, R338, R310). After one beyond 127 REC falls to a value of 119 to 127 (ISO 11898-1). -/
def canFrameReceive (p sof : Nat) (f : CanFrame) (s0 : State) : State :=
  let s := s0.canSync p
  let c := s.can p
  if !s.canOn p || c.integrating || c.st == .busOff || c.st == .recovering || byteAt (s.canRec p) 1 == 3 || (f.fd && !canFlag (s.canRec p) 0) then s
  else
    let rec1 := if s.canListen p then c.rec' else if 127 < c.rec' then 119 + s.freeVal % 9 else c.rec' - 1
    let s1 := (s.setCan p ({ c with rxFrames := c.rxFrames + 1, rec' := rec1 }.busTime s.lmt sof)).useFree
    let s2 := ((s1.canHeard p).canState p).canDetectFrame p f.brs
    let w := canWindow f sof
    let d := s2.canDefault p w
    let s3 := match s2.spinOffer p { bytes := w, lmt := sof, size := f.data.length, dflt := BitVec.ofNat 32 d } with
      | some s3 => s3
      | none => (s2.spinBacklog p).canDeliver p d w
    (s3.canNext p).canPoints p

/-- CAN_RECEIVE_ERROR: REC rises by 1, or by 8 (R340). `res` tells of a recessive res bit after FDF, at which a port with PEX enters bus integration and
counts no error (R329). -/
def canReceiveError (p : Nat) (heavy res : Bool) (s0 : State) : State :=
  let s := s0.canSync p
  let c := s.can p
  if !s.canOn p || c.integrating || c.st == .busOff || c.st == .recovering || byteAt (s.canRec p) 1 == 3 then s
  else if res && canFlag (s.canRec p) 6 then ((s.setCan p { c with integrating := true }).canHeard p).canPoints p
  else
    let rec1 := if s.canListen p then c.rec' else min 255 (c.rec' + (if heavy then 8 else 1))
    let det := c.detect.map (fun d => match d.nominal with
      | none => { d with good := 0 }
      | some _ => { d with dataIdx := (d.dataIdx + 1) % 4 })
    ((((s.setCan p { c with rec' := rec1, errors := c.errors + 1, detect := det }).canHeard p).canState p).canNext p).canPoints p

/-- CAN_RATE_DETECT_DWELL: the dwell at a rate is over (R339). -/
def canRateDetectDwell (p : Nat) (s : State) : State :=
  let c := s.can p
  let ms := le (s.canRec p) 6 2 * 1000000
  match c.detect with
  | none => s
  | some d => match d.nominal with
    | some nom => if d.started + 10 * ms ≤ s.lmt then (s.canFound p nom 0).canPoints p else s
    | none =>
      if s.lmt < d.started + ms then s
      else if d.idx + 1 < 4 then s.setCan p { c with detect := some { d with idx := d.idx + 1, good := 0, started := s.lmt } }
      else if d.pass + 1 < 4 then s.setCan p { c with detect := some { idx := 0, pass := d.pass + 1, started := s.lmt } }
      else
        let s1 := s.setCan p { c with detect := none }
        (s1.finishAll (s1.flightsOn 0x0D03 (uCan p)) ST_TIMEOUT).canPoints p

/-! Snapshot, commit and output (R334, R335). -/

/-- Objects of a group of a port in a direction. -/
def State.canGroup (s : State) (p g dir : Nat) : List (Nat × Bytes) := (s.canObjs p).filter (fun e => coDir e.2 == dir && byteAt e.2 14 == g)

/-- One receive object at a snapshot. Answers the slots latched. -/
def State.canObjSnap (s : State) (p o : Nat) (b : Bytes) : State × List Nat :=
  let c := s.can p
  let x := c.obj o
  if !s.canOn p then (s.canCond p b cAbsent true, [])
  else match x.inbox with
    | d :: r =>
      let s1 := (sigs b).foldl (fun s g =>
        let a := sigPoint s p b g
        let typ := match s.cfg.points.get? a with
          | some q => q.typ
          | none => 3
        s.wr a (sigStore typ (sigRead b g d))) s
      let s2 := ((s1.canCond p b cStale false).canCond p b cAbsent false)
      ((s2.setCan p (c.setObj o { x with inbox := [], overwritten := !r.isEmpty })).canObjPoint p o, (sigs b).map (sigPoint s p b))
    | [] =>
      let late := match x.takenAt with
        | some u => le b 20 4 ≠ 0 && decide (u + le b 20 4 * 1000 ≤ s.lmt)
        | none => false
      let s1 := if x.takenAt.isNone then s.canCond p b cAbsent true else if late then s.canCond p b cStale true else s
      (((s1.setCan p (c.setObj o { x with overwritten := false, timedOut := x.timedOut || late })).raiseIf (late && !x.timedOut) EV_CAN_RX_TIMEOUT (uCan p) [o]).canObjPoint p o, [])

/-- The snapshot of a CAN group (R334). -/
def State.canSnapshot (s : State) (seg grp : Nat) : State × List Nat :=
  let p := seg - 5
  (s.canGroup p grp 1).foldl (fun a e => let r := a.1.canObjSnap p e.1 e.2; (r.1, a.2 ++ r.2)) (s, [])

/-- The value a commit will give a slot: the force on its point, else what was written (R301). -/
def State.toCommit (s : State) (forces : SMap Force) (a : Nat) : W32 :=
  match s.pointOf a with
  | some p => ((forceOf forces p).map (fun f => slotHalf p a f.value)).getD (s.latest a)
  | none => s.latest a

/-- A commit of a CAN group: its output points are UNDELIVERED until a frame with their values is acknowledged (R335). -/
def State.canCommit (s : State) (seg grp : Nat) : State :=
  let p := seg - 5
  let k := seg * 8 + grp
  let forces := applyForces s k (s.forceOps k) s.img.forces
  (s.canGroup p grp 2).foldl (fun s e =>
    if coTrigger e.2 = 0 ∨ (coTrigger e.2 = 2 ∧ (sigs e.2).any (fun g => s.toCommit forces (sigPoint s p e.2 g) != s.rd (sigPoint s p e.2 g))) then
      let c := s.can p
      (s.setCan p (c.setObj e.1 { c.obj e.1 with behind := true })).canCond p e.2 cUndelivered true
    else s) s

/-- The output step of a CAN group (R335). -/
def State.canOutput (s0 : State) (seg grp : Nat) : State :=
  let p := seg - 5
  let s := s0.canSync p
  if !s.canOn p || s.canListen p then s
  else (s.canGroup p grp 2).foldl (fun s e =>
    let changed := (sigs e.2).any (fun g => s.img.changed.getD (sigPoint s p e.2 g) false)
    if coTrigger e.2 = 0 || (coTrigger e.2 == 2 && changed) then s.canLoad p e.1 (s.canData p e.2) else s) s

/-- BUS_LOAD over the last 100 ms (R346). -/
def State.canLoadPoint (s : State) (p : Nat) : State :=
  let c := s.can p
  if s.lmt < c.loadFrom + 100000000 then s
  else (s.setCan p { c with load := c.busNs * 10000 / (s.lmt - c.loadFrom), busNs := 0, loadFrom := s.lmt }).canPoints p

/-! Admission and disable (R344, R345). -/

/-- A port's record is admitted, or the module has started: bus integration, counters at 0 (R339, R345). -/
def State.canAdmit (s : State) (p : Nat) (keepFound : Bool) : State :=
  let c := s.can p
  let m := byteAt (s.canRec p) 1
  let s1 := s.setCan p { ({} : CanPort) with
    st := if m = 0 ∨ s.isDis (uCan p) then .off else .active, listen := s.canListen p, found := if keepFound then c.found else none
    ring := c.ring, ringLost := c.ringLost, rxFrames := c.rxFrames, txFrames := c.txFrames, errors := c.errors }
  let off := (s1.can p).st == .off
  ((s.canObjs p).foldl (fun s e =>
    let s1 := s.canCond p e.2 cAbsent (off || coDir e.2 == 1)
    if coDir e.2 == 2 && s1.canListen p then s1.canCond p e.2 cUndelivered true else s1) s1).canPoints p

/-- DISABLE of a port, at once (R344). -/
def State.canOff (s : State) (p : Nat) (f : Flight) : State :=
  let c := s.can p
  let s1 := s.setCan p { c with st := .off, onBus := none, detect := none, objs := c.objs.mapV (fun _ x => { x with pending := none, inbox := [] }) }
  let s2 := s1.disableUnit f
  ((s2.canObjs p).foldl (fun s e => s.canCond p e.2 cAbsent true) s2).canPoints p

/-! Commands. -/

def canGate (h : CmdHdr) (s : State) (bad : List (Option Nat)) (refused : Bool) : Gate := unitGate h s 8 0x18 bad refused

/-- Data lengths a frame can carry (R331). -/
def canLenOk (fd : Bool) (n : Nat) : Bool := decide (n ≤ 8) || (fd && [12, 16, 20, 24, 32, 48, 64].contains n)

/-- What CanSend checks before its rule runs (R427, R429). -/
def gateCanSend (h : CmdHdr) (s : State) : Gate :=
  let o := if h.buf then h.p 12 1 else h.p 0 1
  let n := if h.buf then h.p 13 1 else h.p 1 1
  let b := s.canObjRec h.inst o
  let x := (s.can h.inst).obj o
  let isSend := coDir b == 2
  canGate h s ([needP (if h.buf then 12 else 0) isSend, needP (if h.buf then 13 else 1) (canLenOk (coFlag b 1) n)]
      ++ (if h.buf then [needBuf h n, needP 13 (decide (1 ≤ n ∧ n ≤ 64)), zeroTail h 14]
          else [needP 1 (decide (n ≤ 32)), zeroGap h 2 16, zeroTail h (16 + n)]))
      (x.pending.isSome || coTrigger b != 1 || byteAt (s.canRec h.inst) 1 != 1 || s.canListen h.inst)

/-- Effect of CanSend. -/
def goCanSend (f : Flight) (s : State) : State :=
  let h := f.h
  let o := if h.buf then h.p 12 1 else h.p 0 1
  let n := if h.buf then h.p 13 1 else h.p 1 1
  let data := if h.buf then slice h.data 0 n else slice h.params 16 n
  (s.setFlight { f with mark := o }).canLoad h.inst o data

/-- CAN_SEND: a frame of a TRIGGER 1 object; ST_OK when acknowledged (R336). -/
def runCanSend (h : CmdHdr) (s : State) : State := start 0x0D01 (gateCanSend h s) goCanSend h s

/-- What CanRecover checks before its rule runs (R427, R429). -/
def gateCanRecover (h : CmdHdr) (s : State) : Gate :=
  canGate h s [noBuf h, zeroTail h 0] ((s.can h.inst).st != .busOff || (s.can h.inst).alone)

/-- Effect of CanRecover. -/
def goCanRecover (f : Flight) (s : State) : State :=
  let h := f.h
  (s.setCan h.inst { s.can h.inst with st := .recovering }).canPoints h.inst

/-- CAN_RECOVER: from BUS_OFF only; ST_OK at ERROR_ACTIVE (R341, R342). -/
def runCanRecover (h : CmdHdr) (s : State) : State := start 0x0D02 (gateCanRecover h s) goCanRecover h s

/-- What CanRateDetect checks before its rule runs (R427, R429). -/
def gateCanRateDetect (h : CmdHdr) (s : State) : Gate :=
  canGate h s [noBuf h, zeroTail h 0] (!s.canListen h.inst || (s.can h.inst).st == .off || (s.can h.inst).detect.isSome)

/-- Effect of CanRateDetect. -/
def goCanRateDetect (f : Flight) (s : State) : State :=
  let h := f.h
  (s.setCan h.inst { s.can h.inst with detect := some { started := s.lmt } }).canPoints h.inst

/-- CAN_RATE_DETECT, in listen-only mode (R339). -/
def runCanRateDetect (h : CmdHdr) (s : State) : State := start 0x0D03 (gateCanRateDetect h s) goCanRateDetect h s

/-- What CanRingRead checks before its rule runs (R427, R429). -/
def gateCanRingRead (h : CmdHdr) (s : State) : Gate :=
  { canGate h s [needBuf h 0, zeroTail h 12] false with exempt := true }

/-- Effect of CanRingRead. -/
def goCanRingRead (f : Flight) (s : State) : State :=
  let h := f.h
  let c := s.can h.inst
  let n := min c.ring.length (h.bufLen / 80)
  (s.setCan h.inst { c with ring := c.ring.drop n, ringFull := c.ringFull && decide (n = 0) }).okOut f (nums ((c.ring.take n).flatten)) n n

/-- CAN_RING_READ: entries, oldest first, move into the host buffer (R337). -/
def runCanRingRead (h : CmdHdr) (s : State) : State := start 0x0D04 (gateCanRingRead h s) goCanRingRead h s

end Sys2Proof.Machine
end

