-- ==== Sys2Proof/Machine/Fantail.lean ====
section
/-! DEFINITION. Fantail tasks: results and their encoding, relay tests, identification, placement, equalisation, headroom (R162 to R181). -/

namespace Sys2Proof.Machine

/-! Task records (R180). -/

def State.ftRec (s : State) (k : Nat) : Bytes := s.rcd 0x0D k
def ftUnit (b : Bytes) : Nat := byteAt b 2
def ftKind (b : Bytes) : Nat := byteAt b 3
def ftTarget (b : Bytes) : Nat := le b 6 2
/-- UPDATE_MIN, ns. -/
def ftUpdate (b : Bytes) : Nat := le b 8 4 * 1000000

/-- Tasks of a kind on a target, by number. -/
def State.ftOn (s : State) (kind target : Nat) : List Nat :=
  ((s.recsOf 0x0D).filter (fun b => ftKind b == kind && ftTarget b == target)).map (fun b => le b 0 2)

def ftCode : FtState → Nat
  | .idle => 0
  | .running => 1
  | .frozen => 2
  | .testing => 3

/-- The headroom setpoint of a channel changes, with its point (R179, R241). -/
def State.setHeadroom (s : State) (c : Nat) (v : Int) : State :=
  (s.setCl c { s.cl c with headroom := v }).wrLocal 1 (256 + c * 8 + 5) v

/-- A task changes state: Tailrace FANTAIL record (R164, R267). A kind 5 task that starts counts QUIET from there, and one that stops leaves its
channel at 2,048 (R179). -/
def State.ftState (s : State) (k : Nat) (new : FtState) : State :=
  let x := s.ft k
  if x.st == new then s
  else
    let s0 := if ftKind (s.ftRec k) == 5 && new == .idle then s.setHeadroom (ftTarget (s.ftRec k)) 2048 else s
    let s1 := s0.setFt k { x with
      st := new, frozenAt := if new == FtState.frozen then s.lmt else x.frozenAt, frozenTold := false
      shortAt := if x.st == FtState.idle then s.lmt else x.shortAt }
    s1.emit 6 7 0 s.lmt 8 [k, ftKind (s.ftRec k), ftCode new, ftCode x.st] true (fun _ => true)

/-! Numbers (R165, R170). -/

/-- Rounds `n / d` to the nearest integer, ties away from zero. -/
def roundAway (n : Int) (d : Nat) : Int :=
  let q : Int := ((2 * n.natAbs + d) / (2 * d) : Nat)
  if n < 0 then -q else q

/-- A binary32 value as a Q15 value (R165). -/
def q15 (v : W32) : Int := sat16 (roundAway (f32Num v) (2 ^ 149))

/-- MANT of a value at a SHIFT of -16 plus `i` (R165). -/
def encMant (v : W32) (i : Nat) : Int := roundAway (f32Num v * 2 ^ (31 - i)) (2 ^ 149)

/-- A gain pattern from MANT and SHIFT (R137). -/
def gainPat (mant shift : Int) : Nat := wrapN 16 mant + 65536 * wrapN 5 shift

/-- A computed gain encoded (R165). -/
def encGain (v : W32) : Nat :=
  if f32Zero v || encMant v 0 == 0 then 0
  else match (List.range 32).find? (fun i => decide (-32768 ≤ encMant v i ∧ encMant v i ≤ 32767)) with
    | some i => gainPat (encMant v i) ((i : Int) - 16)
    | none => gainPat (if f32Neg v then -32767 else 32767) 15

/-- The value of a gain as binary32, exactly (R137). -/
def gainF (g : Gain) : W32 := f32OfRat (g.mant * 2 ^ (g.shift + 16).toNat) (2 ^ 31)

/-- Square root in binary32, rounded to nearest even. -/
def f32Sqrt (x : W32) : W32 :=
  if f32NaN x || (f32Neg x && !f32Zero x) then f32Nan 4 x x
  else if f32Zero x || f32Inf x then x
  else
    let n := (f32Num x).toNat * 2 ^ 149
    let r := bisect (fun m => decide (n < m * m)) 160 0 (2 ^ 150) - 1
    f32Round (2 * r + (if r * r = n then 0 else 1) : Nat) 2 false

/-- 2 x atanh(z / 2^192) in units of 2^-192, the sum of its odd terms `k` on, of which there are at most `n`. -/
def atanhSum (zz pow k : Int) : Nat → Int
  | 0 => 0
  | n + 1 => 2 * pow / k + atanhSum zz (pow * zz / 2 ^ 192) (k + 2) n

/-- ln 2 and the natural logarithm of a positive rational below 2^128, in units of 2^-192. -/
def ln2Fix : Int := atanhSum ((2 ^ 192 / 3) * (2 ^ 192 / 3) / 2 ^ 192) (2 ^ 192 / 3) 1 130
def lnFix (num den : Nat) : Int :=
  let e : Int := (num.log2 : Int) - den.log2
  let n : Int := if 0 ≤ e then num else num * 2 ^ (-e).toNat
  let d : Int := if 0 ≤ e then den * 2 ^ e.toNat else den
  let z := (n - d) * 2 ^ 192 / (n + d)
  atanhSum (z * z / 2 ^ 192) z 1 200 + e * ln2Fix

/-- Natural logarithm of a positive finite binary32, rounded to nearest (R171; the rounding is DESIGN CHOICE, log 3); of any other value the spec
states none. -/
def f32Ln (x : W32) : W32 :=
  if f32NaN x || f32Inf x || f32Neg x || f32Zero x then Config.logF x else f32OfRat (lnFix (f32Num x).toNat (2 ^ 149)) (2 ^ 192)

def f32Int (x : Int) : W32 := f32OfRat x 1
/-- Limits a value to a range, compared by value. -/
def f32Limit (v lo hi : W32) : W32 := if f32Lt v lo then lo else if f32Lt hi v then hi else v
def f32Pi : W32 := 0x40490FDB#32

/-! Coefficient sets (R166, R167). -/

/-- Bytes replaced at an offset. -/
def setBytes (b : Bytes) (o : Nat) (x : Bytes) : Bytes := b.take o ++ x ++ b.drop (o + x.length)

/-- The foreground set with the adapted gains in place: KP, KI, and of a relay result KD and DA (R166). -/
def coefWith (fg : Bytes) (r : List Int) : Bytes :=
  let b1 := setBytes (setBytes fg 0 (toLe (r.getD 0 0).toNat 4)) 4 (toLe (r.getD 1 0).toNat 4)
  if r.length < 4 then b1 else setBytes (setBytes b1 8 (toLe (r.getD 2 0).toNat 4)) 20 (toLe (r.getD 3 0).toNat 2)

/-- UPDATE_MIN has passed since a task's last write (R166). -/
def State.ftMayWrite (s : State) (k : Nat) : Bool := match (s.ft k).wroteAt with
  | some t => decide (t + ftUpdate (s.ftRec k) ≤ s.lmt)
  | none => true

/-- A relay result is written: the covariance of the loop's identification starts again (R171). -/
def State.ftRelayWritten (s : State) (l : Nat) : State :=
  (s.ftOn 2 l).foldl (fun s k => s.setFt k { s.ft k with cov := ({} : FtTask).cov }) s

/-- A task's result is written to its loop's background bank and sealed, or held while a seal is pending, or until UPDATE_MIN has passed since its last
write (R166, R167, R171; the wait is DEDUCED, log 225). -/
def State.ftWriteLoop (s : State) (k : Nat) (r : List Int) : State :=
  let l := ftTarget (s.ftRec k)
  let p := s.loop l
  let x := s.ft k
  if p.coef.sealed || !s.ftMayWrite k then s.setFt k { x with held := some r }
  else
    let c := p.coef.write (coefWith p.coef.fg r)
    let s1 := (s.setLoop l { p with coef := { c with sealed := true, deferred := false } }).setFt k { x with held := none, wroteAt := some s.lmt }
    if ftKind (s.ftRec k) = 1 then s1.ftRelayWritten l else s1

/-- A result of a kind 4 or kind 5 task goes into its registers, or waits for UPDATE_MIN (R166, R178, R179). -/
def State.ftWriteReg (s : State) (k : Nat) (r : List Int) : State :=
  let b := s.ftRec k
  if !s.ftMayWrite k then s.setFt k { s.ft k with held := some r }
  else
    let s1 := if ftKind b = 4 then s.setEnc (ftTarget b) { s.enc (ftTarget b) with corr := r } else s.setHeadroom (ftTarget b) (r.getD 0 0)
    s1.setFt k { s1.ft k with held := none, wroteAt := some s.lmt }

/-- A held result is written once nothing stands against it (R166, R167). -/
def State.ftFlush (s : State) (k : Nat) : State := match (s.ft k).held with
  | some r => if ftKind (s.ftRec k) ≤ 2 then s.ftWriteLoop k r else s.ftWriteReg k r
  | none => s

/-- A result of a loop task: written, advised, or neither (R163). -/
def State.ftResult (s : State) (k : Nat) (r : List Int) : State :=
  let x := s.ft k
  if x.mode = 2 then s.ftWriteLoop k r
  else (s.setFt k { x with advised := some r }).raise EV_FT_RESULT (uFt (ftUnit (s.ftRec k))) [k]

/-- After a coefficient swap, held results of the loop's tasks are written (R167). -/
def State.ftAfterSwap (s : State) (l : Nat) : State :=
  (s.ftOn 1 l ++ s.ftOn 2 l).foldl State.ftFlush s

/-- Host writes of a loop's coefficients are refused while a task adapts it (R167). -/
def State.ftOwnsLoop (s : State) (l : Nat) : Bool :=
  (s.ftOn 1 l ++ s.ftOn 2 l).any (fun k => (s.ft k).mode == 2 && ((s.ft k).st == .running || (s.ft k).st == .testing))

/-! Relay tests (R168 to R170). -/

def ftRelayD (b : Bytes) : Int := leS b 48 2
def ftRelayH (b : Bytes) : Int := leS b 50 2
def ftBand (b : Bytes) : Int := leS b 52 2
/-- TEST_MAX, ns. -/
def ftTestMax (b : Bytes) : Nat := le b 54 2 * 1000000000
def ftNcyc (b : Bytes) : Nat := byteAt b 45

/-- The FT_TUNE in flight of a task. -/
def State.ftTuneOf (s : State) (k : Nat) : List Flight := s.flightsOf (fun f => f.op == 0x0703 && f.h.p 0 2 == k)

/-- The relay's output (R168). -/
def RelayTest.out (x : RelayTest) (b : Bytes) : Int :=
  let d := if (byteAt b 46 == 1) != x.high then ftRelayD b else -(ftRelayD b)
  x.u0 + d

/-- One sample of a test: relay switch, periods, PV turns (R168). -/
def RelayTest.sample (x : RelayTest) (b : Bytes) (t : Nat) (e y : Int) : RelayTest :=
  let high := if ftRelayH b < e then true else if e < -(ftRelayH b) then false else x.high
  let turned := x.await.isSome && (if x.high then decide (x.lastY < y) else decide (y < x.lastY))
  let x1 : RelayTest := if turned then
      { x with await := none, sumDelay := x.sumDelay + (t - x.await.getD t), nDelay := x.nDelay + 1 }
    else x
  let x2 : RelayTest := { x1 with lo := min x1.lo y, hi := max x1.hi y, lastY := y, high := high }
  if high == x.high then x2
  else
    let meas := decide (3 ≤ x2.switches.length)
    -- the switch that ends the second period opens the measured ones, and its own delay counts
    let x3 : RelayTest := if meas || (high && x2.switches.length == 2) then { x2 with await := some t } else x2
    if high then
      { x3 with switches := x3.switches ++ [t], lo := y, hi := y, sumPp := if meas then x3.sumPp + (x3.hi - x3.lo).toNat else 0,
                sumDelay := if meas then x3.sumDelay else 0, nDelay := if meas then x3.nDelay else 0 }
    else x3

/-- Two periods discarded and N_CYC measured (R168). -/
def RelayTest.done (x : RelayTest) (b : Bytes) : Bool := decide (3 + ftNcyc b ≤ x.switches.length)

/-- Gains of a completed test, bounded (R166 step 1, R170); none where the result is invalid. -/
def RelayTest.gains (x : RelayTest) (b : Bytes) (periodN : Nat) : Option (List Int) :=
  let n := ftNcyc b
  let a := f32OfRat x.sumPp (2 * n)
  let h := f32Int (ftRelayH b)
  if !f32Lt h a then none
  else
    let ku := f32Div (f32Mul (f32Int 4) (f32Int (ftRelayD b))) (f32Mul f32Pi (f32Sqrt (f32Sub (f32Mul a a) (f32Mul h h))))
    let pu := f32OfRat ((x.switches.getLastD 0 - x.switches.getD 2 0 : Nat) : Int) (n * 1000000000)
    let ts := f32OfRat (periodN * 20000 : Nat) 1000000000
    let c (p q : Nat) := f32OfRat p q
    let rule := byteAt b 44
    let kp := f32Mul (if rule = 0 then c 45 100 else if rule = 1 then c 6 10 else if rule = 2 then c 33 100 else c 2 10) ku
    let ti := f32Mul (if rule = 0 then c 83 100 else c 5 10) pu
    let td := f32Mul (if rule = 0 then 0 else if rule = 1 then c 125 1000 else c 33 100) pu
    let ki := f32Div (f32Mul kp ts) ti
    let kd := f32Div (f32Mul kp td) ts
    let tf := f32Div td (f32Int 10)
    let da := f32Div (f32Mul (f32Int 32768) tf) (f32Add tf ts)
    let lim (v : W32) (o : Nat) := f32Limit v (gainF (gainAt b o)) (gainF (gainAt b (o + 4)))
    let z := rule == 0
    some [encGain (lim kp 16), encGain (lim ki 24), if z then 0 else (encGain (lim kd 32) : Nat), if z then 0 else satI 0 32767 (roundAway (f32Num da) (2 ^ 149))]

/-- The loop returns to AUTO at its next sample; the task is RUNNING (R168, R169). -/
def State.ftTestEnd (s : State) (k : Nat) : State :=
  let l := ftTarget (s.ftRec k)
  let p := s.loop l
  let s1 := s.setLoop l { p with relay := none, back := p.relay.isSome }
  (s1.setFt k { s1.ft k with test := none }).ftState k .running

/-- A test is aborted with a reason: 1 PV_BAND, 2 TEST_MAX, 3 PV bad, 4 compliance, 5 target changed, 6 mode change (R169). -/
def State.ftTestAbort (s : State) (k reason : Nat) : State :=
  let fs := s.ftTuneOf k
  ((s.ftTestEnd k).raise EV_FT_TEST_ABORTED (uFt (ftUnit (s.ftRec k))) [k, reason]).finishAll fs ST_FAULT { detail := reason, commit := some s.lmt }

/-- A test has measured its periods: its result (R168, R170). -/
def State.ftTestDone (s : State) (k periodN : Nat) (x : RelayTest) : State :=
  let b := s.ftRec k
  let fs := s.ftTuneOf k
  let dead := if x.nDelay = 0 then none else some (x.sumDelay / x.nDelay)
  let s1 := s.ftTestEnd k
  match x.gains b periodN with
  | none => (s1.raise EV_FT_MODEL_INVALID (uFt (ftUnit b)) [k]).finishAll fs ST_FAULT { commit := some s.lmt }
  | some r =>
    ((s1.setFt k { s1.ft k with deadtime := dead }).ftResult k r).finishAll fs ST_OK { commit := some s.lmt }

/-- A loop goes to DISABLED: its test ends and FT_TUNE completes ST_DISABLED (R169). -/
def State.ftLoopDisabled (s : State) (l : Nat) : State := match (s.loop l).relay with
  | none => s
  | some k => (s.ftTestEnd k).finishAll (s.ftTuneOf k) ST_DISABLED

/-! Identification (R171, R172). -/

/-- DEADTIME_N in force: of the record, of the loop's last relay test, or 1 (R171). -/
def State.ftDead (s : State) (k periodN : Nat) : Nat :=
  let b := s.ftRec k
  if byteAt b 47 ≠ 0 then byteAt b 47
  else match (s.ftOn 1 (ftTarget b)).findSome? (fun j => (s.ft j).deadtime) with
    | some d => let tid := le b 56 2 * periodN * 20000
      (2 * d + tid) / (2 * max 1 tid)
    | none => 1

/-- The last 64 outputs vary enough (R171). -/
def excited (us : List Int) (e : Int) : Bool :=
  let n : Int := us.length
  let sm := us.foldl (· + ·) 0
  let sq := us.foldl (fun a u => a + u * u) 0
  decide (64 ≤ us.length) && decide ((n * e) * (n * e) ≤ n * sq - sm * sm)

def v3 (l : List W32) (i : Nat) : W32 := l.getD i 0
def dot3 (a b : List W32) : W32 := f32Add (f32Add (f32Mul (v3 a 0) (v3 b 0)) (f32Mul (v3 a 1) (v3 b 1))) (f32Mul (v3 a 2) (v3 b 2))
def row3 (p : List W32) (i : Nat) : List W32 := [v3 p (3 * i), v3 p (3 * i + 1), v3 p (3 * i + 2)]

/-- One update of the fit: recursive least squares with forgetting (R171; the order of its binary32 operations is log 30). -/
def FtTask.rls (x : FtTask) (lam : W32) (phi : List W32) (y : W32) : FtTask :=
  let pp := [dot3 (row3 x.cov 0) phi, dot3 (row3 x.cov 1) phi, dot3 (row3 x.cov 2) phi]
  let den := f32Add lam (dot3 phi pp)
  let g := pp.map (fun v => f32Div v den)
  let err := f32Sub y (dot3 phi x.theta)
  let th := (List.range 3).map (fun i => f32Add (v3 x.theta i) (f32Mul (v3 g i) err))
  let cov := (List.range 9).map (fun i => f32Div (f32Sub (v3 x.cov i) (f32Mul (v3 g (i / 3)) (v3 pp (i % 3)))) lam)
  let tr := f32Add (f32Add (v3 cov 0) (v3 cov 4)) (v3 cov 8)
  { x with theta := th, cov := if f32Lt (f32Int 100000000) tr then ({} : FtTask).cov else cov, resid := (f32Mul err err :: x.resid).take 1024 }

/-- Bits of STATE that freeze identification (R172). -/
def ftFreezeBits (st : Nat) : Bool := [4, 5, 6, 7, 8, 9, 11, 14, 15].any (fun i => st.testBit i)

/-- A loop sample as its identification task sees it (R171, R172). -/
def State.ftIdent (s : State) (k periodN : Nat) (auto : Bool) (st : Nat) (y u : Int) : State :=
  let b := s.ftRec k
  let x := s.ft k
  if x.st != .running && x.st != .frozen then s
  else
    let frozen := !auto || ftFreezeBits st || (s.ftOn 1 (ftTarget b)).any (fun j => (s.ft j).st == .testing)
    let nd := s.ftDead k periodN
    if frozen then s.ftState k .frozen
    else
      let s1 := if x.st == .frozen then (s.setFt k { x with fill := 1 + nd }).ftState k .running else s
      let x1 := s1.ft k
      if x1.decim + 1 < le b 56 2 then s1.setFt k { x1 with decim := x1.decim + 1 }
      else
        let hist := ((y, u) :: x1.hist).take (66 + nd)
        let x2 := { x1 with decim := 0, hist := hist }
        if 0 < x2.fill then s1.setFt k { x2 with fill := x2.fill - 1 }
        else if hist.length < nd + 2 ∨ !excited ((hist.take 64).map Prod.snd) (leS b 64 2) then s1.setFt k x2
        else
          let phi := [f32Int (hist.getD 1 (0, 0)).1, f32Int (hist.getD (1 + nd) (0, 0)).2, f32Int 1]
          let lam := f32OfRat (1048576 - le b 58 2 : Nat) 1048576
          s1.setFt k (x2.rls lam phi (f32Int y))

/-- The model is valid (R171). -/
def FtTask.valid (x : FtTask) (b : Bytes) : Bool :=
  let al := v3 x.theta 0
  let be := v3 x.theta 1
  let z := f32Int 0
  let mse := f32Div (x.resid.foldl f32Add z) (f32Int (max 1 x.resid.length : Nat))
  let fm := f32Int (leS b 62 2)
  f32Lt z al && f32Lt al (f32OfRat 9999 10000) && (if byteAt b 46 = 1 then f32Lt be z else f32Lt z be) && !x.resid.isEmpty && !f32Lt (f32Mul fm fm) mse
    && !f32NaN mse

/-- KP and KI of a valid model (R171). -/
def FtTask.modelGains (x : FtTask) (b : Bytes) (periodN nd : Nat) : W32 × W32 :=
  let ts := f32OfRat (periodN * 20000 : Nat) 1000000000
  let tid := f32Mul (f32Int (le b 56 2)) ts
  let k := f32Div (v3 x.theta 1) (f32Sub (f32Int 1) (v3 x.theta 0))
  let t := f32Div (f32NegOf tid) (f32Ln (v3 x.theta 0))
  let l := f32Mul (f32Int nd) tid
  let tc := f32OfRat (le b 60 2) 100
  let kp := f32Div t (f32Mul k (f32Add tc l))
  let t4 := f32Mul (f32Int 4) (f32Add tc l)
  let ti := if f32Lt t t4 then t else t4
  (kp, f32Div (f32Mul kp ts) ti)

def f32Sign (x : W32) : Int := if f32Zero x then 0 else if f32Neg x then -1 else 1

/-- Steps 1 to 3 of R166 for one gain; none where its sign is refused. -/
def adaptGain (b : Bytes) (o : Nat) (old v : W32) : Option W32 :=
  let v1 := f32Limit v (gainF (gainAt b o)) (gainF (gainAt b (o + 4)))
  if f32Sign v1 ≠ f32Sign old then none
  else
    let r := f32OfRat (le b 42 2) 256
    let a := f32Div old r
    let c := f32Mul old r
    some (if f32Neg old then f32Limit v1 c a else f32Limit v1 a c)

/-- A gain differs from its foreground value, and by at least HYST per mille (R166 step 4). -/
def gainMoved (b : Bytes) (old v : W32) : Bool :=
  f32Num v != f32Num old && decide (le b 40 2 * (f32Num old).natAbs ≤ 1000 * (f32Num v - f32Num old).natAbs)

/-- FANTAIL_RESULT_DUE: an identification task's result, at most once per UPDATE_MIN; a result that UPDATE_MIN held back is written (R166, R171). -/
def fantailResultDue (k : Nat) (s0 : State) : State :=
  let b := s0.ftRec k
  let s := if s0.sys.restarting || (s0.rec? 0x0D k).isNone then s0 else s0.ftFlush k
  let x := s.ft k
  let due := match x.lastAt with
    | some t => decide (t + ftUpdate b ≤ s.lmt)
    | none => true
  if s.sys.restarting || (s.rec? 0x0D k).isNone || ftKind b != 2 || x.st != .running || !due then s
  else
    let l := ftTarget b
    let pn := le (s.rcd 0x0B l) 4 2
    if !x.valid b then
      (s.setFt k { x with lastAt := some s.lmt, invalid := true }).raiseIf (!x.invalid) EV_FT_MODEL_INVALID (uFt (ftUnit b)) [k]
    else
      let g := x.modelGains b pn (s.ftDead k pn)
      let fg := (s.loop l).coef.fg
      let kp0 := gainF (coefKp fg)
      let ki0 := gainF (coefKi fg)
      let s1 := s.setFt k { x with invalid := false, lastAt := some s.lmt }
      let a := adaptGain b 16 kp0 g.1
      let c := adaptGain b 24 ki0 g.2
      let s2 := s1.raiseIf a.isNone EV_FT_REJECTED (uFt (ftUnit b)) [k, 0]
      let s3 := s2.raiseIf c.isNone EV_FT_REJECTED (uFt (ftUnit b)) [k, 1]
      let kp := a.getD kp0
      let ki := c.getD ki0
      if !gainMoved b kp0 kp && !gainMoved b ki0 ki then s3
      else s3.ftResult k [if a.isSome then (encGain kp : Int) else le fg 0 4, if c.isSome then (encGain ki : Int) else le fg 4 4]

/-- EV_FT_FROZEN: a task FROZEN for 60 s without a break (R164). -/
def fantailFrozen (k : Nat) (s : State) : State :=
  let x := s.ft k
  if x.st == .frozen && !x.frozenTold && decide (x.frozenAt + 60000000000 ≤ s.lmt) then
    (s.setFt k { x with frozenTold := true }).raise EV_FT_FROZEN (uFt (ftUnit (s.ftRec k))) [k]
  else s

/-! Encoder equalisation (R178). -/

/-- The signal frequency over the kept samples, in mHz. -/
def Encoder.freq (x : Encoder) : Nat := match x.samples.head?, x.samples.getLast? with
  | some a, some b => if a.1 < b.1 then (diff64 b.2 a.2).natAbs * 1000000000000 / ((b.1 - a.1) * 4096) else 0
  | _, _ => 0

/-- FANTAIL_EQ_UPDATE: offsets, gain and phase fitted to 4,096 raw samples, bounded, stepped, and written together (R178). -/
def fantailEqUpdate (k : Nat) (s0 : State) : State :=
  let b := s0.ftRec k
  let s := if s0.sys.restarting || (s0.rec? 0x0D k).isNone || ftKind b != 4 then s0 else s0.ftFlush k
  let x := s.ft k
  let e := ftTarget b
  let c := s.enc e
  if s.sys.restarting || (s.rec? 0x0D k).isNone || ftKind b != 4 || (x.st != .running && x.st != .frozen) then s
  else
    let badRace := match s.encRace? e with
      | some n => (s.race n).st != .running
      | none => true
    if badRace || c.fault != 0 || decide (c.freq < 20000) || decide (100000000 < c.freq) || decide (c.ampl < 600) || decide (1200 < c.ampl) then s.ftState k .frozen
    else
      let s1 := s.ftState k .running
      let lim (i : Nat) : Int := if i < 2 then leS b 16 2 else if i = 2 then leS b 18 2 else leS b 20 2
      let stp : Int := leS b 22 2
      let z := Config.ellipse c.raw
      let fit : List Int := [z.1, z.2.1, z.2.2.1, z.2.2.2]
      let new := (List.range 4).map (fun i =>
        let o := c.corr.getD i 0
        satI (o - stp) (o + stp) (satI (-(lim i)) (lim i) (fit.getD i 0)))
      if c.raw.length = 4096 ∧ (List.range 4).any (fun i => decide (le b 24 2 ≤ (new.getD i 0 - c.corr.getD i 0).natAbs ∧ new.getD i 0 ≠ c.corr.getD i 0)) then
        if x.mode = 2 then (if s1.ftMayWrite k then s1.ftWriteReg k new else s1)
        else (s1.setFt k { s1.ft k with advised := some new }).raise EV_FT_RESULT (uFt (ftUnit b)) [k]
      else s1

/-! Supply headroom (R179). -/

/-- COMPLIANCE_SHORT and OPEN of a channel as it reports them (R231, R233, R240). -/
def State.clFlags (s : State) (n : Nat) : Bool × Bool :=
  let c := s.cl n
  if s.isDis (uCl n) then (false, false)
  else
    let op := c.flag == .open' && !c.thermal && !s.ana.fieldLow
    (!op && (c.flag == .short || (c.mode == 3 && (c.thermal || s.ana.fieldLow))), op)

/-- FANTAIL_HEADROOM_UPDATE: raised after a shortfall of 100 us, lowered after QUIET (R179). -/
def fantailHeadroomUpdate (k : Nat) (s0 : State) : State :=
  let b := s0.ftRec k
  let s := if s0.sys.restarting || (s0.rec? 0x0D k).isNone || ftKind b != 5 then s0 else s0.ftFlush k
  let x := s.ft k
  let n := ftTarget b
  let c := s.cl n
  if s.sys.restarting || (s.rec? 0x0D k).isNone || ftKind b != 5 || (x.st != .running && x.st != .frozen) then s
  else if (s.clFlags n).1 || (s.clFlags n).2 then (s.setFt k { x with shortAt := s.lmt }).ftState k .frozen
  else
    let s1 := s.ftState k .running
    let lo := leS b 16 2
    let hi := leS b 18 2
    let x1 := { s1.ft k with shortAt := s.lmt }
    let put (s : State) (v : Int) : State :=
      if x.mode = 2 then (if s.ftMayWrite k then s.ftWriteReg k [v] else s)
      else (s.setFt k { s.ft k with advised := some [v] }).raise EV_FT_RESULT (uFt (ftUnit b)) [k]
    if 2 ≤ c.nFall then put (s1.setFt k x1) (satI lo hi (c.headroom + leS b 20 2))
    else if x.shortAt + le b 24 4 * 1000000 ≤ s.lmt then put (s1.setFt k x1) (satI lo hi (c.headroom - leS b 22 2))
    else s1

/-! Placement (R175 to R177). -/

/-- Nanometres per Q15 unit of a head node, as a binary32 quotient (R176). -/
def State.trimUnit (s : State) (hb : Bytes) : W32 := f32OfRat (raceScale (s.raceRec (byteAt hb 4)) * le hb 6 2 : Nat) (4294967296 * 32768)

/-- The value a nozzle's next write starts from: the background, with held results on it (R176). -/
def BankSet.pending (x : BankSet) (key : Nat) : Nozzle := match (x.heldFt.reverse.find? (fun e => e.1 == key)) with
  | some e => e.2
  | none => x.bg.getD key {}

/-- Ones in an 8-bit history. -/
def ones8 (h : Nat) : Nat := ((List.range 8).filter (fun i => h.testBit i)).length

/-- New FIRE_TRIM (R176). -/
def newFire (b : Bytes) (u : W32) (down : Int) (old : Int) : Int :=
  let gain := BitVec.ofNat 32 (le b 16 4)
  let dq := f32Div (f32Mul (f32NegOf gain) (f32Int down)) u
  let stp := f32Int (le b 20 2)
  if f32Lt (dq &&& 0x7FFFFFFF#32) (f32Int (le b 22 2)) then old
  else satI (-(le b 24 2 : Int)) (le b 24 2) (old + q15 (f32Limit dq (f32NegOf stp) stp))

/-- New DRIVE_TRIM (R176). -/
def newDrive (b : Bytes) (vol : Int) (old : Int) : Int :=
  let dv := f32Mul (f32NegOf (BitVec.ofNat 32 (le b 36 4))) (f32Int vol)
  let stp := f32Int (le b 40 2)
  if f32Lt (dv &&& 0x7FFFFFFF#32) (f32Int 1) then old
  else satI (-(le b 42 2 : Int)) (le b 42 2) (old + q15 (f32Limit dv (f32NegOf stp) stp))

/-- A nozzle in the background with every write accepted before: held results, and POINT_WRITEs that wait for their commit (R176). -/
def State.nozzleLatest (s : State) (set key : Nat) : Nozzle :=
  (s.nozzleWrites set key).foldl (fun n f => nozzleSet n (((s.nozzleOf f.h.tgt).map (fun z => z.2.2.1)).getD 0) (f.h.p 0 4)) ((s.pset set).pending key)

/-- A corrected nozzle, whose fields differ from `old`, goes to the background, or is held on a sealed set (R92, R176). -/
def State.ftPlace (s : State) (set key : Nat) (old n : Nozzle) : State :=
  let x := s.pset set
  if x.sealed then s.setPset set { x with heldFt := x.heldFt ++ [(key, n)] }
  else
    let z := x.bg.getD key {}
    let fire := n.fireTrim != old.fireTrim
    let drv := n.driveTrim != old.driveTrim
    let z1 : Nozzle := {
      fireTrim := if fire then n.fireTrim else z.fireTrim, driveTrim := if drv then n.driveTrim else z.driveTrim
      health := BitVec.ofNat 32 (condSet z.health.toNat 1 (n.health.getLsbD 1)) }
    (s.nozzleReplace set key ((if fire then [0] else []) ++ (if drv then [1] else []))).setPset set (x.putBg key z1)

/-- Placement results held on a Fantail unit's sets (R176). -/
def State.ftHeldCount (s : State) (unit : Nat) : Nat :=
  ((s.recsOf 0x0D).filter (fun b => ftKind b == 3 && ftUnit b == unit)).foldl (fun n b => n + (s.pset (ftTarget b)).heldFt.length) 0

/-- One measurement record at an offset of the host buffer (R175 to R177). -/
def State.ftRecord (s : State) (k : Nat) (d : Bytes) (o : Nat) : State :=
  let b := s.ftRec k
  let x := s.ft k
  let set := ftTarget b
  let seg := byteAt d o
  let node := le d (o + 2) 2
  let noz := le d (o + 4) 2
  let fl := byteAt d (o + 6)
  let key := nodeKey seg node * 4096 + noz
  let skip := s.setFt k { x with skipped := x.skipped + 1 }
  match s.headRec? seg node with
  | none => skip
  | some hb =>
    let z := s.pset set
    if headSet hb ≠ set || noz ≥ 4096 || ((z.fg.getD key {}).health.getLsbD 0) then skip
    else if z.sealed && decide (1048576 ≤ s.ftHeldCount (ftUnit b)) then
      (s.setFt k { x with skipped := x.skipped + 1, fullTold := true }).raiseIf (!x.fullTold) EV_FT_HELD_FULL (uFt (ftUnit b)) [k]
    else
      let old := s.nozzleLatest set key
      let miss := fl.testBit 0
      let fire := if fl.testBit 1 && !miss then newFire b (s.trimUnit hb) (leS d (o + 8) 4) (sgn 16 old.fireTrim.toNat) else sgn 16 old.fireTrim.toNat
      let drv := if fl.testBit 3 && !miss && (byteAt b 27).testBit 0 then newDrive b (leS d (o + 7) 1) (sgn 16 old.driveTrim.toNat) else sgn 16 old.driveTrim.toNat
      let h0 := x.outlier.getD key 0
      let h := (h0 * 2 + (if miss || (fl.testBit 2 && decide (le b 28 4 < (leS d (o + 12) 4).natAbs)) then 1 else 0)) % 256
      let cand := decide (byteAt b 26 ≤ ones8 h)
      let was := old.health.getLsbD 1
      let now := if cand then true else if h = 0 then false else was
      let n : Nozzle := {
        fireTrim := BitVec.ofInt 16 fire, driveTrim := BitVec.ofInt 16 drv
        health := BitVec.ofNat 32 (old.health.toNat - mkBit was 1 + mkBit now 1) }
      let s1 := s.setFt k { x with outlier := x.outlier.put 0 key h }
      if x.mode = 2 then
        let s2 := if n = old then s1 else s1.ftPlace set key old n
        s2.raiseIf (now && !was) EV_FT_CANDIDATE (uFt (ftUnit b)) [] (ptAddr s seg node (8192 + noz))
      else if n = old then s1
      else (s1.setFt k { s1.ft k with advised := some [key, fire, drv, n.health.toNat] }).raise EV_FT_RESULT (uFt (ftUnit b)) [k]

/-- FANTAIL_PLACE_RECORD: the next record of the oldest FT_PLACE_ERR of a task (R175, R176). -/
def fantailPlaceRecord (k : Nat) (s : State) : State :=
  match (s.flightsOf (fun f => f.op == 0x0705 && f.h.p 12 2 == k)).head? with
  | none => s
  | some f =>
    if s.sys.restarting || (s.ft k).st == .idle then s else
    let s1 := s.ftRecord k f.h.data (16 * f.mark)
    if f.h.p 14 4 ≤ f.mark + 1 then s1.finish f ST_OK { commit := some s1.lmt, result := f.mark + 1 }
    else s1.setFlight { f with mark := f.mark + 1 }

/-! Commands. -/

/-- A TARGET of a Fantail unit with a task of it among the parameters at offset `o`. -/
def ftGate (h : CmdHdr) (s : State) (o : Nat) (bad : List (Option Nat)) (refused exempt : Bool) : Gate :=
  let k := h.p o 2
  { invalid := firstBad ([needKind h 12, needP o ((s.rec? 0x0D k).isSome && ftUnit (s.ftRec k) == h.inst)] ++ bad), unit := h.tgt, disabled := s.isDis h.tgt,
    refused := refused, exempt := exempt }

/-- What FtStart checks before its rule runs (R427, R429). -/
def gateFtStart (h : CmdHdr) (s : State) : Gate :=
  let k := h.p 0 2
  ftGate h s 0 [noBuf h, needP 2 (decide (1 ≤ h.p 2 1 ∧ h.p 2 1 ≤ 2)), zeroTail h 3] ((s.ft k).st != .idle) false

/-- Effect of FtStart. -/
def goFtStart (f : Flight) (s : State) : State :=
  let h := f.h
  let k := h.p 0 2
  ((s.setFt k { s.ft k with mode := h.p 2 1 }).ftState k .running).ok f

/-- FT_START: ST_OK at fetch, unless the task is not IDLE (R164). -/
def runFtStart (h : CmdHdr) (s : State) : State := start 0x0701 (gateFtStart h s) goFtStart h s

/-- A task stops: a test in progress ends as by an ABORT of its FT_TUNE (R164, R169). -/
def State.ftStop (s : State) (k status : Nat) : State :=
  let fs := s.ftTuneOf k
  let s1 := if (s.ft k).st == .testing then s.ftTestEnd k else s
  (s1.ftState k .idle).finishAll fs status

/-- What FtStop checks before its rule runs (R427, R429). -/
def gateFtStop (h : CmdHdr) (s : State) : Gate :=
  ftGate h s 0 [noBuf h, zeroTail h 2] false false

/-- Effect of FtStop. -/
def goFtStop (f : Flight) (s : State) : State :=
  let h := f.h
  (s.ftStop (h.p 0 2) ST_ABORTED).ok f

/-- FT_STOP: IDLE at fetch. -/
def runFtStop (h : CmdHdr) (s : State) : State := start 0x0702 (gateFtStop h s) goFtStop h s

/-- What FtTune checks before its rule runs (R427, R429). -/
def gateFtTune (h : CmdHdr) (s : State) : Gate :=
  let k := h.p 0 2
  let b := s.ftRec k
  let l := s.loop (ftTarget b)
  ftGate h s 0 [noBuf h, zeroTail h 2]
    (ftKind b != 1 || !((s.ft k).st == .idle || (s.ft k).st == .running) || l.mode != .auto || l.pvBad || byteAt (s.rcd 0x0B (ftTarget b)) 11 == 1
      || !(s.ftTuneOf k).isEmpty) false

/-- FtTune waits among the commands in flight; its rule acts at the instant it names. -/
def goFtTune (_ : Flight) (s : State) : State :=
  s

/-- FT_TUNE: the test starts at the loop's next sample (R168). -/
def runFtTune (h : CmdHdr) (s : State) : State := start 0x0703 (gateFtTune h s) goFtTune h s

/-- What FtAccept checks before its rule runs (R427, R429). -/
def gateFtAccept (h : CmdHdr) (s : State) : Gate :=
  let k := h.p 0 2
  ftGate h s 0 [noBuf h, zeroTail h 2] ((s.ft k).advised.isNone) false

/-- Effect of FtAccept. -/
def goFtAccept (f : Flight) (s : State) : State :=
  let h := f.h
  let k := h.p 0 2
  let b := s.ftRec k
  match (s.ft k).advised with
      | none => s
      | some r =>
        let s1 := s.setFt k { s.ft k with advised := none }
        if ftKind b ≤ 2 then s1.ftWriteLoop k r
        else if ftKind b = 3 then
          -- HEALTH[0] stays as the host has it (R177)
          let key := (r.getD 0 0).toNat
          let old := s1.nozzleLatest (ftTarget b) key
          s1.ftPlace (ftTarget b) key old {
            fireTrim := BitVec.ofInt 16 (r.getD 1 0), driveTrim := BitVec.ofInt 16 (r.getD 2 0)
            health := BitVec.ofNat 32 (condSet old.health.toNat 1 ((r.getD 3 0).toNat.testBit 1)) }
        else if s1.ftMayWrite k then (s1.ftWriteReg k r).ok f
        else s1.ftWriteReg k r

/-- FT_ACCEPT writes the latest advised result (R163). -/
def runFtAccept (h : CmdHdr) (s : State) : State := start 0x0704 (gateFtAccept h s) goFtAccept h s

/-- What FtPlaceErr checks before its rule runs (R427, R429). -/
def gateFtPlaceErr (h : CmdHdr) (s : State) : Gate :=
  ftGate h s 12 [needBuf h (16 * h.p 14 4), zeroTail h 18] (ftKind (s.ftRec (h.p 12 2)) != 3 || (s.ft (h.p 12 2)).st == .idle) false

/-- Effect of FtPlaceErr. -/
def goFtPlaceErr (f : Flight) (s : State) : State :=
  let h := f.h
  if h.p 14 4 = 0 then s.ok f else s

/-- FT_PLACE_ERR hands over measurement records (R175). -/
def runFtPlaceErr (h : CmdHdr) (s : State) : State := start 0x0705 (gateFtPlaceErr h s) goFtPlaceErr h s

/-- What FtStatus checks before its rule runs (R427, R429). -/
def gateFtStatus (h : CmdHdr) (s : State) : Gate :=
  ftGate h s 12 [needBuf h 128, zeroTail h 14] false true

/-- Effect of FtStatus. -/
def goFtStatus (f : Flight) (s : State) : State :=
  let h := f.h
  let k := h.p 12 2
  let x := s.ft k
  s.okOut f ([ftCode x.st, x.mode, x.skipped] ++ x.theta.map (·.toNat) ++ (x.advised.getD []).map (wrapN 32) )

/-- FT_STATUS (R163, R429). -/
def runFtStatus (h : CmdHdr) (s : State) : State := start 0x0706 (gateFtStatus h s) goFtStatus h s

end Sys2Proof.Machine
end

