-- ==== Sys2Proof/Machine/LoopCalc.lean ====
section
/-! DEFINITION. One sample of a loop as a function of its inputs (R138 to R152, R155). -/

namespace Sys2Proof.Machine

/-! Fields of the loop record (R156). -/
def lpFlag (b : Bytes) (i : Nat) : Bool := (byteAt b 3).testBit i
def lpPeriod (b : Bytes) : Nat := le b 4 2
def lpPhase (b : Bytes) : Nat := le b 6 2
def lpLane (b : Bytes) : Nat := byteAt b 8
def lpNbiq (b : Bytes) : Nat := byteAt b 9
def lpMember (b : Bytes) : Bool := byteAt b 11 == 1
def lpOgroup (b : Bytes) : Nat := le b 12 2
def lpQ (b : Bytes) (o : Nat) : Int := leS b o 2
def lpOutMin (b : Bytes) : Int := lpQ b 66
def lpOutMax (b : Bytes) : Int := lpQ b 68
def lpDisOut (b : Bytes) : Int := lpQ b 74
/-- KIND and INDEX of a selector (R139). -/
def selKind (b : Bytes) (o : Nat) : Nat := byteAt b o
def selIndex (b : Bytes) (o : Nat) : Nat := le b (o + 4) 4

/-- Integrator limits (R138). -/
def clampI (b : Bytes) (x : Int) : Int := satI (lpQ b 70 * 32768) (lpQ b 72 * 32768) x

/-- A mode from its number (R149). -/
def modeOf (n : Nat) : LoopMode := if n = 1 then .auto else if n = 2 then .manual else if n = 3 then .track else .disabled
def modeNum : LoopMode → Nat
  | .disabled => 0
  | .auto => 1
  | .manual => 2
  | .track => 3

/-- What a loop reads at a sample. -/
structure LoopIn where
  mode : LoopMode
  /-- DISABLED to another mode at this sample (R149). -/
  leaving : Bool := false
  /-- First sample after a restart in a retained mode (R159), or the first with a usable PV after one, or after DISABLED, without (log 222). -/
  fresh : Bool := false
  /-- TRACK without a track source: the last output is held (R148). -/
  keep : Bool := false
  pv : Int
  pvBad : Bool
  src : Int
  ffv : Int
  trk : Int
  man : Int
  /-- Setpoint steps due, in order (R141). -/
  steps : List SpStep := []
  /-- The channel's flags hold the integrator (R152). -/
  held : Bool := false
  /-- The former coefficient set, where this sample swapped it with COEF_BUMPLESS (R155). -/
  old : Option Bytes := none
  deriving DecidableEq, Repr

/-- What a sample yields. -/
structure LoopOut where
  lp : Loop
  e : Int
  tgt : Int
  spLimited : Bool
  r : Int
  hi : Bool
  lo : Bool
  heldI : Bool
  deriving DecidableEq, Repr

/-- Setpoint base from the source (R138, R140). -/
def spBase (b : Bytes) (src : Int) : Int := store (sat40 ((gainAt b 56).term src + lpQ b 60 * 32768))

/-- Target from base and TRIM (R138, R140). -/
def spTarget (b : Bytes) (base trim : Int) : Int := clampQ (lpQ b 62) (lpQ b 64) (sat16 (base + trim))

/-- TRIM after steps, in order (R141). -/
def applySteps (base trim : Int) (l : List SpStep) : Int :=
  l.foldl (fun tr x => if x.trim then sat17 x.value else if x.relative then sat17 (tr + x.value) else sat17 (x.value - base)) trim

/-- The setpoint path of one sample: TRIM, target, limited setpoint (R140 to R142). -/
def spPath (b : Bytes) (p : Loop) (x : LoopIn) (spl0 : Int) : Int × Int × Int × Int :=
  let base := spBase b x.src
  let trim := applySteps base p.trim x.steps
  let t0 := spTarget b base p.trim
  let tgt := spTarget b base trim
  let spl1 := if lpFlag b 3 && !x.steps.isEmpty then satI (lpQ b 62 * 65536) (lpQ b 64 * 65536) (spl0 + (tgt - t0) * 65536) else spl0
  (base, trim, tgt, spLimit spl1 tgt (le b 84 4) (le b 88 4))

/-- One sample in AUTO, MANUAL or TRACK (R138, R141 to R152). What a loop leaving DISABLED sets, it sets before the sample is computed, with the
setpoint not yet limited (R149; DEDUCED, log 70). -/
def loopRun (b : Bytes) (p : Loop) (x : LoopIn) : LoopOut :=
  let c := p.coef.fg
  let init := x.leaving || x.fresh
  let n := lpNbiq b
  let bq0 : List BqState := if init then List.replicate n { x1 := x.pv, x2 := x.pv, w1 := x.pv, w2 := x.pv } else p.bq
  let fy := if x.pvBad && !init then (p.y, p.bq) else if x.pvBad then ((bqChain c n 0 bq0 x.pv).1, bq0) else bqChain c n 0 bq0 x.pv
  let y := fy.1
  let spl0 := if x.leaving then y * 65536 else p.spl
  let sp := spPath b p x spl0
  let tgt := sp.2.2.1
  let spl := sp.2.2.2
  let r := asr (spl + 32768) 16
  let e := sat17 (r - y)
  let xd := sat17 (wt (coefC c) r - y)
  let resume := p.pvBad && !x.pvBad
  let dq0 := if init then 0 else p.dq
  let r0 := asr (spl0 + 32768) 16
  let xd0 := sat17 (wt (coefC c) r0 - y)
  let xdPrev := if resume then xd else if init then xd0 else p.xdPrev
  let pd := loopPd c r y dq0 xdPrev
  let ff (r : Int) : Int := sat40 ((coefKff c).term (if selKind b 32 = 6 then r else if selKind b 32 = 0 then 0 else x.ffv) + lpQ b 76 * 32768)
  let f := ff r
  let pd0 := loopPd c r0 y 0 xd0
  let track (u i : Int) : Int := if x.pvBad || x.held then i else clampI b (sat40 (u * 32768 - pd.1 - pd.2 - f))
  let i0 := if x.leaving then clampI b (sat40 (lpDisOut b * 32768 - pd0.1 - pd0.2 - ff r0)) else p.i
  let i1 := match x.old with
    | some o => let q := loopPd o r y dq0 xdPrev
      clampI b (sat40 (i0 + (q.1 + q.2) - (pd.1 + pd.2)))
    | none => i0
  let ki := (coefKi c).term e
  let iNew := clampI b (sat40 (i1 + ki))
  let uAcc := sat40 (pd.1 + iNew + pd.2 + f)
  let raw := asr (uAcc + 16384) 15
  let hold := x.pvBad || x.held
  let p1 : Loop := { p with
    bq := fy.2, y := y, spl := spl, trim := sp.2.1, base := sp.1, tgt := tgt, src := x.src, ffv := x.ffv, trk := x.trk
    uAcc := uAcc, pdf := [pd.1, pd.2, f], pvBad := x.pvBad
    dq := if x.pvBad then dq0 else store pd.2
    xdPrev := if x.pvBad then xdPrev else xd }
  let out : LoopOut := { lp := p1, e := e, tgt := tgt, spLimited := decide (tgt ≠ sat16 (sp.1 + sp.2.1)), r := r, hi := false, lo := false, heldI := hold }
  match x.mode with
  | .auto =>
    if x.pvBad then
      let u := if lpFlag b 5 then lpDisOut b else p.u
      { out with lp := { p1 with u := u, i := i1 } }
    else
      let u := clampQ (lpOutMin b) (lpOutMax b) (store uAcc)
      let hi := decide (32767 < raw) || decide (u < store uAcc)
      let lo := decide (raw < -32768) || decide (store uAcc < u)
      let i := if hold then i1
        else if !(hi || lo) then iNew
        else if lpFlag b 4 then clampI b (sat40 (iNew + (coefKt c).term (sat17 (u - store uAcc))))
        else if (hi && decide (0 < ki)) || (lo && decide (ki < 0)) then i1
        else iNew
      { out with lp := { p1 with u := u, i := i }, hi := hi, lo := lo }
  | .manual =>
    let u := clampQ (lpOutMin b) (lpOutMax b) x.man
    { out with lp := { p1 with u := u, i := track u i1 }, hi := decide (u < x.man), lo := decide (x.man < u) }
  | _ =>
    let u := if x.keep then p.u else clampQ (lpOutMin b) (lpOutMax b) x.trk
    { out with lp := { p1 with u := u, i := track u i1 }, hi := !x.keep && decide (u < x.trk), lo := !x.keep && decide (x.trk < u) }

/-- One sample in DISABLED: states frozen, steps still change TRIM (R148). -/
def loopOff (b : Bytes) (p : Loop) (x : LoopIn) : LoopOut :=
  let base := spBase b x.src
  { lp := { p with u := lpDisOut b, trim := applySteps base p.trim x.steps, src := x.src }, e := 0, tgt := p.tgt, spLimited := false, r := asr (p.spl + 32768) 16,
    hi := false, lo := false, heldI := false }

/-- STATE of a sample (R158). -/
def loopStateWord (p : Loop) (o : LoopOut) (mode : LoopMode) (short open' : Bool) : Nat :=
  modeNum mode + mkBit o.hi 4 + mkBit o.lo 5 + mkBit (o.heldI && mode != .disabled) 6 + mkBit (p.pvBad && mode != .disabled) 7 + mkBit short 8 + mkBit open' 9 + mkBit o.spLimited 12
    + mkBit (p.coef.sel == 1) 13 + mkBit p.coef.sealed 14

end Sys2Proof.Machine
end

