-- ==== Sys2Proof/Machine/Loops.lean ====
section
/-! DEFINITION. Loop frames: inputs, samples, destinations, override groups, traces, and the loop commands (R131 to R159, R267, R272). -/

namespace Sys2Proof.Machine

def State.loopRec (s : State) (l : Nat) : Bytes := s.rcd 0x0B l
/-- Point of a loop (R158). -/
def loopPt (s : State) (l p : Nat) : Nat := ptAddr s 0 16 (l * 8 + p)

/-- Engines that follow the image run: HSTAT RUNNING, on a module that is single, ACTIVE or STANDBY (R159, R232, R381). -/
def State.enginesRun (s : State) : Bool :=
  s.sys.st == .running && (s.red.role == .single || s.red.role == .active || s.red.role == .standby)

/-- A loop is disabled, itself or by its override group (R150). -/
def State.loopDis (s : State) (l : Nat) : Bool :=
  s.isDis (uLoop l) || (lpMember (s.loopRec l) && s.isDis (uGroup (lpOgroup (s.loopRec l))))

/-! Inputs (R132, R139, R140). -/

/-- A value taken, whether it is bad, and its quality. -/
structure Src where
  v : Int
  bad : Bool
  q : Nat
  deriving DecidableEq, Repr

def badQ (q : Nat) : Bool := q == qStale || q == qUndelivered || q == qAbsent

/-- A cyclic point as a source. -/
def State.srcPoint (s : State) (a : Nat) : Src := { v := sgn 32 (s.rd a).toNat, bad := badQ (s.rdQ a), q := s.rdQ a }

/-- A rate source's value (R140). -/
def rateSrc (v gain : Int) : Int := sat16 (asr (v * gain + 2147483648) 32)

/-- Velocity of a race at an LMT instant, in 2^-16 tick/us; none where it has no segment (R90, R132, R140). -/
def State.raceV (s : State) (n t : Nat) : Option Int :=
  let r := s.race n
  let dt := domTime (s.dom (raceDom (s.raceRec n))) t
  if r.st == .idle || r.st == .lost then none
  else (chooseSeg r.segs dt).map (fun g =>
    let tau : Int := dt - g.ts
    asr ((g.c1 + asr (2 * g.c2 * tau) 24 + asr (3 * g.c3 * tau * tau) 48) * 1000) 32)

/-- Counter of an encoder at the start of loop frame `f`; before the first frame kept, as at that one (R132). -/
def Encoder.atFrame (x : Encoder) (f : Int) : Nat := match x.frames.find? (fun e => decide ((e.1 : Int) ≤ f)) with
  | some e => e.2.toNat
  | none => (x.frames.getLast?.map (fun e => e.2.toNat)).getD x.count.toNat

/-- The encoders' counters at the start of frame `f`; 65,535 frames, the longest PERIOD_N, are kept (R132, R160). -/
def State.frameCounts (s : State) (f : Nat) : State :=
  { s with encs := s.encs.mapV (fun _ x =>
      if x.frames.head?.map Prod.snd = some x.count then x
      else
        let old := x.frames.filter (fun e => decide (f < e.1 + 65536))
        { x with frames := (f, x.count) :: (old ++ (x.frames.drop old.length).take 1) }) }

/-- A source selector's value (R132, R139, R140). -/
def State.readSel (s : State) (l : Nat) (b : Bytes) (o : Nat) : Src :=
  let i := selIndex b o
  let bad2 (v : Int) (bad : Bool) : Src := { v := v, bad := bad, q := if bad then qStale else qGood }
  match selKind b o with
  | 0 => s.srcPoint (loopPt s l 0)
  | 1 => s.srcPoint i
  | 2 => match (s.seq (i / 256)).results.get? (i % 32) with
    | some w => bad2 (sat16 (asr (sgn 18 (w.toNat % 262144) + 2) 2)) (w.getLsbD 24)
    | none => bad2 0 true
  | 3 => bad2 (s.cl i).val ((s.cl i).cls != .ok || (s.cl i).thermal || s.isDis (uCl i))
  | 4 =>
    let f := s.lmt / 20000
    let d := diff64 ((s.enc i).atFrame f) ((s.enc i).atFrame ((f : Int) - lpPeriod b))
    bad2 (rateSrc (Int.tdiv (d * 65536) (lpPeriod b * 20)) (leS b 80 4)) ((s.enc i).fault != 0)
  | 5 => match s.raceV i s.lmt with
    | some v => bad2 (rateSrc v (leS b 80 4)) false
    | none => bad2 0 true
  | _ => bad2 0 false

/-- Compliance flags a loop receives: of its own destination, or as winner of its group's (R152, R154). -/
def State.loopFlags (s : State) (l : Nat) (b : Bytes) : Bool × Bool :=
  if lpMember b then
    let g := s.rcd 0x0C (lpOgroup b)
    if selKind g 8 = 7 ∧ ((s.ogs.getD (lpOgroup b) {}).winner == some l) then s.clFlags (selIndex g 8) else (false, false)
  else if selKind b 48 = 7 then s.clFlags (selIndex b 48) else (false, false)

/-- A value goes to its destination (R138, R139). -/
def State.driveDest (s : State) (kind i : Nat) (u : Int) : State :=
  if kind = 1 then s.wr i (w32 u)
  else if kind = 7 then (s.setCl i { s.cl i with cmd := u, cmdAt := s.lmt, timedOut := false }).wrLocal 1 (256 + i * 8) u
  else if kind = 8 then
    let p := s.ana.pwms.getD i {}
    ({ s with ana := { s.ana with pwms := s.ana.pwms.set i { p with duty := u } } }).wrLocal 1 (512 + i) u
  else s

/-- The quality of a source carried to a point (R140, R158). -/
def State.carryQ (s : State) (a : Nat) (x : Src) : State :=
  ((s.setCond a cStale (x.bad && x.q == qStale)).setCond a cUndelivered (x.bad && x.q == qUndelivered)).setCond a cAbsent (x.bad && x.q == qAbsent)

/-! Bank boundary (R92, R155). -/

/-- A sealed coefficient set swaps at the start of the sample, or its swap is deferred (R92, R155). -/
def State.loopBank (s : State) (l : Nat) : State × Option Bytes :=
  let p := s.loop l
  if !p.coef.sealed then (s, none)
  else if p.coef.finished then
    let s1 := s.setLoop l { p with coef := p.coef.swap }
    let s2 := s1.finishAll (s1.flightsOn 0x0604 (uLoop l)) ST_OK { commit := some s1.lmt }
    (s2.ftAfterSwap l, if lpFlag (s.loopRec l) 1 then some p.coef.fg else none)
  else
    ((s.setLoop l { p with coef := { p.coef with deferred := true } }).raiseIf (!p.coef.deferred) EV_BANK_DEFERRED (uLoop l)
      [2, l, mkBit p.coef.undurable 0 + mkBit p.coef.catchup 1], none)

/-! Modes (R148 to R150). -/

/-- A loop's UNIT_DISABLE, or its group's, takes effect (R150). -/
def State.loopDisable (s : State) (l : Nat) : State :=
  let p := s.loop l
  let s1 := s.ftLoopDisabled l
  let p1 := s1.loop l
  let s2 := s1.setLoop l { p1 with mode := .disabled, back := false, steps := [], coef := { p.coef with sealed := false, deferred := false } }
  s2.finishAll (s2.flightsOf (fun f => f.unit == uLoop l && f.op / 256 == 6)) ST_DISABLED

/-- UNIT_DISABLE and UNIT_ENABLE of a unit that takes them at its next sample or update, in fetch order; `off` and `on` are what its rule adds
(R432; UNIT_ENABLE by the same instant, R433, DEDUCED, log 72). -/
def State.service (s : State) (u : Nat) (off on : State → State) : State :=
  (s.flightsOf (fun f => f.unit == u && (f.op == 0x0206 || f.op == 0x0207))).foldl (fun s f =>
    if s.isDis u == (f.op == 0x0206) then s.ok f
    else if f.op == 0x0206 then (off s).disableUnit f
    else (on s).enableUnit f) s

/-- UNIT_DISABLE and UNIT_ENABLE that take effect at this sample of a loop, its group's among them (R149, R150, R432, R433). -/
def State.loopDisables (s : State) (l : Nat) : State :=
  let b := s.loopRec l
  let s1 := s.service (uLoop l) (fun s => s.loopDisable l) (fun s => s.setLoop l { s.loop l with mode := .disabled, seenReq := false })
  if !lpMember b then s1
  else
    let g := lpOgroup b
    let ms := ((s1.recsOf 0x0B).filter (fun x => lpMember x && lpOgroup x == g)).map (fun x => le x 0 2)
    let s2 := s1.service (uGroup g) (fun s => ms.foldl (fun s m => s.loopDisable m) s) (fun s => { s with ogs := s.ogs.erase g })
    if s2.isDis (uGroup g) then s2.loopDisable l else s2

/-- The mode of a sample and whether a request was made (R149, R159, R169). -/
def State.loopWant (s : State) (l : Nat) (b : Bytes) (p : Loop) (first : Bool) : LoopMode × Bool :=
  let base := if first then modeOf (byteAt b 2) else if p.back then .auto else p.mode
  if s.loopDis l then (.disabled, false)
  else if lpFlag b 0 then
    let v := s.rd (loopPt s l 2)
    if !p.fresh && (!p.seenReq || v != p.lastReq) && decide (v.toNat < 4) then (modeOf v.toNat, p.seenReq) else (base, false)
  else match (s.flightsOn 0x0601 (uLoop l)).getLast? with
    | some f => (modeOf (f.h.p 0 1), true)
    | none => (base, false)

/-! One sample. -/

/-- Steps due at a frame start: of cogs in the order of their instants, then LOOP_TRIM in fetch order (R141). -/
def State.loopSteps (s : State) (l : Nat) (p : Loop) : List SpStep :=
  (p.steps.filter (fun x => decide (x.at' ≤ s.lmt))) ++ (s.flightsOn 0x0602 (uLoop l)).map (fun f =>
    ({ at' := s.lmt, relative := false, trim := true, value := if f.h.p 0 1 = 1 then f.h.pS 4 4 else 0 } : SpStep))

/-- The loop's own points (R158). -/
def State.loopPoints (s : State) (l : Nat) (o : LoopOut) (sp pv : Src) (off limited : Bool) (st : Nat) : State :=
  let a := loopPt s l
  let s1 := if off then s
    else (((((s.wr (a 3) (w32 o.tgt)).setCond (a 3) cLimited o.spLimited).carryQ (a 3) sp).wr (a 4) (w32 o.r)).wr (a 5) (w32 o.lp.y)).carryQ (a 5) pv
  ((s1.wr (a 6) (w32 o.lp.u)).setCond (a 6) cLimited limited).wr (a 7) (BitVec.ofNat 32 st)

/-- A relay test begins at this sample, or is refused (R168). -/
def State.loopTuneStart (s : State) (l : Nat) (b : Bytes) (o : LoopOut) (mode : LoopMode) (pvBad : Bool) : State :=
  (s.ftOn 1 l).foldl (fun s k =>
    (s.ftTuneOf k).foldl (fun s f =>
      let x := s.ft k
      let fb := s.ftRec k
      if x.st == .testing then s
      else
        let d := ftRelayD fb
        let u := o.lp.u
        let ok := mode == .auto && !pvBad && !lpMember b && (x.st == .idle || x.st == .running) && decide (lpOutMin b ≤ u - d ∧ u + d ≤ lpOutMax b)
        if !ok then s.finish f ST_REFUSED
        else
          let s1 := s.setFt k { x with test := some { u0 := u, high := decide (0 ≤ o.e), started := s.lmt, tgt := o.tgt, lo := o.lp.y, hi := o.lp.y, lastY := o.lp.y } }
          (s1.setLoop l { s1.loop l with mode := .track, relay := some k }).ftState k .testing) s) s

/-- The relay test of a loop takes a sample (R168, R169). Answers the state, the track value and whether the test goes on. -/
def State.loopRelay (s : State) (l : Nat) (b : Bytes) (k : Nat) (x : LoopIn) (asked short open' : Bool) : State × Int :=
  let p := s.loop l
  let fb := s.ftRec k
  match (s.ft k).test with
  | none => (s, p.u)
  | some ts =>
    let o := loopRun b p { x with mode := .track, trk := p.u }
    let t1 := ts.sample fb s.lmt o.e o.lp.y
    let reason := if asked then 6 else if x.pvBad then 3 else if short || open' then 4 else if o.tgt ≠ ts.tgt then 5
      else if ftBand fb < (o.e.natAbs : Int) then 1 else if ts.started + ftTestMax fb ≤ s.lmt then 2 else 0
    if reason ≠ 0 then (s.ftTestAbort k reason, ts.out fb)
    else
      let s1 := s.setFt k { s.ft k with test := some t1 }
      if t1.done fb then (s1.ftTestDone k (lpPeriod b) t1, t1.out fb) else (s1, t1.out fb)

/-- One sample of a loop (R132, R138 to R152). -/
def State.loopSample (s0 : State) (l : Nat) : State :=
  let b := s0.loopRec l
  let p0 := s0.loop l
  let first := !p0.born
  let s1 := s0.setLoop l { p0 with born := true, coef := if p0.coef.fg.isEmpty then { p0.coef with fg := slice b 96 192, bg := slice b 96 192 } else p0.coef }
  let bk := (s1.loopDisables l).loopBank l
  let s2 := bk.1
  let p := s2.loop l
  let was := p.mode
  let w := s2.loopWant l b p first
  let pv := s2.readSel l b 16
  let sp := s2.readSel l b 24
  let ff := s2.readSel l b 32
  let tk := s2.readSel l b 40
  let fl := s2.loopFlags l b
  let x : LoopIn := {
    mode := w.1, leaving := (was == .disabled || first) && w.1 != .disabled, fresh := (p.fresh || (p.reinit && !pv.bad)) && w.1 != .disabled
    pv := pv.v, pvBad := pv.bad, src := if sp.bad then p.src else sp.v, ffv := if ff.bad then p.ffv else ff.v
    trk := if selKind b 40 = 0 then p.u else if tk.bad then p.trk else tk.v
    man := sgn 32 (s2.rd (loopPt s2 l 1)).toNat, steps := s2.loopSteps l p, held := fl.1 || fl.2, old := bk.2
    keep := selKind b 40 == 0 }
  let off := w.1 == .disabled
  -- a relay test in progress drives the loop, unless the loop is disabled or a mode change ends it
  let rl := match p.relay with
    | some k => if off then (s2.ftLoopDisabled l, p.u) else s2.loopRelay l b k x w.2 fl.1 fl.2
    | none => (s2, p.u)
  let test := p.relay.isSome && !w.2 && !off
  let x1 := if test then { x with mode := .track, trk := rl.2, leaving := false, keep := false } else x
  let mode := x1.mode
  let p1 := rl.1.loop l
  let o := if off then loopOff b p1 x1 else loopRun b p1 x1
  let v := rl.1.rd (loopPt rl.1 l 2)
  let lp : Loop := { o.lp with
    mode := mode, fresh := false, seenReq := true, lastReq := v, back := if test then o.lp.back else false
    reinit := pv.bad && !off && (x1.leaving || x1.fresh || p1.reinit)
    steps := o.lp.steps.filter (fun y => decide (rl.1.lmt < y.at')), spBad := sp.bad && !off }
  let s3 := rl.1.setLoop l lp
  let s4 := (s3.finishAll (s3.flightsOn 0x0601 (uLoop l)) ST_OK { commit := some s3.lmt })
  let s5 := (s4.finishAll (s4.flightsOn 0x0602 (uLoop l)) ST_OK { commit := some s4.lmt })
  let s6 := s5.loopTuneStart l b o mode pv.bad
  -- a test that has just begun drives the relay at once
  let started := (s6.loop l).relay.isSome && mode == .auto
  let s7 := if started then
      let k := (s6.loop l).relay.getD 0
      let u := match (s6.ft k).test with
        | some ts => ts.out (s6.ftRec k)
        | none => o.lp.u
      let i := clampI b (sat40 (u * 32768 - o.lp.pdf.getD 0 0 - o.lp.pdf.getD 1 0 - o.lp.pdf.getD 2 0))
      s6.setLoop l { s6.loop l with u := u, i := i }
    else s6
  let fin := s7.loop l
  let st := loopStateWord fin { o with lp := fin } fin.mode fl.1 fl.2
  let s8 := (s7.setLoop l { fin with state := BitVec.ofNat 32 st, lastMode := fin.mode }).loopPoints l { o with lp := fin } sp pv off (o.hi || o.lo || fl.1) st
  let s9 := if lpMember b then s8 else s8.driveDest (selKind b 48) (selIndex b 48) fin.u
  let e1 := s9.raiseIf (p0.lastMode != fin.mode) EV_LOOP_MODE (uLoop l) [modeNum p0.lastMode, modeNum fin.mode]
  let e2 := e1.raiseIf (pv.bad && !p.pvBad && !off) EV_LOOP_PV_BAD (uLoop l)
  let e3 := e2.raiseIf (!pv.bad && p.pvBad && !off) EV_LOOP_PV_GOOD (uLoop l)
  e3.raiseIf (sp.bad && !p.spBad && !off) EV_LOOP_SP_BAD (uLoop l)

/-! Override groups (R153, R154). -/

/-- The STATE word of a loop gains a bit, in its state and its point. -/
def State.loopMark (s : State) (l bitNo : Nat) : State :=
  let p := s.loop l
  let st := condSet p.state.toNat bitNo true
  (s.setLoop l { p with state := BitVec.ofNat 32 st }).wr (loopPt s l 7) (BitVec.ofNat 32 st)

/-- The lowest output among loops; of equal ones the lowest loop. -/
def lowestU (s : State) : List Nat → Option Nat
  | [] => none
  | l :: r => match lowestU s r with
    | none => some l
    | some m => if (s.loop l).u ≤ (s.loop m).u then some l else some m

/-- An override group decides once its members have been evaluated (R154). -/
def State.groupDecide (s : State) (g : Nat) : State :=
  let b := s.rcd 0x0C g
  let ms := ((s.recsOf 0x0B).filter (fun x => lpMember x && lpOgroup x == g)).map (fun x => le x 0 2)
  let og := s.ogs.getD g {}
  let man := ms.find? (fun l => (s.loop l).mode == .manual || (s.loop l).mode == .track)
  let auto := ms.filter (fun l => (s.loop l).mode == .auto && !(s.loop l).pvBad)
  let sel := match man with
    | some l => some l
    | none => lowestU s auto
  let out := match sel with
    | some l => (s.loop l).u
    | none => if s.isDis (uGroup g) || ms.all (fun l => (s.loop l).mode == .disabled) then leS b 16 2 else og.out
  let s1 := { s with ogs := s.ogs.set g { winner := sel.orElse (fun _ => og.winner), out := out, decided := true } }
  let s2 := match sel with
    | some l => s1.loopMark l 10
    | none => s1
  let s3 := (auto.filter (fun l => sel != some l)).foldl (fun s l =>
    let p := s.loop l
    let i := clampI (s.loopRec l) (sat40 (out * 32768 - p.pdf.getD 0 0 - p.pdf.getD 1 0 - p.pdf.getD 2 0))
    (s.setLoop l { p with i := i }).loopMark l 11) s2
  let s4 := s3.driveDest (selKind b 8) (selIndex b 8) out
  s4.raiseIf (og.decided && sel.isSome && sel != og.winner) EV_LOOP_OVERRIDE (uGroup g) [sel.getD 0]

/-! Loop traces (R266, R267, R272, R320). -/

/-- Fields of a LOOP_TRACE entry (R267). -/
def State.traceEntry (s : State) (l : Nat) : List Nat :=
  let p := s.loop l
  [l, p.state.toNat % 65536, wrapN 16 p.tgt, wrapN 16 (asr (p.spl + 32768) 16), wrapN 16 p.y, wrapN 16 p.u, wrapN 32 (sat32 (asr p.i 15))]

/-- The 16 bytes of an entry (R267, R320). -/
def entryBytes (e : List Nat) : Bytes :=
  (List.range 6).flatMap (fun i => toLe (e.getD i 0) 2) ++ toLe (e.getD 6 0) 4

/-- A channel writes a loop-trace record (R267). -/
def State.traceWrite (s : State) (c t : Nat) (es : List (List Nat)) : State :=
  if es.isEmpty then s
  else s.emit 2 3 0 t (8 + 16 * es.length) (es.length :: es.flatten) true (fun b => byteAt b 0 == c)

/-- Inserts an entry at its place in a record. -/
def insEntry (e : Nat × List Nat) : List (Nat × List Nat) → List (Nat × List Nat)
  | [] => [e]
  | x :: xs => if e.1 < x.1 then e :: x :: xs else x :: insEntry e xs

/-- Records at the head of a channel's waiting list whose verdicts are all known are written (R320). -/
def State.traceSettle (s : State) (c : Nat) : Nat → State
  | 0 => s
  | n + 1 =>
    let ch := s.chan c
    match ch.wait with
    | w :: r => if w.left = 0 then ((s.setChan c { ch with wait := r }).traceWrite c w.at' (w.kept.map Prod.snd)).traceSettle c n else s
    | [] => s

/-- The loops a channel traces in this frame, ascending, with their sample counts advanced (R266). -/
def traceDue (b : Bytes) (cnt : SMap Nat) (ls : List Nat) : SMap Nat × List Nat :=
  ls.foldl (fun a l =>
    match (List.range (byteAt b 7)).find? (fun i => le b (152 + 8 * i) 2 ≤ l ∧ l < le b (152 + 8 * i) 2 + le b (154 + 8 * i) 2) with
    | none => a
    | some i =>
      let n := SMap.getD a.1 l 0 + 1
      if le b (156 + 8 * i) 2 ≤ n then (SMap.set a.1 l 0, a.2 ++ [l]) else (SMap.set a.1 l n, a.2)) (cnt, [])

/-- One entry goes through the channel's reduction program (R272, R322). -/
def State.traceOffer (s : State) (c t place : Nat) (e : List Nat) : State :=
  let ch := s.chan c
  let head := ch.wait.getLastD { at' := t, left := 0 }
  let upd (w : TraceWait) (s : State) : State := let q := s.chan c; s.setChan c { q with wait := q.wait.dropLast ++ [w] }
  match s.spinOffer (24 + c) { bytes := entryBytes e, lmt := t, size := 16 } with
  | some s1 => upd { head with left := head.left + 1, places := head.places ++ [(place, e)] } s1
  | none => upd { head with kept := insEntry (place, e) head.kept } (s.spinBacklog (24 + c))

/-- The loop traces of a frame (R266, R267, R272). -/
def State.loopTraces (s : State) (ls : List Nat) : State :=
  (s.recsOf 0x16).foldl (fun s b =>
    let c := byteAt b 0
    if !(byteAt b 1).testBit 2 || (s.chan c).st == TrState.stopped then s
    else
      let d := traceDue b (s.chan c).traceCnt ls
      let s1 := s.setChan c { s.chan c with traceCnt := d.1 }
      if d.2.isEmpty then s1
      else if (byteAt b 2).testBit 1 then
        let s2 := s1.setChan c { s1.chan c with wait := (s1.chan c).wait ++ [{ at' := s1.lmt, left := 0 }] }
        let s3 := (d.2.foldl (fun (a : State × Nat) l => (a.1.traceOffer c a.1.lmt a.2 (a.1.traceEntry l), a.2 + 1)) (s2, 0)).1
        s3.traceSettle c ((s3.chan c).wait.length)
      else s1.traceWrite c s1.lmt (d.2.map s1.traceEntry)) s

/-! The frame (R131, R134). -/

/-- Inserts a number in ascending order. -/
def insAsc (x : Nat) : List Nat → List Nat
  | [] => [x]
  | y :: ys => if x ≤ y then x :: y :: ys else y :: insAsc x ys

/-- Loops due in a frame, ascending (R131). -/
def State.loopsDue (s : State) (f : Nat) : List Nat :=
  ((s.recsOf 0x0B).filter (fun b => f % max 1 (lpPeriod b) == lpPhase b)).foldl (fun l b => insAsc (le b 0 2) l) []

/-- Lane of a loop: engine x 4 + LANE. -/
def State.laneOf (s : State) (l : Nat) : Nat := l / 128 * 4 + lpLane (s.loopRec l)

/-- A loop that its lane has not reached skips its sample (R134). -/
def State.loopSkip (s : State) (l : Nat) : State := (s.loopMark l 15).raise EV_LOOP_OVERRUN (uLoop l)

/-- Overruns of each lane in consecutive frames up to frame `f`; the fourth is a module fault (R134, R472). -/
def State.laneCount (s : State) (f : Nat) (late : List Nat) : State :=
  let lanes := late.foldl (fun a l => insNat (s.laneOf l) a) []
  lanes.foldl (fun s n =>
    let o := s.lanes.getD n {}
    let k := if o.frame + 1 = f then o.overruns + 1 else 1
    let s1 := { s with lanes := s.lanes.set n { overruns := k, frame := f } }
    if 4 ≤ k then s1.faultHalt 6 n else s1) s

/-- A due loop's sample, or its skip, as its identification tasks see it, with the STATE word of the frame's end (R171, R172). -/
def State.loopIdent (s : State) (l : Nat) : State :=
  let p := s.loop l
  (s.ftOn 2 l).foldl (fun s k => s.ftIdent k (lpPeriod (s.loopRec l)) (p.mode == .auto) p.state.toNat p.y p.u) s

/-- LOOP_FRAME: the loops of the frame that starts now, `late` those their lanes have not reached (R131 to R155). -/
def loopFrame (late : List Nat) (s : State) : State :=
  if s.lmt % 20000 != 0 then s
  else if !s.enginesRun then s.frameCounts (s.lmt / 20000)
  else
    let f := s.lmt / 20000
    let due := s.loopsDue f
    let run := due.filter (fun l => !late.contains l)
    let skip := due.filter (fun l => late.contains l)
    let s1 := run.foldl State.loopSample (s.frameCounts f)
    let s2 := skip.foldl State.loopSkip s1
    let gs := ((run.map s2.loopRec).filter lpMember).foldl (fun a b => insNat (lpOgroup b) a) []
    let s3 := gs.foldl State.groupDecide s2
    ((due.foldl State.loopIdent s3).loopTraces run).laneCount f skip

/-! Commands (R141, R149, R155, R167). -/

/-- Gate of a loop command. -/
def loopGate (h : CmdHdr) (s : State) (bad : List (Option Nat)) (refused exempt : Bool) : Gate :=
  { invalid := firstBad ([needKind h 3, if (s.rec? 0x0B h.inst).isSome then none else some 8] ++ bad), unit := h.tgt, disabled := s.loopDis h.inst,
    refused := refused, exempt := exempt }

/-- What LoopMode checks before its rule runs (R427, R429). -/
def gateLoopMode (h : CmdHdr) (s : State) : Gate :=
  loopGate h s [noBuf h, needP 0 (decide (h.p 0 1 ≤ 3)), zeroTail h 1] (lpFlag (s.loopRec h.inst) 0) false

/-- LoopMode waits among the commands in flight; its rule acts at the instant it names. -/
def goLoopMode (_ : Flight) (s : State) : State :=
  s

/-- LOOP_MODE takes effect at the loop's next sample (R149). -/
def runLoopMode (h : CmdHdr) (s : State) : State := start 0x0601 (gateLoopMode h s) goLoopMode h s

/-- What LoopTrim checks before its rule runs (R427, R429). -/
def gateLoopTrim (h : CmdHdr) (s : State) : Gate :=
  loopGate h s [noBuf h, needP 0 (decide (h.p 0 1 ≤ 1)), zeroGap h 1 4, needP 4 (decide (-65536 ≤ h.pS 4 4 ∧ h.pS 4 4 ≤ 65535)), zeroTail h 8] false false

/-- LoopTrim waits among the commands in flight; its rule acts at the instant it names. -/
def goLoopTrim (_ : Flight) (s : State) : State :=
  s

/-- LOOP_TRIM takes effect at the loop's next sample (R141). -/
def runLoopTrim (h : CmdHdr) (s : State) : State := start 0x0602 (gateLoopTrim h s) goLoopTrim h s

/-- The reserved bytes of a coefficient set are zero and its gains well formed (R137, R156). -/
def coefOk (c : Bytes) (nbiq : Nat) : Bool :=
  let gain (o : Nat) := decide (byteAt c (o + 2) < 32) && byteAt c (o + 3) == 0
  (List.range 5).all (fun i => gain (4 * i)) && decide (le c 20 2 ≤ 32767 ∧ le c 22 2 ≤ 32768 ∧ le c 24 2 ≤ 32768)
    && (slice c 26 6).all (fun x => x == 0) && (List.range (5 * nbiq)).all (fun i => gain (32 + 4 * i))
    && (slice c (32 + 20 * nbiq) (192 - 32 - 20 * nbiq)).all (fun x => x == 0)

/-- What LoopCoefWrite checks before its rule runs (R427, R429). -/
def gateLoopCoefWrite (h : CmdHdr) (s : State) : Gate :=
  loopGate h s [needBuf h 192, zeroTail h 12, if coefOk (slice h.data 0 192) (lpNbiq (s.loopRec h.inst)) then none else some 16]
      ((s.loop h.inst).coef.sealed || s.ftOwnsLoop h.inst) false

/-- Effect of LoopCoefWrite. -/
def goLoopCoefWrite (f : Flight) (s : State) : State :=
  let h := f.h
  let p := s.loop h.inst; s.setLoop h.inst { p with coef := p.coef.write (slice h.data 0 192) }

/-- LOOP_COEF_WRITE replaces the background set; ST_OK when durable (R92, R155, R167). -/
def runLoopCoefWrite (h : CmdHdr) (s : State) : State := start 0x0603 (gateLoopCoefWrite h s) goLoopCoefWrite h s

/-- What LoopCoefSeal checks before its rule runs (R427, R429). -/
def gateLoopCoefSeal (h : CmdHdr) (s : State) : Gate :=
  loopGate h s [noBuf h, zeroTail h 0] ((s.loop h.inst).coef.sealed || s.ftOwnsLoop h.inst) false

/-- Effect of LoopCoefSeal. -/
def goLoopCoefSeal (f : Flight) (s : State) : State :=
  let h := f.h
  let p := s.loop h.inst; s.setLoop h.inst { p with coef := { p.coef with sealed := true, deferred := false } }

/-- LOOP_COEF_SEAL: the swap at the loop's next sample (R92, R155, R167). -/
def runLoopCoefSeal (h : CmdHdr) (s : State) : State := start 0x0604 (gateLoopCoefSeal h s) goLoopCoefSeal h s

/-- What LoopReadState checks before its rule runs (R427, R429). -/
def gateLoopReadState (h : CmdHdr) (s : State) : Gate :=
  loopGate h s [needBuf h 64, zeroTail h 12] false true

/-- Effect of LoopReadState. -/
def goLoopReadState (f : Flight) (s : State) : State :=
  let h := f.h
  let p := s.loop h.inst
  s.okOut f [modeNum p.mode, wrapN 40 p.i, wrapN 32 p.spl, wrapN 17 p.trim, wrapN 16 p.dq, p.coef.sel]

/-- LOOP_READ_STATE: mode, i, spl, TRIM, dq, bank in use (R429). -/
def runLoopReadState (h : CmdHdr) (s : State) : State := start 0x0605 (gateLoopReadState h s) goLoopReadState h s

end Sys2Proof.Machine
end

