-- ==== Sys2Proof/Machine/Groups.lean ====
section
/-! DEFINITION. Cycle group records and cycle instants (R29, R104). -/

namespace Sys2Proof.Machine

/-- Record of a cycle group (R104); its key bytes are segment and group. -/
def State.grpRec? (s : State) (seg grp : Nat) : Option Bytes := s.rec? 0x09 (seg + 256 * grp)
def State.grpRec (s : State) (seg grp : Nat) : Bytes := (s.grpRec? seg grp).getD []

/-- Nominal period, ns: 62.5 us x 2^K. -/
def gPeriod (b : Bytes) : Nat := 62500 * 2 ^ byteAt b 2
def gCogPaced (b : Bytes) : Bool := byteAt b 3 == 1
/-- Offset of the commit, ns. -/
def gCommitAt (b : Bytes) : Nat := gPeriod b * byteAt b 4 / 100
def gProtected (b : Bytes) : Bool := (byteAt b 5).testBit 0
def gDomain (b : Bytes) : Nat := byteAt b 6
/-- Offset of the output launch, ns; 0 in the record means COMMIT_AT + 10 us. -/
def gOutputAt (b : Bytes) : Nat := if le b 8 4 = 0 then gCommitAt b + 10000 else le b 8 4
def gPhase (b : Bytes) : Nat := le b 12 4
def gInputLead (b : Bytes) : Nat := le b 16 2

/-- The first time-paced cycle start at or after a domain time. -/
def nextStart (b : Bytes) (tau : Nat) : Nat :=
  let p := gPeriod b
  if tau ≤ gPhase b then gPhase b else gPhase b + ((tau - gPhase b) + p - 1) / p * p

/-- Group key in `Image.groups`. -/
def gKey (seg grp : Nat) : Nat := seg * 8 + grp

/-- The same instant on LMT. -/
def State.nextStartLmt (s : State) (b : Bytes) (t : Nat) : Nat :=
  let d := s.dom (gDomain b)
  lmtOf d (nextStart b (domTime d t))

end Sys2Proof.Machine
end

