-- ==== Sys2Proof/Machine/MotionCalc.lean ====
section
/-! DEFINITION. Axis records, limits and the profile of one update (R184, R185, R193 to R202, R211). -/

namespace Sys2Proof.Machine

def State.axRec (s : State) (x : Nat) : Bytes := s.rcd 0x0E x
/-- Point of an axis (R212). -/
def axPt (s : State) (x p : Nat) : Nat := ptAddr s 0 17 (x * 256 + p)
def axFlag (b : Bytes) (i : Nat) : Bool := (byteAt b 2).testBit i
/-- ENCODER of the record (R211). -/
def axEnc (b : Bytes) : Option Nat := if byteAt b 3 = 255 then none else some (byteAt b 3)
def axLocal (b : Bytes) : Bool := decide (byteAt b 0 < 32)
/-- Point address of a remote axis: SETPOINT, VELOCITY, CMD, FEEDBACK, STATUS from 0. -/
def axRemote (b : Bytes) (i : Nat) : Nat := le b (144 + 4 * i) 4

/-- Conversion of the limits to internal units, truncating (R185). -/
def cvV (v : Nat) : Nat := v * 65536 / 50000
def cvA (a : Nat) : Nat := a * 65536 / 2500000000
def cvJ (j : Nat) : Nat := j * 65536 / 125000000000000

/-- Axis maximum `i` (V, A, D, J) in Q32.32: AXIS_LIMITS' or the record's (R196). -/
def axMaxRaw (b : Bytes) (x : Axis) (i : Nat) : Nat := if x.lim.getD i 0 = 0 then le b (32 + 8 * i) 8 else x.lim.getD i 0

/-- A move's own limit, no higher than the maximum in force (R194, R196). -/
def limOf (own max : Nat) : Nat := if own = 0 then max else min own max

/-- Limits in force for a move (R193, R196). -/
def moveLim (b : Bytes) (x : Axis) (m : Move) : AxLim :=
  { v := cvV (limOf m.v (axMaxRaw b x 0)), a := cvA (limOf m.a (axMaxRaw b x 1)), d := cvA (limOf m.d (axMaxRaw b x 2))
    j := cvJ (limOf m.j (axMaxRaw b x 3)) }

/-- Limits of homing: HOME_V under the axis maxima (R202). -/
def homeLim (b : Bytes) (x : Axis) : AxLim := moveLim b x { target := 0, v := le b 88 8, a := 0, d := 0, j := 0, cmd := none }

/-- Deceleration and jerk of a stop ramp (R201). -/
def rampLim (b : Bytes) (x : Axis) (quick : Bool) : Int × Int :=
  if quick then ((cvA (le b 72 8) : Nat), (cvJ (le b 80 8) : Nat)) else ((cvA (le b 64 8) : Nat), (cvJ (axMaxRaw b x 3) : Nat))

/-- Limits of a stop ramp: the axis's V and A, the ramp's deceleration and jerk (R193, R201). -/
def stopLim (b : Bytes) (x : Axis) : AxLim :=
  let r := rampLim b x x.quick
  { v := cvV (axMaxRaw b x 0), a := cvA (axMaxRaw b x 1), d := r.1, j := r.2 }

/-- The three sums of R184 with the acceleration of the update. -/
def Axis.integrate (x : Axis) (a1 : Int) : Axis := { x with a := a1, v := x.v + a1, p := x.p + (x.v + a1) }

/-- Commanded position, Q48.16 (R184). -/
def Axis.pos (x : Axis) : Int := asr x.p 32
/-- At rest: v = a = 0. -/
def Axis.rest (x : Axis) : Bool := x.v == 0 && x.a == 0

/-- Floor of p in entries with its sign at the table, and the bias (R184). -/
def axTurn (b : Bytes) (x : Axis) : Int := (if axFlag b 0 then -(asr x.p 48) else asr x.p 48) + (le b 8 2 : Nat) + x.addrBias
/-- Table address of the stage (R184). -/
def axAddr (b : Bytes) (x : Axis) : Nat := (axTurn b x % 1024).toNat
/-- The electrical period whose change is a boundary (R191). -/
def axPeriod (b : Bytes) (x : Axis) : Int := (asr x.p 48 + (le b 8 2 : Nat) + x.addrBias) / 1024

/-- p is redefined; ADDR_BIAS changes by the same whole number of entries, so ADDR is unchanged (R202). -/
def Axis.redefine (x : Axis) (b : Bytes) (p1 : Int) : Axis :=
  let y := { x with p := p1 }
  { y with addrBias := x.addrBias + (axTurn b x - axTurn b y) }

/-- What the profile of one update brings about beside its own state. -/
structure PlanOut where
  ax : Axis
  /-- A move completes at its joint or its target. -/
  done : Option Move := none
  /-- An overshoot ends: its distance, Q48.16. -/
  ovr : Option Int := none
  /-- The axis comes to rest with nothing more to do. -/
  rested : Bool := false
  homed : Bool := false
  homeFail : Bool := false
  deriving DecidableEq, Repr

def sign (x : Int) : Int := if 0 < x then 1 else if x < 0 then -1 else 0

/-- A limit of the state in force is exceeded (R193, R197). -/
def Axis.exceeds (x : Axis) (L : AxLim) : Bool :=
  decide (L.v < x.v.natAbs ∨ (if x.a * x.v < 0 then L.d else L.a) < x.a.natAbs)

/-- Limits in force (R193, R196, R201). -/
def Axis.limNow (x : Axis) (b : Bytes) : AxLim := match x.st with
  | .moving => match x.queue.head? with
    | some m => moveLim b x m
    | none => homeLim b x
  | .homing => homeLim b x
  | _ => stopLim b x

/-- Joint velocity of a move travelling in direction `dir` (R199): the lowest of the two moves' V and the speed from which the next one can come to
rest at its target; 0 where the next move reverses, there is none, or the deceleration for the joint began without one. -/
def jointV (b : Bytes) (x : Axis) (m : Move) (next : List Move) (dir : Int) : Int := match next with
  | [] => 0
  | n :: _ =>
    if x.slowed || sign (n.target - m.target) != dir then 0
    else
      let L := moveLim b x n
      min (min (moveLim b x m).v L.v) (restFrom L ((n.target - m.target) * dir * 4294967296))

/-- Profile of a move: towards its target as hard as the limits allow, through joints, with overshoot, to rest at the target (R193 to R199). -/
def planMove (b : Bytes) (x : Axis) (m : Move) (next : List Move) : PlanOut :=
  let L := moveLim b x m
  let tp := m.target * 4294967296
  let d0 := tp - x.p
  let dir : Int := if d0 < 0 ∨ (d0 = 0 ∧ x.v < 0) then -1 else 1
  let vj := jointV b x m next dir
  let a1 := planAcc L (d0 * dir) vj (x.v * dir) (x.a * dir)
  let x1 := x.integrate (a1 * dir)
  let x2 := { x1 with slowed := x.slowed || (next.isEmpty && braking L (x.v * dir) (x.a * dir) a1) }
  let d1 := tp - x2.p
  let pass := decide (x2.v ≠ 0 ∧ d0 * x2.v > 0 ∧ d1 * x2.v ≤ 0)
  if x2.rest && d1 == 0 then
    { ax := { x2 with queue := next, steering := false, passed := false, slowed := false }, done := some m, rested := next.isEmpty }
  else if pass && decide (0 < vj) then { ax := { x2 with queue := next, steering := false, passed := false, slowed := false }, done := some m }
  else if x.passed && decide (x2.v * x.v ≤ 0) then { ax := { x2 with passed := false }, ovr := some ((asr d1 32).natAbs) }
  else { ax := { x2 with passed := x2.passed || (pass && d1 != 0) } }

/-- Profile of homing (R202); `t` the update's instant, `stall` the armed detection's finding. -/
def planHome (b : Bytes) (x : Axis) (t : Nat) (stall : Bool) : PlanOut :=
  let dir : Int := if byteAt b 5 = 0 then 1 else -1
  let L := homeLim b x
  let x1 := x.integrate (rampTo L (dir * L.v) x.v x.a)
  let far := decide (((le b 112 8 : Nat) : Int) ≤ ((x1.pos - x.homeFrom).natAbs : Int))
  match x.home with
  | .seek =>
    if far then { ax := x1, homeFail := true }
    else { ax := if x1.v == dir * L.v then { x1 with home := .armed, stallN := 0, devN := 0 } else x1 }
  | .armed =>
    if stall then { ax := { x with v := 0, a := 0, home := .held, holdEnd := t + 10000000 } } else { ax := x1, homeFail := far }
  | .held =>
    if t < x.holdEnd then { ax := x }
    else { ax := { x with home := .backoff, homeFrom := x.pos - dir * ((le b 96 8 : Nat) : Int) } }
  | .backoff =>
    let tp := x.homeFrom * 4294967296
    let d0 := tp - x.p
    let side : Int := if d0 < 0 then -1 else 1
    let x2 := x.integrate (side * planAcc L (d0 * side) 0 (x.v * side) (x.a * side))
    if x2.rest && x2.p == tp then { ax := { (x2.redefine b (leS b 104 8 * 4294967296)) with home := .none, unhomed := false }, rested := true, homed := true }
    else { ax := x2 }
  | .none => { ax := x }

/-- Profile of a stop ramp: v and a to 0 wherever the axis then is (R201). -/
def planStop (b : Bytes) (x : Axis) : PlanOut :=
  if x.rest then { ax := x, rested := true }
  else
    let x1 := x.integrate (rampTo (stopLim b x) 0 x.v x.a)
    { ax := x1, rested := x1.rest }

/-- The profile of one update by its state (R184, R204). -/
def Axis.profile (x : Axis) (b : Bytes) (t : Nat) (stall : Bool) : PlanOut :=
  match x.st with
  | .moving => match x.queue with
    | m :: r => planMove b x m r
    | [] => { ax := x, rested := true }
  | .homing => planHome b x t stall
  | .stopping => planStop b x
  | .fault => { ax := (planStop b x).ax }
  | .disabled => { ax := x }
  | .standstill => { ax := x }

/-- The profile of one update; STATE bit 15 stands until every limit holds again (R184, R197). -/
def Axis.plan (x : Axis) (b : Bytes) (t : Nat) (stall : Bool) : PlanOut :=
  let o := x.profile b t stall
  { o with ax := { o.ax with restoring := o.ax.restoring && !o.ax.rest && o.ax.exceeds (o.ax.limNow b) } }

/-- The profile `n` updates ahead as it is planned now (R192). -/
def Axis.ahead (b : Bytes) (x : Axis) : Nat → Nat → Axis
  | _, 0 => x
  | t, n + 1 => Axis.ahead b (x.plan b (t + 20000) false).ax (t + 20000) n

/-! The sine table (R190), by its series in units of 2^-64. -/

/-- 2 pi i / 1,024 in units of 2^-64. -/
def sineArg (i : Nat) : Int :=
  (6283185307179586476925286766559005768394 * 18446744073709551616 * i / (1024 * 1000000000000000000000000000000000000000) : Nat)

/-- Terms k, k + 2, ... of the exponential series with alternating sign. -/
def sineSum (x : Int) : Nat → Nat → Int → Int
  | 0, _, _ => 0
  | f + 1, k, term =>
    term + sineSum x f (k + 2) (-(term * x / 18446744073709551616 * x / 18446744073709551616) / (((k + 1) * (k + 2) : Nat) : Int))

/-- 32,767 times a value in units of 2^-64, rounded to the nearest, halves away from zero. -/
def q15Of (v : Int) : Int :=
  if 0 ≤ v then (v * 32767 * 2 + 18446744073709551616) / (2 * 18446744073709551616)
  else -((-v * 32767 * 2 + 18446744073709551616) / (2 * 18446744073709551616))

/-- Entry `i` of the sine table: A the cosine, B the sine. -/
def sineEntry (i : Nat) : Bytes :=
  let x := sineArg i
  toLe (wrapN 16 (q15Of (sineSum x 40 0 18446744073709551616))) 2 ++ toLe (wrapN 16 (q15Of (sineSum x 40 1 x))) 2

/-- Entry `i` of a bank; a bank never written holds the sine table (R190). -/
def tableEntry (bank : Bytes) (i : Nat) : Bytes := if bank.isEmpty then sineEntry i else slice bank (4 * i) 4

/-- CRC-16 of a drive link frame: polynomial 0x1021, no reflection (R186). -/
def crc16Bit (c : Nat) : Nat := if 32768 ≤ c then (c * 2 % 65536) ^^^ 0x1021 else c * 2
def crc16 (bs : Bytes) : Nat :=
  bs.foldl (fun c x => crc16Bit (crc16Bit (crc16Bit (crc16Bit (crc16Bit (crc16Bit (crc16Bit (crc16Bit (c ^^^ (x.toNat * 256)))))))))) 0xFFFF

end Sys2Proof.Machine
end

