-- ==== Sys2Proof/Machine/Motion.lean ====
section
/-! DEFINITION. Axes: commands at an update, faults, encoder comparison, microstep banks, drive links, points (R183 to R214). -/

namespace Sys2Proof.Machine

/-! Moves and states. -/

/-- A move's command completes; a GOTO_SEQ request has none (R194, R199). -/
def State.moveDone (s : State) (m : Move) (status : Nat) : State := match m.cmd with
  | some c => match s.flight? c.1 c.2 with
    | some f => s.finish f status { commit := if status = ST_OK then some s.lmt else none }
    | none => s
  | none => s

/-- Executing and queued moves complete in queue order and are gone. -/
def State.dropMoves (s : State) (x status : Nat) : State :=
  let a := s.axis x
  a.queue.foldl (fun s m => s.moveDone m status) (s.setAxis x { a with queue := [], steering := false, passed := false })

/-- AXIS_HOME in progress completes. -/
def State.homeDone (s : State) (x status : Nat) : State :=
  s.finishAll ((s.flightsOn 0x0806 (uAxis x)).filter (fun f => f.mark == 1)) status { commit := if status = ST_OK then some s.lmt else none }

/-- The axis starts a stop ramp (R201, R206). -/
def State.axStop (s : State) (x : Nat) (quick toDis : Bool) : State :=
  s.setAxis x { s.axis x with st := .stopping, quick := quick, toDisabled := toDis, home := .none, code := 0 }

/-- Coil current is removed: an axis without an encoder is UNHOMED (R206). -/
def State.axUnhome (s : State) (x : Nat) : State :=
  if (axEnc (s.axRec x)).isNone then s.setAxis x { s.axis x with unhomed := true } else s

/-- The axis is DISABLED. -/
def State.axOff (s : State) (x : Nat) : State :=
  let s1 := (s.setAxis x { s.axis x with st := .disabled, toDisabled := false, v := 0, a := 0, hold := false, restoring := false }).axUnhome x
  s1.finishAll ((s1.flightsOn 0x0802 (uAxis x)).filter (fun f => f.mark == 1)) ST_OK

/-- Encoder position before its offset, Q48.16 (R203). -/
def State.axScaled (s : State) (x : Nat) : Int := match axEnc (s.axRec x) with
  | some e => asr (leS (s.axRec x) 120 8 * diff64 (s.enc e).count.toNat 0) 16
  | none => 0

/-- Measured position, Q48.16 (R203). -/
def State.axMeasured (s : State) (x : Nat) : Int := (s.axis x).encOffset + s.axScaled x

/-- AXIS_ENABLE: with an encoder, p is first set to measured (R206). -/
def State.axOn (s : State) (x : Nat) : State :=
  let a := s.axis x
  let p := if (axEnc (s.axRec x)).isSome then s.axMeasured x * 4294967296 else a.p
  s.setAxis x { a with st := .standstill, p := p, v := 0, a := 0, cut := false, code := 0, hold := false, restAt := s.lmt, past := [], devN := 0, stallN := 0 }

/-- p redefined, with ADDR_BIAS and the encoder offset (R202). -/
def State.axRedefine (s : State) (x : Nat) (pos : Int) : State :=
  s.setAxis x { (s.axis x).redefine (s.axRec x) (pos * 4294967296) with encOffset := pos - s.axScaled x, past := [] }

/-! Faults (R205). -/

/-- Harshness of a fault's reaction: 3 cut, 2 freeze, 1 quick ramp, 0 normal ramp. -/
def harsh (code : Nat) : Nat := if code = 2 ∨ code = 3 ∨ code = 4 then 3 else if code = 1 ∨ code = 8 then 2 else if code = 9 then 0 else 1

/-- A fault of an axis and its reaction. -/
def State.axFault (s : State) (x code : Nat) : State :=
  let a := s.axis x
  let k := harsh code
  let a1 := { a with
    st := .fault, code := code, home := .none, restoring := false, hold := false, toDisabled := false
    v := if 2 ≤ k then 0 else a.v, a := if 2 ≤ k then 0 else a.a, quick := k == 1, cut := a.cut || k == 3 }
  let s1 := ((s.setAxis x a1).dropMoves x ST_FAULT).homeDone x ST_FAULT
  let s2 := s1.finishAll (s1.flightsOf (fun f => f.unit == uAxis x && f.mark == 1 && (f.op == 0x0801 || f.op == 0x0802))) ST_FAULT
  let s3 := if k = 3 then s2.axUnhome x else s2
  s3.raise EV_AXIS_FAULT (uAxis x) [code]

/-- A fault taken: entered, or the harsher reaction of a later one, at rest too (R205). -/
def State.axTake (s : State) (x code : Nat) : State :=
  let a := s.axis x
  if a.st == .fault && !decide (harsh a.code < harsh code) then s else s.axFault x code

/-- Stage or node reports TORQUE_OFF (R188, R192). -/
def State.axTorqueOff (s : State) (x : Nat) : Bool :=
  let b := s.axRec x
  if axLocal b then (s.axis x).slot.testBit 13 else (s.rd (axRemote b 4)).getLsbD 3

/-- LINK of an axis (R189, R192). -/
def State.axLinkBad (s : State) (x : Nat) : Bool :=
  let b := s.axRec x
  if axLocal b then decide (3 ≤ (s.mot.links.getD (x / 4) {}).bad)
  else
    let fb := axRemote b 3
    badQ (s.rdQ fb) || (s.node (nodeKey (bits fb 27 24) (bits fb 23 14))).st != .operate

/-- Causes present now, bit n for code n, but for those of the encoder comparison and homing (R205). A remote STATUS[1] stands for the
stage faults 2 to 5; which of them is open (log 26). -/
def State.axCauses (s : State) (x : Nat) : Nat :=
  let b := s.axRec x
  let a := s.axis x
  let stage := if axLocal b then mkBit (a.slot.testBit 10) 2 + mkBit (a.slot.testBit 11) 3 + mkBit (a.slot.testBit 12) 4 + mkBit (a.slot.testBit 9) 5
    else mkBit ((s.rd (axRemote b 4)).getLsbD 1) (2 + s.freeVal % 4)
  let encBad := match axEnc b with
    | some e => (s.enc e).fault != 0
    | none => false
  mkBit (s.axLinkBad x) 1 + stage + mkBit encBad 7 + mkBit (s.axTorqueOff x) 8

/-- The cause of a latched fault persists. -/
def State.axPersists (s : State) (x code : Nat) : Bool :=
  let c := s.axCauses x
  if axLocal (s.axRec x) || !(decide (2 ≤ code ∧ code ≤ 5)) then c.testBit code && code != 6 && code != 9 else (s.rd (axRemote (s.axRec x) 4)).getLsbD 1

/-- Faults of an update: a cause that arises, or one present while the axis is in use (R205, R206). -/
def State.axFaults (s : State) (x : Nat) : State :=
  let a := s.axis x
  let c := s.axCauses x
  let inUse := a.st == .standstill || a.st == .moving || a.st == .homing || (a.st == .stopping && !a.toDisabled)
  let s1 := (s.setAxis x { a with causes := c }).useFree
  let s2 := if s1.axTorqueOff x then s1.axUnhome x else s1
  let s3 := if a.slot.testBit 14 then s2.axUnhome x else s2
  [1, 2, 3, 4, 5, 7, 8].foldl (fun s k =>
    if !(c.testBit k && (inUse || !a.causes.testBit k)) then s
    else if k = 8 then
      if a.st == .disabled then s
      else if a.st == .standstill && a.safeStop then s.axOff x
      else s.axTake x 8
    else s.axTake x k) s3

/-! Commands at an update (R194 to R208). -/

/-- States that accept a command (R204). -/
def axAccepts (a : Axis) (op : Nat) : Bool := match a.st with
  | .disabled => op == 0x0801 || op == 0x0808 || op == 0x080A || op == 0x080B
  | .standstill => true
  | .moving => op != 0x0806 && op != 0x0807
  | .homing => op == 0x0805 || op == 0x0808
  | .stopping => op == 0x0805 || op == 0x0808
  | .fault => op == 0x0809 || op == 0x0802

/-- ST_REFUSED by the axis's state (R199, R204, R208). -/
def State.axRefuses (s : State) (x op : Nat) : Bool :=
  let a := s.axis x
  !axAccepts a op || ((op == 0x0803 || op == 0x0804) && axFlag (s.axRec x) 1 && a.unhomed)
    || ((op == 0x0803 || op == 0x0804 || op == 0x0806) && a.safeStop)

/-- The move of an AXIS_GOTO or AXIS_QUEUE. -/
def cmdMove (f : Flight) : Move :=
  { target := f.h.pS 0 8, v := f.h.p 8 8, a := f.h.p 16 8, d := f.h.p 24 8, j := f.h.p 32 8, cmd := some (f.h.ring, f.h.tag) }

/-- A steer takes effect: the moves before it complete ST_ABORTED (R194, R200). -/
def State.axSteer (s : State) (x : Nat) (m : Move) : State :=
  let s1 := s.dropMoves x ST_ABORTED
  s1.setAxis x { s1.axis x with queue := [m], steering := true, st := .moving, hold := false, slowed := false }

/-- Disabling an axis: commands in flight and moves complete ST_DISABLED, the bank is unsealed, the normal ramp begins (R207). -/
def State.axDisable (s : State) (x : Nat) (keep : Flight → Bool) : State :=
  let s0 := s.dropMoves x ST_DISABLED
  let s1 := s0.finishAll (s0.flights.filter (fun g => g.unit == uAxis x && !keep g && g.op != 0x0206 && g.op != 0x0207)) ST_DISABLED
  let a := s1.axis x
  let s2 := s1.setAxis x { a with table := { a.table with sealed := false, deferred := false } }
  if a.st == .disabled then s2 else s2.axStop x (a.st == .stopping && a.quick) true

/-- An ABORT of a command the axis has taken on (R208); past the commit point it waits for the operation's completion (R413, R430). -/
def State.axAbort (s : State) (x : Nat) (f : Flight) : State :=
  let ring := f.h.p 0 1
  let tag := BitVec.ofNat 32 (f.h.p 4 4)
  let a := s.axis x
  match s.flight? ring tag with
  | none => s.finish f ST_ABORT_LATE
  | some g =>
    let mine (m : Move) : Bool := m.cmd == some (ring, tag)
    if a.queue.head?.any mine then ((s.dropMoves x ST_ABORTED).axStop x false false).ok f
    else if a.queue.any mine then ((s.setAxis x { a with queue := a.queue.filter (fun m => !mine m) }).finish g ST_ABORTED).ok f
    else if g.op == 0x0806 then ((s.finish g ST_ABORTED).axStop x false false).ok f
    else if g.commit.isSome then s
    else (s.finish g ST_ABORTED).ok f

/-- A command takes effect at an update. -/
def State.axApply (s : State) (x : Nat) (f : Flight) : State :=
  let a := s.axis x
  if !s.flights.any (fun g => g.is f.h.ring f.h.tag && g.orphan == f.orphan) then s
  else if f.op = 0x0104 then s.axAbort x f
  else if f.op = 0x0206 then if s.isDis f.unit then s.ok f else (s.axDisable x (fun _ => false)).disableUnit f
  else if f.op = 0x0207 then if s.isDis f.unit then s.enableUnit f else s.ok f
  else if s.axRefuses x f.op then s.finish f ST_REFUSED
  else match f.op with
    | 0x0801 => (if a.st == .disabled then s.axOn x else s).setFlight { f with mark := 1 }
    | 0x0802 =>
      let s1 := s.axDisable x (fun g => g.is f.h.ring f.h.tag)
      s1.setFlight { f with mark := 1, commit := some s.lmt }
    | 0x0803 => (s.axSteer x (cmdMove f)).setFlight { f with mark := 1 }
    | 0x0804 =>
      if 65 ≤ a.queue.length then s.finish f ST_REFUSED
      else (s.setAxis x { a with queue := a.queue ++ [cmdMove f], st := .moving, hold := false }).setFlight { f with mark := 1 }
    | 0x0805 =>
      let quick := f.h.p 0 1 == 1
      if a.st == .standstill then s.ok f
      else if a.st == .stopping then (if quick then s.setAxis x { a with quick := true } else s).ok f
      else (((s.dropMoves x ST_ABORTED).homeDone x ST_ABORTED).axStop x quick false).ok f
    | 0x0806 => (s.setAxis x { a with st := .homing, home := .seek, homeFrom := a.pos, hold := false }).setFlight { f with mark := 1 }
    | 0x0808 =>
      let a1 := { a with lim := (List.range 4).map (fun i => if f.h.p (8 * i) 8 = 0 then a.lim.getD i 0 else f.h.p (8 * i) 8) }
      (s.setAxis x { a1 with restoring := !a1.rest && a1.exceeds (a1.limNow (s.axRec x)) }).ok f
    | 0x0809 =>
      if a.st != .fault then s.ok f
      else if s.axPersists x a.code then s.finish f ST_REFUSED
      else if !a.rest then s
      else
        let off := a.cut || a.slot.testBit 14 || s.axTorqueOff x
        let s1 := s.setAxis x { a with st := .standstill, code := 0, cut := false, clear := true, devN := 0, stallN := 0, restAt := s.lmt, hold := false }
        (if off then s1.axOff x else s1).ok f
    | _ => s

/-- Commands that an axis takes on at its next update. -/
def State.axPending (s : State) (x : Nat) : List Flight :=
  s.flightsOf (fun f => f.mark == 0 &&
    ((f.unit == uAxis x && f.op != 0x0807 && f.op != 0x080A && f.op != 0x080B && (f.op / 256 == 8 || f.op == 0x0206 || f.op == 0x0207)) ||
     (f.op == 0x0104 && (s.flight? (f.h.p 0 1) (BitVec.ofNat 32 (f.h.p 4 4))).any (fun g => g.unit == uAxis x && g.op / 256 == 8 && g.op < 0x080A))))

/-- A GOTO_SEQ request (R200). -/
def State.axRequest (s : State) (x : Nat) : State :=
  let b := s.axRec x
  let a := s.axis x
  if !axFlag b 2 then s
  else
    let v := s.rd (axPt s x 17)
    let s1 := s.setAxis x { a with gotoSeq := some v }
    if a.gotoSeq.isNone || a.gotoSeq == some v then s1
    else
      let tgt := sgn 64 (s.rd64 (axPt s x 15))
      if s.axRefuses x 0x0803 || s.isDis (uAxis x) || decide (tgt < leS b 128 8 ∨ leS b 136 8 < tgt) then
        s1.setAxis x { s1.axis x with reqBad := true }
      else
        let s2 := s1.setAxis x { s1.axis x with reqBad := false }
        s2.axSteer x { target := tgt, v := 0, a := 0, d := 0, j := 0, cmd := none }

/-! The update. -/

/-- Stall by LOAD of a local axis, by STATUS[2] of a remote one (R202). -/
def State.axLoadStall (s : State) (x : Nat) : Bool :=
  let b := s.axRec x
  if axLocal b then decide ((s.axis x).load ≤ byteAt b 13) else (s.rd (axRemote b 4)).getLsbD 2

/-- The armed stall detection finds a stall at this update (R202). -/
def State.axStall (s : State) (x : Nat) : State × Bool :=
  let b := s.axRec x
  let a := s.axis x
  if a.home != .armed then (s, false)
  else
    let n := if s.axLoadStall x then a.stallN + 1 else 0
    let far := (axEnc b).isSome && decide (le b 24 4 * 65536 < a.dev.natAbs)
    let d := if far then a.devN + 1 else 0
    (s.setAxis x { a with stallN := n, devN := d },
      decide ((if axLocal b then byteAt b 14 else 1) ≤ n) || ((axEnc b).isSome && decide (byteAt b 6 ≤ d)))

/-- The profile of the update and what it completes (R184, R193 to R202). -/
def State.axProfile (s : State) (x : Nat) : State :=
  let b := s.axRec x
  let st := s.axStall x
  let a := st.1.axis x
  let o := a.plan b s.lmt st.2
  let s1 := st.1.setAxis x o.ax
  let s2 := match o.done with
    | some m => s1.moveDone m ST_OK
    | none => s1
  let s3 := match o.ovr with
    | some d => s2.raise EV_AXIS_OVERSHOOT (uAxis x) [d.toNat]
    | none => s2
  let inside (p : Int) : Bool := decide (leS b 128 8 ≤ p ∧ p ≤ leS b 136 8)
  let s4 := s3.raiseIf (a.st == AxisState.moving && inside a.pos && !inside o.ax.pos) EV_AXIS_LIMIT (uAxis x)
  if o.homeFail then
    let s5 := s4.axFault x 9
    s5.raise EV_AXIS_HOME_FAILED (uAxis x)
  else if o.homed then
    let a1 := s4.axis x
    let s5 := s4.setAxis x { a1 with st := .standstill, encOffset := a1.pos - s4.axScaled x, past := [], restAt := s.lmt, hold := false }
    (s5.raise EV_AXIS_HOMED (uAxis x)).homeDone x ST_OK
  else if o.rested then
    let a1 := s4.axis x
    if a1.st == .stopping && a1.toDisabled then s4.axOff x
    else s4.setAxis x { a1 with st := .standstill, restAt := s.lmt, hold := false }
  else s4

/-- The axis has lost steps (R203). -/
def State.axLost (s : State) (x : Nat) : State :=
  let b := s.axRec x
  let a := s.axis x
  let s1 := (s.setAxis x { a with lost := a.lost + 1 }).raise EV_AXIS_LOST_STEPS (uAxis x) [wrapN 64 a.dev]
  if byteAt b 4 = 0 then s1.axTake x 6
  else
    let q : Int := 1024 * 65536
    let n := (if a.dev < 0 then (2 * -a.dev + q) / (2 * q) else -((2 * a.dev + q) / (2 * q))) * 1024
    let a1 := s1.axis x
    s1.setAxis x { a1 with
      p := a1.p + n * 281474976710656, addrBias := a1.addrBias - n
      past := a1.past.map (fun p => p + n * 65536), dev := a1.dev + n * 65536, devN := 0 }

/-- Encoder comparison and stall watch (R203), at every update; while homing they are the stall of R202 instead. Steps are lost once in a row of
updates, at its DEV_N-th (at its STALL_N-th by the watch, which knows LOAD of local axes only). -/
def State.axCompare (s : State) (x : Nat) : State :=
  let b := s.axRec x
  let a := s.axis x
  let past := (a.pos :: a.past).take 16
  let homing := a.st == .homing
  let ok := match axEnc b with
    | some e => (s.enc e).fault == 0
    | none => false
  let dev := if ok then past.getD (byteAt b 7) (past.getLastD 0) - s.axMeasured x else a.dev
  let warn := ok && decide (le b 20 4 * 65536 < dev.natAbs)
  let n := if ok && decide (le b 24 4 * 65536 < dev.natAbs) then a.devN + 1 else 0
  let watch := axFlag b 4 && axLocal b && (a.st == .standstill || a.st == .moving || a.st == .stopping)
  let m := if watch && s.axLoadStall x then a.stallN + 1 else 0
  let s1 := s.setAxis x { a with
    past := past, dev := dev, devWarn := if ok then warn else a.devWarn, devN := if homing then a.devN else n
    stallN := if homing then a.stallN else m }
  let s2 := s1.raiseIf (warn && !a.devWarn) EV_AXIS_DEVIATION (uAxis x) [wrapN 64 dev]
  if !homing && ((ok && n == byteAt b 6) || (watch && m == byteAt b 14)) then s2.axLost x else s2

/-- Microstep bank at an update (R191): `turn` is the electrical period before it. After the swap the catch-up comes first; its end starts the
transfer of the new background bank (bankCatchupDone). -/
def State.axBank (s : State) (x : Nat) (turn : Int) : State :=
  let b := s.axRec x
  let a := s.axis x
  if !a.table.sealed || !axLocal b || !(a.rest || axPeriod b a != turn) then s
  else if a.table.finished && a.xfer == 0 then
    let s1 := s.setAxis x { a with table := a.table.swap }
    s1.finishAll (s1.flightsOn 0x080B (uAxis x)) ST_OK { commit := some s.lmt }
  else
    (s.setAxis x { a with table := { a.table with deferred := true } }).raiseIf (!a.table.deferred) EV_BANK_DEFERRED (uAxis x)
      [1, x, mkBit a.table.undurable 0 + mkBit a.table.catchup 1 + mkBit (a.xfer != 0) 2]

/-- SCALE of an axis (R204, R205). -/
def axScale (b : Bytes) (a : Axis) : Nat := match a.st with
  | .disabled => 0
  | .standstill => if a.hold then byteAt b 11 else byteAt b 10
  | .moving => byteAt b 10
  | .homing => if a.home == .backoff then byteAt b 10 else byteAt b 12
  | .stopping => byteAt b 10
  | .fault => if a.cut then 0 else byteAt b 10

def axCode : AxisState → Nat
  | .disabled => 0
  | .standstill => 1
  | .moving => 2
  | .homing => 3
  | .stopping => 4
  | .fault => 5

/-- STATE word of R212. -/
def axStateWord (a : Axis) (torqueOff : Bool) : Nat :=
  axCode a.st + mkBit a.unhomed 8 + mkBit a.devWarn 9 + mkBit a.hold 10 + mkBit torqueOff 11 + mkBit (a.table.sel == 1) 12 + mkBit a.table.sealed 13
    + mkBit a.steering 14 + mkBit a.restoring 15 + 65536 * (if a.code % 256 = 0 ∧ a.reqBad then 0x20 else a.code % 256)

/-- The axis points (R212). -/
def State.axPoints (s : State) (x : Nat) : State :=
  let b := s.axRec x
  let a := s.axis x
  let p := axPt s x
  let s1 := s.wr64 (p 0) (wrapN 64 a.pos)
  let s2 := if (axEnc b).isSome then s1.wr64 (p 2) (wrapN 64 (s.axMeasured x))
    else if axLocal b then s1 else s1.wr64 (p 2) (s.rd64 (axRemote b 3))
  let s3 := match a.queue.head? with
    | some m => s2.wr64 (p 4) (wrapN 64 m.target)
    | none => s2
  let w (s : State) (i : Nat) (v : W32) : State := s.wr (p i) v
  let s4 := w (w (w s3 6 (f32OfRat (a.v * 50000) 281474976710656)) 7 (f32OfRat (a.a * 2500000000) 281474976710656)) 8 (BitVec.ofNat 32 (axStateWord a (s.axTorqueOff x)))
  let s5 := w (w (w s4 9 (w32 (sat32 (asr a.dev 8)))) 10 (BitVec.ofNat 32 (a.queue.length - 1))) 11 (BitVec.ofNat 32 (if axLocal b then a.load else 255))
  w (w (w s5 12 (BitVec.ofNat 32 a.scale)) 13 a.lost) 14 a.linkErr

/-- What an axis does first at an update: after a restart, p of an axis with an SSI encoder is set to the SSI position; at an admission and after a
restart FLAGS[3] enables it (R210, R211). -/
def State.axFirst (s : State) (x : Nat) : State :=
  let b := s.axRec x
  let a := s.axis x
  let ready := a.resync && (axEnc b).any (fun e => !(s.enc e).back)
  let s1 := s.setAxis x { a with fresh := false, resync := a.resync && !ready, p := if ready then s.axMeasured x * 4294967296 else a.p }
  if a.fresh && axFlag b 3 && a.st == .disabled && !s.isDis (uAxis x) then s1.axOn x else s1

/-- One update of one axis. -/
def State.axUpdate (s0 : State) (x : Nat) : State :=
  let b := s0.axRec x
  let s2 := s0.axFirst x
  let s3 := s2.axRequest x
  let s4 := (s3.axPending x).foldl (fun s f => s.axApply x f) s3
  let s5 := s4.axFaults x
  let turn := axPeriod b (s5.axis x)
  let s6 := ((s5.axProfile x).axCompare x).axBank x turn
  let s7 := if (s6.axis x).st == .standstill then s6.finishAll ((s6.flightsOn 0x0801 (uAxis x)).filter (fun f => f.mark == 1)) ST_OK { commit := some s6.lmt } else s6
  let a := s7.axis x
  (s7.setAxis x { a with scale := axScale b a, addr := axAddr b a }).axPoints x

/-! Drive links (R186 to R191). -/

/-- Axes of a link with a record, by channel. -/
def State.linkAxes (s : State) (l : Nat) : List Nat := [4 * l, 4 * l + 1, 4 * l + 2, 4 * l + 3].filter (fun x => (s.rec? 0x0E x).isSome)

/-- SLOT of a channel; BRAKE_RELEASE is open (log 26). -/
def State.slotBytes (s : State) (x brake : Nat) : Bytes :=
  match s.rec? 0x0E x with
  | none => toLe 0 4
  | some _ =>
    let a := s.axis x
    toLe (a.addr + mkBit (a.st != .disabled && !a.cut) 10 + mkBit (a.table.sel == 1) 11 + mkBit (brake.testBit x) 12 + mkBit a.clear 13 + 65536 * a.scale) 4

/-- The channel whose MGMT write goes out next and its first entry (R191). -/
def State.mgmtNext (s : State) (l : Nat) : Option (Nat × Nat) := match (s.mot.links.getD l {}).mgmt with
  | some m => some m
  | none => ((s.linkAxes l).find? (fun x => (s.axis x).xfer != 0)).map (fun x => (x % 4, 3 * (342 - (s.axis x).xfer)))

/-- MGMT of a table write, or none (R187, R191). -/
def State.mgmtBytes (s : State) (l : Nat) (m : Option (Nat × Nat)) : Bytes := match m with
  | none => List.replicate 18 0
  | some (c, i) =>
    let a := s.axis (4 * l + c)
    let e (k : Nat) : Bytes := if i + k < 1024 then tableEntry a.table.bg (i + k) else toLe 0 4
    toLe 1 1 ++ toLe (c + 4 * (1 - a.table.sel)) 1 ++ toLe i 2 ++ e 0 ++ e 1 ++ e 2 ++ toLe 0 2

/-- The downstream frame of an update; a late engine repeats its slot values (R186, R187, R209). -/
def State.linkFrame (s : State) (l brake : Nat) (late : Bool) : State :=
  let k := s.mot.links.getD l {}
  let m := if late then none else s.mgmtNext l
  let slots := if late ∧ k.frame.length = 38 then (k.frame.drop 2).take 16 else nums ([0, 1, 2, 3].flatMap (fun c => s.slotBytes (4 * l + c) brake))
  let body : Bytes := toLe (k.seq + mkBit s.drives 4) 1 ++ toLe 0 1 ++ slots.map (BitVec.ofNat 8) ++ s.mgmtBytes l m
  let c := crc16 body
  let k1 : DriveLink := { k with seq := (k.seq + 1) % 16, mgmt := if late then k.mgmt else m, frame := nums body ++ [c / 256, c % 256] }
  let s1 := { s with mot := { s.mot with links := s.mot.links.set l k1 } }
  if late then s1 else (s1.linkAxes l).foldl (fun s x => s.setAxis x { s.axis x with clear := false }) s1

/-- An upstream frame is missing or failed its CRC: LINK_ERR of each axis, and the run of R189. -/
def State.linkBad (s : State) (l : Nat) : State :=
  let k := s.mot.links.getD l {}
  let s1 := { s with mot := { s.mot with links := s.mot.links.set l { k with bad := k.bad + 1, got := true } } }
  (s1.linkAxes l).foldl (fun s x => s.setAxis x { s.axis x with linkErr := (s.axis x).linkErr + 1 }) s1

/-- The engine takes the upstream data of the last update (R186, R189). -/
def State.linkTake (s : State) (l : Nat) : State :=
  let s1 := if (s.mot.links.getD l {}).got || (s.mot.links.getD l {}).frame.isEmpty then s else s.linkBad l
  { s1 with mot := { s1.mot with links := s1.mot.links.set l { s1.mot.links.getD l {} with got := false } } }

/-- Answer to a MGMT write (R188, R191): RESULT 0 counts it done; any other is repeated. -/
def State.linkAnswer (s : State) (l : Nat) (fr : Bytes) : State :=
  let k := s.mot.links.getD l {}
  match k.mgmt with
  | none => s
  | some (c, i) =>
    let x := 4 * l + c
    let a := s.axis x
    if byteAt fr 18 ≠ 1 ∨ byteAt fr 19 % 8 ≠ c + 4 * (1 - a.table.sel) ∨ le fr 20 2 ≠ i then s
    else
      let s1 := { s with mot := { s.mot with links := s.mot.links.set l { k with mgmt := none } } }
      if byteAt fr 22 = 0 ∧ 0 < a.xfer ∧ i = 3 * (342 - a.xfer) then s1.setAxis x { a with xfer := a.xfer - 1 } else s1

/-- DRIVE_LINK_UPSTREAM: a frame arrives for the next update; `framed` where both its framing codes came (R186, R188, R189). -/
def driveLinkUpstream (l : Nat) (framed : Bool) (fr : Bytes) (s : State) : State :=
  if 8 ≤ l then s
  else if !framed || fr.length != 38 || crc16 (fr.take 36) != be fr 36 2 then s.linkBad l
  else
    let k := s.mot.links.getD l {}
    let s1 := { s with mot := { s.mot with links := s.mot.links.set l { k with bad := 0, got := true } } }
    let s2 := (s1.linkAxes l).foldl (fun s x =>
      let v := le fr (2 + 4 * (x % 4)) 4
      s.setAxis x { s.axis x with load := v % 256, slot := v, tempWarn := v.testBit 8 }) s1
    s2.linkAnswer l fr

/-! The engines. -/

/-- Axes with a record, ascending (R183). -/
def State.axesAll (s : State) : List Nat := (List.range 64).filter (fun x => (s.rec? 0x0E x).isSome)

/-- Links with an axis. -/
def State.linksAll (s : State) : List Nat := (List.range 8).filter (fun l => !(s.linkAxes l).isEmpty)

/-- Overruns of the engines; the fourth in a row is a module fault (R209, R472). -/
def State.engineCount (s : State) (late : List Nat) : State :=
  (List.range 8).foldl (fun s e =>
    let ovr := late.contains e && (s.axesAll).any (fun x => x / 8 == e)
    let k := if ovr then s.mot.overruns.getD e 0 + 1 else 0
    let s1 := { s with mot := { s.mot with overruns := s.mot.overruns.put 0 e k } }
    let s2 := s1.raiseIf ovr EV_AXIS_OVERRUN 0 [e]
    if 4 ≤ k then s2.faultHalt 7 e else s2) s

/-- MOTION_UPDATE: update k of every axis, `late` the engines whose frame was due first (R183 to R209). -/
def motionUpdate (late : List Nat) (s : State) : State :=
  if !s.enginesRun || s.lmt % 20000 != 0 then s
  else
    let s1 := (s.linksAll).foldl State.linkTake s
    let s2 := (s1.axesAll).foldl State.axUpdate { s1 with mot := { s1.mot with update := s1.lmt / 20000 } }
    let brake := s2.freeVal
    let s3 := (s2.linksAll).foldl (fun s l => s.linkFrame l brake (late.contains (l / 2))) s2
    s3.useFree.engineCount late

/-- AXIS_HOLD_DELAY_EXPIRY: HOLD_SCALE is in force (R204). -/
def axisHoldDelay (x : Nat) (s : State) : State :=
  let a := s.axis x
  if a.st == .standstill && decide (a.restAt + le (s.axRec x) 16 2 * 1000000 ≤ s.lmt) && (s.rec? 0x0E x).isSome then s.setAxis x { a with hold := true } else s

/-- AXIS_QUICK_STOP_REQUEST of a safety function: AXIS_STOP with the quick ramp; moves are refused until its reset (R208). -/
def axisQuickStop (x : Nat) (s : State) : State :=
  if (s.rec? 0x0E x).isNone then s
  else
    let a := s.axis x
    let s1 := s.setAxis x { a with safeStop := true }
    match a.st with
    | .moving => ((s1.dropMoves x ST_ABORTED).axStop x true false)
    | .homing => ((s1.homeDone x ST_ABORTED).axStop x true false)
    | .stopping => s1.setAxis x { s1.axis x with quick := true }
    | _ => s1

/-- Cyclic outputs of the remote axes of a group, written at its commit (R192); `apply` the cycle's APPLY_AT on LMT. -/
def State.remoteAxes (s : State) (k apply : Nat) : State :=
  (s.axesAll.filter (fun x => decide (32 ≤ x))).foldl (fun s x =>
    let b := s.axRec x
    let sp := axRemote b 0
    match s.pointOf sp with
    | none => s
    | some p =>
      if p.gkey != k then s
      else
        let a := s.axis x
        let z := a.ahead b s.lmt (min 1000 (apply / 20000 - s.mot.update))
        let s1 := (s.wr64 sp (wrapN 64 z.pos)).wr (axRemote b 1) (f32OfRat (z.v * 50000) 281474976710656)
        let s2 := s1.wr (axRemote b 2) (BitVec.ofNat 32 (mkBit (a.st != .disabled && !a.cut) 0 + mkBit a.clear 1))
        s2.setAxis x { s2.axis x with clear := false }) s

/-! Commands. -/

/-- Gate of an axis command. -/
def axGate (op : Nat) (h : CmdHdr) (s : State) (bad : List (Option Nat)) : Gate :=
  unitGate h s 5 0x0E bad (s.axRefuses h.inst op)

/-- What AxisEnable checks before its rule runs (R427, R429). -/
def gateAxisEnable (h : CmdHdr) (s : State) : Gate :=
  axGate 0x0801 h s [noBuf h, zeroTail h 0]

/-- AxisEnable waits among the commands in flight; its rule acts at the instant it names. -/
def goAxisEnable (_ : Flight) (s : State) : State :=
  s

/-- AXIS_ENABLE (R206). -/
def runAxisEnable (h : CmdHdr) (s : State) : State := start 0x0801 (gateAxisEnable h s) goAxisEnable h s
/-- What AxisDisable checks before its rule runs (R427, R429). -/
def gateAxisDisable (h : CmdHdr) (s : State) : Gate :=
  axGate 0x0802 h s [noBuf h, zeroTail h 0]

/-- AxisDisable waits among the commands in flight; its rule acts at the instant it names. -/
def goAxisDisable (_ : Flight) (s : State) : State :=
  s

/-- AXIS_DISABLE (R206, R207). -/
def runAxisDisable (h : CmdHdr) (s : State) : State := start 0x0802 (gateAxisDisable h s) goAxisDisable h s

/-- Ranges of a move's target and limits (R194). -/
def moveBad (h : CmdHdr) (s : State) : List (Option Nat) :=
  let b := s.axRec h.inst
  let a := s.axis h.inst
  [noBuf h, needP 0 (decide (leS b 128 8 ≤ h.pS 0 8 ∧ h.pS 0 8 ≤ leS b 136 8))]
    ++ (List.range 4).map (fun i => needP (8 + 8 * i) (decide (h.p (8 + 8 * i) 8 ≤ axMaxRaw b a i))) ++ [zeroTail h 40]

/-- What AxisGoto checks before its rule runs (R427, R429). -/
def gateAxisGoto (h : CmdHdr) (s : State) : Gate :=
  axGate 0x0803 h s (moveBad h s)

/-- AxisGoto waits among the commands in flight; its rule acts at the instant it names. -/
def goAxisGoto (_ : Flight) (s : State) : State :=
  s

/-- AXIS_GOTO (R194). -/
def runAxisGoto (h : CmdHdr) (s : State) : State := start 0x0803 (gateAxisGoto h s) goAxisGoto h s
/-- What AxisQueue checks before its rule runs (R427, R429). -/
def gateAxisQueue (h : CmdHdr) (s : State) : Gate :=
  axGate 0x0804 h s (moveBad h s)

/-- AxisQueue waits among the commands in flight; its rule acts at the instant it names. -/
def goAxisQueue (_ : Flight) (s : State) : State :=
  s

/-- AXIS_QUEUE (R199). -/
def runAxisQueue (h : CmdHdr) (s : State) : State := start 0x0804 (gateAxisQueue h s) goAxisQueue h s
/-- What AxisStop checks before its rule runs (R427, R429). -/
def gateAxisStop (h : CmdHdr) (s : State) : Gate :=
  axGate 0x0805 h s [noBuf h, needP 0 (decide (h.p 0 1 ≤ 1)), zeroTail h 1]

/-- AxisStop waits among the commands in flight; its rule acts at the instant it names. -/
def goAxisStop (_ : Flight) (s : State) : State :=
  s

/-- AXIS_STOP (R201). -/
def runAxisStop (h : CmdHdr) (s : State) : State := start 0x0805 (gateAxisStop h s) goAxisStop h s
/-- What AxisHome checks before its rule runs (R427, R429). -/
def gateAxisHome (h : CmdHdr) (s : State) : Gate :=
  axGate 0x0806 h s [noBuf h, zeroTail h 0]

/-- AxisHome waits among the commands in flight; its rule acts at the instant it names. -/
def goAxisHome (_ : Flight) (s : State) : State :=
  s

/-- AXIS_HOME (R202). -/
def runAxisHome (h : CmdHdr) (s : State) : State := start 0x0806 (gateAxisHome h s) goAxisHome h s
/-- What AxisSetPos checks before its rule runs (R427, R429). -/
def gateAxisSetPos (h : CmdHdr) (s : State) : Gate :=
  axGate 0x0807 h s [noBuf h, zeroTail h 8]

/-- Effect of AxisSetPos. -/
def goAxisSetPos (f : Flight) (s : State) : State :=
  let h := f.h
  (s.axRedefine h.inst (h.pS 0 8)).ok f

/-- AXIS_SET_POS: p redefined at fetch (R202). -/
def runAxisSetPos (h : CmdHdr) (s : State) : State := start 0x0807 (gateAxisSetPos h s) goAxisSetPos h s
/-- What AxisLimits checks before its rule runs (R427, R429). -/
def gateAxisLimits (h : CmdHdr) (s : State) : Gate :=
  let nz (o : Nat) (cv : Nat → Nat) := needP o (decide (h.p o 8 = 0 ∨ cv (h.p o 8) ≠ 0))
  axGate 0x0808 h s [noBuf h, nz 0 cvV, nz 8 cvA, nz 16 cvA, nz 24 cvJ,
    needP 0 (decide (32 ≤ h.inst ∨ h.p 0 8 ≤ 12750000 * 4294967296)), zeroTail h 32]

/-- AxisLimits waits among the commands in flight; its rule acts at the instant it names. -/
def goAxisLimits (_ : Flight) (s : State) : State :=
  s

/-- AXIS_LIMITS (R185, R196). -/
def runAxisLimits (h : CmdHdr) (s : State) : State := start 0x0808 (gateAxisLimits h s) goAxisLimits h s
/-- What AxisClearFault checks before its rule runs (R427, R429). -/
def gateAxisClearFault (h : CmdHdr) (s : State) : Gate :=
  axGate 0x0809 h s [noBuf h, zeroTail h 0]

/-- AxisClearFault waits among the commands in flight; its rule acts at the instant it names. -/
def goAxisClearFault (_ : Flight) (s : State) : State :=
  s

/-- AXIS_CLEAR_FAULT (R205). -/
def runAxisClearFault (h : CmdHdr) (s : State) : State := start 0x0809 (gateAxisClearFault h s) goAxisClearFault h s

/-- A bank with entries written from one on; a bank never written is the sine table first (R190). -/
def tableWrite (bank : Bytes) (first : Nat) (x : Bytes) : Bytes :=
  let full := if bank.isEmpty then (List.range 1024).flatMap sineEntry else bank
  full.take (4 * first) ++ x ++ full.drop (4 * first + x.length)

/-- What AxisTableWrite checks before its rule runs (R427, R429). -/
def gateAxisTableWrite (h : CmdHdr) (s : State) : Gate :=
  let first := h.p 12 2
  let n := h.p 14 2
  { axGate 0x080A h s [needBuf h (4 * n), needP 12 (decide (first < 1024)), needP 14 (decide (1 ≤ n ∧ n ≤ 1024 ∧ first + n ≤ 1024)), zeroTail h 16,
      if 32 ≤ h.inst then some 8 else none] with refused := s.axRefuses h.inst 0x080A || (s.axis h.inst).table.sealed }

/-- Effect of AxisTableWrite. -/
def goAxisTableWrite (f : Flight) (s : State) : State :=
  let h := f.h
  let first := h.p 12 2
  let n := h.p 14 2
  let a := s.axis h.inst; s.setAxis h.inst { a with table := a.table.write (tableWrite a.table.bg first (slice h.data 0 (4 * n))) }

/-- AXIS_TABLE_WRITE: entries of the background bank; ST_OK when durable (R92, R191). -/
def runAxisTableWrite (h : CmdHdr) (s : State) : State := start 0x080A (gateAxisTableWrite h s) goAxisTableWrite h s

/-- What AxisTableSeal checks before its rule runs (R427, R429). -/
def gateAxisTableSeal (h : CmdHdr) (s : State) : Gate :=
  { axGate 0x080B h s [noBuf h, zeroTail h 0, if 32 ≤ h.inst then some 8 else none] with
      refused := s.axRefuses h.inst 0x080B || (s.axis h.inst).table.sealed }

/-- Effect of AxisTableSeal. -/
def goAxisTableSeal (f : Flight) (s : State) : State :=
  let h := f.h
  let a := s.axis h.inst; s.setAxis h.inst { a with table := { a.table with sealed := true, deferred := false }, xfer := 342 }

/-- AXIS_TABLE_SEAL: the transfer to the stage begins; ST_OK at the swap (R191). -/
def runAxisTableSeal (h : CmdHdr) (s : State) : State := start 0x080B (gateAxisTableSeal h s) goAxisTableSeal h s

end Sys2Proof.Machine
end

