-- ==== Sys2Proof/Machine/FitCalc.lean ====
section
/-! DEFINITION. Coefficients of race segments: from samples, through a gear, by the clock and by a virtual master's profile (R43, R44, R48, R53, R55, R56). -/

namespace Sys2Proof.Machine

/-- C0 to C3 of a segment, before their bounds (R57). -/
abbrev Coef := Int × Int × Int × Int

/-- Rounds a quotient to the nearest integer, halves up. -/
def roundDiv (a : Int) (b : Nat) : Int := (2 * a + b) / (2 * b : Int)

/-- The largest magnitudes of C1, C2 and C3 (R48). -/
def Coef.bounded (c : Coef) : Coef :=
  (c.1, satI (-9223372036854775807) 9223372036854775807 c.2.1, satI (-9223372036854775807) 9223372036854775807 c.2.2.1,
   satI (-1152921504606846976) 1152921504606846976 c.2.2.2)

/-! Samples (R53, R56). -/

/-- A parabola in Newton's form through samples: position Q64.32 at `t` is p0 + s (t - t0) + q (t - t0)(t - t1), s and q as quotients. -/
structure Curve where
  t0 : Int
  t1 : Int
  p0 : Int
  sn : Int
  sd : Int
  qn : Int
  qd : Int

def Curve.at' (c : Curve) (t : Int) : Int :=
  c.p0 * 4294967296 + c.sn * 4294967296 * (t - c.t0) / c.sd + c.qn * 4294967296 * (t - c.t0) * (t - c.t1) / c.qd

/-- The curve as coefficients at a domain time. -/
def Curve.coef (c : Curve) (t : Int) : Coef :=
  (c.at' t / 4294967296,
   c.sn * 281474976710656 / c.sd + c.qn * 281474976710656 * ((t - c.t0) + (t - c.t1)) / c.qd,
   c.qn * 4722366482869645213696 / c.qd, 0)

/-- Every sample lies within one tick of the curve. -/
def Curve.holds (c : Curve) (sm : List (Nat × Nat)) : Bool :=
  sm.all (fun x => decide ((diff64 x.2 (wrapN 64 c.p0) * 4294967296 - (c.at' x.1 - c.p0 * 4294967296)).natAbs ≤ 4294967296))

/-- The straight line through the first and the last sample, and the parabola through a middle one too. -/
def sampleLine (a z : Nat × Nat) : Curve :=
  { t0 := a.1, t1 := a.1, p0 := a.2, sn := diff64 z.2 a.2, sd := max 1 ((z.1 : Int) - a.1), qn := 0, qd := 1 }

def sampleParabola (a m z : Nat × Nat) : Curve :=
  let d1 : Int := max 1 ((m.1 : Int) - a.1)
  let d2 : Int := max 1 ((z.1 : Int) - m.1)
  { t0 := a.1, t1 := m.1, p0 := a.2, sn := diff64 m.2 a.2, sd := d1, qn := diff64 z.2 m.2 * d1 - diff64 m.2 a.2 * d2, qd := d1 * d2 * (d1 + d2) }

/-- The speed of samples on a line is at most 5 m/s (R56); SCALE in nm per tick, Q32.32. -/
def slowEnough (scale : Nat) (c : Curve) : Bool := decide ((c.sn * scale).natAbs ≤ 5 * 4294967296 * c.sd.natAbs)

/-- The fitted value stays within `nm` nanometres of a curve over the interval in which the segment is newest. -/
def fitWithin (c : Curve) (nm scale ts p : Nat) (k : Coef) : Bool :=
  let r := c.coef ts
  let e0 := (k.1 * 4294967296 - c.at' ts).natAbs
  let e1 := (k.2.1 - r.2.1).natAbs * p / 65536
  let e2 := (k.2.2.1 - r.2.2.1).natAbs * p * p / 1099511627776
  let e3 := k.2.2.2.natAbs * p * p * p / 18446744073709551616
  decide ((e0 + e1 + e2 + e3) * scale ≤ nm * 18446744073709551616)

/-- The accuracy that R56 guarantees: on samples of constant speed up to 5 m/s the fit predicts within 0.3 um, on samples of constant
acceleration within 1 um, with SEG_PERIOD up to 125 us and LEAD up to 300 us; a fit that does not is not used, the curve is (log 202). -/
def accurate (sm : List (Nat × Nat)) (scale ts m lead : Nat) (k : Coef) : Coef :=
  match sm.head?, sm[sm.length / 2]?, sm.getLast? with
  | some a, some h, some z =>
    if sm.length < 3 ∨ 2 < m ∨ 300 < lead then k
    else
      let l := sampleLine a z
      let q := sampleParabola a h z
      if l.holds sm && slowEnough scale l then (if fitWithin l 300 scale ts (m * 62500) k then k else l.coef ts)
      else if q.holds sm && slowEnough scale q then (if fitWithin q 1000 scale ts (m * 62500) k then k else q.coef ts)
      else k
  | _, _, _ => k

/-! Gears, time and virtual masters. -/

/-- A segment's own cubic taken at a domain time. -/
def segAt (g : Segment) (ts : Nat) : Coef :=
  let t : Int := (ts : Int) - g.ts
  ((segPos g t / 4294967296 : Nat), g.c1 + asr (2 * g.c2 * t) 24 + asr (3 * g.c3 * t * t) 48, g.c2 + asr (3 * g.c3 * t) 24, g.c3)

/-- A parent's coefficients through the gear (R43): C0 by the formula, exactly; the rest scaled. -/
def gearFit (b : Bytes) (p0 q0 : W64) (c : Coef) : Coef :=
  let k (x : Int) : Int := roundDiv (x * leS b 32 4) (le b 36 4)
  ((gearPos b (BitVec.ofInt 64 c.1) p0 q0).toNat, k c.2.1, k c.2.2.1, k c.2.2.2)

/-- Position of a time race at a domain time from its start (R44). -/
def timePos (r : Race) (ts : Nat) : Nat := r.tB + (ts - r.tFrom) * r.rate / 1000000000

/-- Time race: C0 by R44, C1 the rate. -/
def fitTime (r : Race) (ts : Nat) : Coef := (timePos r ts, roundDiv (r.rate * 281474976710656) 1000000000, 0, 0)

/-- Ticks of the planned position in vmF's unit: 6 * 16,000^3 to the tick. -/
def vmTick : Int := 24576000000000

/-- VM_ACC, VM_JERK and RATE as the profile may use them: no coefficient beyond its largest magnitude (R44, R48). -/
def Race.vmLim (r : Race) : AxLim :=
  { v := min r.rate 32767999999999, a := min r.vmAcc 3906249999999999, d := min r.vmAcc 3906249999999999, j := min r.vmJerk 87311491370201110 }

/-- Speed of the profile once its acceleration is brought to 0 from the next segment's end on, over segments of `m` x 62.5 us. -/
def vmEnd (m : Int) (jmax v a : Int) : Int := v + m * a + glide (2 * m * a) (2 * m * m * jmax)

/-- Jerk over the next segment: the greatest that takes the speed towards RATE within VM_ACC and VM_JERK and does not pass it (R44). -/
def vmJerkNow (r : Race) : Int :=
  let L := r.vmLim
  let m : Int := r.segPeriod
  let u := L.v * 512000000
  let up (u v a : Int) : Int := greatest (fun j =>
    decide (a + j * m ≤ L.a * 16000) && decide (vmEnd m L.j (v + 2 * m * a + j * m * m) (a + j * m) ≤ u)) 70 (-L.j) L.j
  if vmEnd m L.j r.vmV r.vmA ≤ u then up u r.vmV r.vmA else -(up (-u) (-r.vmV) (-r.vmA))

/-- Virtual master: the profile's position, speed, acceleration and jerk as coefficients (R44). -/
def fitVm (r : Race) (j : Int) : Coef :=
  (r.pos.toNat, roundDiv (r.vmV * 281474976710656) 512000000000000000, roundDiv (r.vmA * 4722366482869645213696) 32000000000000000000000,
   roundDiv (j * 79228162514264337593543950336) 6000000000000000000000000000)

/-- The profile one segment period later, exactly (R44). -/
def Race.vmNext (r : Race) (j : Int) : Race :=
  let m : Int := r.segPeriod
  let x : Int := r.vmF + 3 * m * r.vmV + 3 * m * m * r.vmA + j * m * m * m
  { r with
    vmA := r.vmA + j * m
    vmV := r.vmV + 2 * m * r.vmA + j * m * m
    pos := r.pos + BitVec.ofInt 64 (x / vmTick)
    vmF := (x % vmTick).toNat }

/-! Continuity (R55). -/

/-- C0 bound to within STEP_MAX of the previous segment's value (R55); answers whether the correction stayed at the bound.
Where the previous value has a fraction, the lowest whole tick within STEP_MAX below it is STEP_MAX - 1 below its floor, and a correction
there counts as at STEP_MAX (DESIGN CHOICE, log 203). -/
def boundStep (prev : Option Nat) (stepMax : Nat) (c0 : Int) : Int × Bool :=
  match prev with
  | none => (c0, false)
  | some q =>
    let d := sgn 64 (wrapN 64 (c0 - (q / 4294967296 : Nat)))
    let up : Int := stepMax
    let dn : Int := if q % 4294967296 = 0 then -(stepMax : Int) else 1 - (stepMax : Int)
    if up ≤ d then ((q / 4294967296 : Nat) + up, true)
    else if d ≤ dn then ((q / 4294967296 : Nat) + dn, true)
    else (c0, false)

end Sys2Proof.Machine
end

