-- ==== Sys2Proof/Machine/Fit.lean ====
section
/-! DEFINITION. SEGMENT_FIT: fitting a segment of a race and searching it for the crossings of its cogs (R44, R45, R47, R50, R53, R55, R59, R75 to R78, R80). -/

namespace Sys2Proof.Machine

/-! Race settings that change at a segment start. -/

/-- SEG_PERIOD, LEAD, PORTS and STEP_MAX of the record come into force at the first segment start that R47 allows. -/
def State.fitSettings (s : State) (n ts : Nat) : State :=
  let b := s.raceRec n
  let r := s.race n
  let p := le b 4 2
  let d := s.dom (raceDom b)
  if ts % (p * 62500) = 0 ∧ s.cfg.admitAt ≤ lmtOf d (ts - le b 6 2 * 1000 - 20000) then
    s.setRace n { r with segPeriod := p, lead := le b 6 2, ports := byteAt b 8, stepMax := le b 10 2 }
  else s

/-- A changed RATE, VM_ACC, VM_JERK or FLAGS[0] of the record comes into force at the first segment not yet fitted, as the commands of R45 do;
a changed counting direction leaves the position where it is (DESIGN CHOICE, log 204). -/
def State.fitRecord (s : State) (n ts : Nat) : State :=
  let b := s.raceRec n
  let r := s.race n
  let count := (s.enc (raceSrc b)).count
  let rate := taken true (le b 48 8) r.recRate r.rate
  s.setRace n { r with
    rate := rate, vmAcc := taken true (le b 56 8) r.recAcc r.vmAcc, vmJerk := taken true (le b 64 8) r.recJerk r.vmJerk
    recRate := le b 48 8, recAcc := le b 56 8, recJerk := le b 64 8
    tB := if rate = r.rate then r.tB else timePos r ts % 18446744073709551616
    tFrom := if rate = r.rate then r.tFrom else ts
    inv := raceInvert b
    base := if raceInvert b = r.inv then r.base else encBase (raceInvert b) (r.encPos count) count }

/-- The latest instant, in domain time, from which a fit takes samples (R53). -/
def Race.cut (r : Race) (ts : Nat) : Nat := ts - r.lead * 1000 - 20000

/-- Samples an encoder race is fitted from, as (domain time, position): the 1,024 us up to `cut` (R53). -/
def State.fitSamples (s : State) (n cut : Nat) : List (Nat × Nat) :=
  let b := s.raceRec n
  let d := s.dom (raceDom b)
  (((s.enc (raceSrc b)).samples).map (fun x => (domTime d x.1, ((s.race n).encPos (BitVec.ofNat 64 x.2)).toNat))).filter
    (fun x => decide (x.1 ≤ cut ∧ cut ≤ x.1 + 1024000))

/-- What a race's source gives for a segment that starts at `ts`: an encoder its samples, a gear its parent, a time race its formula, a remote or
virtual master parent its segment (R43, R44, R46, R53). -/
def State.fitOf (s : State) : Nat → Nat → Nat → Nat → Coef
  | 0, n, _, _ => ((s.race n).pos.toNat, 0, 0, 0)
  | f + 1, n, ts, cut =>
    let b := s.raceRec n
    let r := s.race n
    match raceSource b with
    | 0 =>
      let sm := s.fitSamples n cut
      accurate sm (raceScale b) ts r.segPeriod r.lead (Config.raceFit n sm ts)
    | 1 => gearFit b r.p0 r.q0 (s.fitOf f (raceSrc b) ts cut)
    | 4 => fitTime r ts
    | _ => match (chooseSeg r.live ts).orElse (fun _ => r.segs.find? (fun g => !g.lost)) with
      | some g => segAt g ts
      | none => (r.pos.toNat, 0, 0, 0)

/-- FIT_ERR of an encoder race or of one derived from it, µm (R71). -/
def State.fitErrOf (s : State) : Nat → Nat → Nat → Nat → W32
  | 0, _, _, _ => 0
  | f + 1, n, ts, cut =>
    let b := s.raceRec n
    match raceSource b with
    | 0 => Config.fitResidual n (s.fitSamples n cut) ts
    | 1 => s.fitErrOf f (raceSrc b) ts cut
    | _ => 0

/-- The position that a RACE_PRESET still waiting on the race gives (R52). -/
def State.presetOf (s : State) (n : Nat) : Option W64 := ((s.flightsOn 0x0304 (uRace n)).getLast?).map (fun f => BitVec.ofNat 64 (f.h.p 0 8))

/-- Position of a race at a segment start, before a preset moves it: as its source gives it, or as HOLDOVER holds it. -/
def State.posAt (s : State) (n ts : Nat) : W64 :=
  let r := s.race n
  if r.st == .holdover then BitVec.ofNat 64 (match r.segs.find? (fun g => !g.lost) with
    | some g => segPos g ((ts : Int) - g.ts) / 4294967296
    | none => r.pos.toNat)
  else BitVec.ofInt 64 (s.fitOf 4 n ts (r.cut ts)).1

/-- The race's position becomes `x` at the segment start: what it is counted from moves by the difference, and the segments of the races derived from
it carry DISCONTINUITY too (R52; log 205). -/
def State.presetTo (s : State) (n ts : Nat) (x : W64) : State :=
  let r := s.race n
  let d := x - s.posAt n ts
  let s1 := s.setRace n { r with pos := x, tB := x.toNat, tFrom := ts, vmF := 0, base := r.base + d, q0 := r.q0 + d }
  (s.raceTree 3 n).foldl (fun s m => s.setRace m { s.race m with discNext := true }) s1

/-- Race commands whose change is fitted with this segment (R45, R52): each completes ST_OK. -/
def State.fitCommands (s : State) (n ts : Nat) : State :=
  let u := uRace n
  let s1 := (s.flightsOn 0x0301 u).foldl (fun s f =>
    let r := s.race n
    let v (i old : Nat) := if f.h.p i 8 = 0 then old else f.h.p i 8
    (s.setRace n { r with rate := v 0 r.rate, vmAcc := v 8 r.vmAcc, vmJerk := v 16 r.vmJerk }).ok f) s
  let s2 := (s1.flightsOn 0x0302 u).foldl (fun s f =>
    let r := s.race n
    (s.setRace n { r with rate := f.h.p 0 8, tB := timePos r ts % 18446744073709551616, tFrom := ts }).ok f) s1
  (s2.flightsOn 0x0304 u).foldl (fun s f => ((s.presetTo n ts (BitVec.ofNat 64 (f.h.p 0 8))).clearUnref n).ok f) s2

/-- EV_RACE_STEP_LIMIT: once after 8 segments at STEP_MAX, cleared at the first below (R55). -/
def State.stepLimit (s : State) (n : Nat) (atMax : Bool) : State :=
  let r := s.race n
  if atMax then
    let s1 := s.setRace n { r with stepRun := r.stepRun + 1, stepOpen := r.stepOpen || decide (8 ≤ r.stepRun + 1) }
    s1.raiseIf (!r.stepOpen && decide (8 ≤ r.stepRun + 1)) EV_RACE_STEP_LIMIT (uRace n)
  else
    let s1 := s.setRace n { r with stepRun := 0, stepOpen := false }
    if r.stepOpen then s1.raise EV_RACE_STEP_LIMIT (uRace n) [] 0 true else s1

/-- The speed of a segment exceeds 0.1 percent of the race's limit (R52). -/
def State.segFast (s : State) (n : Nat) (c1 : Int) : Bool :=
  decide (s.raceLimit 4 n * 281474976710656 < c1.natAbs * 1000 * 1000000000)

/-! The crossing search (R75 to R78). -/

/-- A firing found: its action is put down for its instant, or decided now for BANK_SWAP; a full output drops the edge (R74, R84, R95). -/
def State.cogFound (s : State) (c race : Nat) (g : Segment) (tau : Nat) : State :=
  let b := s.cogRec c
  let k := s.cog c
  let fire := g.ts + tau
  let at' := ((fire : Int) + cogOffset b).toNat
  if cogAction b = 6 then
    (s.setCog c { k.advance b with lastFire := some fire, due := k.due ++ [{ at' := at', target := k.target }] }).bankSwap race (cogArg b 0 1) g k.target
  else if cogAction b = 1 then
    let o := cogArg b 0 1
    let f := s.fo o
    let ovr := decide (64 ≤ s.foPending o)
    let drop := ovr || f.hiZ || byteAt (s.foRec o) 1 != 1
    let s1 := s.setCog c { k.advance b with lastFire := some fire, due := k.due ++ [{ at' := at', target := k.target, noEdge := drop }] }
    if ovr && !f.hiZ then ((s1.setFo o { f with dropped := f.dropped + 1 }).raise EV_FO_OVERFLOW 0 [] (s.foPoint o)).foPoints o else s1
  else s.setCog c { k.advance b with lastFire := some fire, due := k.due ++ [{ at' := at', target := k.target }] }

/-- A crossing less than MIN_INTERVAL after the last performed firing is skipped (R78). -/
def State.cogSkipped (s : State) (c : Nat) : State :=
  let b := s.cogRec c
  let k := s.cog c
  (s.setCog c { k.advance b with missed := k.missed + 1 }).raise EV_COG_MISSED (uCog c) [1]

/-- The search of one cog in a segment, from an offset on (R75, R77). -/
def State.cogSearch (s : State) (c race : Nat) (g : Segment) (stop : Nat) : Nat → Nat → State
  | 0, _ => s
  | n + 1, lo =>
    let b := s.cogRec c
    let k := s.cog c
    if k.st != .armed then s
    else match crossing g (cogFwd b) k.target lo stop with
      | none => s
      | some tau =>
        let tooSoon := match k.lastFire with
          | some l => decide (g.ts + tau < l + cogMinInt b)
          | none => false
        let s1 := if tooSoon then s.cogSkipped c else s.cogFound c race g tau
        State.cogSearch s1 c race g stop n (tau + 1)

/-- The searches of every ARMED cog of a race in the period from offset `lo` of a segment on, ascending; a repeating cog fires at most once a
nanosecond (R75, R77); after a jump, the targets passed over first (R81). -/
def State.cogsFit (s : State) (race : Nat) (g : Segment) (lo : Nat) (jump : Bool) : State :=
  let p := (s.race race).segPeriod * 62500
  let x := segPos g lo
  let s1 := if jump then (s.cogsOf race).foldl (fun s c => s.cogJump c x) s else s
  let s2 := s1.cogOps race (some x)
  let s3 := (s2.cogsOf race).foldl (fun s c => if (s.cog c).st == .armed then s.cogSearch c race g (lo + p) p lo else s) s2
  (s3.cogsOf race).foldl (fun s c => s.cogPoints c) s3

/-! The fit. -/

/-- Speed history, then the searches of the race's cogs from a domain time on (R52, R75). -/
def State.fitSearch (s : State) (n ts : Nat) (g : Segment) (jump : Bool) : State :=
  let s1 := if s.segFast n g.c1 then s.setRace n { s.race n with fastAt := some s.lmt } else s
  s1.cogsFit n g (ts - g.ts) jump

/-- The same on the segment just fitted. -/
def State.fitSearchNew (s : State) (n : Nat) : State := match (s.race n).segs.head? with
  | none => s
  | some g => s.fitSearch n g.ts g g.disc

/-- A new segment of a running race (R44, R53, R55); `pre` the position of a RACE_PRESET, which C0 then is (R52). -/
def State.fitRunning (s : State) (n ts : Nat) (pre : Option W64) : State :=
  let b := s.raceRec n
  let r := s.race n
  let prev : Option Nat := (chooseSeg r.segs ts).map (fun g => segPos g ((ts : Int) - g.ts))
  let j := vmJerkNow r
  let c := if raceSource b = 2 then fitVm r j else s.fitOf 4 n ts (r.cut ts)
  let c0 : Int := match pre with
    | some x => x.toNat
    | none => c.1
  let k := if r.discNext then (c0, false) else boundStep prev r.stepMax c0
  let q := Coef.bounded c
  let g : Segment := { ts := ts, dur := r.segPeriod * 250000, c0 := wrapN 64 k.1, c1 := q.2.1, c2 := q.2.2.1, c3 := q.2.2.2, scale := raceScale b,
                       seq := 0, epoch := 0, dom := raceDom b, unref := r.unref, disc := r.discNext }
  let r1 := if raceSource b = 2 then r.vmNext j else if raceSource b = 0 then r else { r with pos := BitVec.ofInt 64 k.1 }
  ((s.setRace n { r1 with fitErr := s.fitErrOf 4 n ts (r.cut ts) }).stepLimit n k.2).pushSeg n g

/-- A holdover segment: the last fitted velocity, acceleration and jerk zero (R49); after a RACE_PRESET, from the preset position (R52).
A fraction of a tick at the segment start is dropped: C0 holds whole ticks (DESIGN CHOICE, log 206). -/
def State.fitHoldover (s : State) (n ts : Nat) (pre : Option W64) : State :=
  let b := s.raceRec n
  let r := s.race n
  let p : W64 := match pre with
    | some x => x
    | none => s.posAt n ts
  let g : Segment := { ts := ts, dur := r.segPeriod * 250000, c0 := p.toNat, c1 := ((r.segs.find? (fun g => !g.lost)).map (·.c1)).getD 0, c2 := 0, c3 := 0,
                       scale := raceScale b, seq := 0, epoch := 0, dom := raceDom b, holdover := true, unref := r.unref, disc := r.discNext }
  s.pushSeg n g

/-- A segment of a race that is not RUNNING: HOLDOVER extrapolates and its cogs are searched, LOST sends one frozen segment (R49, R50, R75). -/
def State.fitFallen (s : State) (n ts : Nat) : State :=
  let r := s.race n
  match r.st with
  | .holdover =>
    let pre := s.presetOf n
    (((s.fitCommands n ts).fitHoldover n ts pre)).fitSearchNew n
  | .lost => if (r.segs.head?).any (fun g => g.lost) then s else s.pushSeg n (s.frozenSeg n ts)
  | _ => s

/-- A remote race: the segment of its source that R60 chooses is searched; where that one is LOST or none applies, the race falls into HOLDOVER and
goes on from there at once (R46, R50, R60, R75). -/
def State.fitRemote (s : State) (n ts : Nat) : State :=
  let r := s.race n
  match (chooseSeg r.remote ts).filter (fun g => !g.lost) with
  | some g => (s.setRace n { r with jump := false }).fitSearch n ts g r.jump
  | none => (s.raceHoldover n).fitFallen n ts

/-- A race goes IDLE: frozen segment, its cogs disarmed, waiting reference and preset refused (R50, R52, R81).
The frozen segment of a derived race starts where its parent's does (DESIGN CHOICE, log 207). -/
def State.raceToIdle (s : State) (n ts : Nat) : State :=
  (s.raceTree 3 n).foldl (fun s m =>
    let r := s.race m
    if r.st == .idle then s
    else
      let s1 := s.setRace m { r with pos := s.raceNow 4 m }
      let s2 := s1.pushSeg m (s1.frozenSeg m ts)
      let s3 := s2.setRace m { s2.race m with st := .idle, unref := false, refArmed := false, segs := [] }
      let s4 := s3.cogsIdle m
      ((s4.finishAll (s4.flightsOn 0x0303 (uRace m) ++ s4.flightsOn 0x0304 (uRace m)) ST_REFUSED)).racePoints m) s

/-- SEGMENT_FIT: the segment of a race that starts at `ts` is fitted (R45, R47, R50, R53, R55, R75, R80). A RACE_PRESET on a race that is LOST, which
sends no further segment, waits for the first segment after its recovery (DESIGN CHOICE, log 205). -/
def segmentFit (n ts : Nat) (s : State) : State :=
  let r0 := s.race n
  if r0.st == .idle || r0.fitTs.any (fun t => decide (ts ≤ t)) then s
  else match (s.flightsOn 0x0206 (uRace n)).head? with
    | some f => (s.raceToIdle n ts).disableUnit f
    | none =>
      let s1 := s.fitSettings n ts
      let r := s1.race n
      if ts % (max 1 (r.segPeriod * 62500)) ≠ 0 then s1
      else
        let s2 := (s1.setRace n { r with fitTs := some ts }).fitRecord n ts
        if r.st != .running then s2.fitFallen n ts
        else if raceSource (s2.raceRec n) = 3 then s2.fitRemote n ts
        else
          let pre := s2.presetOf n
          (((s2.fitCommands n ts).fitRunning n ts pre)).fitSearchNew n

end Sys2Proof.Machine
end

