-- ==== Sys2Proof/Machine/Ptp.lean ====
section
/-! DEFINITION. PTP domains: servo, states, messages sent and received (R62 to R68, R71). -/

namespace Sys2Proof.Machine

/-- Admitted record of a domain (R64). -/
def State.domRec (s : State) (d : Nat) : Bytes := s.rcd 0x03 d
def domRole (b : Bytes) : Nat := byteAt b 1
/-- A field port (1 to 4) takes part in a domain. -/
def domPort (b : Bytes) (port : Nat) : Bool := (byteAt b 4).testBit (port - 1)
/-- Sync interval, ns: 2^LOG_SYNC seconds. -/
def syncInterval (b : Bytes) : Nat := 1000000000 / 2 ^ (leS b 6 1).natAbs
def slewMax (b : Bytes) : Nat := le b 10 2 * 1000

def domCode : DomState → Nat
  | .disabled => 0
  | .free => 1
  | .acquiring => 2
  | .locked => 3
  | .holdover => 4

/-- Domain points (R71). -/
def State.domPoints (s : State) (d : Nat) : State :=
  let x := s.dom d
  let a := ptAddr s 0 4 (256 + d * 16)
  (((((((s.wr a (BitVec.ofNat 32 (domCode x.st))).wr (a + 1) (w32 (sat32 x.offset))).wr (a + 2) (w32 (sat32 x.speed))).wr (a + 3) (w32 (sat32 x.pathDelay))).wr64
    (a + 4) x.now).wr64 (a + 6) x.lmtAt).wr (a + 8) x.gmChanges)

/-- Every race on a domain is IDLE (R66). -/
def State.domIdle (s : State) (d : Nat) : Bool :=
  (s.recsOf 0x02).all (fun b => raceDom b != d || (s.race (byteAt b 0)).st == .idle)

/-- Comparison of two datasets, the first the better (R63, the default BMCA). -/
def annBetter : Announce → Announce → Bool
  | [], _ => false
  | _ :: _, [] => false
  | x :: xs, y :: ys => if x < y then true else if y < x then false else annBetter xs ys

/-- The best Announce of a domain and its port. -/
def bestAnn : SMap Announce → Option (Nat × Announce)
  | [] => none
  | (p, a) :: r => match bestAnn r with
    | none => some (p, a)
    | some q => if annBetter q.2 a then some q else some (p, a)

/-- The module's own dataset: PRIORITY1, clock class, accuracy and variance of a clock with no source of its own (PRESUMED from IEEE 1588, log
211), PRIORITY2, and its identity from the unit's MAC address, in a pair from the
PAIR_MAC of port A (R63, R64, R391). -/
def State.ownAnn (s : State) (b : Bytes) : Announce := [byteAt b 7, 248, 254, 65535, byteAt b 8, if s.paired then s.pairMac 1 else s.red.mac]

/-- A port is the one a follower takes Sync from: SLAVE_PORT, or the port of the best Announce where that is better than the module's own dataset
(R63, R64). -/
def State.slavePort (s : State) (b : Bytes) (best : Option (Nat × Announce)) (port : Nat) : Bool :=
  if domRole b = 3 then byteAt b 5 + 1 == port
  else match best with
    | some q => q.1 == port && annBetter q.2 (s.ownAnn b)
    | none => false

/-- The dataset a domain announces: its own as grandmaster or where that is the best, else the grandmaster's that it follows (R63). -/
def State.announced (s : State) (b : Bytes) (x : Domain) : Announce :=
  if domRole b = 1 then s.ownAnn b
  else if domRole b = 3 then x.gm.getD (s.ownAnn b)
  else match bestAnn x.ports with
    | some q => if annBetter q.2 (s.ownAnn b) then q.2 else s.ownAnn b
    | none => s.ownAnn b

/-- A grandmaster in force; a change counts (R71). -/
def Domain.noteGm (x : Domain) (g : Announce) : Domain := match x.gm with
  | none => { x with gm := some g }
  | some o => if o = g then x else { x with gm := some g, gmChanges := x.gmChanges + 1 }

/-- Offset from the master on the wire, from one measured at the MAC boundary (R68). -/
def wireOffset (tm : Int × Int × Int) (x : Int) : Int := x + (tm.1 - tm.2.1 - 2 * tm.2.2) / 5120

/-- Path delay on the wire (R68). -/
def wireDelay (tm : Int × Int × Int) (x : Int) : Int := x - (tm.1 + tm.2.1) / 5120

/-- State of a follower after a Sync (R65); the flag is set where it becomes LOCKED. -/
def Domain.onSync (x : Domain) (off : Int) : Domain × Bool :=
  let n := if off.natAbs ≤ 50 then x.goodSyncs + 1 else 0
  match x.st with
  | .locked => if 500 < off.natAbs then ({ x with st := .acquiring, goodSyncs := 0 }, false) else ({ x with goodSyncs := n }, false)
  | .disabled => (x, false)
  | _ => if 8 ≤ n then ({ x with st := .locked, goodSyncs := n }, true) else ({ x with st := .acquiring, goodSyncs := n }, false)

/-- PTP_SYNC_RECEIVE: the servo takes the offset, by a step or a slew (R65, R66, R68, R71). While every race is IDLE the servo's rate is the free
value of the configuration; while one is not, that rate stands and the offset is slewed out over one Sync interval, at most at SLEW_MAX
(DESIGN CHOICE, log 210). `gm` is the dataset of the Sync's grandmaster, which counts where no Announce has been received. -/
def ptpSyncReceive (port d : Nat) (offset pathDelay : Int) (gm : List Nat) (s : State) : State :=
  let b := s.domRec d
  let x := s.dom d
  let best := (bestAnn x.ports).getD (port, gm)
  if s.sys.restarting || (s.rec? 0x03 d).isNone || x.st == .disabled || !(domRole b == 2 || domRole b == 3) || !domPort b port
    || !s.slavePort b (some best) port then s
  else
    let tm := s.portTiming port
    let off := wireOffset tm offset
    let idle := s.domIdle d
    let step := idle && decide (1000 < off.natAbs)
    let now0 := domTime x s.lmt
    let sl : Int := slewMax b
    let residual := if step then 0 else off
    let slewing := !idle && decide (1000 < residual.natAbs)
    let y := ((x.noteGm best.2).onSync off)
    let x1 := { y.1 with
      now := if step then ((now0 : Int) - off).toNat else now0
      lmtAt := s.lmt
      rate := if idle then Config.servoRate d x.rate off else x.rate
      slew := if idle then 0 else satI (-sl) sl (-off * 1000000000 / (syncInterval b : Int))
      residual := residual
      offset := off
      pathDelay := wireDelay tm pathDelay
      heard := true
      slewing := slewing
      lastSync := s.lmt }
    let s1 := s.setDom d x1
    let s2 := s1.raiseIf step EV_DOMAIN_STEP 0 [d, wrapN 32 off]
    let s3 := s2.raiseIf (slewing && !x.slewing) EV_DOMAIN_SLEWING 0 [d, wrapN 32 off]
    let s4 := s3.raiseIf (!slewing && x.slewing) EV_DOMAIN_SLEWING 0 [d] 0 true
    (s4.raiseIf y.2 EV_DOMAIN_LOCKED 0 [d]).domPoints d

/-- A PTP message of a domain on queue 5 of a port: its type, domainNumber and one-step flag with the values it carries; the multicast addresses are
those of the two profiles, 1588's and 802.1AS's (PRESUMED, log 211) (R62, R63, R124). -/
def State.ptpSend (s : State) (port d mtype : Nat) (body : List Nat) : State :=
  let b := s.domRec d
  let dst := if byteAt b 3 = 1 ∨ mtype = 2 ∨ mtype = 3 ∨ mtype = 10 then 0x0180C200000E else 0x011B19000000
  s.put [{ s.plainFrame port 5 dst 0x88F7 [] with dom := d, bytes := [mtype, byteAt b 2, byteAt b 9 % 2] ++ body }]

/-- A time of a domain in a message: 48-bit seconds and nanoseconds (R62). -/
def ptpTime (t : Nat) : List Nat := nums (toBe (t / 1000000000) 6 ++ toBe (t % 1000000000) 4)

/-- The domain gives the time on a port: a grandmaster on each, a boundary clock on every port but the one it follows (R63). -/
def State.masterOn (s : State) (d port : Nat) : Bool :=
  let b := s.domRec d
  domRole b == 1 || !s.slavePort b (bestAnn (s.dom d).ports) port

/-- It does so as a single module or as the ACTIVE one of a pair: a standby's domains follow the active module (R391). -/
def State.givesTime (s : State) (d port : Nat) : Bool := s.drives && s.masterOn d port

/-- PTP_MESSAGE_RECEIVE: Announce (11) enters the port selection; management (13) is ignored and counted; Delay_Req (1) is answered where the domain
gives the time end-to-end, Pdelay_Req (2) on every port peer-to-peer, in two steps where egress has two; the rest carry timestamps only (R63). -/
def ptpMessageAt (rx port d mtype : Nat) (data : List Nat) (s : State) : State :=
  let b := s.domRec d
  let x := s.dom d
  if (s.rec? 0x03 d).isNone || x.st == .disabled || !domPort b port then s
  else if mtype = 13 then s.setDom d { x with mgmt := x.mgmt + 1 }
  else if mtype = 11 ∧ domRole b = 2 then
    let x1 := { x with ports := x.ports.set port data }
    let x2 := match bestAnn x1.ports with
      | some q => x1.noteGm q.2
      | none => x1
    (s.setDom d x2).domPoints d
  else if mtype = 1 ∧ byteAt b 3 = 0 ∧ s.givesTime d port ∧ (s.port port).link then s.ptpSend port d 9 (ptpTime (s.ingress port d rx) ++ data)
  else if mtype = 2 ∧ byteAt b 3 = 1 ∧ (s.port port).link then
    let s1 := s.ptpSend port d 3 (ptpTime (s.ingress port d rx) ++ data)
    if (byteAt b 9).testBit 0 then s1 else s1.ptpSend port d 10 (ptpTime (s.egress port d) ++ data)
  else s

/-- A PTP message that arrives now (R63). -/
def ptpMessageReceive (port d mtype : Nat) (data : List Nat) (s : State) : State := ptpMessageAt s.lmt port d mtype data s

/-- PTP_SYNC_TIMEOUT: LOCKED and no Sync for 3 intervals (R65); not while the runtime restarts (R486). -/
def ptpSyncTimeout (d : Nat) (s : State) : State :=
  let x := s.dom d
  if !s.sys.restarting && x.st == .locked && decide (x.lastSync + 3 * syncInterval (s.domRec d) ≤ s.lmt) then
    ((s.setDom d { x with st := .holdover, goodSyncs := 0, now := domTime x s.lmt, lmtAt := s.lmt, slew := 0, residual := 0 }).raise EV_DOMAIN_HOLDOVER 0 [d]).domPoints d
  else s

/-- PTP_SYNC_SEND: Sync, its Follow_Up where egress has two steps, and with it the Announce, whose own interval the rules do not give (DESIGN CHOICE,
log 210); a grandmaster's NOW and LMT_AT follow at its Sync (R63, R68, R71). -/
def ptpSyncSend (port d : Nat) (s : State) : State :=
  let b := s.domRec d
  let x := s.dom d
  if (s.rec? 0x03 d).isNone || x.st == .disabled || !domPort b port || !(s.port port).link || !s.givesTime d port then s
  else
    let t := ptpTime (s.egress port d)
    let s1 := s.ptpSend port d 0 t
    let s2 := if (byteAt b 9).testBit 0 then s1 else s1.ptpSend port d 8 t
    let s3 := s2.ptpSend port d 11 (s.announced b x)
    if domRole b = 1 then (s3.setDom d { x with now := domTime x s.lmt, lmtAt := s.lmt }).domPoints d else s3.domPoints d

/-- PTP_DELAY_REQUEST_SEND: Delay_Req on the followed port, Pdelay_Req on every port (R63). -/
def ptpDelayRequestSend (port d : Nat) (s : State) : State :=
  let b := s.domRec d
  let x := s.dom d
  if (s.rec? 0x03 d).isNone || x.st == .disabled || !domPort b port || !(s.port port).link then s
  else if byteAt b 3 = 1 then s.ptpSend port d 2 (ptpTime (s.egress port d))
  else if !s.masterOn d port then s.ptpSend port d 1 (ptpTime (s.egress port d)) else s

end Sys2Proof.Machine
end

