-- ==== Sys2Proof/Machine/CaptureCalc.lean ====
section
/-! DEFINITION. Figures of a capture record: its layout, its reduced streams, its header and its measurements (R247 to R255). -/

namespace Sys2Proof.Machine

def capMember (b : Bytes) : Bool := (byteAt b 3).testBit 4
/-- Master of a unit: the unit itself unless it is a member (R251). -/
def capMaster (b : Bytes) (u : Nat) : Nat := if capMember b then byteAt b 4 else u
def capPre (b : Bytes) : Nat := le b 16 4
def capPost (b : Bytes) : Nat := le b 20 4
def capR (b : Bytes) : Nat := le b 24 2
def capBufs (b : Bytes) : Nat := byteAt b 26

/-- Width in bytes of signal `i` (R247). -/
def sigWidth (b : Bytes) (i : Nat) : Nat := byteAt b (40 + 8 * i + 1)

/-- SAMPLE_BYTES (R248). -/
def sampleBytes (b : Bytes) : Nat :=
  let n := (if byteAt b 1 = 0 then 0 else 8) + (List.range (byteAt b 5)).foldl (fun a i => a + sigWidth b i) 0
  (n + 3) / 4 * 4

/-- Bytes of one sample (R248). -/
def capSampleBytes (b : Bytes) (x : CapSample) : Bytes :=
  let v := (if byteAt b 1 = 0 then [] else toLe x.at' 8) ++
    ((List.range x.vals.length).flatMap (fun i => toLe (x.vals.getD i 0).toNat (sigWidth b i)))
  v ++ List.replicate (sampleBytes b - v.length) 0

/-- Value of signal `i` of a sample read as signed of its WIDTH (R249). -/
def capSigned (b : Bytes) (x : CapSample) (i : Nat) : Int := sgn (8 * sigWidth b i) (x.vals.getD i 0).toNat

/-- Blocks of `n` samples, `k` of them. -/
def blocks {α : Type} (n : Nat) : Nat → List α → List (List α)
  | 0, _ => []
  | k + 1, xs => xs.take n :: blocks n k (xs.drop n)

/-- A reduced stream's sample of a block: 1 min, 2 max, 3 mean, 4 decimated (R249). -/
def reduceBlock (b : Bytes) (kind : Nat) (xs : List CapSample) : CapSample :=
  let n := byteAt b 5
  let pick := fun i => let vs := xs.map (fun x => capSigned b x i)
    let r : Int := match kind with
      | 1 => vs.foldl min (vs.headD 0)
      | 2 => vs.foldl max (vs.headD 0)
      | 3 => (vs.foldl (· + ·) 0 + (xs.length / 2 : Nat)) / (xs.length : Int)
      | _ => vs.headD 0
    BitVec.ofInt 32 r
  { at' := (xs.headD { at' := 0, vals := [] }).at', vals := (List.range n).map pick }

/-- Zero padding to a multiple of 64 (R254). -/
def pad64 (b : Bytes) : Bytes := b ++ List.replicate ((64 - b.length % 64) % 64) 0

/-- Whole blocks held by a record (R249, R254). -/
def CapRec.redCount (r : CapRec) : Nat :=
  let n := capR r.body
  if n = 0 then 0 else ((r.pre.length + r.post.length) - r.redSkip) / n

/-- The 80-byte header of a record (R254). -/
def capHeader (u : Nat) (r : CapRec) : Bytes :=
  let b := r.body
  let st := r.trig.stamp
  toLe u 1 ++ toLe (mkBit r.shortPre 0 + mkBit r.truncated 1 + mkBit r.corrupt 2 + mkBit r.group 3 + 16 * byteAt b 7) 1
    ++ toLe (byteAt b 5) 1 ++ toLe (byteAt b 6) 1 ++ toLe r.num 4 ++ toLe r.trig.at' 8 ++ toLe r.bootId 4
    ++ toLe r.trig.src 1 ++ toLe r.trig.unit 1 ++ toLe r.trig.cog 2 ++ toLe r.pre.length 4 ++ toLe r.post.length 4
    ++ toLe ((r.pre ++ r.post).headD { at' := 0, vals := [] }).at' 8 ++ toLe (if byteAt b 1 = 0 then le b 8 4 else 0) 4
    ++ toLe (capR b) 2 ++ toLe (sampleBytes b) 2 ++ toLe r.redCount 4 ++ toLe r.redSkip 2 ++ toLe 0 10
    ++ (if st.isEmpty then toLe 0 16 else st.flatMap (fun w => toLe w 4))

/-- A non-negative rational `n / d` rounded to binary64, to nearest, ties to even, as a fraction whose denominator is a power of two (R255). -/
def f64Q (n d : Nat) : Nat × Nat :=
  if n = 0 then (0, 1)
  else
    let a := 55 + d.log2 - n.log2
    let drop := (n * 2 ^ a / d).log2 + 1 - 53
    (rne (n * 2 ^ a) (d * 2 ^ drop) * 2 ^ drop, 2 ^ a)

/-- The square root of `n / 2 ^ a` rounded to binary64: a root of at least 60 bits and whether it is exact (R255). -/
def f64Root (n a : Nat) : Nat × Nat :=
  let m := (if a % 2 = 0 then n else 2 * n) * 4 ^ 60
  let r := Nat.sqrt m
  f64Q (2 * r + (if r * r = m then 0 else 1)) (2 ^ ((a + 1) / 2 + 61))

/-- A fraction stored as binary32 (R255). -/
def f32Of64 (q : Nat × Nat) : Nat := (f32OfRat (q.1 : Int) q.2).toNat

/-- Instants of the first and the last upward crossing, and how many there are, in samples with their instants: a sample at or below m - h, then one at or
above m + h, both scaled by 10 (R255). -/
def upCrossings (lo hi : Int) : List (Int × Nat) → Bool → Nat × Nat × Nat → Nat × Nat × Nat
  | [], _, a => a
  | (x, t) :: r, low, a =>
    if 10 * x ≤ 5 * (hi + lo) - (hi - lo) then upCrossings lo hi r true a
    else if low && decide (5 * (hi + lo) + (hi - lo) ≤ 10 * x) then
      upCrossings lo hi r false (if a.2.2 = 0 then t else a.1, t, a.2.2 + 1)
    else upCrossings lo hi r low a

/-- Time of the first rise from min + 0.1 PKPK to min + 0.9 PKPK whose last low sample lies at or after the trigger sample: `skip` samples are held before
it, `low` is the last low sample met (R255; DEDUCED, log 233). -/
def riseTime (lo hi : Int) : List (Int × Nat) → Nat → Option Nat → Option Nat
  | [], _, _ => none
  | (x, t) :: r, skip, low =>
    if 10 * x ≤ 10 * lo + (hi - lo) then riseTime lo hi r (skip - 1) (if skip = 0 then some t else none)
    else if 10 * lo + 9 * (hi - lo) ≤ 10 * x then
      match low with
      | some t0 => some (t - t0)
      | none => riseTime lo hi r (skip - 1) none
    else riseTime lo hi r (skip - 1) low

/-- The figures of a measurement block, none where a field is undefined: PERIOD, FREQ, PKPK, MEAN, RMS, RISE (R255). A sum of 2^53 or more depends on
the order of the binary64 additions, which is the implementation's (log 233). -/
def capFigures (r : CapRec) (i : Nat) : List (Option Nat) :=
  let all := r.pre ++ r.post
  let xs := all.map (fun x => capSigned r.body x i)
  let ts := all.map (·.at')
  let xt := xs.zip ts
  let n := xs.length
  let hi := xs.foldl max (xs.headD 0)
  let lo := xs.foldl min (xs.headD 0)
  let sum := xs.foldl (· + ·) 0
  let sq := (xs.foldl (fun a x => a + x * x) 0).toNat
  let up := upCrossings lo hi xt false (0, 0, 0)
  let per := if hi = lo ∨ up.2.2 < 2 then none else some (f64Q (up.2.1 - up.1) (1000000000 * (up.2.2 - 1)))
  let other (k : Nat) : Nat := (Config.measure k xs ts).toNat
  let mean := f32Of64 (f64Q sum.natAbs n) + (if sum < 0 then 2147483648 else 0)
  let ms := f64Q sq n
  let rms := f32Of64 (f64Root ms.1 ms.2.log2)
  [per.map f32Of64, per.map (fun q => f32Of64 (f64Q q.2 q.1)),
   if n = 0 then none else some (f32OfInt (hi - lo)).toNat,
   if n = 0 then none else some (if sum.natAbs < 2 ^ 53 then mean else other 3),
   if n = 0 then none else some (if sq < 2 ^ 53 then rms else other 4),
   if hi = lo then none else (riseTime lo hi xt r.pre.length none).map (fun d => f32Of64 (f64Q d 1000000000))]

/-- A measurement block of one signal; an undefined field holds a quiet NaN (R255). -/
def capMeasure (r : CapRec) (i : Nat) : Bytes :=
  let fs := capFigures r i
  toLe i 1 ++ toLe ((List.range 6).foldl (fun a k => a + mkBit (fs.getD k none).isSome k) 0) 1 ++ toLe 0 2
    ++ fs.flatMap (fun f => toLe (f.getD 0x7FC00000) 4) ++ toLe 0 4

/-- The whole record as CAP_READ writes it (R254). -/
def capBytes (u : Nat) (r : CapRec) : Bytes :=
  let b := r.body
  let raw := r.pre ++ r.post
  let bl := blocks (capR b) r.redCount (raw.drop r.redSkip)
  let hd := capHeader u r ++ (List.range (byteAt b 7)).flatMap (fun k => capMeasure r (byteAt b (32 + k)))
  (List.range 5).foldl (fun a k =>
    if (byteAt b 6).testBit k then
      pad64 a ++ (if k = 0 then raw else bl.map (reduceBlock b k)).flatMap (capSampleBytes b)
    else a) hd

end Sys2Proof.Machine
end

