-- ==== Sys2Proof/Machine/Capture.lean ====
section
/-! DEFINITION. Capture units (R246 to R257). -/

namespace Sys2Proof.Machine

/-- Admitted record of a capture unit (R247). -/
def State.capRec? (s : State) (u : Nat) : Option Bytes := s.rec? 0x14 u
def State.capRec (s : State) (u : Nat) : Bytes := (s.capRec? u).getD []

/-- The units of a group: the master and every unit that names it (R251). -/
def State.capGroup (s : State) (m : Nat) : List Nat :=
  ((s.recsOf 0x14).filter (fun b => capMaster b (byteAt b 0) == m)).map (fun b => byteAt b 0)

/-- A unit has a free record buffer (R252). -/
def State.capFree (s : State) (u : Nat) : Bool := decide ((s.cap u).recs.length < capBufs (s.capRec u))

/-- Latest value of a signal (R248), as 32 bits; a two-slot point is named by its even slot (R19). -/
def signalValue (s : State) (kind index : Nat) : Nat :=
  match kind with
  | 1 => (s.rd index).toNat
  | 2 => wrapN 32 (sgn 18 (((s.seq (index / 256 % 4)).results.getD (index % 32) 0).toNat % 262144))
  | 3 => wrapN 32 (s.cl (index % 32)).raw
  | 4 => (List.range 32).foldl (fun a i => a + mkBit (s.dio (32 * (index % 2) + i)).inp i) 0
  | 5 => (s.enc index).count.toNat % 4294967296
  | 6 =>
    let r := s.race index
    racePos r (domTime (s.dom (byteAt (s.rcd 0x02 index) 3)) s.lmt) / 4294967296 % 4294967296
  | 7 =>
    let l := s.loop (index % 2048)
    match index / 65536 % 8 with
    | 0 => wrapN 32 l.tgt
    | 1 => wrapN 32 (asr (l.spl + 32768) 16)
    | 2 => wrapN 32 l.y
    | 3 => wrapN 32 l.u
    | _ => wrapN 32 (sat16 (asr (l.spl + 32768) 16 - l.y))
  | 8 => wrapN 32 (asr (asr (s.axis index).p 32) 16)
  | _ => 0

/-- The values of a unit's signals in index order; WIDTH 2 keeps bits 15 to 0 (R248). -/
def capValues (s : State) (b : Bytes) : List W32 :=
  (List.range (byteAt b 5)).map (fun i =>
    let v := signalValue s (byteAt b (40 + 8 * i)) (le b (40 + 8 * i + 4) 4)
    BitVec.ofNat 32 (if sigWidth b i = 2 then v % 65536 else v))

/-- Of two triggers at one trigger sample, the one named: earliest T, then command, cog (lowest), qualifier, group (R250). -/
def trigBefore (a b : CapTrig) : Bool :=
  decide (a.at' < b.at') || (a.at' == b.at' && (decide (a.src < b.src) || (a.src == b.src && decide (a.cog < b.cog))))

/-- Inserts a trigger in that order. -/
def insTrig (g : CapTrig) : List CapTrig → List CapTrig
  | [] => [g]
  | h :: r => if trigBefore g h then g :: h :: r else h :: insTrig g r

def bestTrig : List CapTrig → Option CapTrig
  | [] => none
  | g :: gs => match bestTrig gs with
    | none => some g
    | some h => if trigBefore h g then some h else some g

/-- Flights of capture commands that a closing or ending unit completes (R253). -/
def State.capFlights (s : State) (u : Nat) : List Flight := s.flightsOf (fun f => f.unit == uCap u && f.op / 256 == 0x0A)

/-- The unit arms: its circular buffer is empty (R249). -/
def CapUnit.arm (c : CapUnit) : CapUnit :=
  { c with st := CapState.armed, circ := [], taken := 0, post := [], trigs := [], trig := none, arming := false, noRearm := false, waiting := false, corrupt := false }

/-- The unit arms, and its qualifier's state registers are 0 (R249, R311). -/
def State.capArm (s : State) (u : Nat) : State :=
  (s.setCap u (s.cap u).arm).setSpin (8 + u) { s.spin (8 + u) with kept := [] }

/-- The record that a unit closes (R252, R254). -/
def State.capRecord (s : State) (u : Nat) (truncated : Bool) (trig : CapTrig) : CapRec :=
  let b := s.capRec u
  let c := s.cap u
  let pre := (c.circ.take (capPre b)).reverse
  let skip := if capR b = 0 then 0 else (capR b - (c.taken - pre.length - c.post.length) % capR b) % capR b
  { num := c.next, shortPre := decide (pre.length < capPre b), truncated := truncated, corrupt := c.corrupt,
    group := decide (1 < (s.capGroup (capMaster b u)).length), trig := trig, bootId := s.sys.bootId, pre := pre, post := c.post.reverse,
    redSkip := skip, body := b }

/-- A closed record joins the unit's records, and its header goes to Tailrace (R252, R254, R267). -/
def State.capClose (s : State) (u : Nat) (truncated : Bool) (trig : CapTrig) : State :=
  let c := s.cap u
  let r := s.capRecord u truncated trig
  let s1 := s.setCap u { c with
    recs := c.recs ++ [r], next := (c.next + 1) % 4294967296, heldN := c.recs.length + 1,
    circ := [], post := [], trig := none, trigs := [], corrupt := false, st := .idle }
  let s2 := s1.raise EV_CAP_CLOSED (uCap u) [c.next]
  s2.emit 7 0x08 0 s2.lmt 80 (nums (capHeader u r)) true (fun _ => true)

/-- With OVERWRITE, the oldest closed record gives way (R252). -/
def State.capOverwrite (s : State) (u : Nat) : State :=
  let c := s.cap u
  if s.capFree u then s
  else if (byteAt (s.capRec u) 3).testBit 2 then
    (s.setCap u { c with recs := c.recs.drop 1, heldN := c.recs.length - 1, lost := c.lost + 1 }).raise EV_CAP_LOST (uCap u) [1]
  else s

/-- A unit's trigger is not through with yet: it fills, it waits for its trigger sample, or its trigger has not reached the group (R250, R251). -/
def CapUnit.busy (c : CapUnit) : Bool := c.st == CapState.filling || (c.st == CapState.armed && !c.trigs.isEmpty) || !c.fires.isEmpty

/-- Once every fired unit of a group has closed its record, those that wait arm again, or go FULL (R251, R252). -/
def State.capRearmGroup (s : State) (m : Nat) : State :=
  let g := s.capGroup m
  if g.any (fun v => (s.cap v).busy) then s
  else (g.filter (fun v => (s.cap v).waiting)).foldl (fun s v =>
    let s1 := s.capOverwrite v
    if s1.capFree v then s1.capArm v else s1.setCap v { s1.cap v with st := .full, waiting := false }) s

/-- After a record closes: the unit re-arms with its group by AUTO_REARM of the master, or is IDLE (R251, R252). -/
def State.capRearm (s : State) (u : Nat) : State :=
  let m := capMaster (s.capRec u) u
  let c := s.cap u
  let again := (byteAt (s.capRec m) 3).testBit 1 && !c.noRearm
  (s.setCap u { c with st := .idle, noRearm := false, waiting := again }).capRearmGroup m

/-- CAP_ARM flights complete at the master's first armed sample; CAP_TRIGGER flights at the trigger sample (R253). -/
def State.capCommit (s : State) (op u : Nat) : State :=
  (s.flightsOn op (uCap u)).foldl (fun s f => s.finish f ST_OK { commit := some s.lmt }) s

/-- A FILLING unit takes one post-trigger sample; the last one closes the record (R250, R252). -/
def State.capFill (s : State) (u : Nat) (x : CapSample) : State :=
  let c := s.cap u
  let s1 := s.setCap u { c with post := x :: c.post, taken := c.taken + 1 }
  if capPost (s.capRec u) ≤ c.post.length + 1 then
    (s1.capClose u false (c.trig.getD { at' := x.at', src := 255, unit := u })).capRearm u
  else s1

/-- An ARMED unit's trigger has its trigger sample, the first at or after T: the samples from it on fill the record (R250). A waiting trigger whose T lies
after that sample reaches a unit that is not ARMED, and is counted. -/
def State.capEnter (s : State) (u : Nat) (g : CapTrig) : State :=
  let b := s.capRec u
  let c := s.cap u
  let late := c.circ.takeWhile (fun x => decide (g.at' ≤ x.at'))
  let g' := { g with stamp := if byteAt b 27 = 255 then [] else raceStamp s (byteAt b 27) g.at' }
  let x0 := (late.getLast?.map (·.at')).getD s.lmt
  let after := (c.trigs.filter (fun t => decide (x0 < t.at'))).length
  let s1 := (s.setCap u { c with
    st := .filling, trig := some g', trigs := [], ignored := c.ignored + BitVec.ofNat 32 after
    circ := c.circ.drop late.length, taken := c.taken - late.length }).capCommit 0x0A03 u
  late.reverse.foldl (fun s x => if (s.cap u).st == .filling then s.capFill u x else s) s1

/-- The earliest waiting trigger whose trigger sample has been taken fires an ARMED unit (R250). -/
def State.capLook (s : State) (u : Nat) : State :=
  let c := s.cap u
  match c.circ with
  | [] => s
  | x :: _ => if c.st == .armed then
      match bestTrig (c.trigs.filter (fun g => decide (g.at' ≤ x.at'))) with
      | some g => s.capEnter u g
      | none => s
    else s

/-- A trigger reaches a unit (R250): an ARMED one fires at its trigger sample, any other counts it. One of its own goes on to its group (R251). -/
def State.capTrigger (s : State) (u : Nat) (g : CapTrig) : State :=
  let c := s.cap u
  if c.st == .armed then
    let more := g.src != 3 && decide (1 < (s.capGroup (capMaster (s.capRec u) u)).length)
    (s.setCap u { c with trigs := c.trigs ++ [g], fires := if more then insTrig g c.fires else c.fires }).capLook u
  else s.setCap u { c with ignored := c.ignored + 1 }

/-- A trigger fires, with the same T, every other unit of its group that is ARMED (R251; the others do not count it, log 230). -/
def State.capFireGroup (s : State) (u : Nat) (g : CapTrig) : State :=
  let m := capMaster (s.capRec u) u
  ((s.capGroup m).filter (· != u)).foldl (fun s v =>
    if (s.cap v).st == .armed then s.capTrigger v { g with src := 3, unit := u, cog := 0 } else s) s

/-- A sample taken while ARMED is a window of the unit's qualifier, where it uses one; a full queue gives "no fire" (R250, R319, R322). -/
def State.capQualify (s : State) (u : Nat) (x : CapSample) : State :=
  let b := s.capRec u
  if !(byteAt b 3).testBit 3 then s
  else match s.spinOffer (8 + u) { bytes := capSampleBytes b x, lmt := x.at', size := sampleBytes b } with
    | some s1 => s1
    | none => s.spinBacklog (8 + u)

/-- A unit's clock gives a sample at this instant: PHASE + k PERIOD of LMT, the end of the sequence's last entry, the commit of the group; once (R248). -/
def State.capDue (s : State) (u : Nat) (b : Bytes) : Bool :=
  let c := s.cap u
  let ph := 10 * le b 12 4
  (match byteAt b 1 with
  | 0 => decide (ph ≤ s.lmt) && (s.lmt - ph) % (10 * max 1 (le b 8 4)) == 0
  | 1 => (s.seq (byteAt b 2)).endedAt == some s.lmt
  | _ =>
    let g := s.group (byteAt b 2 / 16 * 8 + byteAt b 2 % 8)
    g.cycles != 0 && g.commitAt == s.lmt)
  && ((c.post ++ c.circ).head?.all (fun x => decide (x.at' < s.lmt)))

/-- CAPTURE_SAMPLE of a unit (R248 to R252). Samples the record may still need as post-trigger ones are kept beyond PRE. -/
def capSample (u : Nat) (s : State) : State :=
  match s.capRec? u with
  | none => s
  | some b =>
    if !s.capDue u b then s
    else
      let s0 := if (s.cap u).arming then (s.capArm u).capCommit 0x0A01 u else s
      let c := s0.cap u
      let x : CapSample := { at' := s.lmt, vals := capValues s0 b }
      match c.st with
      | .armed =>
        let s1 := (s0.setCap u { c with circ := (x :: c.circ).take (capPre b + 64), taken := c.taken + 1 }).capLook u
        if (s1.cap u).st == .armed then s1.capQualify u x else s1
      | .filling => s0.capFill u x
      | _ => s0

/-- CAPTURE_GROUP_TRIGGER: a unit's own triggers reach its group, the earliest first (R251). -/
def capGroupTrigger (u : Nat) (s : State) : State :=
  let c := s.cap u
  let s1 := c.fires.foldl (fun s g => s.capFireGroup u g) (s.setCap u { c with fires := [] })
  s1.capRearmGroup (capMaster (s.capRec u) u)

/-! Commands (R253). -/

def capGate (h : CmdHdr) (s : State) (bad : List (Option Nat)) (refused : Bool) : Gate :=
  { invalid := firstBad ([needKind h 6, if (s.capRec? h.inst).isSome then none else some 8] ++ bad), unit := h.tgt,
    disabled := s.isDis h.tgt, refused := refused }

/-- What CapArm checks before its rule runs (R427, R429). -/
def gateCapArm (h : CmdHdr) (s : State) : Gate :=
  let g := s.capGroup h.inst
  capGate h s [noBuf h, zeroTail h 0]
    (capMember (s.capRec h.inst) || g.any (fun v => (s.cap v).st != .idle || !s.capFree v))

/-- Effect of CapArm. -/
def goCapArm (f : Flight) (s : State) : State :=
  let h := f.h
  (s.capGroup h.inst).foldl (fun s v => s.setCap v { s.cap v with arming := true }) s

def runCapArm (h : CmdHdr) (s : State) : State := start 0x0A01 (gateCapArm h s) goCapArm h s

/-- What CapDisarm checks before its rule runs (R427, R429). -/
def gateCapDisarm (h : CmdHdr) (s : State) : Gate :=
  capGate h s [noBuf h, zeroTail h 0] ((s.cap h.inst).st == .idle || (s.cap h.inst).st == .full)

/-- Effect of CapDisarm. -/
def goCapDisarm (f : Flight) (s : State) : State :=
  let h := f.h
  let c := s.cap h.inst
  if c.st == .armed then
    let s1 := s.setCap h.inst { c with st := .idle, circ := [], trigs := [], taken := 0 }
    ((s1.finishAll (s1.flightsOn 0x0A03 (uCap h.inst)) ST_REFUSED).capRearmGroup (capMaster (s.capRec h.inst) h.inst)).ok f
  else (s.setCap h.inst { c with noRearm := true }).ok f

/-- CAP_DISARM: ARMED goes IDLE and loses its circular contents, a CAP_TRIGGER that still waits for its trigger sample is refused (log 230); FILLING closes
normally, then IDLE (R252). -/
def runCapDisarm (h : CmdHdr) (s : State) : State := start 0x0A02 (gateCapDisarm h s) goCapDisarm h s

/-- What CapTrigger checks before its rule runs (R427, R429). -/
def gateCapTrigger (h : CmdHdr) (s : State) : Gate := capGate h s [noBuf h, zeroTail h 0] ((s.cap h.inst).st != CapState.armed)

/-- A trigger of the group; T is the fetch instant (R250). -/
def goCapTrigger (f : Flight) (s : State) : State := s.capTrigger f.h.inst { at' := f.h.t, src := 0, unit := f.h.inst }

/-- CAP_TRIGGER: a unit that is not ARMED counts it and refuses (R250). -/
def runCapTrigger (h : CmdHdr) (s : State) : State :=
  let g := gateCapTrigger h s
  let s1 := if g.refused && (g.badAt 0x0A03 h).isNone && !g.disabled then s.setCap h.inst { s.cap h.inst with ignored := (s.cap h.inst).ignored + 1 } else s
  start 0x0A03 g goCapTrigger h s1

/-- A held record by number. -/
def CapUnit.rec? (c : CapUnit) (n : Nat) : Option CapRec := c.recs.find? (fun r => r.num == n)

/-- What CapRead checks before its rule runs (R427, R429). -/
def gateCapRead (h : CmdHdr) (s : State) : Gate :=
  let r := (s.cap h.inst).rec? (h.p 12 4)
  { capGate h s [needBuf h 8, zeroTail h 16,
      match r with
      | none => some 28
      | some r => if (capBytes h.inst r).length ≤ h.bufLen then none else some 24] false with exempt := true }

/-- Effect of CapRead. -/
def goCapRead (f : Flight) (s : State) : State :=
  let h := f.h
  s.okOut f (match (s.cap h.inst).rec? (h.p 12 4) with
      | some r => nums (capBytes h.inst r)
      | none => [])

def runCapRead (h : CmdHdr) (s : State) : State := start 0x0A04 (gateCapRead h s) goCapRead h s

/-- What CapRelease checks before its rule runs (R427, R429). -/
def gateCapRelease (h : CmdHdr) (s : State) : Gate :=
  capGate h s [noBuf h, zeroTail h 4, if ((s.cap h.inst).rec? (h.p 0 4)).isSome then none else some 16] false

/-- Effect of CapRelease. -/
def goCapRelease (f : Flight) (s : State) : State :=
  let h := f.h
  let c := s.cap h.inst
  let c1 := { c with recs := c.recs.filter (fun r => r.num != h.p 0 4), heldN := c.heldN - 1 }
  (if c.st == .full then (s.setCap h.inst c1).capArm h.inst else s.setCap h.inst c1).ok f

/-- CAP_RELEASE frees a buffer; a FULL unit arms again (R252, R253). -/
def runCapRelease (h : CmdHdr) (s : State) : State := start 0x0A05 (gateCapRelease h s) goCapRelease h s

/-- DISABLE of a capture unit, or of a master for its group (R257). -/
def State.capDisableOne (s : State) (u : Nat) : State :=
  let c := s.cap u
  let s1 := match c.st with
    | .filling => s.capClose u true (c.trig.getD { at' := s.lmt, src := 255, unit := u })
    | .armed => s.capClose u true { at' := s.lmt, src := 255, unit := u }
    | _ => s
  let s2 := s1.setCap u { s1.cap u with st := .idle, arming := false, waiting := false, noRearm := false, circ := [], trigs := [], trig := none, post := [], fires := [] }
  s2.finishAll (s2.capFlights u) ST_DISABLED

def State.capDisable (s : State) (u : Nat) : State :=
  if capMember (s.capRec u) then (s.capDisableOne u).capRearmGroup (capMaster (s.capRec u) u) else (s.capGroup u).foldl State.capDisableOne s

/-- Units with FLAGS[0] arm at admission and after a restart (R247, R252). -/
def State.capAuto (s : State) : State :=
  (s.recsOf 0x14).foldl (fun s b =>
    let u := byteAt b 0
    if (byteAt b 3).testBit 0 && (s.cap u).st == .idle && (s.capGroup u).all (fun v => s.capFree v) then s.setCap u { s.cap u with arming := true } else s) s

/-- Points of local node 18 (R275). -/
def State.capPoints (s : State) : State :=
  (s.recsOf 0x14).foldl (fun s b =>
    let u := byteAt b 0
    let c := s.cap u
    let st := match c.st with
      | .idle => 0
      | .armed => 1
      | .filling => 2
      | .full => 3
    let v := st + mkBit (capMember b) 4 + 256 * (c.recs.length % 256) + mkBit (decide (capPre b ≤ c.circ.length)) 16
    ((((s.wrLocal 18 (u * 8) v).wrLocal 18 (u * 8 + 1) ((c.next : Int) - 1)).wrLocal 18 (u * 8 + 2) c.ignored.toNat).wrLocal 18 (u * 8 + 3) c.lost.toNat)) s

end Sys2Proof.Machine
end

