-- ==== Sys2Proof/Machine/Recording.lean ====
section
/-! DEFINITION. Tailrace channels and the event log: commands, instants and points (R259 to R275). -/

namespace Sys2Proof.Machine

/-- The channel's current buffer goes back to the host before it is full (R270, R416). -/
def State.trFlush (s : State) (c : Nat) (flushed : Bool) : State :=
  match s.host.trBufs.getD c [] with
  | [] => s
  | b :: bs =>
    if b.used = 0 then s
    else { s with
      host := ({ s.host with trBufs := s.host.trBufs.set c bs } : HostIf).trReturn s.lmt c [{ b with early := true, flushed := flushed }]
      tr := s.tr.set c { s.chan c with oldest := none } }

/-- TAILRACE_FLUSH_TIMEOUT: the buffer's oldest record is FLUSH_US old (R270). -/
def trFlushTimeout (c : Nat) (s : State) : State :=
  match (s.chan c).oldest with
  | some o => if o + le (s.rcd 0x16 c) 8 4 * 1000 ≤ s.lmt then s.trFlush c false else s
  | none => s

/-- TAILRACE_SPILL: a RUNNING channel without a free buffer, or out of D0, spills (R271). -/
def trSpillStart (c : Nat) (s : State) : State :=
  let ch := s.chan c
  if ch.st == .running && (!s.host.dma || trFree (s.host.trBufs.getD c []) == 0) then
    (s.setChan c { ch with st := .spilling }).raise EV_TR_SPILL 0 [c]
  else s

/-- Moves spilled records, oldest first, into buffers while they fit (R271). `n` bounds the number of records. -/
def State.trDrain (s : State) (c : Nat) : Nat → State
  | 0 => s
  | n + 1 =>
    match (s.chan c).spill with
    | [] => s
    | r :: rs =>
      let bs := s.host.trBufs.getD c []
      if s.host.dma && decide (r.len ≤ trFree bs) then
        let f := trFill r.seq.toNat bs r.len true
        let ch := s.chan c
        State.trDrain { s with
          tr := s.tr.set c { ch with spill := rs, spillBytes := ch.spillBytes - r.len, outRecs := ch.outRecs ++ [r], oldest := some (ch.oldest.getD r.lmt) }
          host := ({ s.host with trBufs := s.host.trBufs.set c f.1 } : HostIf).trReturn s.lmt c f.2.1 } c n
      else s

/-- Buffers have become available: a SPILLING channel drains (R271). -/
def State.trBuffers (s : State) (c : Nat) : State :=
  let ch := s.chan c
  if ch.st == .spilling && s.host.dma && decide (0 < trFree (s.host.trBufs.getD c [])) then
    (s.setChan c { ch with st := .draining }).trDrain c ch.spill.length
  else s

/-- TAILRACE_DRAIN_DONE: a DRAINING channel whose spill is empty is RUNNING again (R271). -/
def trDrainDone (c : Nat) (s : State) : State :=
  if (s.chan c).st == .draining then
    let s1 := s.trDrain c (s.chan c).spill.length
    if (s1.chan c).spill.isEmpty then (s1.setChan c { s1.chan c with st := .running }).raise EV_TR_DRAINED 0 [c] else s1
  else s

/-- A channel starts RUNNING, or SPILLING until its host supplies buffers; what a stop left in its spill drains first (R270, R271, R274; log 231). -/
def State.trStart (s : State) (c : Nat) : State :=
  let ch := s.chan c
  if ch.st == .stopped then
    if s.host.dma && decide (0 < trFree (s.host.trBufs.getD c [])) then
      if ch.spill.isEmpty then s.setChan c { ch with st := .running }
      else (s.setChan c { ch with st := .draining }).trDrain c ch.spill.length
    else s.setChan c { ch with st := .spilling }
  else s

def trGate (h : CmdHdr) (s : State) : Gate :=
  { invalid := firstBad [needSys h, noBuf h, needP 0 (decide (h.p 0 1 ≤ 15)), zeroTail h 1], refused := (s.rec? 0x16 (h.p 0 1)).isNone }

/-- What TrStart checks before its rule runs (R427, R429). -/
def gateTrStart (h : CmdHdr) (s : State) : Gate :=
  trGate h s

/-- Effect of TrStart. -/
def goTrStart (f : Flight) (s : State) : State :=
  let h := f.h
  (s.trStart (h.p 0 1)).ok f

def runTrStart (h : CmdHdr) (s : State) : State := start 0x0A06 (gateTrStart h s) goTrStart h s

/-- What TrStop checks before its rule runs (R427, R429). -/
def gateTrStop (h : CmdHdr) (s : State) : Gate :=
  trGate h s

/-- Effect of TrStop. -/
def goTrStop (f : Flight) (s : State) : State :=
  let h := f.h
  let c := h.p 0 1
  ((s.trFlush c true).setChan c { (s.trFlush c true).chan c with st := .stopped }).ok f

/-- TR_STOP: production stops at the fetch; it completes when the partly filled buffer is back (R270). -/
def runTrStop (h : CmdHdr) (s : State) : State := start 0x0A07 (gateTrStop h s) goTrStop h s

/-- What TrFlush checks before its rule runs (R427, R429). -/
def gateTrFlush (h : CmdHdr) (s : State) : Gate :=
  trGate h s

/-- Effect of TrFlush. -/
def goTrFlush (f : Flight) (s : State) : State :=
  let h := f.h
  (s.trFlush (h.p 0 1) true).ok f

def runTrFlush (h : CmdHdr) (s : State) : State := start 0x0A08 (gateTrFlush h s) goTrFlush h s

/-! The event log. -/

/-- Changes the log. -/
def State.setLog (s : State) (l : EvLog) : State := { s with log := l }

/-- The oldest record that is not durable becomes so (R264). -/
def durableFirst : List LogRec → List LogRec
  | [] => []
  | r :: rs => if r.durable then r :: durableFirst rs else { r with durable := true } :: rs

def logRecordDurable (s : State) : State := s.setLog { s.log with recs := durableFirst s.log.recs }

def logRateSecond (s : State) : State := s.setLog (s.log.second s.lmt)

/-- The freeze ends: EV_LOG_THAWED, then the reserve entries with RESERVE set (R265). -/
def State.thawFor (s : State) (dur : Nat) : State :=
  let l := s.log
  let s1 := s.setLog { l with frozen := false, counters := [0, 0, 0, 0, 0, 0, 0, 0], reserve := [], notReserved := 0 }
  let s2 := s1.raiseReq [{ code := EV_LOG_THAWED, sev := evSev EV_LOG_THAWED, always := true,
                           params := l.counters ++ [l.reserve.length, l.notReserved] ++ par64 dur }]
  l.reserve.foldl (fun s e =>
    let w := s.log.write e true
    (s.setLog w.1).raiseIf w.2 EV_LOG_DROPPED) s2

/-- REC_THAW and FREEZE_MAX end the freeze after the time since it began (R265). -/
def State.thaw (s : State) : State := s.thawFor (s.lmt - s.log.frozenAt)

def logFreezeExpiry (s : State) : State :=
  if s.log.frozen && decide (s.log.frozenAt + s.freezeMax * 1000000000 ≤ s.lmt) then s.thaw else s

/-- The bytes of an event record (R260). -/
def evBytes (e : Event) (reserve : Bool) : Bytes :=
  let n := evLen e
  let b := toLe (n / 8) 1 ++ toLe (e.sev + mkBit e.cleared 3 + mkBit reserve 4) 1 ++ toLe e.code 2 ++ toLe e.bootId 4 ++ toLe e.lmt 8
  if n = 16 then b
  else
    let c := b ++ toLe e.suppressed 2 ++ toLe e.unit 2 ++ toLe e.point 4 ++ e.params.flatMap (fun p => toLe p 4)
    c ++ List.replicate (n - c.length) 0

/-- The records that fit in `n` bytes, each behind its 8-byte sequence (R264). -/
def logFit : List LogRec → Nat → List LogRec
  | [], _ => []
  | r :: rs, n => if 8 + evLen r.ev ≤ n then r :: logFit rs (n - (8 + evLen r.ev)) else []

/-- What LogRead checks before its rule runs (R427, R429). -/
def gateLogRead (h : CmdHdr) (_ : State) : Gate :=
  { exempt := true, invalid := firstBad [needSys h, needBuf h 8, zeroTail h 20] }

/-- Effect of LogRead. -/
def goLogRead (f : Flight) (s : State) : State :=
  let h := f.h
  let rs := logFit (s.log.recs.filter (fun r => decide (h.p 12 8 ≤ r.seq))) h.bufLen
  s.okOut f (nums (rs.flatMap (fun r => toLe r.seq 8 ++ evBytes r.ev r.reserve)))
    ((rs.getLast?.map (fun r => r.seq + 1)).getD (max (h.p 12 8) 0)) rs.length

/-- LOG_READ: DETAIL the count, RESULT the next sequence (R264; the places are log 22). -/
def runLogRead (h : CmdHdr) (s : State) : State := start 0x0A09 (gateLogRead h s) goLogRead h s

/-- What LogClear checks before its rule runs (R427, R429). -/
def gateLogClear (h : CmdHdr) (s : State) : Gate :=
  { invalid := firstBad [needSys h, noBuf h, zeroTail h 0], refused := s.log.frozen }

/-- Effect of LogClear. -/
def goLogClear (f : Flight) (s : State) : State :=
  ((s.setLog { s.log with recs := [] }).raiseReq [{ code := EV_LOG_CLEARED, sev := evSev EV_LOG_CLEARED, always := true }]).ok f

def runLogClear (h : CmdHdr) (s : State) : State := start 0x0A0A (gateLogClear h s) goLogClear h s

/-- One 64-byte catalogue entry (R259); NPARAM and PTYPE are the stepping's own. -/
def catEntry (s : State) (e : Nat × Nat × String) : List Nat :=
  let rb := s.bucketSet e.1
  let cat := Config.catalogue e.1
  let name := (e.2.2.toList.map (fun c => c.toNat)).take 32
  nums (toLe e.1 2 ++ toLe e.2.1 1) ++ [cat.headD 0] ++ nums (toLe rb.1 4 ++ toLe rb.2 2 ++ toLe 0 6)
    ++ name ++ List.replicate (32 - name.length) 0 ++ (cat.drop 1).take 8 ++ List.replicate 8 0

/-- What LogCatalogue checks before its rule runs (R427, R429). -/
def gateLogCatalogue (h : CmdHdr) (_ : State) : Gate :=
  { exempt := true, invalid := firstBad [needSys h, needBuf h (64 * evTable.length), zeroTail h 12] }

/-- Effect of LogCatalogue. -/
def goLogCatalogue (f : Flight) (s : State) : State :=
  s.okOut f (evTable.flatMap (catEntry s))

def runLogCatalogue (h : CmdHdr) (s : State) : State := start 0x0A0B (gateLogCatalogue h s) goLogCatalogue h s

/-- What RecFreeze checks before its rule runs (R427, R429). -/
def gateRecFreeze (h : CmdHdr) (s : State) : Gate :=
  { invalid := firstBad [needSys h, noBuf h, zeroTail h 0], refused := s.log.frozen }

/-- Effect of RecFreeze. -/
def goRecFreeze (f : Flight) (s : State) : State :=
  (s.setLog { s.log with frozen := true, frozenAt := s.lmt }).ok f

/-- REC_FREEZE takes effect at its fetch (R265). -/
def runRecFreeze (h : CmdHdr) (s : State) : State := start 0x0A0C (gateRecFreeze h s) goRecFreeze h s

/-- What RecThaw checks before its rule runs (R427, R429). -/
def gateRecThaw (h : CmdHdr) (s : State) : Gate :=
  { invalid := firstBad [needSys h, noBuf h, zeroTail h 0], refused := !s.log.frozen }

/-- Effect of RecThaw. -/
def goRecThaw (f : Flight) (s : State) : State :=
  s.thaw.ok f

def runRecThaw (h : CmdHdr) (s : State) : State := start 0x0A0D (gateRecThaw h s) goRecThaw h s

/-- A state of a channel as its code (R275). -/
def trCode : TrState → Nat
  | .stopped => 0
  | .running => 1
  | .spilling => 2
  | .draining => 3

/-- Channel and log points of local node 18 (R275). -/
def State.recPoints (s : State) : State :=
  let s1 := (s.recsOf 0x16).foldl (fun s b =>
    let c := byteAt b 0
    let ch := s.chan c
    (((((s.wrLocal 18 (128 + c * 8) (trCode ch.st)).wrLocal 18 (128 + c * 8 + 1) (ch.spillBytes / 1024 : Nat)).wrLocal 18 (128 + c * 8 + 2) ch.gaps.toNat)
      ).wrLocal 18 (128 + c * 8 + 3) ch.lostRecords.toNat).wrLocal 18 (128 + c * 8 + 4) ((ch.seq - 1).toNat)) s
  let l := s.log
  (((((s1.wrLocal 18 256 (mkBit l.frozen 0 + mkBit l.episode 1 : Nat)).wrLocal 18 257 (logUsed l.recs / 1024 : Nat)).wrLocal 18 258 l.recs.length
    ).wrLocal 18 259 l.dropped.toNat).wr64 (ptAddr s 0 18 260) (l.nextSeq - 1)).wrLocal 18 262 l.reserve.length

end Sys2Proof.Machine
end

