-- ==== Sys2Proof/Machine/LogicProg.lean ====
section
/-! DEFINITION. Sections of a logic program image (R294). -/

namespace Sys2Proof.Machine

def align8 (n : Nat) : Nat := (n + 7) / 8 * 8

def lpTasks (_ : Bytes) : Nat := 64
def lpBlocks (b : Bytes) : Nat := 64 + 16 * le b 18 2
def lpRefs (b : Bytes) : Nat := lpBlocks b + 8 * le b 16 2
def lpTimers (b : Bytes) : Nat := lpRefs b + 8 * le b 12 4
def lpCounters (b : Bytes) : Nat := lpTimers b + 8 * le b 20 2
def lpVars (b : Bytes) : Nat := lpCounters b + 8 * le b 22 2
def lpCode (b : Bytes) : Nat := lpVars b + 16 * le b 24 4

/-- The 16 bytes of a task's entry. -/
def lpTask? (b : Bytes) (task : Nat) : Option Bytes :=
  ((List.range (le b 18 2)).find? (fun i => byteAt b (64 + 16 * i) = task)).map (fun i => slice b (64 + 16 * i) 16)

/-- The task entry of an engine's running program. -/
def State.logicTask? (s : State) (engine task : Nat) : Option Bytes := lpTask? (s.eng engine).prog.fg task

/-- The event task entry whose Hopper task is `n`, with its task number. -/
def lpEvent? (b : Bytes) (n : Nat) : Option Bytes :=
  ((List.range (le b 18 2)).find? (fun i => byteAt b (64 + 16 * i + 1) = 1 && le b (64 + 16 * i + 6) 2 = n)).map (fun i => slice b (64 + 16 * i) 16)

end Sys2Proof.Machine
end

