-- ==== Sys2Proof/Machine/Hopper.lean ====
section
/-! DEFINITION. Hopper: deals, dispatch, deal records, extension tasks, and the event concentrator (R447 to R466). -/

namespace Sys2Proof.Machine

/-- A Hopper task's record as configured (R456), with the program's figures for a logic event task. -/
structure HopCfg where
  ext : Bool
  prio : Nat
  ceiling : Nat
  all : Bool
  auto : Bool
  core : Nat
  mask : W32
  age : Nat
  period : Nat
  phase : Nat
  budget : Nat
  minGap : Nat
  ltask : Nat
  deriving DecidableEq, Repr

/-- Configuration of a task (R456); none for a runtime or unconfigured task. -/
def State.hopCfg? (s : State) (n : Nat) : Option HopCfg :=
  (s.rec? 0x30 n).map fun b =>
    let e := ((s.logicTask? (le b 40 2 / 256 % 16) (le b 40 2 % 256)).getD [])
    let ext := byteAt b 2 == 1
    { ext := ext
      prio := if ext then byteAt b 3 else byteAt e 2
      ceiling := byteAt b 4
      all := byteAt b 5 == 1
      auto := (byteAt b 6).testBit 0
      core := byteAt b 7
      mask := BitVec.ofNat 32 (le b 8 4)
      age := le b 12 4 * 1000
      period := le b 16 4 * 1000
      phase := le b 20 4 * 1000
      budget := le b 24 4
      minGap := (if ext then le b 28 4 else le e 12 4) * 1000
      ltask := le b 40 2 }

/-- Effective priority (R452). -/
def effPrio (c : HopCfg) (k : HopTask) : Nat := if k.aged then max c.ceiling c.prio else c.prio

/-- The wait condition holds (R449). -/
def waitMet (c : HopCfg) (flags : W32) : Bool :=
  if c.all then flags &&& c.mask == c.mask else flags &&& c.mask != 0

/-- The flag that completed the condition: the lowest of MASK among the bits that arrived, else the lowest set (R454; log 20). -/
def waitFlag (c : HopCfg) (flags new : W32) : Nat :=
  let f := if flags &&& c.mask &&& new != 0 then flags &&& c.mask &&& new else flags &&& c.mask
  ((List.range 32).find? (fun i => f.getLsbD i)).getD 255

/-- A period tick falls after the last deal and by the end of this one (R449). -/
def tickDue (c : HopCfg) (last t : Nat) : Bool :=
  c.period != 0 && c.phase ≤ t && (last < c.phase || (last - c.phase) / c.period < (t - c.phase) / c.period)

/-- What one deal decides for one task. -/
structure DealOut where
  task : HopTask
  recs : List DealRec := []
  /-- Hand the release to its engine; drop the release the engine holds; count MERGED at the engine. -/
  release : Bool := false
  drop : Bool := false
  merged : Bool := false
  aged : Bool := false
  /-- The task has left its core. -/
  freed : Bool := false
  deriving DecidableEq, Repr

/-- A deal record of a task (R454); its sequence is given when the deal is written. -/
def dealRec (t n action : Nat) (c : HopCfg) (k : HopTask) (flags flag : Nat) : DealRec :=
  { seq := 0, lmt := t, task := n, action := action, prio := effPrio c k, where' := c.core + mkBit (!c.ext) 3,
    flags := flags + mkBit k.aged 0, flag := flag }

/-- The end of a run in progress: statistics, and back to WAITING with PRIORITY (R450, R452). A run on a core counts its core time, a logic run the
time from its start to its end (log 247). -/
def HopTask.ended (k : HopTask) (t : Nat) (running : Bool) : HopTask :=
  let used := k.coreNs + (if running then t - k.since else 0)
  { k with st := .waiting, aged := false, started := false, released := false, coreNs := 0, longest := max k.longest used }

/-- Requests to one task, in the order a deal takes them: ends first, then starts, flags, and the cancel. -/
def reqFlags (n : Nat) (rs : List HopReq) : W32 :=
  rs.foldl (fun b r => match r with
    | .flags m x => if m = n then b ||| x else b
    | _ => b) 0

/-- The engine of a logic event task started its run in this deal (R279, R450). -/
def startedBy (n : Nat) (rs : List HopReq) : Bool := rs.any (fun r => match r with
  | .engineStart m _ => m == n
  | _ => false)

/-- A run that was ended at once, by a fault or EXT_STOP, shows in this deal's record (R454, R464). -/
def cutRecs (c : HopCfg) (n t : Nat) (k : HopTask) (rs : List HopReq) : List DealRec := rs.flatMap (fun r => match r with
  | .fault m a => if m = n then [dealRec t n 9 c { k with aged := a } 0 255] else []
  | .stop m a => if m = n then [dealRec t n 12 c { k with aged := a } 0 255] else []
  | _ => [])

/-- A logic run that its engine has started (R450, R452). -/
def HopTask.begun (k : HopTask) (t : Nat) : HopTask :=
  { k with released := false, started := true, since := t, coreNs := 0, runs := k.runs + 1, maxWait := max k.maxWait (t - k.readyAt) }

/-- One deal for one task, dispatch apart (R448 to R453): what happened to its runs comes first, then starts, flags, the cancel and aging. -/
def dealTask (c : HopCfg) (n t last : Nat) (onCore : Bool) (rs : List HopReq) (kIn : HopTask) : DealOut :=
  -- a logic run's start, then ends of runs
  let estart := !c.ext && kIn.st == .running && kIn.released && startedBy n rs
  let k0 := if estart then kIn.begun t else kIn
  let r0 := (if estart then [dealRec t n 8 c k0 0 255] else []) ++ cutRecs c n t k0 rs
  let live := if c.ext then onCore else k0.started
  let o1 : DealOut :=
    if rs.contains (.runEnd n) && k0.st == .running then
      { task := k0.ended t live, recs := r0 ++ [dealRec t n 5 c k0 0 255], freed := onCore }
    else if rs.contains (.overrun n) && k0.st == .running then
      { task := k0.ended t live, recs := r0 ++ [dealRec t n 10 c k0 0 255], freed := onCore }
    else { task := k0, recs := r0 }
  let k1 := o1.task
  -- starts
  let start := rs.contains (.start n) && (k1.st == .dormant || k1.st == .faulted)
  let k2 := if start then { k1 with st := .waiting, flags := 0, heldFlags := 0 } else k1
  let r2 := if start then o1.recs ++ [dealRec t n 11 c k2 0 255] else o1.recs
  -- flags and the period tick
  let bits := (reqFlags n rs ||| k2.heldFlags) ||| (if tickDue c last t then 0x80000000#32 else 0#32)
  let dead := k2.st == .dormant || k2.st == .faulted
  let gap := c.ext && match k2.lastRel with
    | some l => decide (t < l + c.minGap)
    | none => false
  let held := !dead && k2.st == .waiting && gap && waitMet c (k2.flags ||| bits)
  let k3 := if dead then k2
    else if held then { k2 with heldFlags := bits }
    else { k2 with flags := k2.flags ||| bits, heldFlags := 0 }
  -- readiness
  let met := !dead && !held && waitMet c k3.flags
  let becomes := met && k3.st == .waiting
  let merges := met && !c.ext && (k3.st == .ready || (k3.st == .running && k3.released))
  let flag := waitFlag c k3.flags bits
  let k4 := if becomes then
      { k3 with st := HopState.ready, flags := k3.flags &&& ~~~ c.mask, readyAt := t, orderAt := t, readies := k3.readies + 1, lastRel := some t }
    else if merges then { k3 with flags := k3.flags &&& ~~~ c.mask }
    else k3
  let r4 := if merges then r2 ++ [dealRec t n 1 c k4 8 flag] else r2
  -- the cancel
  let cancel := rs.contains (.cancel n)
  let heldRel := !c.ext && k4.st == .running && k4.released
  if cancel && becomes then
    { o1 with task := { k4 with st := .waiting }, recs := r4 ++ [dealRec t n 6 c k4 6 flag], merged := merges }
  else if cancel && (k4.st == .ready || heldRel) then
    { o1 with task := { k4 with st := .waiting, aged := false, released := false }, recs := r4 ++ [dealRec t n 6 c k4 2 255],
              drop := heldRel, merged := merges }
  else
    let r5 := if becomes then r4 ++ [dealRec t n 1 c k4 4 flag] else r4
    -- aging: waiting for dispatch, or for the engine to start the run
    let waits := k4.st == .ready || (!c.ext && k4.st == .running && k4.released)
    let ages := waits && c.age != 0 && !k4.aged && decide (k4.readyAt + c.age ≤ t)
    let k5 := if ages then { k4 with aged := true, orderAt := t, agedRuns := k4.agedRuns + 1 } else k4
    -- a logic release goes to its engine
    if !c.ext && k5.st == .ready then
      { o1 with task := { k5 with st := .running, released := true }, recs := r5 ++ [dealRec t n 7 c k5 0 255],
                release := true, merged := merges, aged := ages }
    else { o1 with task := k5, recs := r5, merged := merges, aged := ages }

/-- Task `a` runs before task `b` on a core: priority, then the deal in which it became ready, then the number (R451). -/
def runsBefore (ca cb : HopCfg) (a b : HopTask) (na nb : Nat) : Bool :=
  let pa := effPrio ca a
  let pb := effPrio cb b
  decide (pb < pa) || (pa == pb && (decide (a.orderAt < b.orderAt) || (a.orderAt == b.orderAt && decide (na < nb))))

/-- The configured tasks, ascending. -/
def State.hopTasks (s : State) : List Nat := (s.recsOf 0x30).map (fun b => le b 0 2)

/-- The task a core is to run (R451). -/
def State.bestOn (s : State) (core : Nat) : Option Nat :=
  s.hopTasks.foldl (fun best n =>
    match s.hopCfg? n with
    | none => best
    | some c =>
      let k := s.hopT n
      if c.ext && c.core == core && (k.st == .ready || k.st == .running) then
        match best with
        | none => some n
        | some m => match s.hopCfg? m with
          | some cm => if runsBefore c cm k (s.hopT m) n m then some n else best
          | none => some n
      else best) none

/-- Dispatch on one core at the end of a deal: preempts, resumes or starts. Answers the records (R451, R454). -/
def State.dispatch (s : State) (t core : Nat) : State × List DealRec :=
  let cur := s.hop.onCore.get? core
  let best := if s.drives then s.bestOn core else none
  if best == cur then (s, [])
  else
    let a : State × List DealRec := match cur with
      | none => (s, [])
      | some m =>
        let k := s.hopT m
        if k.st == .running then
          match s.hopCfg? m with
          | some c => (s.setHopT m { k with coreNs := k.coreNs + (t - k.since) }, [dealRec t m 3 c k 0 255])
          | none => (s, [])
        else (s, [])
    match best with
    | none => ({ a.1 with hop := { a.1.hop with onCore := a.1.hop.onCore.erase core } }, a.2)
    | some n =>
      let k := a.1.hopT n
      let k' := if k.started then { k with since := t }
        else { k with st := HopState.running, started := true, since := t, coreNs := 0, runs := k.runs + 1, maxWait := max k.maxWait (t - k.readyAt) }
      let s2 := a.1.setHopT n k'
      ({ s2 with hop := { s2.hop with onCore := s2.hop.onCore.set core n } },
       match s.hopCfg? n with
        | some c => a.2 ++ [dealRec t n (if k.started then 4 else 2) c k 0 255]
        | none => a.2)

/-- Inserts a record after those of lower or equal task number. -/
def insRec (r : DealRec) : List DealRec → List DealRec
  | [] => [r]
  | x :: xs => if r.task < x.task then r :: x :: xs else x :: insRec r xs

/-- Records of one deal in ascending task number (R454). -/
def sortRecs (rs : List DealRec) : List DealRec := rs.foldl (fun a r => insRec r a) []

/-- Writes the records of a deal to the trace ring: 65,536, the oldest overwritten (R454). -/
def Hopper.record (h : Hopper) (rs : List DealRec) : Hopper :=
  rs.foldl (fun h r => { h with trace := (h.trace ++ [{ r with seq := h.nextSeq }]).drop (h.trace.length + 1 - 65536), nextSeq := h.nextSeq + 1 }) h

/-- A release reaches an engine; one that finds one pending merges with it (R279). -/
def Engine.release (e : Engine) (task t : Nat) : Engine :=
  if e.ready.any (fun r => r.task == task && !r.cyclic) then
    { e with figs := e.figs.upd task {} (fun f => { f with merged := f.merged + 1 }) }
  else { e with ready := e.ready ++ [{ task := task, at' := t, cyclic := false }] }

/-- What one deal did to one task takes effect. -/
def State.applyDeal (s : State) (n : Nat) (c : HopCfg) (t : Nat) (o : DealOut) : State :=
  let s1 := s.setHopT n o.task
  let s2 := if o.freed then { s1 with hop := { s1.hop with onCore := s1.hop.onCore.erase c.core } } else s1
  let e := c.ltask / 256 % 16
  let k := c.ltask % 256
  let en := s2.eng e
  let en1 := if o.release then en.release k t else en
  let en2 := if o.drop then { en1 with ready := en1.ready.filter (fun r => !(r.task == k && !r.cyclic)) } else en1
  let en3 := if o.merged then { en2 with figs := en2.figs.upd k {} (fun f => { f with merged := f.merged + 1 }) } else en2
  let s3 := if o.release || o.drop || o.merged then s2.setEng e en3 else s2
  s3.raiseIf o.aged EV_HOP_AGED 0 [n]

/-- Requests that commands in flight make of the next deal (R466). -/
def Flight.hopReq (f : Flight) : Option HopReq :=
  if f.held then none
  else if f.op = 0x1101 then some (.flags f.mark (BitVec.ofNat 32 (f.h.p 4 4)))
  else if f.op = 0x1102 then some (.cancel f.mark)
  else if f.op = 0x1105 then some (.start f.mark)
  else none

/-- Completions of the commands the deal took (R449, R453, R464). `s0` is the state before the deal. -/
def State.dealDone (s : State) (s0 : State) : State :=
  (s0.flights.filter (fun f => f.hopReq.isSome)).foldl (fun s f =>
    let k := s0.hopT f.mark
    let begins := s0.flights.any (fun g => g.hopReq == some (.start f.mark))
    let detail :=
      if f.op = 0x1101 then mkBit (decide (128 ≤ f.mark) && !begins && (k.st == .dormant || k.st == .faulted)) 0
      else if f.op = 0x1102 then
        (if f.mark < 128 then Config.firmwareTask f.mark k.flags s.lmt 8 % 2 else mkBit (k.st == .running && (k.started || startedBy f.mark s0.hop.reqs)) 0)
      else 0
    s.finish f ST_OK { detail := detail, commit := some s.lmt }) s

/-- The deal that ends at `t` (R448 to R454). The extension tasks of a module that is not ACTIVE or unpaired take no part (R465). -/
def State.deal (s : State) (t : Nat) : State :=
  let rs := s.hop.reqs ++ s.flights.filterMap Flight.hopReq
  let p := s.hopTasks.foldl (fun (p : State × List DealRec) n =>
    match p.1.hopCfg? n with
    | none => p
    | some c =>
      if c.ext && !s.drives then p else
      let o := dealTask c n t s.hop.dealAt (s.hop.onCore.get? c.core == some n) rs (p.1.hopT n)
      (p.1.applyDeal n c t o, p.2 ++ o.recs)) (s, [])
  let rt := (List.range 128).foldl (fun (q : State) n =>
    let b := reqFlags n rs
    if b == 0 then q else q.setHopT n { q.hopT n with flags := (q.hopT n).flags ||| b }) p.1
  let d := [4, 5, 6, 7].foldl (fun (p : State × List DealRec) c => let r := p.1.dispatch t c; (r.1, p.2 ++ r.2)) (rt, p.2)
  let s2 := { d.1 with hop := { (d.1.hop.record (sortRecs d.2)) with reqs := [], dealAt := t } }
  s2.dealDone s

/-- HOPPER_DEAL: deals begin and end at whole multiples of 100 ns (R448). -/
def hopperDeal (t : Nat) (s : State) : State := if t % 100 = 0 then s.deal t else s

/-- A request to the next deal. -/
def State.hopAsk (s : State) (r : HopReq) : State := { s with hop := { s.hop with reqs := s.hop.reqs ++ [r] } }

/-- EXT_RUN_END: the task on a core returns from its entry (R447, R450). -/
def extRunEnd (core : Nat) (s : State) : State := match s.hop.onCore.get? core with
  | some n => s.hopAsk (.runEnd n)
  | none => s

/-- EXT_BUDGET_OVERRUN: the run has used BUDGET of core time and is ended (R455). -/
def extBudgetOverrun (core : Nat) (s : State) : State := match s.hop.onCore.get? core with
  | some n =>
    let k := s.hopT n
    let b := ((s.hopCfg? n).map (·.budget)).getD 0
    if s.hop.reqs.contains (.overrun n) || s.hop.reqs.contains (.runEnd n) then s
    else if b ≤ k.coreNs + (s.lmt - k.since) then (s.hopAsk (.overrun n)).raise EV_EXT_OVERRUN 0 [n] else s
  | none => s

/-- EXT_FAULT: an access outside the partition, an illegal instruction or a misaligned access (R464). -/
def extFault (core cause addr : Nat) (s : State) : State := match s.hop.onCore.get? core with
  | some n =>
    let k := (s.hopT n).ended s.lmt true
    let s1 := (s.setHopT n { k with st := .faulted }).hopAsk (.fault n (s.hopT n).aged)
    ({ s1 with hop := { s1.hop with onCore := s1.hop.onCore.erase core } }).raise EV_EXT_FAULT 0 ([n, cause] ++ par64 addr)
  | none => s

/-! Event concentrator. -/

/-- Priority of a source: its record, or the firmware's for sources 1 to 383 (R457, R458). -/
def State.srcPrio (s : State) (n : Nat) : Nat :=
  if n < 384 then Config.firmwareSource n % 16 else byteAt (s.rcd 0x31 n) 2

/-- A source is targeted at a core (R457, R458). -/
def State.srcTarget (s : State) (n core : Nat) : Bool :=
  if n < 384 then decide (core < 4) && (Config.firmwareSource n).testBit (core + 4) else (byteAt (s.rcd 0x31 n) 3).testBit core

/-- A level source: pending while its condition holds; all others latch edges (R457). -/
def srcLevel (n : Nat) : Bool := decide (n < 384) && (Config.firmwareSource n).testBit 8

/-- The input edge of a DIO source is the one its record names (R458); a source without a record latches none (log 248). -/
def State.dioEdge (s : State) (n : Nat) (up : Bool) : Bool := match s.rec? 0x31 n with
  | some b => byteAt b 4 == 2 || byteAt b 4 == (if up then 0 else 1)
  | none => false

/-- Highest priority first, then the lowest number (R460). -/
def ecBest (s : State) (core : Nat) : Option Nat :=
  let th := (s.hop.cores.getD core {}).threshold
  (s.hop.sources).foldl (fun best e =>
    if e.2.pending && e.2.claimed.isNone && s.srcTarget e.1 core && decide (th < s.srcPrio e.1) then
      match best with
      | none => some e.1
      | some b => if s.srcPrio b < s.srcPrio e.1 then some e.1 else best
    else best) none

/-- A core's concentrator block changes. -/
def State.setCore (s : State) (core : Nat) (f : EcCore → EcCore) : State :=
  { s with hop := { s.hop with cores := s.hop.cores.upd core {} f } }

/-- EC_CLAIM: a read of CLAIM (R459, R460). -/
def ecClaim (core : Nat) (s : State) : State := match ecBest s core with
  | none => s.setCore core (fun c => { c with result := 0 })
  | some n =>
    let x := s.hop.sources.getD n {}
    let s1 := { s with hop := { s.hop with sources := s.hop.sources.set n { x with claimed := some core, pending := false, merged := 0 } } }
    s1.setCore core (fun c => { c with result := n, overruns := min 4294967295 (c.overruns + x.merged) })

/-- EC_COMPLETE: handling of a source is finished; a level that holds, or a new edge, is pending again (R460). -/
def ecComplete (_core src : Nat) (s : State) : State :=
  let x := s.hop.sources.getD src {}
  if x.claimed.isSome then
    { s with hop := { s.hop with sources := s.hop.sources.set src { x with claimed := none, pending := if srcLevel src then x.level else x.again, again := false } } }
  else s

/-- A source record of the concentrator changes. -/
def State.setSource (s : State) (n : Nat) (x : EcSource) : State := { s with hop := { s.hop with sources := s.hop.sources.set n x } }

/-- An edge reaches a source's latch (R460, R461). -/
def ecLatch (src : Nat) (s : State) : State :=
    let x := s.hop.sources.getD src {}
    let told := match x.toldAt with
      | some a => decide (s.lmt < a + 1000000000)
      | none => false
    match x.claimed with
    | none =>
      if x.pending then
        let s1 := { s with hop := { s.hop with sources := s.hop.sources.set src { x with merged := x.merged + 1, toldAt := if told then x.toldAt else some s.lmt } } }
        s1.raiseIf (!told) EV_EC_OVERRUN 0 [src]
      else { s with hop := { s.hop with sources := s.hop.sources.set src { x with pending := true } } }
    | some core =>
      if x.again then
        let s1 := { s with hop := { s.hop with sources := s.hop.sources.set src { x with toldAt := if told then x.toldAt else some s.lmt } } }
        (s1.setCore core (fun c => { c with overruns := min 4294967295 (c.overruns + 1) })).raiseIf (!told) EV_EC_OVERRUN 0 [src]
      else { s with hop := { s.hop with sources := s.hop.sources.set src { x with again := true } } }

/-- EC_SOURCE_EDGE: the input of a source rises or falls. A level source is pending while it holds and is unclaimed; a DIO source latches the edges its
record names; any other edge source latches the event; 480 to 511 are reserved (R457, R458, R460, R461). -/
def ecEdge (src : Nat) (up : Bool) (s : State) : State :=
  if src = 0 ∨ 479 < src then s
  else if srcLevel src then
    let x := s.hop.sources.getD src {}
    s.setSource src { x with level := up, pending := up && x.claimed.isNone }
  else if 384 ≤ src ∧ src < 448 ∧ !s.dioEdge src up then s
  else ecLatch src s

/-- The asynchronous latch of an edge source holds an edge while the fabric clocks are stopped (R461). -/
def ecHold (src : Nat) (up : Bool) (s : State) : State :=
  if src = 0 ∨ 479 < src ∨ srcLevel src ∨ (384 ≤ src ∧ src < 448 ∧ !s.dioEdge src up) then s
  else s.setSource src { s.hop.sources.getD src {} with held := true }

/-- EC_RAISE: a write of RAISE, which raises only sources 448 to 479, or of THRESHOLD, whose reserved bits are ignored (R9, R459). -/
def ecRaise (core ofs val : Nat) (s : State) : State :=
  if ofs = 0 then s.setCore core (fun c => { c with threshold := val % 16 })
  else
    let src := val % 512
    if ofs = 0x0C ∧ 448 ≤ src ∧ src ≤ 479 then ecLatch src s else s

/-- EC_OVERRUNS_READ: a read of OVERRUNS, which then clears, or of THRESHOLD; the write-only COMPLETE and RAISE read zero (R10, R459). -/
def ecOverrunsRead (core ofs : Nat) (s : State) : State := s.setCore core (fun c =>
  if ofs = 0x10 then { c with result := c.overruns, overruns := 0 } else { c with result := if ofs = 0 then c.threshold else 0 })

/-! Commands 0x1101 to 0x1107 (R466). -/

/-- The task a Hopper command names (R466): by number, or the Hopper task of a logic event task. -/
def hopTarget (h : CmdHdr) (o : Nat) (s : State) : Option Nat :=
  if h.tgt = 0xF000 then some (h.p o 2)
  else ((s.logicTask? (h.inst / 256) (h.inst % 256)).bind (fun e => if byteAt e 1 = 1 then some (le e 6 2) else none))

/-- TARGET of a Hopper command and the task it names are valid (R466). -/
def hopNeed (h : CmdHdr) (o : Nat) (s : State) : Option Nat :=
  if h.tgt = 0xF000 then
    let n := h.p o 2
    needP o (decide (n < 128) || (decide (n ≤ 1023) && (s.hopCfg? n).isSome))
  else firstBad [needKind h 7, needP o (h.p o 2 == 0),
    if ((hopTarget h o s).bind s.hopCfg?).isSome then none else some 8]

/-- A logic task target is disabled when it or its engine is (R432). -/
def hopDisabled (h : CmdHdr) (s : State) : Bool :=
  h.tgt != 0xF000 && (s.isDis h.tgt || s.isDis (h.tgt / 256 * 256))

def gateHopFlag (h : CmdHdr) (s : State) : Gate :=
  { invalid := firstBad [noBuf h, hopNeed h 0 s, needP 2 (h.p 2 2 == 0), needP 4 (h.p 4 4 != 0), zeroTail h 8],
    unit := h.tgt, disabled := hopDisabled h s }

/-- HOP_FLAG and HOP_CANCEL wait for the next deal (R449, R453). -/
def goHopDeal (f : Flight) (s : State) : State := s.setFlight { f with mark := (hopTarget f.h 0 s).getD 0 }

def runHopFlag (h : CmdHdr) (s : State) : State := start 0x1101 (gateHopFlag h s) goHopDeal h s

def gateHopCancel (h : CmdHdr) (s : State) : Gate :=
  { invalid := firstBad [noBuf h, hopNeed h 0 s, zeroTail h 2], unit := h.tgt, disabled := hopDisabled h s }

def runHopCancel (h : CmdHdr) (s : State) : State := start 0x1102 (gateHopCancel h s) goHopDeal h s

/-- The 16 bytes of a deal record (R454). -/
def dealBytes (r : DealRec) : Bytes :=
  toLe r.lmt 8 ++ toLe r.task 2 ++ toLe r.action 1 ++ toLe r.prio 1 ++ toLe r.where' 1 ++ toLe r.flags 1 ++ toLe r.flag 1 ++ toLe r.seq 1

def gateHopTraceRead (h : CmdHdr) (_ : State) : Gate :=
  { exempt := true, invalid := firstBad [needSys h, needBuf h 16, if h.bufLen % 16 = 0 then none else some 24, zeroTail h 20] }

/-- HOP_TRACE_READ (R454). With no record written, the sequence of the first is a free value (log 3). -/
def goHopTraceRead (f : Flight) (s : State) : State :=
  let first := f.h.p 12 8
  let rs := (s.hop.trace.filter (fun r => first ≤ r.seq)).take (f.h.bufLen / 16)
  let lost := match s.hop.trace.head? with
    | some r => decide (first < r.seq)
    | none => false
  let s1 := s.raiseIf lost EV_HOP_TRACE_LOST
  match rs.head? with
  | some r => s1.okOut f (nums (rs.flatMap dealBytes)) r.seq rs.length
  | none => s1.useFree.okOut f [] s.freeVal 0

def runHopTraceRead (h : CmdHdr) (s : State) : State := start 0x1103 (gateHopTraceRead h s) goHopTraceRead h s

/-- Signed packages and images are required: a key slot is programmed and unsigned ones are not permitted (R438, R473). -/
def State.signedOnly (s : State) : Bool := s.sys.ckSlots.any (· != 0) && !s.sys.unsignedOk

/-- An extension image is well formed: header, length and CRC (R462). -/
def extImageOk (d : Bytes) : Bool :=
  le d 0 2 == 3 && (slice d 2 6).all (· == 0) && decide (le d 8 8 ≤ 536870912) && decide (32 + le d 8 8 ≤ d.length) &&
  le d 16 4 == crc32c (slice d 32 (le d 8 8)) && (slice d 20 12).all (· == 0)

def gateExtLoad (h : CmdHdr) (s : State) : Gate :=
  { invalid := firstBad [needSys h, needBuf h 32, zeroTail h 12,
      if extImageOk (h.data.take h.bufLen) && (!s.signedOnly || (h.sigOk && decide (3416 + le h.data 8 8 ≤ h.bufLen) && sigBlockOk h.data (32 + le h.data 8 8) 1 s.sys.ckSlots)) then none else some 16],
    refused := s.hopTasks.any (fun n => ((s.hopCfg? n).map (·.ext)).getD false && (s.hopT n).st != .dormant) }

/-- EXT_LOAD: the image is in the partition and on its way to MRAM; it completes when durable (R462). -/
def goExtLoad (f : Flight) (s : State) : State :=
  let img := f.h.data.take f.h.bufLen
  ({ s with hop := { s.hop with partition := img, image := img } }).setFlight { f with commit := some s.lmt }

def runExtLoad (h : CmdHdr) (s : State) : State := start 0x1104 (gateExtLoad h s) goExtLoad h s

/-- An extension task, 128 to 1023, that a record configures (R466). -/
def needExt (h : CmdHdr) (all : Bool) (s : State) : Option Nat :=
  needP 0 ((all && h.p 0 2 == 65535) || (decide (128 ≤ h.p 0 2) && ((s.hopCfg? (h.p 0 2)).map (·.ext)).getD false))

def gateExtStart (h : CmdHdr) (s : State) : Gate :=
  { invalid := firstBad [needSys h, noBuf h, needExt h false s, zeroTail h 2] }

/-- EXT_START completes at its deal (R464). -/
def goExtStart (f : Flight) (s : State) : State := s.setFlight { f with mark := f.h.p 0 2 }

def runExtStart (h : CmdHdr) (s : State) : State := start 0x1105 (gateExtStart h s) goExtStart h s

/-- A task's run ends at once, its flags clear and it is DORMANT (R464). -/
def State.hopStop (s : State) (n : Nat) : State :=
  let on := (s.hop.onCore).filter (fun e => e.2 != n)
  let k := s.hopT n
  let k1 := if k.st == .running then k.ended s.lmt (on.length != s.hop.onCore.length) else { k with aged := false }
  let s1 := s.setHopT n { k1 with st := .dormant, flags := 0, heldFlags := 0 }
  let s2 := { s1 with hop := { s1.hop with onCore := on } }
  if k.st == .dormant then s2 else s2.hopAsk (.stop n k.aged)

def gateExtStop (h : CmdHdr) (s : State) : Gate :=
  { invalid := firstBad [needSys h, noBuf h, needExt h true s, zeroTail h 2] }

/-- EXT_STOP of one task or, with 0xFFFF, of every extension task (R464). -/
def goExtStop (f : Flight) (s : State) : State :=
  let ns := if f.h.p 0 2 = 65535 then s.hopTasks.filter (fun n => ((s.hopCfg? n).map (·.ext)).getD false) else [f.h.p 0 2]
  (ns.foldl State.hopStop s).ok f

def runExtStop (h : CmdHdr) (s : State) : State := start 0x1106 (gateExtStop h s) goExtStop h s

def hopStCode : HopState → Nat
  | .dormant => 0
  | .waiting => 1
  | .ready => 2
  | .running => 3
  | .faulted => 4

/-- The 64 bytes of HOP_READ_STATE (R466). -/
def hopStateBytes (n : Nat) (k : HopTask) (c : Option HopCfg) : Bytes :=
  toLe n 2 ++ toLe (hopStCode k.st) 1 ++ toLe ((c.map (fun c => effPrio c k)).getD 0) 1 ++ toLe k.flags.toNat 4
    ++ toLe ((c.map (·.mask.toNat)).getD 0) 4 ++ toLe 0 4 ++ toLe k.readies 8 ++ toLe k.runs 8 ++ toLe k.agedRuns 8
    ++ toLe k.longest 8 ++ toLe k.maxWait 8 ++ toLe 0 8

/-- The same of a runtime task: the firmware's own, free values (R447, R466; log 249). -/
def firmwareTaskBytes (n : Nat) (flags : W32) (t : Nat) : Bytes :=
  let v (i : Nat) := Config.firmwareTask n flags t i
  toLe n 2 ++ toLe (v 0 % 5) 1 ++ toLe (v 1 % 64) 1 ++ toLe (v 2) 4 ++ toLe (v 3) 4 ++ toLe 0 4 ++ toLe (v 4) 8 ++ toLe (v 5) 8 ++ toLe (v 6) 8
    ++ toLe (v 7) 8 ++ toLe (v 9) 8 ++ toLe 0 8

def gateHopReadState (h : CmdHdr) (s : State) : Gate :=
  { exempt := true, invalid := firstBad [needBuf h 64, hopNeed h 12 s, zeroTail h 14], unit := h.tgt }

def goHopReadState (f : Flight) (s : State) : State :=
  let n := (hopTarget f.h 12 s).getD 0
  s.okOut f (nums (if n < 128 then firmwareTaskBytes n (s.hopT n).flags s.lmt else hopStateBytes n (s.hopT n) (s.hopCfg? n)))

def runHopReadState (h : CmdHdr) (s : State) : State := start 0x1107 (gateHopReadState h s) goHopReadState h s

end Sys2Proof.Machine
end

