-- ==== Sys2Proof/Machine/SafetyCalc.lean ====
section
/-! DEFINITION. One safety channel's evaluation of a cycle: pairs, pulse tests, reset sources, functions (R349 to R364), and the Nalat frame (R366 to R369). -/

namespace Sys2Proof.Machine

/-- A record of the accepted safety section. -/
def sfRec? (rs : List (Nat × Bytes)) (rt key : Nat) : Option Bytes :=
  (rs.find? (fun r => r.1 == rt && le r.2 0 (keyLen rt) == key)).map (·.2)

def sfRec (rs : List (Nat × Bytes)) (rt key : Nat) : Bytes := (sfRec? rs rt key).getD []

/-- Bodies of a record type, in ascending key order. -/
def sfAll (rs : List (Nat × Bytes)) (rt : Nat) : List Bytes :=
  ((rs.filter (fun r => r.1 == rt)).map (·.2)).mergeSort (fun a b => le a 0 (keyLen rt) ≤ le b 0 (keyLen rt))

/-! Fields of the function record (R358). -/
def fnNo (b : Bytes) : Nat := le b 0 2
def fnStop (b : Bytes) : Nat := byteAt b 2
def fnNin (b : Bytes) : Nat := byteAt b 4
def fnSo (b : Bytes) : Nat := byteAt b 5
def fnAxes (b : Bytes) : Nat := le b 16 8
def fnInKind (b : Bytes) (i : Nat) : Nat := byteAt b (24 + 4 * i)
def fnInBit (b : Bytes) (i : Nat) : Nat := byteAt b (25 + 4 * i)
def fnInIdx (b : Bytes) (i : Nat) : Nat := le b (26 + 4 * i) 2
def fnDelay (b : Bytes) : Nat := le b 56 4
def fnTol (b : Bytes) : Nat := le b 72 4
/-- Reset source: leg number, or 4,096 + 256 x connection + bit. -/
def fnReset (b : Bytes) : Nat := if byteAt b 6 = 1 then le b 8 2 else 4096 + 256 * le b 8 2 + byteAt b 7
/-- The function's inputs name a pair. -/
def fnHasPair (b : Bytes) (p : Nat) : Bool := (List.range (fnNin b)).any (fun i => fnInKind b i == 1 && fnInIdx b i == p)

/-- What both channels share in one cycle. -/
structure SafeStep where
  t : Nat
  cyc : Nat
  recs : List (Nat × Bytes)
  conns : SMap Conn
  /-- FIELD is low, HSTAT is FAULT_HALT: functions are held in SAFE (R360, R377). -/
  fieldLow : Bool
  faultHalt : Bool
  /-- Outputs latched faulty before this cycle, and those found faulty in it. -/
  outFault : List Nat
  newFault : List Nat
  cntA : SMap (List Int)
  cntB : SMap (List Int)

/-- Consumed data bit: data of the latest accepted frame in RUN with FS clear, else 0 (R369). -/
def connBit (conns : SMap Conn) (n b : Nat) : Bool :=
  let c := conns.getD n {}
  c.st == ConnState.run && !c.fs && (c.data.getD (b / 32) 0).getLsbD (b % 32)

/-! Test pulses (R354). -/

/-- Cycles since TPn's pulse started in the present period; none where it is not enabled. -/
def tpPhase (rs : List (Nat × Bytes)) (cyc n : Nat) : Option Nat :=
  let b := sfRec rs 0x21 0
  let p := 4 * le b 2 2
  if (byteAt b 0).testBit n && decide (n < 4) && decide (0 < p) then some ((cyc % p + p - n * le b 2 2) % p) else none

/-- The test pulse of leg `i` (0 first, 1 second) of a pair: its phase (R352). -/
def legPhase (rs : List (Nat × Bytes)) (cyc : Nat) (b : Bytes) (i : Nat) : Option Nat := tpPhase rs cyc (byteAt b (4 + i))

/-- A leg is inside its test window: the 2 samples of the pulse and the one after (R354). -/
def inWindow (ph : Option Nat) : Bool := match ph with
  | some k => decide (k < 3)
  | none => false

/-- Verdict of one readback of TPn: high at the second sample of its pulse and low outside the test window are faults; a sample on an edge of the
pulse, or of an output that is not enabled, gives none (R354; log 240). -/
def tpVerdict (rs : List (Nat × Bytes)) (cyc tp n : Nat) : Option Bool := match tpPhase rs cyc n with
  | some 1 => some (tp.testBit n)
  | some k => if k < 3 then none else some (!tp.testBit n)
  | none => none

/-- TPn reads back wrong in this sample (R354). -/
def tpWrong (rs : List (Nat × Bytes)) (cyc tp n : Nat) : Bool := tpVerdict rs cyc tp n == some true

/-- TP faults after a sample of both channels (R354). -/
def tpFaults (rs : List (Nat × Bytes)) (cyc tpA tpB : Nat) (old : List Nat) : List Nat :=
  (List.range 8).filter (fun k =>
    let n := k % 4
    if (tpPhase rs cyc n == some 1) = decide (k < 4) && (tpVerdict rs cyc tpA n).isSome then tpWrong rs cyc tpA n || tpWrong rs cyc tpB n
    else old.contains k)

/-- The leg counts as closed: one with a TEST_FAULT is treated as open, until it has passed 3 consecutive pulse tests (R354, R356; log 241). -/
def Leg.eff (l : Leg) : Bool := l.closed && (!l.testFault || decide (3 ≤ l.passed))

/-- One sample of a leg: the filter (R353), and the pulse test at the second sample of the pulse (R354). -/
def Leg.sample (l : Leg) (filter : Nat) (ph : Option Nat) (tpBad raw : Bool) : Leg :=
  let l1 : Leg := if inWindow ph then l
    else if raw = l.closed then { l with run := 0 }
    else if filter ≤ l.run + 1 then { l with closed := raw, run := 0 }
    else { l with run := l.run + 1 }
  let bad := tpBad || (ph == some 1 && l.closed && raw)
  if bad then { l1 with testFault := true, passed := 0 }
  else if ph == some 1 && l.closed then { l1 with passed := l1.passed + 1 } else l1

/-- A leg's pulse test failed between two samples: a new TEST_FAULT, or passed tests lost (R354, R356). -/
def Leg.failed (l l' : Leg) : Bool := l'.testFault && (!l.testFault || (l.passed != 0 && l'.passed == 0))

/-- Released combination of a pair's filtered legs (R352, R353). -/
def pairRel (mode : Nat) (a b : Bool) : Bool := if mode = 1 then a && b else if mode = 2 then a && !b else false

/-- Both legs in their demand states (R353, R356). -/
def pairFull (mode : Nat) (a b : Bool) : Bool := if mode = 1 then !a && !b else if mode = 2 then !a && b else false

/-- A latch of R356 holds. -/
def Pair.latched (p : Pair) : Bool := p.disc || p.a.testFault || p.b.testFault

/-- The pair counts as released for its functions: a latched pair is treated as demanding (R353, R356). -/
def Pair.released (p : Pair) (mode : Nat) : Bool := !p.latched && pairRel mode p.a.eff p.b.eff

/-- N_d (R355). -/
def pairNd (b : Bytes) : Nat := le b 8 4 / 250

/-- One sample of a pair, a count at N_d standing until its DISC_FAULT latches: legs, disagreement count (R355), progress of clearing a latch (R356), guard test (R360). -/
def Pair.sample (p : Pair) (x : SafeStep) (b : Bytes) (raw tp : Nat) : Pair :=
  let n := byteAt b 0
  let mode := byteAt b 1
  let pa := legPhase x.recs x.cyc b 0
  let pb := legPhase x.recs x.cyc b 1
  let tb := fun i => tpWrong x.recs x.cyc tp (byteAt b (4 + i))
  let a' := p.a.sample (byteAt b 3) pa (tb 0) (raw.testBit (2 * n))
  let b' := p.b.sample (byteAt b 3) pb (tb 1) (raw.testBit (2 * n + 1))
  let rel := pairRel mode a'.eff b'.eff
  let full := pairFull mode a'.eff b'.eff
  let win := inWindow pa || inWindow pb
  let reached := decide (0 < pairNd b) && decide (pairNd b ≤ p.count) && !p.disc
  let count := if (mode ≠ 1 ∧ mode ≠ 2) ∨ win ∨ reached then p.count else if rel || full then 0 else min (pairNd b) (p.count + 1)
  let fresh := p.a.failed a' || p.b.failed b'
  let clr := if fresh then 0 else if p.clearing = 0 then (if full then 1 else 0)
    else if p.clearing = 1 then (if rel then 2 else 1) else p.clearing
  { p with
    a := a', b := b', count := count
    clearing := if p.latched || fresh then clr else 0
    guard := if p.guard = 0 then (if full then 1 else 0) else if p.guard = 1 then (if rel then 2 else 1) else p.guard }

/-! Reset sources (R363). -/

/-- Level of a reset source: a leg's filtered state, a leg with a TEST_FAULT being open; or a consumed bit. -/
def resetLevel (pairs : SMap Pair) (conns : SMap Conn) (k : Nat) : Bool :=
  if k < 4096 then
    let p := pairs.getD (k / 2) {}
    let l := if k % 2 = 0 then p.a else p.b
    l.eff
  else connBit conns ((k - 4096) / 256) (k % 256)

/-- One cycle of a reset source, and whether it gives an edge: opening after 100 ms to 3 s closed, having been open since the start. -/
def resetStep (r : Option ResetSrc) (t : Nat) (level : Bool) : ResetSrc × Bool :=
  match r with
  | none => ({ closed := level, seenOpen := !level, since := t }, false)
  | some r =>
    if level = r.closed then (r, false)
    else if level then ({ r with closed := true, since := t, long := false }, false)
    else ({ r with closed := false, seenOpen := true, since := t }, r.seenOpen && decide (r.since + 100000000 ≤ t) && decide (t ≤ r.since + 3000000000))

/-! Functions (R358 to R364). -/

/-- An input of a function is released (R358). -/
def inputRel (x : SafeStep) (c : SafeChan) (b : Bytes) (i : Nat) : Bool :=
  match fnInKind b i with
  | 1 => (c.pairs.getD (fnInIdx b i) {}).released (byteAt (sfRec x.recs 0x20 (fnInIdx b i)) 1)
  | 2 => connBit x.conns (fnInIdx b i) (fnInBit b i)
  | 3 => (c.fns.getD (fnInIdx b i) {}).st == FnState.run
  | _ => false

/-- Speed of a channel's encoder: counts of the last 8 cycles x 500 (R362). -/
def encSpeed (m : SMap (List Int)) (e : Nat) : Int := ((m.getD e []).foldl (· + ·) 0) * 500

/-- |speed| as the function uses it, the point's figure, and whether the source fails in this cycle (differs, or is not in RUN) (R362). -/
def fnSpeed (x : SafeStep) (b : Bytes) : Nat × Int × Bool × Bool :=
  let i := le b 62 2
  if byteAt b 60 = 1 then
    let va := encSpeed x.cntA i
    let vb := encSpeed x.cntB i
    let v := max va.natAbs vb.natAbs
    (v, (v : Int), decide ((fnTol b : Int) < (va - vb).natAbs), false)
  else if byteAt b 60 = 2 then
    let c := x.conns.getD i {}
    let v := sgn 32 (c.data.getD (byteAt b 61) 0).toNat
    (v.natAbs, v, false, c.st != ConnState.run)
  else (0, 0, false, false)

/-- Entry to SAFE: torque removed (R360). -/
def SafeFn.enter (f : SafeFn) (reason : Nat) : SafeFn := { f with st := .safe, reason := reason, torqueOff := true }

/-- A cycle of a monitored stop (R362). -/
def SafeFn.ramp (f : SafeFn) (b : Bytes) (v : Nat) (differ off : Bool) : SafeFn × Bool :=
  let k := f.k + 1
  let lim4000 := f.v0 * 4000 - le b 64 8 * k + fnTol b * 4000
  let nOver := if lim4000 < v * 4000 then f.nOver + 1 else 0
  let nDiff := if differ then f.nDiff + 1 else 0
  let nZero := if v ≤ le b 76 4 then f.nZero + 1 else 0
  let g : SafeFn := { f with k := k, nOver := nOver, nDiff := nDiff, nZero := nZero }
  if 2 ≤ nOver then ({ g.enter 5 with latch := true }, true)
  else if 2 ≤ nDiff || off then ({ g.enter 6 with latch := true }, false)
  else if 8 ≤ nZero then (g.enter 1, false)
  else (g, false)

/-- One function in one cycle (R360): its new state and the events it reports. -/
def fnStep (x : SafeStep) (c : SafeChan) (fresh : List Nat) (edges : List Nat) (b : Bytes) : SafeFn × List Nat :=
  let f0 := c.fns.getD (fnNo b) {}
  let rels := (List.range (fnNin b)).map (inputRel x c b)
  let mask := ((List.range (fnNin b)).foldl (fun a i => a + mkBit (rels.getD i false) i) 0 : Nat)
  let allRel := rels.all id
  let sp := if fnStop b = 2 then fnSpeed x b else (0, 0, false, false)
  let f : SafeFn := { f0 with inputs := mask, speed := sp.2.1 }
  let testNew := fresh.any (fun p => fnHasPair b p)
  let outNew := x.newFault.any (fun o => (fnSo b).testBit o)
  let outOld := x.outFault.any (fun o => (fnSo b).testBit o)
  let nolatch := !f.latch && !outOld
  let guards := (List.range (fnNin b)).all (fun i =>
    fnInKind b i != 1 || !(byteAt (sfRec x.recs 0x20 (fnInIdx b i)) 2).testBit 0 || (c.pairs.getD (fnInIdx b i) {}).guard == 2)
  let nalat := (List.range (fnNin b)).any (fun i => !(rels.getD i false) && fnInKind b i == 2)
  let why := if nalat then 8 else 1
  if f.st == FnState.startTest then
    if guards && allRel && nolatch && !outNew && !x.faultHalt && !(x.fieldLow && fnSo b != 0) then ({ f with st := .ready }, []) else (f, [])
  else if x.faultHalt then (if f.st == FnState.safe then f else f.enter 13, [])
  else if outNew then (f.enter 4, [])
  else if testNew then (f.enter 3, [])
  else if x.fieldLow && fnSo b != 0 then (if f.st == FnState.safe then f else f.enter 10, [])
  else match f.st with
  | .safe => if allRel && nolatch then ({ f with st := .ready }, []) else (f, [])
  | .ready =>
    if !allRel then (f.enter why, [])
    else if edges.contains (fnReset b) then ({ f with st := .run, torqueOff := false }, [EV_SAFE_RUN])
    else (f, [])
  | .run =>
    if allRel then (f, [])
    else
      let g : SafeFn := { f with demands := f.demands + 1 }
      if fnStop b = 0 then (g.enter why, [EV_SAFE_DEMAND])
      else ({ g with st := .stopping, demandAt := x.t, k := 0, v0 := sp.1, nZero := 0, nOver := 0, nDiff := 0 }, [EV_SAFE_DEMAND])
  | .stopping =>
    if fnStop b = 2 then
      let r := f.ramp b sp.1 sp.2.2.1 sp.2.2.2
      (r.1, if r.2 then [EV_SAFE_RAMP_VIOLATION] else [])
    else (f, [])
  | .startTest => (f, [])

/-- The function's outputs carry torque: RUN, or STOPPING before removal (R364). -/
def SafeFn.torque (f : SafeFn) : Bool := f.st == FnState.run || (f.st == FnState.stopping && !f.torqueOff)

/-- Outputs a channel commands on: named by a function, and every function naming it carries torque (R364). -/
def chanOn (recs : List (Nat × Bytes)) (fns : SMap SafeFn) (fieldLow : Bool) (faulty : List Nat) : List Nat :=
  (List.range 8).filter (fun o =>
    let ns := (sfAll recs 0x22).filter (fun b => (fnSo b).testBit o)
    !ns.isEmpty && !fieldLow && !faulty.contains o && ns.all (fun b => (fns.getD (fnNo b) {}).torque))

/-- What one channel found in a cycle. -/
structure ChanOut where
  chan : SafeChan
  /-- Events, each with its function. -/
  events : List (Nat × Nat) := []
  /-- Pairs with a fresh TEST_FAULT. -/
  fresh : List Nat := []
  /-- Functions whose reset source gave an edge. -/
  edges : List Nat := []

/-- One channel's evaluation of a cycle (R349): pairs, resets, functions in ascending order, latches, output commands. -/
def chanEval (x : SafeStep) (raw tp so : Nat) (c : SafeChan) : ChanOut :=
  let prs := sfAll x.recs 0x20
  let pairs := prs.foldl (fun m b => SMap.set m (byteAt b 0) ((c.pairs.getD (byteAt b 0) {}).sample x b raw tp)) c.pairs
  let fresh := (prs.map (fun b => byteAt b 0)).filter (fun n =>
    let o := c.pairs.getD n {}
    let p := SMap.getD pairs n {}
    (p.a.testFault && !o.a.testFault) || (p.b.testFault && !o.b.testFault))
  let fs := sfAll x.recs 0x22
  let keys := (fs.map fnReset).eraseDups
  let rs := keys.foldl (fun (a : SMap ResetSrc × List Nat) k =>
    let r := resetStep (c.resets.get? k) x.t (resetLevel pairs x.conns k)
    (SMap.set a.1 k r.1, if r.2 then a.2 ++ [k] else a.2)) (c.resets, [])
  let c1 : SafeChan := { c with si := raw, tp := tp, so := so, pairs := pairs, resets := rs.1 }
  let ev := fs.foldl (fun (a : SafeChan × List (Nat × Nat)) b =>
    let r := fnStep x a.1 fresh rs.2 b
    let c2 : SafeChan := { a.1 with fns := SMap.set a.1.fns (fnNo b) r.1 }
    (c2, a.2 ++ r.2.map (fun e => (e, fnNo b)))) (c1, [])
  -- latches an edge clears (R356, R362)
  let edged := fs.filter (fun b => rs.2.contains (fnReset b))
  let pairs2 := SMap.mapV (fun n p =>
    if p.latched && p.clearing == 2 && edged.any (fun b => fnHasPair b n) then
      { p with disc := false, a := { p.a with testFault := false }, b := { p.b with testFault := false }, clearing := 0, count := 0 }
    else p) ev.1.pairs
  let fns2 := SMap.mapV (fun n f =>
    if f.latch && edged.any (fun b => fnNo b == n && f.inputs == 2 ^ fnNin b - 1) then { f with latch := false } else f) ev.1.fns
  let c3 : SafeChan := { ev.1 with
    pairs := pairs2, fns := fns2
    on := chanOn x.recs fns2 (x.fieldLow || x.faultHalt) (x.outFault ++ x.newFault) }
  { chan := c3, events := ev.2, fresh := fresh, edges := edged.map fnNo }

/-- Data in which the channels differ: terminals and readbacks, function states, output commands (R350). -/
def chanDiff (a b : SafeChan) (fs : List Nat) (differ : Bool) : List Nat :=
  ((List.range 24).filter (fun i => a.si.testBit i != b.si.testBit i))
  ++ (fs.filter (fun n => (a.fns.getD n {}).st != (b.fns.getD n {}).st)).map (· + 32)
  ++ ((List.range 8).filter (fun o => a.on.contains o != b.on.contains o)).map (· + 200)
  ++ ((List.range 4).filter (fun n => a.tp.testBit n != b.tp.testBit n)).map (· + 300)
  ++ ((List.range 16).filter (fun n => a.so.testBit n != b.so.testBit n)).map (· + 320)
  ++ (if differ then [999] else [])

/-! Nalat frames (R366 to R369). -/

def cnDir (b : Bytes) : Nat := byteAt b 2
def cnWords (b : Bytes) : Nat := byteAt b 5
def cnWd (b : Bytes) : Nat := le b 10 2
def cnId (b : Bytes) : Nat := le b 12 4

/-- CRC of a frame: CRC-32C with the register loaded with CONN_ID, over its words in big-endian order (R367). -/
def frameCrc (id : Nat) (ws : List Nat) : Nat :=
  (~~~ ((ws.flatMap (fun w => toBe w 4)).foldl crcByte (BitVec.ofNat 32 id))).toNat

/-- CTRL word (R366). -/
def frameCtrl (b : Bytes) (fs start : Bool) : Nat := cnWd b + 65536 * cnWords b + mkBit fs 24 + mkBit start 25

/-- AGE and the accepted frame's OFS sample (R369). -/
def frameOfs (rx prod : Nat) : Nat := (rx + 4294967296 - prod % 4294967296) % 4294967296

/-- What a consumer makes of the block it reads: the connection after it, and the events (R369). `rx` is its us clock. -/
def connRead (b : Bytes) (t rx : Nat) (ws : List W32) (c : Conn) : Conn × List Nat :=
  let n := cnWords b
  let v := fun i => (ws.getD i 0).toNat
  let seq := v 1
  if c.st == ConnState.off || c.st == ConnState.fault then (c, [])
  else if ws == c.seen then (c, [])
  else
    let c0 : Conn := { c with seen := ws }
    let bad : Conn := { c0 with errors := c.errors + 1, good := 0 }
    if v 0 ≠ cnId b ∨ v (4 + n) ≠ frameCrc (cnId b) ((List.range (4 + n)).map v) then (bad, [])
    else if bits (v 3) 23 16 ≠ n ∨ v 3 % 65536 ≠ cnWd b then ({ c0 with st := .fault, good := 0 }, [EV_NALAT_FAULT])
    else if c.has && seq == c.seq.toNat then (c0, [])
    else
      let d := (seq + 4294967296 - c.seq.toNat) % 4294967296
      let o := frameOfs rx (v 2)
      let first := c.st == ConnState.starting && c.good == 0 && c.ofs.isEmpty
      let ofs := if first then o else c.ofs.foldl min (c.ofs.headD o)
      let age := sgn 32 ((o + 4294967296 - ofs) % 4294967296)
      if c.has && !(v 3).testBit 25 && !(decide (1 ≤ d) && decide (d < 2147483648)) then (bad, [])
      else if (cnWd b * 100 : Int) ≤ age then (bad, [])
      else
        let acc : Conn := { c0 with
          has := true, seq := BitVec.ofNat 32 seq, prodTime := BitVec.ofNat 32 (v 2), lastAt := t, fs := (v 3).testBit 24
          ofs := (o :: c.ofs).take 1024, data := (List.range n).map (fun i => ws.getD (4 + i) 0) }
        match c.st with
        | .starting => if 2 ≤ c.good + 1 then ({ acc with st := .run, good := 0 }, [EV_NALAT_RUN]) else ({ acc with good := c.good + 1 }, [])
        | .timeout => ({ acc with st := .starting, good := 0, ofs := [] }, [])
        | _ => (acc, [])

/-- The frame a producer builds: words 0 to 4 + NWORDS, and the connection after it (R366, R368). -/
def connBuild (b : Bytes) (tUs : Nat) (running : Nat → Bool) (c : Conn) : List Nat × Conn :=
  let n := cnWords b
  let starting := decide (c.produced < 8)
  let dataBit := fun (w : Nat) => (List.range 32).foldl (fun a i =>
    let on := (List.range 32).any (fun k => byteAt b (16 + 2 * k) == 32 * w + i && (byteAt b (17 + 2 * k)).testBit 7 && running (byteAt b (17 + 2 * k) % 128))
    a + mkBit on i) 0
  let data := (List.range n).map (fun w => if starting then 0 else dataBit w)
  let fs := starting || data.all (· == 0)
  let seq := c.seq + 1
  let prod := wrapN 32 ((tUs : Int) + c.shift)
  let ws := [cnId b, seq.toNat, prod, frameCtrl b fs starting] ++ data
  let produced := if starting then c.produced + 1 else 8
  (ws ++ [frameCrc (cnId b) ws], { c with
    seq := seq, prodTime := BitVec.ofNat 32 prod, produced := produced, fs := fs
    st := if produced < 8 then .starting else .run })

end Sys2Proof.Machine
end

