-- ==== Sys2Proof/Machine/Redundancy.lean ====
section
/-! DEFINITION. Redundant pairs: roles, heartbeats, the failure rule, switch-over, the copy (R380 to R396). -/

namespace Sys2Proof.Machine

/-- The module is the preferred unit (R382). -/
def State.preferred (s : State) (partnerUnit partnerMac : Nat) : Bool :=
  if partnerUnit = s.sys.pairUnit then decide (s.red.mac < partnerMac) else byteAt s.pairRec 1 == s.sys.pairUnit

/-- A role as its code (R396); 5 while starting. -/
def roleCode : Role → Nat
  | .single => 0
  | .active => 1
  | .syncing => 2
  | .standby => 3
  | .blocked => 4
  | .starting => 5

def roleOf (n : Nat) : Role :=
  if n = 1 then .active else if n = 2 then .syncing else if n = 3 then .standby else if n = 4 then .blocked else .starting

/-- Extension tasks with FLAGS[0] start as at admission (R465). -/
def State.extAuto (s : State) : State :=
  s.hopTasks.foldl (fun s n => match s.hopCfg? n with
    | some c => if c.ext && c.auto then s.setHopT n { s.hopT n with st := .waiting, flags := 0, heldFlags := 0, aged := false, started := false } else s
    | none => s) s

/-- A module that is no longer ACTIVE or unpaired runs no extension task (R465). -/
def State.extQuit (s : State) : State :=
  s.hopTasks.foldl (fun s n => match s.hopCfg? n with
    | some c => if c.ext then s.hopStop n else s
    | none => s) s

/-- A role change with its effects on what the module drives and runs (R381, R391, R465). -/
def State.setRole (s : State) (r : Role) : State :=
  let s1 := { s with red := { s.red with role := r, goodSince := none, asking := false, gaveAt := none, driveActive := r == .active } }
  if s1.drives && !s.drives then s1.extAuto else if s.drives && !s1.drives then s1.extQuit else s1

/-- Ports whose links the pair uses: the configured Ethernet segments (R103). -/
def State.fieldPorts (s : State) : List Nat := (s.recsOf 0x08).map (fun b => byteAt b 0)

/-- Domain 0 is LOCKED or FREE (R123). -/
def State.dom0Good (s : State) : Bool := (s.dom 0).st == .locked || (s.dom 0).st == .free

/-- Payload of a pair heartbeat: SENT in domain 0, or in LMT where that is DISABLED (R122, R123). -/
def pairHbBytes (s : State) : Bytes :=
  let off := (s.dom 0).st == .disabled
  let t := if off then s.lmt else domTime (s.dom 0) s.lmt
  oczHead s 0x30 28 (s.sys.pairUnit % 2) 0 0 ++ toBe (if s.red.role == .active then 1 else 0) 1 ++ toBe s.red.health 1 ++ toBe (if off then 1 else 0) 1
    ++ toBe 0 1 ++ toBe s.red.hbSeq.toNat 4 ++ toBe (t / 1000000000) 8 ++ toBe (t % 1000000000) 4 ++ toBe 0 4

/-- A pair heartbeat leaves a field port on queue 7, launched now: from the unit MAC, or the announce from the PAIR_MAC (R107, R122, R380, R389).
With TBASE 1 the launch time is LMT: index 4 names no domain. -/
def State.pairHb (s : State) (port : Nat) (announce : Bool) : State :=
  let off := (s.dom 0).st == .disabled
  let d := if off then 4 else 0
  let fr : TxFrame := { s.oczFrame port 7 0x030000724300 (pairHbBytes s) with
    src := if announce then s.pairMac port else s.unitMac port, launch := some (domTime (s.dom d) s.lmt), dom := d }
  let s1 := s.put [fr]
  { s1 with red := { s1.red with
    hbSeq := s.red.hbSeq + 1
    sent := s.red.sent ++ [{ path := 1, at' := s.lmt, port := port, announce := announce, role := s.red.role, health := s.red.health, epoch := s.red.epoch }] } }

/-- The announce: a pair heartbeat from the PAIR_MAC on every field port (R389, R392). -/
def State.announce (s : State) : State := s.fieldPorts.foldl (fun s p => s.pairHb p true) s

/-- CAN ports enter normal mode after bus integration (R345, R391). -/
def State.canTakeover (s : State) : State :=
  { s with cans := s.cans.mapV (fun _ c => if c.st == .off then c else { c with listen := false, integrating := true }) }

/-- CAN ports listen only (R345, R391). -/
def State.canStandby (s : State) : State :=
  { s with cans := s.cans.mapV (fun _ c => if c.st == .off then c else { c with listen := true }) }

/-- A produced connection at a switch-over: SEQ from the mirrored value + 4, PROD_TIME from the mirrored value plus the time since (R370). -/
def Conn.takeover (c : Conn) (t : Nat) : Conn :=
  { c with seq := c.seq + 4, shift := (c.prodTime.toNat : Int) + ((t - c.lastAt) / 1000 : Nat) - (t / 1000 : Nat), lastAt := t }

/-- Produced Nalat connections continue at a switch-over (R370). -/
def State.nalatTakeover (s : State) : State :=
  { s with safe := { s.safe with conns := s.safe.conns.mapV (fun n c =>
      if cnDir (sfRec s.safe.recs 0x23 n) = 1 then c.takeover s.lmt else c) } }

/-- A Nalat figure of the unit delta: SEQ, PROD_TIME, OFS, remaining watchdog time in us, state, FS, data words (R370, R494; the link's coding is private, log 21). -/
def State.connDelta (s : State) (n j v : Nat) : State :=
  let c := s.safe.conns.getD n {}
  let b := sfRec s.safe.recs 0x23 n
  let c1 : Conn := match j with
    | 0 => { c with seq := BitVec.ofNat 32 v, has := true }
    | 1 => { c with prodTime := BitVec.ofNat 32 v, lastAt := if cnDir b = 1 then s.lmt else c.lastAt }
    | 2 => { c with ofs := [v] }
    | 3 => { c with lastAt := s.lmt + v * 1000 - cnWd b * 100000 }
    | 4 => { c with st := if v = 1 then .starting else if v = 2 then .run else if v = 3 then .timeout else if v = 4 then .fault else .off }
    | 5 => { c with fs := v == 1 }
    | _ => { c with data := (c.data ++ List.replicate (j - 7 - c.data.length) 0).set (j - 8) (BitVec.ofNat 32 v) }
  { s with safe := { s.safe with conns := s.safe.conns.set n c1 } }

/-- After a failure, no cycle that has begun is committed: each group starts with the first cycle at or after D + 50 us (R389). -/
def State.dropCycles (s : State) : State := { s with img := { s.img with groups := s.img.groups.mapV (fun _ g => { g with open' := false }) } }

/-- The module becomes ACTIVE at a switch-over: epoch + 1, announce, interfaces of R391. -/
def State.becomeActive (s : State) (cause : Nat) : State :=
  let s0 := s.setRole .active
  let s1 := if cause = 1 then s0.dropCycles else s0
  let s2 := { s1 with red := { s1.red with
    epoch := (s1.red.epoch + 1) % 256, switches := s1.red.switches + 1, lastAt := s.lmt, lastCause := cause, tookAt := some s.lmt } }
  ((s2.announce.canTakeover).nalatTakeover).raise EV_RED_SWITCHOVER 0 [cause, s2.red.epoch]

/-- What the standby of a synced pair has to hold is held: it is heard on the link after the change was durable, or there is no such standby any more
(R387; log 243). -/
def State.standbyConfirm (s : State) : State :=
  let s1 := s.mapBanks (fun b => { b with unheld := false })
  let s2 := { s1 with sets := s1.sets.mapV (fun _ x => { x with unheld := false }) }
  (s2.flights.filter (fun f => f.waitStandby)).foldl (fun s f => s.finish f ST_OK { result := f.res, detail := f.detail, inBuf := !f.out.isEmpty, out := f.out }) s2

/-- The partner is declared failed at this instant (R384, R389). -/
def State.declareFailed (s : State) : State :=
  if s.red.partnerLost then s
  else
    let s1 := { s with red := { s.red with partnerLost := true } }
    match s.red.role with
    | .standby => s1.becomeActive 1
    | .active => s1.standbyConfirm.raise EV_RED_PARTNER_LOST
    | .syncing => s1.raise EV_RED_TAKEOVER_REFUSED
    | .blocked => s1.raise EV_RED_TAKEOVER_REFUSED
    | _ => s1

/-- A heartbeat has arrived on a path: the path is heard (R383). -/
def State.pathHeard (s : State) (path : Nat) : State :=
  let was := if path = 0 then s.red.link.silent else s.red.portA.silent
  let s1 := if path = 0 then { s with red := { s.red with link := { heardAt := some s.lmt, silent := false } } }
    else { s with red := { s.red with portA := { heardAt := some s.lmt, silent := false } } }
  s1.raiseIf was EV_RED_PATH_LOST 0 [path] 0 true

/-- Cause for which the module does not pair with a partner as last heard: 1 variant, 2 stepping, 3 same PAIR_UNIT; 0 none (R4, R382). -/
def State.mismatchOf (s : State) (p : Partner) : Nat :=
  if p.variantS != s.sys.variantS then 1 else if p.stepping ≠ s.red.stepping then 2 else if p.unit = s.sys.pairUnit then 3 else 0

/-- Pairing is refused: the preferred unit goes on ACTIVE alone, the other is BLOCKED until its next start; reported once for a cause. It holds in any
role, since a mismatch can be heard after a heartbeat on port A, which carries neither variant nor stepping (R4, R381, R382). -/
def State.refusePairing (s : State) (p : Partner) (mismatch : Nat) : State :=
  let r : Role := if s.red.role == .blocked || !s.preferred p.unit p.mac then .blocked else .active
  let s1 := if s.red.role == r then s else if r == .active then s.setRole r else (s.setRole r).canStandby
  ({ s1 with red := { s1.red with mismatch := mismatch } }).raiseIf (s.red.mismatch != mismatch) EV_RED_MISMATCH 0 [mismatch]

/-- The start rows of R381: what a module waiting for a partner does when it hears one. -/
def State.startPairing (s : State) (p : Partner) : State :=
  if s.red.role != .starting then s
  else if p.role == .active then (s.setRole .syncing).raise EV_RED_PAIRED
  else (s.setRole (if s.preferred p.unit p.mac then .active else .syncing)).raise EV_RED_PAIRED

/-- An ACTIVE module that hears its partner ACTIVE yields to the newer epoch, or to the preferred unit (R395). -/
def State.dualActive (s : State) (p : Partner) : State :=
  if s.red.role == .active && p.role == .active &&
     (epochNewer p.epoch s.red.epoch || (p.epoch == s.red.epoch && !s.preferred p.unit p.mac)) then
    ((s.setRole .syncing).canStandby).raise EV_RED_DUAL_ACTIVE 0 [s.red.epoch, p.epoch]
  else s

/-- Without a break STANDBY, healthy, both paths heard (R393). -/
def State.trackGood (s : State) : State :=
  let good := s.red.role == .standby && s.red.health == 0 && s.red.link.heardAt.isSome && !s.red.link.silent
    && s.red.portA.heardAt.isSome && !s.red.portA.silent
  { s with red := { s.red with goodSince := if good then some (s.red.goodSince.getD s.lmt) else none } }

/-- Copy format of the running firmware (R485). -/
def State.copyFmt (s : State) : Nat := Config.copyFormat (s.sys.slots.getD s.sys.runSlot {}).version

/-- A standby whose partner declares another copy format is BLOCKED until the formats match; it then pairs as at a start (R485). -/
def State.formatGate (s : State) (p : Partner) : State := match p.copyFmt with
  | none => s
  | some x =>
    if x = s.copyFmt then (if s.red.fmtBlock && s.sys.st != .faultHalt then { s with red := { s.red with role := .starting, fmtBlock := false } } else s)
    else if s.red.role == .syncing || s.red.role == .standby || (s.red.role == .starting && (p.role == .active || !s.preferred p.unit p.mac)) then
      let s1 := s.setRole .blocked
      { s1 with red := { s1.red with fmtBlock := true } }
    else s

/-- A heartbeat on either path (R381, R383, R384, R395). -/
def State.heartbeat (s : State) (path : Nat) (p : Partner) : State :=
  if s.red.role == .single then s
  else
    let s1 := s.pathHeard path
    let s2 := { s1 with red := { s1.red with partner := some p, partnerLost := s1.red.partnerLost && p.health == 2 } }
    let mm := s.mismatchOf p
    let s3 := if mm = 0 then ((({ s2 with red := { s2.red with mismatch := 0 } }).formatGate p).startPairing p).dualActive p else s2.refusePairing p mm
    let s4 := if p.health = 2 then s3.declareFailed else s3
    (if path = 0 || !s4.synced then s4.standbyConfirm else s4).trackGood

/-- PAIR_HEARTBEAT_RECEIVE: on port A, by its bytes (R122, R383). ROLE tells active or not. -/
def pairHeartbeatReceive (src : Nat) (b : Bytes) (s : State) : State :=
  let unit := byteAt b 4 % 2
  let old := (s.red.partner.map (·.role)).getD .starting
  let role := if byteAt b 8 = 1 then Role.active else if old == .active then Role.syncing else old
  let mac := if src = s.pairMac 1 then (s.red.partner.map (·.mac)).getD src else src
  let p : Partner := { role := role, health := byteAt b 9, epoch := byteAt b 6, unit := unit, mac := mac,
                       variantS := (s.red.partner.map (·.variantS)).getD s.sys.variantS, stepping := (s.red.partner.map (·.stepping)).getD s.red.stepping
                       dom0 := (s.red.partner.map (·.dom0)).getD false, upd := (s.red.partner.map (·.upd)).getD 0, copyFmt := s.red.partner.bind (·.copyFmt) }
  let sent := be b 16 8 * 1000000000 + be b 24 4
  let known := byteAt b 10 == 0 && (s.dom 0).st != .disabled && s.dom0Good && p.dom0
  let s1 := s.heartbeat 1 p
  if s.red.role == .single then s1
  else { s1 with red := { s1.red with hbDelay := if known then some ((s.ingress 1 0 s.lmt : Int) - sent) else none } }

/-- The group a planned switch waits for: the protected one of longest period, else local group 0 (R392). -/
def State.switchGroup (s : State) : Bytes :=
  let ps := (s.recsOf 0x09).filter gProtected
  match ps with
  | [] => s.grpRec 0 0
  | b :: bs => bs.foldl (fun m x => if gPeriod m < gPeriod x then x else m) b

/-- S of a planned switch: the first cycle start of the switch group at least 2 ms on (R392). -/
def State.switchAt (s : State) : Nat := s.nextStartLmt s.switchGroup (s.lmt + 2000000)

/-- Either module is ACTIVATING, or, with `trial`, in TRIAL (R494). -/
def State.updating (s : State) (trial : Bool) : Bool :=
  let n := (s.red.partner.map (·.upd)).getD 0
  s.sys.upd == .activating || n == 3 || (trial && (s.sys.upd == .trial || n == 4))

/-- A planned switch can be started: ACTIVE, the partner STANDBY, no activation of an update under way on either module (R392, R494). -/
def State.maySwitch (s : State) : Bool := s.synced && !s.updating false

/-- The partner asks for a planned switch (R393). -/
def State.switchAsked (s : State) (ask : Bool) : State :=
  if ask && s.maySwitch && s.red.planned.isNone then { s with red := { s.red with planned := some s.switchAt } } else s

/-- RED_LINK_HEARTBEAT_RECEIVE: on the redundancy link (R4, R381, R383). -/
def redLinkHeartbeatReceive (hb : Heartbeat) (s : State) : State :=
  let p : Partner := { role := roleOf hb.role, health := hb.health, epoch := hb.epoch, unit := hb.unit, mac := hb.mac,
                       variantS := hb.variantS, stepping := hb.stepping, dom0 := hb.dom0, upd := hb.upd, copyFmt := some hb.copyFmt }
  (s.heartbeat 0 p).switchAsked hb.ask

/-- A heartbeat is sent unless a declared own fault has been sent once on the path (R383, R384). -/
def State.sendHeartbeat (s : State) (path : Nat) : State :=
  if s.red.role == .single || (s.red.health == 2 && s.red.faultSent.getD path false) then s
  else
    let s1 := { s with red := { s.red with faultSent := if s.red.health = 2 then s.red.faultSent.set path true else s.red.faultSent } }
    if path = 1 then s1.pairHb 1 false
    else { s1 with red := { s1.red with
      sent := s1.red.sent ++ [{ path := path, at' := s.lmt, role := s.red.role, health := s.red.health, epoch := s.red.epoch, ask := s.red.asking, upd := updCode s.sys.upd, copyFmt := s.copyFmt }] } }

/-- RED_PATH_SILENCE: 150 us on the link, 750 us on port A without a heartbeat, on a path never heard since the start (R383, R384). -/
def redPathSilence (path : Nat) (s : State) : State :=
  let p := if path = 0 then s.red.link else s.red.portA
  let lim := if path = 0 then 150000 else 750000
  let due := decide (p.heardAt.getD s.red.waitFrom + lim ≤ s.lmt)
  if s.red.role == .single || !due || p.silent then s
  else
    let s1 := if path = 0 then { s with red := { s.red with link := { p with silent := true } } }
      else { s with red := { s.red with portA := { p with silent := true } } }
    let s2 := (s1.raise EV_RED_PATH_LOST 0 [path]).trackGood
    if s2.red.link.silent && s2.red.portA.silent then s2.declareFailed else s2

/-- PAIR_WAIT_EXPIRY: no partner heard within PAIR_WAIT at start (R381). -/
def pairWaitExpiry (s : State) : State :=
  if s.red.role == .starting && s.red.partner.isNone && decide (s.red.waitFrom + le s.pairRec 4 2 * 1000000000 ≤ s.lmt) then s.setRole .active else s

/-- A bank as another module, or the retained store, hands it over: what it holds is durable there. -/
def Bank.resume (b : Bank) : Bank := { b with undurable := false, durMark := 0, unheld := false }

/-- A unit of the standby takes the active module's state. It keeps what belongs to its own terminals and store: a race's relation to its own encoder
counter, firings it has found itself, a link's errors and upstream slot, frames it has received, captured samples; an engine's runs on copied inputs and its
breakpoints (R381, R385, R391, R494; log 229). -/
def State.unitDelta (s : State) (i : Nat) : UnitState → State
  | .race x => let r := s.race i; s.setRace i { x with base := r.base + (x.pos - r.pos), remote := r.remote }
  | .cog x => s.setCog i { x with due := (s.cog i).due }
  | .loop x => s.setLoop i { x with coef := x.coef.resume }
  | .ogroup x => { s with ogs := s.ogs.set i x }
  | .fantail x => { s with fts := s.fts.set i x }
  | .axis x =>
    let a := s.axis i
    s.setAxis i { x with table := x.table.resume, linkErr := a.linkErr, load := a.load, slot := a.slot, tempWarn := a.tempWarn }
  | .engine x =>
    let e := s.eng i
    let figs := x.figs.mapV (fun k f => { f with late := (e.figs.getD k {}).late, skip := (e.figs.getD k {}).skip })
    s.setEng i { x with
      prog := x.prog.resume, figs := figs, run := e.run, ready := if x.mode == .stop then e.ready.filter (fun r => !r.cyclic) else e.ready
      breaks := e.breaks, stepLeft := 0, held := e.held && x.mode == .hold, resume := e.resume || (e.held && x.mode != .hold) }
  | .capture x => let c := s.cap i; s.setCap i { c with st := x.st, arming := x.arming, noRearm := x.noRearm, waiting := x.waiting }
  | .can x => s.setCan i { s.can i with objs := x.objs }
  | .node x => let n := s.node i; s.setNode i { x with inbox := n.inbox, reqs := [] }
  | .force x => { s with img := { s.img with forces := match x with
      | some f => s.img.forces.set i f
      | none => s.img.forces.erase i } }
  | .placement x => s.setPset i { x with undurable := false, durMark := 0, unheld := false }
  | .spindle x => s.setSpin i { s.spin i with prog := x.prog.resume, kept := x.kept, counters := x.counters }
  | .config _ => s
  | .domain now =>
    if byteAt (s.rcd 0x03 i) 1 = 1 then s.setDom i { s.dom i with now := now, lmtAt := s.lmt } else s
  | .events n => { s with log := { s.log with nextSeq := max s.log.nextSeq n } }

/-- A copied slot's value and, from bit 32, its quality (R385). -/
def deltaWord (v : Nat) : W32 := BitVec.ofNat 32 v
def deltaQ (v : Nat) : Nat := v / 4294967296 % 8

/-- RED_DELTA_RECEIVE: in a bulk block, `key` is the part of the full copy, in %, that stands with it (log 21). A block of the copy; a block that fails its check is resent (R385 to R387). -/
def redDeltaReceive (kind key cycle : Nat) (ok last : Bool) (data : List (Nat × Nat)) (units : List (Nat × UnitState)) (s : State) : State :=
  if kind = 4 && ok && s.red.role != .single then
    -- the partner's local nodes 0 and 3, as segment 9 mirrors them (R396)
    { s with red := { s.red with mirror := data.foldl (fun m e => m.put 0 e.1 (BitVec.ofNat 32 e.2)) s.red.mirror } }
  else if s.red.role != .standby && s.red.role != .syncing then s
  else if !ok then { s with red := { s.red with resends := s.red.resends + 1 } }
  else
    let s1 := { s with red := { s.red with
      copying := s.red.copying || s.red.role == .syncing
      syncPct := if kind = 3 ∧ s.red.role = .syncing then min 100 key else s.red.syncPct
      blocks := s.red.blocks.filter (fun b => !(b.kind == kind && b.key == key)) ++ [{ kind := kind, key := key, cycle := cycle, complete := last, data := data }] } }
    let s2 := match kind with
      | 0 =>
        let g := s1.group key
        s1.setGroup key { g with
          snap := data.foldl (fun m e => m.set e.1 (deltaWord e.2)) g.snap, snapQ := data.foldl (fun m e => m.put 0 e.1 (deltaQ e.2)) g.snapQ }
      | 1 =>
        { s1 with img := { s1.img with
          front := data.foldl (fun m e => m.put 0 e.1 (deltaWord e.2)) s1.img.front, frontQ := data.foldl (fun m e => m.put 0 e.1 (deltaQ e.2)) s1.img.frontQ } }
      | 2 => data.foldl (fun s e => s.connDelta ((e.1 - 0x10000) / 64) (e.1 % 64) e.2) s1
      | _ => { s1 with img := { s1.img with paged := data.foldl (fun m e => m.put 0 e.1 (deltaWord e.2)) s1.img.paged } }
    units.foldl (fun s e => s.unitDelta e.1 e.2) s2

/-- RED_FULL_COPY_DONE: SYNCING becomes STANDBY, with the deltas of every commit made so far (R386). -/
def redFullCopyDone (s : State) : State :=
  if s.red.role == .syncing && s.red.copying then
    let s1 := s.setRole .standby
    let held : List DeltaBlk := ((s.recsOf 0x09).map (fun b => gKey (byteAt b 0) (byteAt b 1))).map (fun k =>
      { kind := 1, key := k, cycle := (s.group k).cycle, complete := true, data := [] })
    ({ s1 with red := { s1.red with syncPct := 100, copying := false, blocks := held } }).raise EV_RED_SYNCED
  else s

/-- RED_PLANNED_SWITCH_INSTANT: the active role moves at S (R392). -/
def redPlannedSwitchInstant (s : State) : State :=
  match s.red.role with
  | .active =>
    match s.red.planned with
    | some at' =>
      if at' ≤ s.lmt then
        let s1 := (s.setRole .standby).canStandby
        let s2 := { s1 with red := { s1.red with planned := none, gaveAt := some at', switches := s1.red.switches + 1, lastAt := s.lmt, lastCause := 2 } }
        let s3 := s2.raise EV_RED_SWITCHOVER 0 [2, s.red.epoch]
        (s3.flightsOn 0x0F02 0xF000).foldl (fun s f => s.finish f ST_OK { commit := some at' }) s3
      else s
    | none => s
  | .standby => s.becomeActive 2
  | _ => s

/-- RED_REVERT_HOLD_EXPIRY: the preferred unit asks for a planned switch, not while its update is ACTIVATING or TRIAL (R393, R494). -/
def redRevertHoldExpiry (s : State) : State :=
  let due := match s.red.goodSince with
    | some g => decide (g + le s.pairRec 6 2 * 1000000000 ≤ s.lmt)
    | none => false
  let pref := match s.red.partner with
    | some p => s.preferred p.unit p.mac
    | none => false
  if s.red.role == .standby && (byteAt s.pairRec 2).testBit 0 && pref && !s.red.inhibit && due && !s.updating true then
    ({ s with red := { s.red with goodSince := none, asking := true } }).raise EV_RED_REVERT
  else s

/-- STATE of PAIR (R396). -/
def pairPoint (s : State) : Nat :=
  (if s.red.role == .starting then 2 else roleCode s.red.role) + mkBit (s.red.role == .active && !s.synced) 3
    + mkBit (s.red.link.heardAt.isSome && !s.red.link.silent) 4 + mkBit (s.red.portA.heardAt.isSome && !s.red.portA.silent) 5
    + mkBit (s.sys.pairUnit == 1) 6 + mkBit s.red.inhibit 7 + 256 * (s.red.epoch % 256)

def gateRedStatus (h : CmdHdr) (_ : State) : Gate :=
  { exempt := true, invalid := firstBad [needSys h, needBuf h 128, zeroTail h 12] }

/-- RED_STATUS: roles, sync state, paths, epoch, last switch-over, whether the one-way delay of the port A path is known and that delay in ns (R123,
R394), as figures in this order. -/
def goRedStatus (f : Flight) (s : State) : State :=
  s.okOut f [roleCode s.red.role, (s.red.partner.map (fun p => roleCode p.role)).getD 5, s.red.syncPct,
    (if s.red.link.heardAt.isSome && !s.red.link.silent then 1 else 0), (if s.red.portA.heardAt.isSome && !s.red.portA.silent then 1 else 0),
    s.red.epoch, s.red.lastAt, s.red.lastCause, if s.red.hbDelay.isSome then 1 else 0, wrapN 64 (s.red.hbDelay.getD 0)]

def runRedStatus (h : CmdHdr) (s : State) : State := start 0x0F01 (gateRedStatus h s) goRedStatus h s

def gateRedSwitch (h : CmdHdr) (s : State) : Gate :=
  { invalid := firstBad [needSys h, noBuf h, zeroTail h 0], refused := !s.maySwitch }

/-- RED_SWITCH: S is the first cycle start of the switch group at least 2 ms on (R392). -/
def goRedSwitch (f : Flight) (s : State) : State :=
  let at' := s.switchAt
  ({ s with red := { s.red with planned := some at' } }).setFlight { f with mark := at' }

def runRedSwitch (h : CmdHdr) (s : State) : State := start 0x0F02 (gateRedSwitch h s) goRedSwitch h s

def gateRedRevertInhibit (h : CmdHdr) (_ : State) : Gate :=
  { invalid := firstBad [needSys h, noBuf h, needP 0 (decide (h.p 0 1 ≤ 1)), zeroTail h 1] }

/-- RED_REVERT_INHIBIT: completes at once (R393, R394). -/
def goRedRevertInhibit (f : Flight) (s : State) : State :=
  ({ s with red := { s.red with inhibit := f.h.p 0 1 == 1 } }).ok f

def runRedRevertInhibit (h : CmdHdr) (s : State) : State := start 0x0F03 (gateRedRevertInhibit h s) goRedRevertInhibit h s

/-- SI mirror of the partner and PAIR points are refreshed at the commit of local group 0 (R396). -/
def State.redPoints (s : State) : State :=
  if s.paired then
    (((s.wrLocal 0 256 (pairPoint s)).wrLocal 0 257 s.red.switches.toNat).wrLocal 0 258 s.red.copyLoad).wrLocal 0 259 s.red.syncPct
  else s

end Sys2Proof.Machine
end

