-- ==== Sys2Proof/Machine/Analogue.lean ====
section
/-! DEFINITION. Converter sequences, timers, PWM, current loops and digital channels (R215 to R245). -/

namespace Sys2Proof.Machine

/-- Point of node 1 or node 2 (R241, R242). -/
def anaPt (s : State) (i : Nat) : Nat := ptAddr s 0 1 i
def dioPt (s : State) (c p : Nat) : Nat := ptAddr s 0 2 (c * 4 + p)

def State.seqRec (s : State) (n : Nat) : Bytes := s.rcd 0x0F n
def State.clRec (s : State) (n : Nat) : Bytes := s.rcd 0x12 n
def State.pwmRec (s : State) (n : Nat) : Bytes := s.rcd 0x11 n
def State.dioRec (s : State) (n : Nat) : Bytes := s.rcd 0x13 n
def State.pwm (s : State) (n : Nat) : Pwm := s.ana.pwms.getD n {}
def State.setPwm (s : State) (n : Nat) (x : Pwm) : State := { s with ana := { s.ana with pwms := s.ana.pwms.set n x } }

/-! Sequences (R216 to R222, R237). -/

/-- TRIG, and the entries of a sequence (R217). -/
def seqTrig (b : Bytes) : Nat := byteAt b 1
def seqN (b : Bytes) : Nat := byteAt b 6
def entInput (b : Bytes) (e : Nat) : Nat := byteAt b (16 + 8 * e)
def entOsr (b : Bytes) (e : Nat) : Nat := byteAt b (17 + 8 * e)
def entAcq (b : Bytes) (e : Nat) : Nat := le b (18 + 8 * e) 2
def entFormat (b : Bytes) (e : Nat) : Nat := byteAt b (20 + 8 * e)
/-- E_e, ns (R218). -/
def entTime (b : Bytes) (e : Nat) : Nat := 2 ^ entOsr b e * (entAcq b e * 10 + 400)

/-- Sequence STATUS and OVERLAPS (R241). -/
def State.seqPoints (s : State) (n : Nat) : State :=
  let q := s.seq n
  let st := mkBit q.running.isSome 0 + mkBit (!s.isDis (uSeq n)) 1 + mkBit s.sys.vrefSettled 2 + 256 * (q.runs.toNat % 16777216)
  (s.wr (anaPt s (128 + n * 2)) (BitVec.ofNat 32 st)).wr (anaPt s (129 + n * 2)) q.overlaps

/-- The run begins at an instant: ADC_START has reached its commit point (R219). -/
def State.seqBegin (s : State) (n at' : Nat) : State :=
  let s1 := (s.setSeq n { s.seq n with running := some 0, startAt := at' }).seqPoints n
  (s1.flightsOn 0x0901 (uSeq n)).foldl (fun s f => s.setFlight { f with commit := some at' }) s1

/-- A start reaches a sequence at an instant: on a running one it is dropped (R219). -/
def State.seqHit (s : State) (n at' : Nat) : State :=
  let q := s.seq n
  if q.running.isSome then
    let report := match q.overlapAt with
      | some u => decide (u + 1000000000 ≤ at')
      | none => true
    let s1 := s.setSeq n { q with overlaps := q.overlaps + 1, overlapAt := if report then some at' else q.overlapAt }
    (s1.raiseIf report EV_ADC_OVERLAP (uSeq n)).seqPoints n
  else s.seqBegin n at'

/-- Starts whose DELAY is over reach the sequence (R218). -/
def State.seqDue (s : State) (n : Nat) : State :=
  let q := s.seq n
  let ready := q.starts.filter (fun u => decide (u ≤ s.lmt))
  if ready.isEmpty then s
  else ready.foldl (fun s u => s.seqHit n u) (s.setSeq n { q with starts := q.starts.filter (fun u => decide (s.lmt < u)) })

/-- A source starts a sequence after `delay` ns (R218). -/
def State.seqStart (s : State) (n delay : Nat) : State :=
  if (s.rec? 0x0F n).isNone || s.isDis (uSeq n) || (s.seq n).stopping then s
  else
    let s1 := s.seqDue n
    if delay = 0 then s1.seqHit n s1.lmt
    else s1.setSeq n { s1.seq n with starts := (s1.seq n).starts ++ [s1.lmt + delay] }

/-- The code of an entry from its conversions (R216). -/
def entCode (k : Nat) (codes : List Int) : Int :=
  let cs := codes.map (satI (-131072) 131071)
  if k = 0 then cs.headD 0 else asr (cs.foldl (fun a c => a + c) 0 + 2 ^ (k - 1)) k

/-- Q15 value of a code (R216). -/
def codeQ15 (c : Int) : Int := sat16 (asr (c + 2) 2)

/-- The sequence takes its DISABLE (R237). -/
def State.seqDisable (s : State) (n : Nat) : State :=
  let s1 := s.setSeq n { s.seq n with running := none, stopping := false, starts := [] }
  ((s1.flightsOn 0x0206 (uSeq n)).foldl State.disableUnit s1).seqPoints n

/-- ADC_ENTRY_END: an entry's conversions end with these codes (R216, R221, R222). -/
def adcEntryEnd (n : Nat) (codes : List Int) (s0 : State) : State :=
  let s := s0.seqDue n
  let q := s.seq n
  let b := s.seqRec n
  match q.running with
  | none => s
  | some e =>
    let code := entCode (entOsr b e) codes
    let unset := !s.sys.vrefOn || s.ana.vrefBad || decide (s.lmt - entTime b e < s.ana.vrefAt + 5000000)
    let ovr := code == -131072 || code == 131071
    let w := wrapN 18 code + mkBit unset 24 + mkBit ovr 25 + 67108864 * (q.runs.toNat % 64)
    let s1 := s.setSeq n { q with
      results := q.results.set e (BitVec.ofNat 32 w)
      ovr := if ovr then (if q.ovr.contains e then q.ovr else q.ovr ++ [e]) else q.ovr.filter (fun x => x != e) }
    let a := anaPt s (n * 32 + e)
    let s2 := if entFormat b e = 2 then s1
      else if unset then s1.setCond a cStale true
      else (s1.wr a (w32 (if entFormat b e = 0 then codeQ15 code else code))).setCond a cStale false
    let s3 := s2.raiseIf (ovr && !q.ovr.contains e) EV_ADC_OVERRANGE (uSeq n) [e]
    let q3 := s3.seq n
    if q3.stopping then s3.seqDisable n
    else if e + 1 < seqN b then s3.setSeq n { q3 with running := some (e + 1) }
    else
      let s4 := s3.setSeq n { q3 with running := none, runs := q3.runs + 1, endedAt := some s.lmt }
      let s5 := s4.finishAll (s4.flightsOn 0x0901 (uSeq n)) ST_OK
      if seqTrig b = 4 then s5.seqBegin n s5.lmt else s5.seqPoints n

/-- Sequences that a source starts (R217). -/
def State.seqsOf (s : State) (trig src : Nat) : List Nat :=
  ((s.recsOf 0x0F).filter (fun b => seqTrig b == trig && byteAt b 2 == src)).map (fun b => byteAt b 0)

/-! Reference buffer (R222). -/

def State.vrefPoint (s : State) : State :=
  s.wr (anaPt s 546) (BitVec.ofNat 32 (mkBit s.sys.vrefOn 0 + mkBit s.sys.vrefSettled 1 + mkBit s.ana.vrefBad 2))

def State.vrefPoints (s : State) : State :=
  ((s.recsOf 0x0F).map (fun b => byteAt b 0)).foldl State.seqPoints s.vrefPoint

/-- VREFBUF switches. -/
def State.vrefSwitch (s : State) (on : Bool) : State :=
  if s.sys.vrefOn == on then s
  else ({ s with sys := { s.sys with vrefOn := on, vrefSettled := false }, ana := { s.ana with vrefAt := if on then s.lmt else s.ana.vrefAt } }).vrefPoints

/-- VREF_SETTLED: 5,000 us after VREFBUF switched on. -/
def vrefSettled (s : State) : State :=
  if s.sys.vrefOn && decide (s.ana.vrefAt + 5000000 ≤ s.lmt) then ({ s with sys := { s.sys with vrefSettled := true } }).vrefPoints else s

/-- VREF_CHECK: the reference check's code, nominally 65,536 within 0.1 percent. -/
def vrefCheck (code : Int) (s : State) : State :=
  let bad := decide (65536 < (code - 65536).natAbs * 1000)
  (({ s with ana := { s.ana with vrefBad := bad } }).raiseIf bad EV_VREF_FAULT).vrefPoint

/-! Timers and PWM (R223 to R225). -/

/-- On-time of a duty, 10 ns counts (R225). -/
def pwmOn (duty : Int) (period : Nat) : Nat :=
  if duty ≤ 0 then 0 else if 32767 ≤ duty then period else ((duty * period + 16384) / 32768).toNat

/-- A loop drives the PWM directly (R139, R225). -/
def State.pwmLoop (s : State) (n : Nat) : Bool :=
  (s.recsOf 0x0B).any (fun b => !lpMember b && selKind b 48 == 8 && selIndex b 48 == n) || (s.recsOf 0x0C).any (fun b => selKind b 8 == 8 && selIndex b 8 == n)

/-- A PWM period starts with the latest duty, and starts the sequences of its edges (R217, R225). -/
def State.pwmStart (s : State) (n : Nat) : State :=
  let b := s.pwmRec n
  let p := s.pwm n
  if byteAt b 1 = 0 then s.setPwm n { p with live := false, startAt := s.lmt }
  else
    let duty := if s.pwmLoop n then p.duty else sgn 32 (s.rd (anaPt s (512 + n))).toNat
    let on := pwmOn duty (le b 8 4)
    let live := s.drives && !s.ana.fieldLow
    let s1 := s.setPwm n { p with duty := duty, on := on, startAt := s.lmt, live := live }
    let fall := if byteAt b 1 = 2 then (le b 8 4 - on) / 2 + on else on
    (s1.seqsOf 2 n).foldl (fun s q =>
      let r := s.seqRec q
      s.seqStart q ((if byteAt r 3 = 1 then fall * 10 else 0) + le r 4 2 * 10)) s1

/-- PWM_PERIOD_START (R224): at PHASE + k x PERIOD of LMT, or a whole number of periods after the synchronising tick. -/
def pwmPeriodStart (n : Nat) (s : State) : State :=
  let b := s.pwmRec n
  let per := le b 8 4 * 10
  if (s.rec? 0x11 n).isNone then s
  else
    let due := if byteAt b 3 = 255 then decide (le b 12 4 * 10 ≤ s.lmt ∧ (s.lmt - le b 12 4 * 10) % per = 0)
      else decide ((s.lmt - (s.pwm n).startAt) % per = 0)
    if due then s.pwmStart n else s

/-- TIMER_TICK at PHASE + k x PERIOD of the base: sequences and PWM periods of the timer start; LMT resolves an instant of a domain to 1 ns (R223,
R224). -/
def timerTick (n : Nat) (s : State) : State :=
  match s.rec? 0x10 n with
  | none => s
  | some b =>
    let now := if byteAt b 1 = 255 then s.lmt else domTime (s.dom (byteAt b 1)) s.lmt
    let per := le b 4 4 * 10
    let r := (now - le b 8 4 * 10) % per
    let due := decide (le b 8 4 * 10 ≤ now) && (r == 0 || (byteAt b 1 != 255 && (r == 1 || r + 1 == per)))
    if !due then s
    else
      let s1 := { s with ana := { s.ana with timers := s.ana.timers.set n now } }
      let s2 := (s1.seqsOf 1 n).foldl (fun s q => s.seqStart q 0) s1
      (((s2.recsOf 0x11).filter (fun b => byteAt b 3 == n)).map (fun b => byteAt b 0)).foldl State.pwmStart s2

/-! Current loops (R226 to R237, R240, R522). -/

def clFlag (b : Bytes) (i : Nat) : Bool := (byteAt b 3).testBit i
/-- VAL_LO and VAL_HI (R226). -/
def clLo (b : Bytes) : Int := leS b 16 2
def clHi (b : Bytes) : Int := leS b 18 2

/-- VAL of a current (R227). -/
def clVal (b : Bytes) (c : ClChan) (raw : Int) : Int :=
  sat16 (clLo b + (2 * (raw - c.zero) * (clHi b - clLo b) + (c.span - c.zero)) / (2 * (c.span - c.zero)))

/-- Commanded current (R227). -/
def clCmd (b : Bytes) (c : ClChan) : Int :=
  c.zero + (2 * (c.cmd - clLo b) * (c.span - c.zero) + (clHi b - clLo b)) / (2 * (clHi b - clLo b))

/-- The command clamped (R229). -/
def clClamp (b : Bytes) (i : Int) : Int := if clFlag b 0 then satI 3800 20500 i else satI 0 24000 i

/-- The front end alone governs a channel: before its first admitted record, in test mode and in recovery start (R232). -/
def State.clGoverned (s : State) (c : ClChan) : Bool := !c.ruled || s.sys.startMode != 0

/-- Current of an alarm of a direction (R232). -/
def alarmUa (high : Bool) : Int := if high then 21000 else 3600

/-- A channel under the ALMSEL rule: its stored output drives the alarm current, or nothing on a module stored as paired (R232, R522). -/
def State.clAlmsel (s : State) (n : Nat) : State :=
  let c := s.cl n
  if c.mode = 3 then
    if s.ana.pairedFe then s.setCl n { c with alarm := false, drive := 0, supply := 0 }
    else (s.setCl n { c with alarm := true, alarmDir := s.ana.almsel, drive := alarmUa s.ana.almsel }).raiseIf (!c.alarm) EV_CL_ALARM (uCl n) [mkBit s.ana.almsel 0]
  else s.setCl n { c with alarm := false, drive := 0 }

/-- A loop's direct destination is the channel (R139, R229). -/
def State.clLoop (s : State) (n : Nat) : Bool :=
  (s.recsOf 0x0B).any (fun b => !lpMember b && selKind b 48 == 7 && selIndex b 48 == n) || (s.recsOf 0x0C).any (fun b => selKind b 8 == 7 && selIndex b 8 == n)

/-- STATUS word of R241. -/
def State.clStatus (s : State) (n : Nat) : Nat :=
  let c := s.cl n
  let f := s.clFlags n
  let dis := s.isDis (uCl n)
  (if dis then 0 else c.mode) + mkBit dis 2 + mkBit (c.cls == .low) 4 + mkBit (c.cls == .high) 5
    + mkBit (c.mode != 3 && decide (3600 ≤ c.raw ∧ c.raw < 3800)) 6 + mkBit (c.mode != 3 && decide (20500 < c.raw ∧ c.raw ≤ 21000)) 7
    + mkBit f.1 8 + mkBit f.2 9 + mkBit c.thermal 10 + mkBit c.alarm 11 + mkBit (c.alarm && c.alarmDir) 12 + mkBit c.clamped 13 + mkBit c.supMax 14
    + mkBit c.cal.isSome 15 + mkBit s.ana.fieldLow 16

/-- The channel's points (R241): VAL, or CMD that its writer writes; all hold, STALE, while a change of MODE takes the channel through off (R237). -/
def State.clPoints (s : State) (n : Nat) : State :=
  let c := s.cl n
  let a (i : Nat) := anaPt s (256 + n * 8 + i)
  let f := s.clFlags n
  let off := c.offUntil.isSome
  let s0 := (List.range 7).foldl (fun s i => s.setCond (a i) cStale off) s
  let s1 := if byteAt (s.clRec n) 1 = 3 then s0.setCond (a 0) cLimited (c.clamped || f.1 || f.2)
    else (s0.wr (a 0) (w32 c.val)).setCond (a 0) cStale (c.cls != .ok || c.thermal || s.isDis (uCl n))
  if off then s0 else ((((((s1.wr (a 1) (w32 c.raw)).wr (a 2) (w32 c.vterm)).wr (a 3) (w32 c.vsup)).wr (a 4) (BitVec.ofNat 32 (s1.clStatus n))).wr (a 5) (w32 c.headroom)).wr (a 6) (w32 c.temp))

/-- A calibration is refused: by button an event, by command ST_REFUSED (R235, R236). -/
def State.calRefuse (s : State) (n : Nat) : State :=
  match (s.cl n).cal with
  | none => s
  | some (_, _, _, button) =>
    let s1 := s.setCl n { s.cl n with cal := none }
    if button then s1.raise EV_CL_CAL_REFUSED (uCl n) else s1.finishAll (s1.flightsOn 0x0904 (uCl n)) ST_REFUSED

/-- The channel takes its DISABLE and ENABLE (R237, R433). -/
def State.clDisable (s : State) (n : Nat) : State :=
  s.service (uCl n) (fun s => s.setCl n { s.cl n with
    cal := none, zsNext := none, flag := .none, nShort := 0, nClean := 0, nOpen := 0, nFall := 0, nLow := 0, nHigh := 0, nNorm := 0
    supMax := false, clamped := false, alarm := false }) id

/-- Thermal state of a stage (R233). -/
def State.clThermal (s : State) (n : Nat) : State :=
  let c := s.cl n
  if !c.thermal ∧ 150 ≤ c.temp then (s.setCl n { c with thermal := true, thermalAt := s.lmt }).raise EV_CL_THERMAL (uCl n)
  else if c.thermal ∧ c.temp ≤ 125 ∧ c.thermalAt + 1000000000 ≤ s.lmt then s.setCl n { c with thermal := false }
  else s

/-- One update of an input (R228, R233). -/
def State.clInput (s : State) (n : Nat) (b : Bytes) : State :=
  let c := s.cl n
  let low := decide (c.raw < 3600)
  let high := decide (21000 < c.raw)
  let norm := decide (3800 ≤ c.raw ∧ c.raw ≤ 20500)
  let c1 := { c with
    nLow := if low then c.nLow + 1 else 0, nHigh := if high then c.nHigh + 1 else 0, nNorm := if norm then c.nNorm + 1 else 0
    val := if c.cls == ClClass.ok && !c.thermal && !low && !high then clVal b c c.raw else c.val
    supply := if c.mode = 2 then le b 28 2 else 0, drive := 0 }
  let c2 := match c1.cal with
    | some (k, left, sum, btn) => if 0 < left then { c1 with cal := some (k, left - 1, sum + c.raw, btn) } else c1
    | none => c1
  let s1 := s.setCl n c2
  if c.cls != ClClass.ok || c.thermal then s1.calRefuse n else s1

/-- Supply voltage after one update: 20 V/ms up, 2 V/ms down at the most (R230). -/
def supplyStep (now target : Int) : Int := if now < target then min target (now + 1000) else max target (now - 100)

/-- One update of an output (R229 to R233, R240). -/
def State.clOutput (s : State) (n : Nat) (b : Bytes) : State :=
  let c0 := s.cl n
  let c := if s.clLoop n then c0 else { c0 with cmd := sgn 32 (s.rd (anaPt s (256 + n * 8))).toNat }
  if !s.drives then s.setCl n { c with drive := 0, supply := 0, alarm := false }
  else if s.isDis (uCl n) then s.setCl n { c with drive := le b 24 2, alarm := false, supply := supplyStep c.supply (satI 4000 28000 (c.vterm + c.headroom * 32000 / 32768)) }
  else if c.thermal then s.setCl n { c with drive := 0, supply := 0, alarm := false }
  else
    let want := clCmd b c
    let i := clClamp b want
    let alarm := c.timedOut
    let drive := if alarm then alarmUa (clFlag b 1) else i
    let fall := drive - c.raw
    let live := !s.ana.fieldLow
    let clean := decide (fall ≤ 120)
    let nClean := if live && clean then c.nClean + 1 else 0
    let supMax := live && (!clean || (c.supMax && decide (nClean < 200)))
    let supply := supplyStep c.supply (if supMax then 28000 else satI 4000 28000 (c.vterm + c.headroom * 32000 / 32768))
    (s.setCl n { c with
      drive := drive, clamped := i != want, supMax := supMax, supply := supply, nClean := nClean
      nFall := if live && !clean then c.nFall + 1 else 0, nShort := if live && decide (240 < fall) then c.nShort + 1 else 0
      nOpen := if live && decide (c.raw < 200) && supply == 28000 then c.nOpen + 1 else 0
      alarm := alarm, alarmDir := clFlag b 1 }).raiseIf (alarm && !c.alarm) EV_CL_ALARM (uCl n) [mkBit (clFlag b 1) 0]

/-- CL_ZERO_SPAN takes effect at an update (R236). -/
def State.clZeroSpan (s : State) (n : Nat) : State :=
  (s.flightsOn 0x0903 (uCl n)).foldl (fun s f => (s.setCl n { s.cl n with zero := f.h.p 0 4, span := f.h.p 4 4 }).ok f) s

/-- CL_UPDATE: one 50 us update of a channel (R226 to R233). -/
def clUpdate (n : Nat) (raw vterm vsup temp : Int) (s : State) : State :=
  if s.lmt % 50000 != 0 || (s.rec? 0x12 n).isNone then s
  else if s.clGoverned (s.cl n) then s
  else
    let b := s.clRec n
    let s1 := (s.clDisable n).clZeroSpan n
    let c := s1.cl n
    if c.offUntil.isSome || c.mode = 0 then (s1.setCl n { c with drive := 0, supply := 0 }).clPoints n
    else if c.mode ≠ 3 ∧ s1.isDis (uCl n) then s1.clPoints n
    else
      let s2 := (s1.setCl n { c with raw := raw, vterm := vterm, vsup := vsup, temp := temp }).clThermal n
      (if c.mode = 3 then s2.clOutput n b else s2.clInput n b).clPoints n

/-- CL_FAULT_CLASS: a class is entered, changed or left after FAULT_N updates in a row (R228). -/
def clFaultClass (n : Nat) (s : State) : State :=
  let b := s.clRec n
  let c := s.cl n
  let k := byteAt b 4
  if (s.rec? 0x12 n).isNone || s.isDis (uCl n) || c.offUntil.isSome || c.mode = 3 || c.mode = 0 then s
  else if c.cls != .low && decide (k ≤ c.nLow) then ((s.setCl n { c with cls := .low }).raise EV_CL_FAULT (uCl n) [0]).clPoints n
  else if c.cls != .high && decide (k ≤ c.nHigh) then ((s.setCl n { c with cls := .high }).raise EV_CL_FAULT (uCl n) [1]).clPoints n
  else if c.cls != .ok && decide (k ≤ c.nNorm) then (s.setCl n { c with cls := .ok, val := if c.thermal then c.val else clVal b c c.raw }).clPoints n
  else s

/-- CL_COMPLIANCE_DETECT: a compliance flag is set, changes to OPEN or clears (R231). -/
def clComplianceDetect (n : Nat) (s : State) : State :=
  let c := s.cl n
  let open' := decide (c.raw < 200) && c.supply == 28000
  if (s.rec? 0x12 n).isNone || c.mode != 3 then s
  else match c.flag with
    | .none =>
      if 40 ≤ c.nShort then
        (if open' then (s.setCl n { c with flag := .open' }).raise EV_CL_OPEN (uCl n) else (s.setCl n { c with flag := .short }).raise EV_CL_COMPLIANCE (uCl n)).clPoints n
      else s
    | .short =>
      if 200 ≤ c.nClean then ((s.setCl n { c with flag := .none }).raise EV_CL_COMPLIANCE (uCl n) [] 0 true).clPoints n
      else if 40 ≤ c.nOpen then (((s.setCl n { c with flag := .open' }).raise EV_CL_COMPLIANCE (uCl n) [] 0 true).raise EV_CL_OPEN (uCl n)).clPoints n
      else s
    | .open' => if 200 ≤ c.nClean then ((s.setCl n { c with flag := .none }).raise EV_CL_OPEN (uCl n) [] 0 true).clPoints n else s

/-- CL_CMD_TIMEOUT: CMD has not been written for CMD_TIMEOUT (R232). -/
def clCmdTimeout (n : Nat) (s : State) : State :=
  let b := s.clRec n
  let c := s.cl n
  if c.mode = 3 ∧ le b 20 4 ≠ 0 ∧ c.cmdAt + le b 20 4 * 1000 ≤ s.lmt then s.setCl n { c with timedOut := true } else s

/-- The main die gives the front end no updates: reset, step 4 of a power fail, or stopped clocks (R232, R480). -/
def State.clSilent (s : State) : Bool := !s.sys.clocksOn || s.sys.resetLow || s.sys.pfail == .stopped

/-- CL_FRONTEND_WATCHDOG: outputs take ALARM_HIGH's direction, or nothing on a module stored as paired (R232, R522). -/
def clWatchdog (s : State) : State :=
  if !s.clSilent then s
  else { s with ana := { s.ana with cls := s.ana.cls.mapV (fun _ c =>
    if c.mode = 3 then
      if s.ana.pairedFe then { c with alarm := false, drive := 0, supply := 0 }
      else { c with alarm := true, alarmDir := c.alarmHigh, drive := alarmUa c.alarmHigh }
    else c) } }

/-- ALMSEL_SAMPLE, each 1,000 us while ALMSEL governs (R232, R241). -/
def almselSample (high : Bool) (s : State) : State :=
  let ns := (List.range 32).filter (fun n => s.clGoverned (s.cl n))
  if ns.isEmpty then s
  else
    let s1 := { s with ana := { s.ana with almsel := high } }
    (ns.foldl State.clAlmsel s1).wr (anaPt s 544) (BitVec.ofNat 32 (mkBit high 0))

/-- CL_MODE_CHANGE_DONE: the 10 ms through off are over (R237). -/
def clModeChangeDone (n : Nat) (s : State) : State :=
  match (s.cl n).offUntil with
  | some (u, m) => if u ≤ s.lmt then s.setCl n { s.cl n with mode := m, offUntil := none, nLow := 0, nHigh := 0, nNorm := 0 } else s
  | none => s

/-- A channel's record reaches the front end at an admission (R232, R236, R237, R522). -/
def State.clAdmit (s : State) (n : Nat) : State :=
  let b := s.clRec n
  let c := s.cl n
  let m := byteAt b 1
  let c1 := { c with zero := le b 8 4, span := le b 12 4, alarmHigh := clFlag b 1, ruled := true, alarm := false, cmdAt := s.lmt, timedOut := false }
  if m = c.mode then s.setCl n c1
  else (s.setCl n { c1 with mode := 0, offUntil := some (s.lmt + 10000000, m), cls := .ok, flag := .none, drive := 0, supply := 0, supMax := false }).calRefuse n

/-! Calibration (R235, R236). -/

/-- The channel may not be calibrated. -/
def State.calBlocked (s : State) (n : Nat) (button : Bool) : Bool :=
  let b := s.clRec n
  let c := s.cl n
  decide (31 < n) || (s.rec? 0x12 n).isNone || !(c.mode == 1 || c.mode == 2) || (button && clFlag b 2) || c.cls != .ok || c.thermal || c.cal.isSome
    || (button && s.isDis (uCl n))

/-- CAL_BUTTON_HELD: CALZ, CALS or both have been held for 2 s (R235). -/
def calButtonHeld (z sp : Bool) (s : State) : State :=
  let n := (s.rd (anaPt s 545)).toNat
  if !z && !sp then s
  else if s.calBlocked n true then s.raise EV_CL_CAL_REFUSED
  else if z && sp then
    let c := s.cl n
    (s.setCl n { c with zero := 4000, span := 20000 }).raise EV_CL_CAL (uCl n) [c.zero.toNat, c.span.toNat, 4000, 20000]
  else s.setCl n { s.cl n with cal := some (if z then 0 else 1, 256, 0, true) }

/-- CAL_AVERAGING_DONE: the new value applies at this update. The mean's rounding is open (log 27). -/
def calAveragingDone (n : Nat) (s : State) : State :=
  let c := s.cl n
  match c.cal with
  | none => s
  | some (k, left, sum, button) =>
    if 0 < left then s
    else
      let mean := sum / 256 + (if sum % 256 = 0 then 0 else ((s.freeVal % 2 : Nat) : Int))
      let z := if k = 0 then mean else c.zero
      let sp := if k = 0 then c.span else mean
      let s1 := s.useFree
      if sp - z < 1000 then s1.calRefuse n
      else
        let s2 := (s1.setCl n { c with zero := z, span := sp, cal := none }).raise EV_CL_CAL (uCl n)
          [k, (if k = 0 then c.zero else c.span).toNat, mean.toNat]
        if button then s2 else s2.finishAll (s2.flightsOn 0x0904 (uCl n)) ST_OK { commit := some s2.lmt }

/-! Digital channels (R238 to R240). -/

def dioDir (b : Bytes) : Nat := byteAt b 1
def dioAuto (b : Bytes) : Bool := (byteAt b 3).testBit 0

/-- The points a DIO channel writes (R242). -/
def State.dioPoints (s : State) (n : Nat) : State :=
  let b := s.dioRec n
  let d := s.dio n
  let st := dioDir b + mkBit d.latched 4 + mkBit (d.latched && dioAuto b && !d.hard) 5 + mkBit s.ana.fieldLow 16
  ((s.wr (dioPt s n 0) (BitVec.ofNat 32 (mkBit d.inp 0))).wr (dioPt s n 2) (BitVec.ofNat 32 st)).wr (dioPt s n 3) d.count

/-- DIO_SAMPLE: terminal levels, bit n for channel n, each 10 us (R238). -/
def dioSample (levels : Nat) (s : State) : State :=
  if s.lmt % 10000 != 0 then s
  else (s.recsOf 0x13).foldl (fun s b =>
    let n := byteAt b 0
    let d := s.dio n
    let lv := levels.testBit n
    if dioDir b = 0 then s
    else if dioDir b = 2 then (s.setDio n { d with level := lv, inp := lv }).dioPoints n
    else
      let since := if lv == d.level then d.since else s.lmt
      let change := lv != d.inp && decide (since + le b 4 2 * 1000 ≤ s.lmt)
      (s.setDio n { d with level := lv, since := since, inp := if change then lv else d.inp, count := if change && lv then d.count + 1 else d.count }).dioPoints n) s

/-- An output channel may be on (R239, R240, R521). -/
def State.dioMay (s : State) : Bool := s.drives && !s.ana.fieldLow

/-- OUT of one channel is applied at the output step of a commit (R238, R239). -/
def State.dioApply (s : State) (n : Nat) : State :=
  let d := s.dio n
  let v := (s.rd (dioPt s n 1)).getLsbD 0
  let again := d.latched && v && d.sawZero
  let d1 := { d with
    out := v, sawZero := d.latched && (d.sawZero || !v) && !again, latched := d.latched && !again, hard := d.hard && !again
    restartAt := if again then some s.lmt else d.restartAt }
  (s.setDio n { d1 with on := v && !d1.latched && s.dioMay }).dioPoints n

/-- DIO outputs of a group at its output instant (R238). -/
def State.dioOutput (s : State) (g : Nat) : State :=
  (((s.recsOf 0x13).filter (fun b => dioDir b == 2 && byteAt b 2 == g)).map (fun b => byteAt b 0)).foldl State.dioApply s

/-- DIO_OVERLOAD: the output switches off and latches (R239). -/
def dioOverload (n : Nat) (s : State) : State :=
  let d := s.dio n
  if !d.on then s
  else
    let hard := match d.restartAt with
      | some u => decide (s.lmt < u + 1000000000)
      | none => false
    ((s.setDio n { d with on := false, latched := true, overAt := some s.lmt, sawZero := false, hard := hard }).raise EV_DIO_OVERLOAD 0 [n]).dioPoints n

/-- A latched output restarts. -/
def State.dioRestart (s : State) (n : Nat) : State :=
  let d := s.dio n
  (s.setDio n { d with latched := false, hard := false, sawZero := false, restartAt := some s.lmt, on := d.out && s.dioMay }).dioPoints n

/-- DIO_AUTO_RESTART: 1 s after the overload (R239). -/
def dioAutoRestart (n : Nat) (s : State) : State :=
  let d := s.dio n
  let due := match d.overAt with
    | some u => decide (u + 1000000000 ≤ s.lmt)
    | none => false
  if d.latched && dioAuto (s.dioRec n) && !d.hard && due then s.dioRestart n else s

/-- Status points of every current-loop and DIO channel. -/
def State.fieldPoints (s : State) : State :=
  let s1 := ((s.recsOf 0x12).map (fun b => byteAt b 0)).foldl State.clPoints s
  ((s1.recsOf 0x13).map (fun b => byteAt b 0)).foldl State.dioPoints s1

/-- FIELD has been below 18.0 V for 1,000 us: DIO and PWM outputs turn off (R240). -/
def State.fieldDown (s : State) : State :=
  if s.ana.fieldLow then s
  else
    let s1 := { s with ana := { s.ana with
      fieldLow := true, dios := s.ana.dios.mapV (fun _ d => { d with on := false }), pwms := s.ana.pwms.mapV (fun _ p => { p with live := false }) } }
    (s1.raise EV_FIELD_LOW).fieldPoints

/-- FIELD_RESTORED: above 19.2 V for 10 ms (R240). -/
def fieldRestored (s : State) : State :=
  if !s.ana.fieldLow then s
  else
    let s1 := { s with ana := { s.ana with fieldLow := false } }
    let s2 := { s1 with ana := { s1.ana with
      dios := s1.ana.dios.mapV (fun n d => { d with on := dioDir (s1.dioRec n) == 2 && d.out && !d.latched && s1.dioMay })
      pwms := s1.ana.pwms.mapV (fun n p => { p with live := byteAt (s1.pwmRec n) 1 != 0 && s1.drives }) } }
    s2.fieldPoints

/-! Commands. -/

/-- What AdcStart checks before its rule runs (R427, R429). -/
def gateAdcStart (h : CmdHdr) (s : State) : Gate :=
  unitGate h s 0xB 0x0F [noBuf h, zeroTail h 0] (seqTrig (s.seqRec h.inst) != 0)

/-- Effect of AdcStart: on a running sequence the start is dropped, counted and refused (R219). -/
def goAdcStart (f : Flight) (s : State) : State :=
  let h := f.h
  if (s.seq h.inst).running.isSome then (s.seqHit h.inst s.lmt).finish f ST_REFUSED else s.seqStart h.inst 0

/-- ADC_START: ST_OK when the last entry ends (R219). -/
def runAdcStart (h : CmdHdr) (s : State) : State := start 0x0901 (gateAdcStart h s) goAdcStart h s

/-- What AnaVref checks before its rule runs (R427, R429). -/
def gateAnaVref (h : CmdHdr) (_ : State) : Gate :=
  sysGate h [noBuf h, needP 0 (decide (h.p 0 1 ≤ 1)), zeroTail h 1] false

/-- Effect of AnaVref. -/
def goAnaVref (f : Flight) (s : State) : State :=
  let h := f.h
  (s.vrefSwitch (h.p 0 1 == 1)).ok f

/-- ANA_VREF: VREFBUF off or on, at fetch (R222). -/
def runAnaVref (h : CmdHdr) (s : State) : State := start 0x0902 (gateAnaVref h s) goAnaVref h s

/-- What ClZeroSpan checks before its rule runs (R427, R429). -/
def gateClZeroSpan (h : CmdHdr) (s : State) : Gate :=
  unitGate h s 0xA 0x12 [noBuf h, needP 0 (decide (h.p 0 4 ≤ 24000)), needP 4 (decide (h.p 4 4 ≤ 24000)), zeroTail h 8]
    (decide ((h.p 4 4 : Int) - h.p 0 4 < 1000))

/-- ClZeroSpan waits among the commands in flight; its rule acts at the instant it names. -/
def goClZeroSpan (_ : Flight) (s : State) : State :=
  s

/-- CL_ZERO_SPAN: at the channel's next update (R236). -/
def runClZeroSpan (h : CmdHdr) (s : State) : State := start 0x0903 (gateClZeroSpan h s) goClZeroSpan h s

/-- What ClCalCapture checks before its rule runs (R427, R429). -/
def gateClCalCapture (h : CmdHdr) (s : State) : Gate :=
  unitGate h s 0xA 0x12 [noBuf h, needP 0 (decide (h.p 0 1 ≤ 1)), zeroTail h 1] (s.calBlocked h.inst false)

/-- Effect of ClCalCapture. -/
def goClCalCapture (f : Flight) (s : State) : State :=
  let h := f.h
  s.setCl h.inst { s.cl h.inst with cal := some (h.p 0 1, 256, 0, false) }

/-- CL_CAL_CAPTURE: a capture as a press would start (R236). -/
def runClCalCapture (h : CmdHdr) (s : State) : State := start 0x0904 (gateClCalCapture h s) goClCalCapture h s

/-- What DioReset checks before its rule runs (R427, R429). -/
def gateDioReset (h : CmdHdr) (s : State) : Gate :=
  sysGate h [noBuf h, needP 0 (decide (h.p 0 1 < 64)), zeroTail h 1] (!(s.dio (h.p 0 1)).latched)

/-- Effect of DioReset. -/
def goDioReset (f : Flight) (s : State) : State :=
  let h := f.h
  (s.dioRestart (h.p 0 1)).ok f

/-- DIO_RESET: a latched output restarts (R239). -/
def runDioReset (h : CmdHdr) (s : State) : State := start 0x0905 (gateDioReset h s) goDioReset h s

end Sys2Proof.Machine
end

