-- ==== Sys2Proof/Machine/Safety.lean ====
section
/-! DEFINITION. The safety layer (R349 to R377): cycles, latches, Nalat connections, the points of node 3, the safety commands that do not change the configuration. -/

namespace Sys2Proof.Machine

/-- Bodies of the accepted functions, ascending. -/
def State.safeFns (s : State) : List Bytes := sfAll s.safe.recs 0x22

/-- Axes that some accepted function names (R358). -/
def fnAxisList (b : Bytes) : List Nat := (List.range 64).filter (fun a => (fnAxes b).testBit a)

/-- Axes for which a function that names them is out of RUN in a channel (R361, R364). -/
def axesWanted (fs : List Bytes) (a b : SafeChan) : List Nat :=
  (List.range 64).filter (fun x => fs.any (fun r => (fnAxes r).testBit x &&
    ((a.fns.getD (fnNo r) {}).st != FnState.run || (b.fns.getD (fnNo r) {}).st != FnState.run)))

/-- The requests in force change: an axis no longer requested is free again (R361, R364). -/
def State.safeRequest (s : State) (want : List Nat) : State :=
  { s with
    safe := { s.safe with quick := want }
    mot := { s.mot with axes := s.mot.axes.mapV (fun x a => if a.safeStop && !want.contains x then { a with safeStop := false } else a) } }

/-- A channel fault: switches open, quick stops, every function SAFE with reason 9, SAFETY_HALT, HEALTH 1 (R350, R494). -/
def State.channelFault (s : State) : State :=
  if s.safe.layer == LayerState.halt || s.safe.layer == LayerState.notFitted then s
  else
    let stop := fun (c : SafeChan) => ({ c with
      fns := s.safeFns.foldl (fun m b => SMap.set m (fnNo b) ((SMap.getD m (fnNo b) {}).enter 9)) c.fns
      on := [] } : SafeChan)
    let sf : Safety := { s.safe with
      a := stop s.safe.a, b := stop s.safe.b, layer := .halt
      outs := s.safe.outs.mapV (fun _ o => o.open) }
    let s1 : State := { s with safe := sf, red := { s.red with health := max 1 s.red.health } }
    (s1.safeRequest (axesWanted s1.safeFns sf.a sf.b)).raise EV_SAFE_CHANNEL_FAULT

/-- Every function and connection starts again, as at the start of the layer (R360, R369, R377). Latches stay. -/
def Safety.restart (x : Safety) (reason : Nat) : Safety :=
  let fs := sfAll x.recs 0x22
  let chan := fun (c : SafeChan) => ({ c with
    fns := fs.map (fun b =>
      let old := c.fns.getD (fnNo b) {}
      (fnNo b, { st := if (byteAt b 3).testBit 0 then .startTest else .safe, reason := reason, latch := old.latch }))
    pairs := (sfAll x.recs 0x20).map (fun b =>
      let o := c.pairs.getD (byteAt b 0) {}
      (byteAt b 0, { o with guard := 0, clearing := 0, count := 0 }))
    resets := [], on := [] } : SafeChan)
  { x with
    a := chan x.a, b := chan x.b, diff := [], nSilent := 0
    outs := (List.range 8).map (fun o => (o, { (x.outs.getD o {}).open with bad := 0 }))
    conns := (sfAll x.recs 0x23).map (fun b =>
      let o := x.conns.getD (le b 0 2) {}
      (le b 0 2, { st := .starting, errors := o.errors, seq := if cnDir b = 1 then o.seq else 0 })) }

/-- The layer starts: both channels have passed and the copies of the configuration agree (R351, R377). -/
def State.safeStart (s : State) : State :=
  if s.safe.crcA != s.safe.crc || s.safe.crcB != s.safe.crc then
    ({ s with safe := { s.safe with layer := .running, mismatch := true, cyc := 0 } } : State).raise EV_SAFE_CONFIG_MISMATCH
  else
    let sf := s.safe.restart 11
    let s1 : State := { s with safe := { sf with layer := .running, mismatch := false, cyc := 0 } }
    s1.safeRequest (axesWanted s1.safeFns s1.safe.a s1.safe.b)

/-- SAFETY_SELF_TEST_DONE: a failed test is a channel fault; the layer runs when both have passed, not in test mode or recovery start (R350, R351, R470). -/
def safetySelfTestDone (channel : Nat) (ok : Bool) (s : State) : State :=
  if !s.sys.variantS || !s.safe.loaded || s.safe.layer != LayerState.selfTest || s.sys.startMode != 0 then s
  else if !ok then s.channelFault
  else
    let s1 : State := { s with safe := { s.safe with passA := s.safe.passA || channel == 0, passB := s.safe.passB || channel == 1 } }
    if s1.safe.passA && s1.safe.passB then s1.safeStart else s1

/-- The points of node 3 of functions and connections that a configuration no longer holds read 0 (R375). -/
def State.clearNode3 (s : State) (fns conns : List Bytes) : State :=
  let s1 := (fns.filter (fun b => (sfRec? s.safe.recs 0x22 (fnNo b)).isNone)).foldl (fun s b =>
    (List.range 4).foldl (fun s i => s.wrLocal 3 (4 * fnNo b + i) 0) s) s
  (conns.filter (fun b => (sfRec? s.safe.recs 0x23 (le b 0 2)).isNone)).foldl (fun s b =>
    (s.wrLocal 3 (1024 + 2 * le b 0 2) 0).wrLocal 3 (1025 + 2 * le b 0 2) 0) s1

/-- A configuration accepted takes effect at this cycle (R373). -/
def State.safeAccept (s : State) : State :=
  if !s.safe.accepting then s
  else match s.safe.staged with
    | none => s
    | some st =>
      let clean : SafeChan := {}
      let x0 : Safety := { s.safe with
        recs := st.1, crc := st.2, crcA := st.2, crcB := st.2, staged := none, accepting := false, mismatch := false
        a := { clean with si := s.safe.a.si, pairs := s.safe.a.pairs, fns := s.safe.a.fns }
        b := { clean with si := s.safe.b.si, pairs := s.safe.b.pairs, fns := s.safe.b.fns } }
      let x1 := x0.restart 12
      let s1 : State := { s with safe := x1, cfg := { s.cfg with pkgId := if s.cfg.pkgId + 1 = 4294967296 then 1 else s.cfg.pkgId + 1 } }
      let s2 := (s1.clearNode3 (sfAll s.safe.recs 0x22) (sfAll s.safe.recs 0x23)).raise EV_SAFE_CONFIG 0 [st.2.toNat]
      s2.finishAll (s2.flightsOn 0x0E04 0xF000) ST_OK { commit := some s2.lmt }

/-- The readback of an output in one sample fails: a terminal still on while a switch of it is opened for its test, or while the output is
de-energised (R357). -/
def SafeOut.wrong (x : SafeOut) (o so : Nat) : Bool := match x.dip with
  | some k => so.testBit (if k < 2 then o else o + 8)
  | none => !(x.aOn && x.bOn) && (so.testBit o || so.testBit (o + 8))

/-- What an output is commanded to after a cycle: a switch whose test failed is tested again in the next cycle (log 242); else one switch opens
every 250 ms while the output is energised, in the order A, B of SOoP, then A, B of SOoM (R357). -/
def SafeOut.command (x : SafeOut) (t : Nat) (aOn bOn : Bool) : SafeOut :=
  let y : SafeOut := { x with aOn := aOn, bOn := bOn, dip := none }
  if !(aOn && bOn) then y
  else if !(x.aOn && x.bOn) then { y with dipAt := t }
  else if x.dip.isSome && x.bad != 0 then { y with dip := x.dip }
  else if x.dipAt + 250000000 ≤ t then { y with dip := some x.dipNext, dipNext := (x.dipNext + 1) % 4, dipAt := t }
  else y

/-- The readback of the outputs in a cycle (R357). Answers the outputs, and those found faulty in it. -/
def outReadback (s : State) (soA soB : Nat) : SMap SafeOut × List Nat :=
  (List.range 8).foldl (fun (a : SMap SafeOut × List Nat) o =>
    let x := s.safe.outs.getD o {}
    let wrong := x.wrong o soA || x.wrong o soB
    let n := if wrong then x.bad + 1 else 0
    let fresh := decide (2 ≤ n) && !x.fault
    let fault := x.fault || fresh
    let good := if fault && !wrong && !(x.aOn && x.bOn) then some (x.goodFrom.getD s.lmt) else none
    let y : SafeOut := { x with bad := n, fault := fault, goodFrom := good, edges := if good.isSome then x.edges else [] }
    (SMap.set a.1 o y, if fresh then a.2 ++ [o] else a.2)) (s.safe.outs, [])

/-- A reset edge of every function that names a faulty output, after 1 s of correct readback, clears its latch (R357). -/
def outClear (recs : List (Nat × Bytes)) (t : Nat) (edges : List Nat) (outs : SMap SafeOut) : SMap SafeOut :=
  outs.mapV (fun o x =>
    let names := ((sfAll recs 0x22).filter (fun b => (fnSo b).testBit o)).map fnNo
    match x.goodFrom with
    | none => x
    | some g =>
      if x.fault && decide (g + 1000000000 ≤ t) then
        let es := x.edges ++ edges.filter (fun f => names.contains f && !x.edges.contains f)
        if names.all (fun f => es.contains f) then { x with fault := false, goodFrom := none, edges := [] } else { x with edges := es }
      else x)

/-- The words of a connection's block in the front buffer (R32, R366). -/
def State.connWords (s : State) (b : Bytes) : List W32 :=
  (List.range (5 + cnWords b)).map (fun w => s.rd (ptAddr s (byteAt b 3) (le b 6 2) (le b 8 2 + w)))

/-- Every consumed connection reads its block (R369); only the active module of a pair consumes (R370). -/
def State.nalatRead (s : State) : State :=
  if !s.drives then s
  else ((sfAll s.safe.recs 0x23).filter (fun b => cnDir b == 0)).foldl (fun s b =>
    let n := le b 0 2
    let r := connRead b s.lmt (s.lmt / 1000 % 4294967296) (s.connWords b) (s.safe.conns.getD n {})
    let s1 : State := { s with safe := { s.safe with conns := s.safe.conns.set n r.1 } }
    r.2.foldl (fun s e => s.raise e 0 [n]) s1) s

/-- This safety cycle is the last that ends at least 250 us before a commit of the connection's group (R368). -/
def State.buildsNow (s : State) (b : Bytes) : Bool := match s.grpRec? (byteAt b 3) (byteAt b 4) with
  | none => false
  | some g =>
    let st := s.nextStartLmt g (s.lmt + 500000 - gCommitAt g)
    decide (st + gCommitAt g < s.lmt + 750000)

/-- Every produced connection whose cycle this is writes a frame as a free-running writer (R368); not in SAFETY_HALT, only the active module (R370). -/
def State.nalatBuild (s : State) : State :=
  if !s.drives || s.safe.layer != LayerState.running then s
  else ((sfAll s.safe.recs 0x23).filter (fun b => cnDir b == 1 && s.buildsNow b)).foldl (fun s b =>
    let n := le b 0 2
    let run := fun f => (s.safe.a.fns.getD f {}).st == FnState.run && (s.safe.b.fns.getD f {}).st == FnState.run
    let r := connBuild b (s.lmt / 1000) run (s.safe.conns.getD n {})
    let s1 : State := { s with safe := { s.safe with conns := s.safe.conns.set n { r.2 with lastAt := s.lmt } } }
    (r.1.zipIdx).foldl (fun s e => s.wr (ptAddr s (byteAt b 3) (le b 6 2) (le b 8 2 + e.2)) (BitVec.ofNat 32 e.1)) s1) s

/-- Encoder counts of the last 8 cycles (R362). -/
def pushCounts (m : SMap (List Int)) (xs : List (Nat × Int)) : SMap (List Int) :=
  [16, 17, 18, 19].foldl (fun (m : SMap (List Int)) e =>
    let d := ((xs.filter (fun x => x.1 == e)).map (·.2)).foldl (· + ·) 0
    SMap.set m e ((d :: SMap.getD m e []).take 8)) m

/-- A running layer's cycle (R349). -/
def State.safeEval (inp : SafeIn) (s : State) : State :=
  let s0 := s.nalatRead
  let rb := outReadback s0 inp.soA inp.soB
  let x : SafeStep := {
    t := s0.lmt, cyc := s0.safe.cyc, recs := s0.safe.recs, conns := s0.safe.conns
    fieldLow := s0.ana.fieldLow, faultHalt := s0.sys.st == .faultHalt
    outFault := ((List.range 8).filter (fun o => (s0.safe.outs.getD o {}).fault)), newFault := rb.2
    cntA := pushCounts s0.safe.cntA inp.encA, cntB := pushCounts s0.safe.cntB inp.encB }
  let ra := chanEval x inp.siA inp.tpA inp.soA s0.safe.a
  let rbb := chanEval x inp.siB inp.tpB inp.soB s0.safe.b
  let outs := (outClear s0.safe.recs s0.lmt ra.edges rb.1).mapV (fun o y =>
    y.command s0.lmt (ra.chan.on.contains o) (rbb.chan.on.contains o))
  let diff := chanDiff ra.chan rbb.chan (s0.safeFns.map fnNo) inp.differ
  let silent := if inp.silent then s0.safe.nSilent + 1 else 0
  let fault := inp.testFail || decide (2 ≤ silent) || diff.any (fun d => s0.safe.diff.contains d)
  let s1 : State := { s0 with safe := { s0.safe with
    a := ra.chan, b := rbb.chan, outs := outs, diff := diff, nSilent := silent, cyc := s0.safe.cyc + 1
    tpFault := tpFaults x.recs x.cyc inp.tpA inp.tpB s0.safe.tpFault, cntA := x.cntA, cntB := x.cntB } }
  let s2 := (ra.fresh ++ rbb.fresh.filter (fun p => !ra.fresh.contains p)).foldl (fun s p => s.raise EV_SAFE_TEST_FAULT 0 [p]) s1
  let s3 := rb.2.foldl (fun s o => s.raise EV_SAFE_OUTPUT_FAULT 0 [o]) s2
  let s4 := (ra.events ++ rbb.events.filter (fun e => !ra.events.contains e)).foldl (fun s e => s.raise e.1 (uSafe e.2)) s3
  let s5 := s4.safeRequest (axesWanted s4.safeFns s4.safe.a s4.safe.b)
  if fault then s5.channelFault else s5.nalatBuild

/-- SAFETY_CYCLE (R349): an accepted configuration takes effect; a running layer without a mismatch evaluates. -/
def safetyCycle (inp : SafeIn) (s : State) : State :=
  if !s.sys.variantS || s.safe.layer == LayerState.selfTest || s.safe.layer == LayerState.notFitted then s
  else
    let s1 := s.safeAccept
    let s2 : State := { s1 with safe := { s1.safe with cycleAt := s1.lmt } }
    if s2.safe.layer != LayerState.running || s2.safe.mismatch then s2 else s2.safeEval inp

/-- A latched DISC_FAULT takes the functions that name the pair to SAFE with reason 2 (R355, R356, R360). -/
def SafeChan.discFault (c : SafeChan) (fs : List Bytes) (p : Nat) : SafeChan :=
  { c with
    pairs := c.pairs.upd p {} (fun x => { x with disc := true, clearing := 0 })
    fns := c.fns.mapV (fun n f =>
      if fs.any (fun b => fnNo b == n && fnHasPair b p) && f.st != FnState.startTest then f.enter 2 else f) }

/-- SAFETY_DISCREPANCY_COUNT: the count of a pair has reached N_d in a channel (R355). -/
def safetyDiscrepancyCount (p : Nat) (s : State) : State :=
  let b := sfRec s.safe.recs 0x20 p
  let hit := fun (c : SafeChan) => let x := c.pairs.getD p {}; decide (0 < pairNd b) && decide (pairNd b ≤ x.count) && !x.disc
  if s.safe.layer == LayerState.running && (byteAt b 1 == 1 || byteAt b 1 == 2) && (hit s.safe.a || hit s.safe.b) then
    let fs := s.safeFns
    let a := s.safe.a.discFault fs p
    let c := s.safe.b.discFault fs p
    let on := fun (x : SafeChan) => ({ x with on := x.on.filter (fun o => (chanOn s.safe.recs x.fns false []).contains o) } : SafeChan)
    let s1 : State := { s with safe := { s.safe with
      a := on a, b := on c
      outs := s.safe.outs.mapV (fun o y => y.command s.lmt (y.aOn && (on a).on.contains o) (y.bOn && (on c).on.contains o)) } }
    (s1.raise EV_SAFE_DISCREPANCY 0 [p]).safeRequest (axesWanted fs s1.safe.a s1.safe.b)
  else s

/-- EV_SAFE_RESET_LONG: a reset source has been closed for 3 s (R363). -/
def safeResetLong (src : Nat) (s : State) : State :=
  match s.safe.a.resets.get? src with
  | none => s
  | some r =>
    if s.safe.layer == LayerState.running && r.closed && !r.long && decide (r.since + 3000000000 ≤ s.lmt) then
      let mark := fun (c : SafeChan) => ({ c with resets := c.resets.mapV (fun k x => if k = src then { x with long := true } else x) } : SafeChan)
      ({ s with safe := { s.safe with a := mark s.safe.a, b := mark s.safe.b } } : State).raise EV_SAFE_RESET_LONG 0 [src]
    else s

/-- SAFETY_STOP_DELAY_EXPIRY: STOP_DELAY (SS1-t) or STOP_MAX (SS1-r) has passed since the demand: torque removed, SAFE (R361, R362). -/
def safetyStopDelayExpiry (fn : Nat) (s : State) : State :=
  match sfRec? s.safe.recs 0x22 fn with
  | none => s
  | some b =>
    let due := fun (c : SafeChan) => let f := c.fns.getD fn {}
      f.st == FnState.stopping && decide (f.demandAt + fnDelay b * 1000 ≤ s.lmt)
    if s.safe.layer == LayerState.running && (due s.safe.a || due s.safe.b) then
      let why := if fnStop b = 2 then 7 else 1
      let go := fun (c : SafeChan) =>
        let c1 : SafeChan := { c with fns := c.fns.mapV (fun n f => if n = fn && f.st == FnState.stopping then f.enter why else f) }
        ({ c1 with on := c1.on.filter (fun o => !(fnSo b).testBit o) } : SafeChan)
      { s with safe := { s.safe with
        a := go s.safe.a, b := go s.safe.b
        outs := s.safe.outs.mapV (fun o y => if (fnSo b).testBit o then y.open else y) } }
    else s

/-- NALAT_WATCHDOG_EXPIRY: no frame accepted for WD (R369). -/
def nalatWatchdogExpiry (conn : Nat) (s : State) : State :=
  match sfRec? s.safe.recs 0x23 conn with
  | none => s
  | some b =>
    let c := s.safe.conns.getD conn {}
    if cnDir b = 0 && c.st == ConnState.run && decide (c.lastAt + cnWd b * 100000 ≤ s.lmt) then
      ({ s with safe := { s.safe with conns := s.safe.conns.set conn { c with st := .timeout, good := 0 } } } : State).raise EV_NALAT_TIMEOUT 0 [conn]
    else s

/-- AXIS_QUICK_STOP_REQUEST: the request of a function reaches the axis (R208, R361). -/
def axisQuickStopRequest (x : Nat) (s : State) : State := if s.safe.quick.contains x then axisQuickStop x s else s

/-- SI_STANDARD_SAMPLE: the -N variant's main die samples SI0 to SI23 into node 3 (R376). -/
def siStandardSample (levels : Nat) (s : State) : State :=
  if s.sys.variantS then s
  else
    let s1 : State := { s with safe := { s.safe with siStd := levels % 16777216 } }
    (List.range 24).foldl (fun s i => s.wrLocal 3 (512 + i) (if levels.testBit i then 1 else 0)) s1

/-- FIELD is low: every safety output off, functions that name one enter SAFE with reason 10 (R377). -/
def State.safeFieldLow (s : State) : State :=
  if s.sys.variantS && s.safe.layer == LayerState.running then
    let fs := s.safeFns
    let names := fun n => fs.any (fun b => fnNo b == n && fnSo b != 0)
    let s1 : State := { s with safe := s.safe.force 10 names }
    s1.safeRequest (axesWanted fs s1.safe.a s1.safe.b)
  else s

/-- FIELD_LOW (R240, R377). -/
def fieldLowEvent (s : State) : State := if s.ana.fieldLow then s else s.fieldDown.safeFieldLow

/-- LOGIC is lost or a restart begins: both channels open every switch, every function SAFE with reason 11 (R377). -/
def Safety.lost (x : Safety) : Safety :=
  let c := fun (c : SafeChan) => ({ c with fns := c.fns.mapV (fun _ f => { f with st := .safe, reason := 11, torqueOff := true }), on := [] } : SafeChan)
  { x with a := c x.a, b := c x.b, outs := x.outs.mapV (fun _ o => o.open) }

/-! Node 3 (R375). -/

def fnCode : FnState → Nat
  | .startTest => 0
  | .safe => 1
  | .ready => 2
  | .stopping => 3
  | .run => 4

def layerCode (s : State) : Nat := if !s.sys.variantS then 0 else match s.safe.layer with
  | .notFitted => 0
  | .selfTest => 1
  | .running => 2
  | .halt => 3

def connCode : ConnState → Nat
  | .off => 0
  | .starting => 1
  | .run => 2
  | .timeout => 3
  | .fault => 4

/-- LAYER (R375). -/
def layerPoint (s : State) : Nat := layerCode s + mkBit s.safe.staged.isSome 8

def fnPoint (f : SafeFn) : Nat := fnCode f.st + mkBit f.latch 8 + 65536 * f.reason

/-- STATUS of a pair; a count beyond its 8 bits is left open (log 28). -/
def pairPointOf (p : Pair) (mode : Nat) (wide : Nat) : Nat :=
  mkBit (p.released mode) 0 + mkBit ((mode == 1 || mode == 2) && !p.released mode) 1 + mkBit p.disc 2 + mkBit p.a.testFault 3
    + mkBit p.b.testFault 4 + mkBit (p.guard == 2) 5 + 256 * (if p.count < 256 then p.count else wide % 256)

def outPointOf (x : SafeOut) : Nat := mkBit (x.aOn && x.bOn) 0 + mkBit x.aOn 1 + mkBit x.bOn 2 + mkBit x.fault 3

/-- Channel A writes node 3 for a commit of local group 0 (R375). -/
def State.safePoints (s : State) : State :=
  let s0 := s.wrLocal 3 576 (layerPoint s)
  if !s.sys.variantS then s0
  else
    let w := fun (s : State) (i : Nat) (v : Int) => s.wrLocal 3 i v
    let s1 := s0.safeFns.foldl (fun s b =>
      let n := fnNo b
      let f := s.safe.a.fns.getD n {}
      w (w ((w (w s (4 * n) (fnPoint f)) (4 * n + 1) f.inputs)) (4 * n + 2) (f32OfInt f.speed).toNat) (4 * n + 3) f.demands.toNat) s0
    let s2 := (List.range 24).foldl (fun s i =>
      let p := s.safe.a.pairs.getD (i / 2) {}
      let l := if i % 2 = 0 then p.a else p.b
      w s (512 + i) (if l.closed then 1 else 0)) s1
    let s3 := (List.range 12).foldl (fun s p =>
      let x := s.safe.a.pairs.getD p {}
      let s' := w s (544 + p) (pairPointOf x (byteAt (sfRec s.safe.recs 0x20 p) 1) s.freeVal)
      if x.count < 256 then s' else s'.useFree) s2
    let s4 := (List.range 8).foldl (fun s o => w s (560 + o) (outPointOf (s.safe.outs.getD o {}))) s3
    let s5 := (List.range 4).foldl (fun s t =>
      w s (568 + t) (mkBit ((byteAt (sfRec s.safe.recs 0x21 0) 0).testBit t) 0 + mkBit (s.safe.tpFault.contains t || s.safe.tpFault.contains (t + 4)) 1 : Nat)) s4
    let s6 := w s5 577 s5.safe.crc.toNat
    (sfAll s6.safe.recs 0x23).foldl (fun s b =>
      let n := le b 0 2
      let c := s.safe.conns.getD n {}
      w (w s (1024 + 2 * n) (connCode c.st + mkBit c.fs 3 : Nat)) (1025 + 2 * n) c.errors.toNat) s6

/-! Commands (R374). -/

def gateSafeStatus (h : CmdHdr) (_ : State) : Gate := { exempt := true, invalid := firstBad [needSys h, needBuf h 1024, zeroTail h 12] }

/-- SAFE_STATUS: the layer state, CONFIG_CRC, each function with its state and reason; -N: layer absent (R374, R376), as figures in this order. -/
def goSafeStatus (f : Flight) (s : State) : State :=
  if !s.sys.variantS then s.okOut f [0]
  else s.okOut f ([layerCode s, s.safe.crc.toNat] ++ s.safeFns.flatMap (fun b =>
    let x := s.safe.a.fns.getD (fnNo b) {}
    [fnNo b, fnCode x.st, x.reason]))

def runSafeStatus (h : CmdHdr) (s : State) : State := start 0x0E01 (gateSafeStatus h s) goSafeStatus h s

def gateSafeDiagRead (h : CmdHdr) (_ : State) : Gate := { exempt := true, invalid := firstBad [needSys h, needBuf h 4096, zeroTail h 12] }

/-- SAFE_DIAG_READ: pair counters, output readbacks ([0] SOoP, [1] SOoM on), connection ERRORS, self-test results; -N: layer absent (R374, R376), as figures in this order. -/
def goSafeDiagRead (f : Flight) (s : State) : State :=
  if !s.sys.variantS then s.okOut f [0]
  else s.okOut f ((List.range 12).map (fun p => (s.safe.a.pairs.getD p {}).count)
    ++ (List.range 8).map (fun o => mkBit (s.safe.a.so.testBit o) 0 + mkBit (s.safe.a.so.testBit (o + 8)) 1)
    ++ (sfAll s.safe.recs 0x23).flatMap (fun b => [le b 0 2, (s.safe.conns.getD (le b 0 2) {}).errors.toNat])
    ++ [if s.safe.passA then 1 else 0, if s.safe.passB then 1 else 0])

def runSafeDiagRead (h : CmdHdr) (s : State) : State := start 0x0E02 (gateSafeDiagRead h s) goSafeDiagRead h s

def gateSafeConnRestart (h : CmdHdr) (s : State) : Gate :=
  { invalid := firstBad [needSys h, noBuf h, needP 0 (!s.sys.variantS || (sfRec? s.safe.recs 0x23 (h.p 0 2)).isSome), zeroTail h 2]
    disabled := !s.sys.variantS
    refused := (s.safe.conns.getD (h.p 0 2) {}).st != ConnState.fault }

/-- SAFE_CONN_RESTART: a connection in FAULT enters STARTING (R369, R374). -/
def goSafeConnRestart (f : Flight) (s : State) : State :=
  let n := f.h.p 0 2
  let c := s.safe.conns.getD n {}
  let c1 : Conn := { c with st := .starting, good := 0, ofs := [], has := false }
  ({ s with safe := { s.safe with conns := s.safe.conns.set n c1 } } : State).ok f

def runSafeConnRestart (h : CmdHdr) (s : State) : State := start 0x0E05 (gateSafeConnRestart h s) goSafeConnRestart h s

end Sys2Proof.Machine
end

