-- ==== Sys2Proof/Machine/LogicCalc.lean ====
section
/-! DEFINITION. Logic engines: operands, arithmetic, timers, cycle costs (R283 to R291). -/

namespace Sys2Proof.Machine

/-! Program parts (R294). -/

/-- The instruction word at an address. -/
def leWord (img : Bytes) (pc : Nat) : Nat := le img (lpCode img + 4 * pc) 4
/-- First instruction of a block. -/
def leBlock (img : Bytes) (blk : Nat) : Nat := le img (lpBlocks img + 8 * blk) 4
/-- Point address and type code of a reference. -/
def leRefAddr (img : Bytes) (i : Nat) : Nat := le img (lpRefs img + 8 * i) 4
def leRefTyp (img : Bytes) (i : Nat) : Nat := byteAt img (lpRefs img + 8 * i + 4)
/-- Declarations of timers, counters and variables. -/
def leTimerDecl (img : Bytes) (i : Nat) : Bytes := slice img (lpTimers img + 8 * i) 8
def leCounterDecl (img : Bytes) (i : Nat) : Bytes := slice img (lpCounters img + 8 * i) 8
def leVarDecl (img : Bytes) (i : Nat) : Bytes := slice img (lpVars img + 16 * i) 16
/-- The declaration of a variable by its point index. -/
def leVar? (img : Bytes) (idx : Nat) : Option Bytes := ((List.range (le img 24 4)).map (leVarDecl img)).find? (fun d => le d 0 2 == idx)

/-! Operand fields (R283). -/

def oSpace (o : Nat) : Nat := bits o 23 21
def oBit (o : Nat) : Nat := bits o 20 16
def oIndex (o : Nat) : Nat := o % 65536

/-- Slot and type of a point or variable operand, on engine `n` of module `m`; a two-slot point's slot is chosen by BIT (R284). -/
def lePoint (m n : Nat) (img : Bytes) (o : Nat) : Option (Nat × Nat) :=
  let pick (a typ : Nat) : Nat × Nat := (if typeSlots typ = 2 then a + oBit o else a, typ)
  if oSpace o = 0 then some (pick (leRefAddr img (oIndex o)) (leRefTyp img (oIndex o)))
  else if oSpace o = 1 then (leVar? img (oIndex o)).map (fun d => pick (m * 0x10000000 + (8 + n) * 0x4000 + oIndex o) (byteAt d 2))
  else none

/-- What a run reads of a slot: what it wrote, else what it latched (R281). -/
def Run.slot (r : Run) (a : Nat) : W32 := (r.writes.get? a).getD (r.vals.getD a 0)

/-- Status bits of SPACE 6 (R283). -/
def Run.status (r : Run) (i : Nat) : Bool := if i = 0 then r.ov else if i = 1 then r.err else if i = 2 then r.firstRun else if i = 3 then r.firstAfter else false

/-- A bit read (R284). -/
def leBit (m n : Nat) (e : Engine) (r : Run) (o : Nat) : Bool :=
  match lePoint m n r.code o with
  | some (a, typ) => (r.slot a).getLsbD (if typeSlots typ = 2 then 0 else oBit o)
  | none =>
    if oSpace o = 2 then (e.timers.getD (oIndex o) {}).q
    else if oSpace o = 3 then (e.counters.getD (oIndex o) {}).q
    else if oSpace o = 4 then (r.temps.getD (oIndex o) 0).getLsbD (oBit o)
    else if oSpace o = 6 then r.status (oIndex o)
    else false

/-- A word load (R284). -/
def leLoad (m n : Nat) (e : Engine) (r : Run) (o : Nat) : W32 :=
  match lePoint m n r.code o with
  | some (a, _) => r.slot a
  | none =>
    if oSpace o = 2 then (e.timers.getD (oIndex o) {}).et
    else if oSpace o = 3 then (e.counters.getD (oIndex o) {}).cv
    else if oSpace o = 4 then r.temps.getD (oIndex o) 0
    else if oSpace o = 6 then BitVec.ofNat 32 (mkBit (r.status (oIndex o)) 0)
    else 0

/-- A bit of a word replaced. -/
def setBit32 (w : W32) (i : Nat) (v : Bool) : W32 := if v then w ||| BitVec.ofNat 32 (2 ^ i) else w &&& ~~~ (BitVec.ofNat 32 (2 ^ i))

/-- A bit store (R284). -/
def leStoreBit (m n : Nat) (r : Run) (o : Nat) (v : Bool) : Run :=
  match lePoint m n r.code o with
  | some (a, typ) => { r with writes := r.writes.set a (if typ = 0 then BitVec.ofNat 32 (mkBit v 0) else setBit32 (r.slot a) (oBit o) v) }
  | none => if oSpace o = 4 then { r with temps := r.temps.put 0 (oIndex o) (setBit32 (r.temps.getD (oIndex o) 0) (oBit o) v) } else r

/-- OV or ERR set: sticky, and each setting counted (R288). -/
def Run.setOv (r : Run) (on : Bool) : Run := if on then { r with ov := true, ovN := r.ovN + 1 } else r
def Run.setErr (r : Run) (on : Bool) : Run := if on then { r with err := true, errN := r.errN + 1 } else r

/-- A word store (R284). -/
def leStore (m n : Nat) (r : Run) (o : Nat) : Run :=
  match lePoint m n r.code o with
  | some (a, typ) =>
    if typ = 0 then { r with writes := r.writes.set a (BitVec.ofNat 32 (mkBit (r.wa != 0) 0)) }
    else if typ = 1 ∨ typ = 2 then
      let v := w32 (sat16 r.wa.toInt)
      ({ r with writes := r.writes.set a v }).setOv (v != r.wa)
    else { r with writes := r.writes.set a r.wa }
  | none => if oSpace o = 4 then { r with temps := r.temps.put 0 (oIndex o) r.wa } else r

/-! Arithmetic (R288). -/

/-- A signed result modulo 2^32, OV on signed overflow. -/
def Run.arith (r : Run) (x : Int) : Run := ({ r with wa := w32 x }).setOv (decide (x < -2147483648 ∨ 2147483647 < x))

/-- DIV: truncates toward zero. -/
def Run.div (r : Run) (d : W32) : Run := if d = 0 then r.setErr true else r.arith (Int.tdiv r.wa.toInt d.toInt)

/-- MOD: remainder with the sign of WA. -/
def Run.mod (r : Run) (d : W32) : Run := if d = 0 then r.setErr true else { r with wa := w32 (Int.tmod r.wa.toInt d.toInt) }

/-- FTOI: round to nearest even; NaN 0 with ERR, out of range saturated with OV. -/
def Run.ftoi (r : Run) : Run :=
  if f32NaN r.wa then ({ r with wa := 0 }).setErr true
  else if f32Inf r.wa then ({ r with wa := if f32Neg r.wa then 0x80000000#32 else 0x7FFFFFFF#32 }).setOv true
  else
    let n := f32Num r.wa
    let k : Int := (rne n.natAbs (2 ^ 149) : Nat)
    let x := if n < 0 then -k else k
    ({ r with wa := w32 (sat32 x) }).setOv (sat32 x != x)

/-! Timers (R287). -/

/-- Units of a BASE, ns. -/
def timerBase (b : Nat) : Nat := if b = 0 then 1000 else if b = 1 then 100000 else if b = 2 then 1000000 else 100000000

/-- A timer at its first execution after a restart goes on from its retained ET (R306). -/
def Timer.ready (x : Timer) (tRun : Nat) : Timer :=
  if x.resumed then { x with start := tRun - x.et.toNat * timerBase x.base, resumed := false } else x

/-- el = min(pt, (t_run - start) / base). -/
def Timer.el (x : Timer) (start tRun : Nat) : W32 := BitVec.ofNat 32 (min x.pt.toNat ((tRun - start) / timerBase x.base))

/-- TON (R287). -/
def Timer.ton (x : Timer) (inp : Bool) (tRun : Nat) : Timer :=
  if !inp then { x with et := 0, q := false, inPrev := inp }
  else
    let start := if x.inPrev then x.start else tRun
    let et := x.el start tRun
    { x with start := start, et := et, q := et == x.pt, inPrev := inp }

/-- TOF (R287). -/
def Timer.tof (x : Timer) (inp : Bool) (tRun : Nat) : Timer :=
  if inp then { x with et := 0, q := true, busy := false, inPrev := inp }
  else
    let y := if x.inPrev then { x with start := tRun, busy := true } else x
    if y.busy then
      let et := y.el y.start tRun
      { y with et := et, q := decide (et.toNat < y.pt.toNat), busy := decide (et.toNat < y.pt.toNat), inPrev := inp }
    else { y with inPrev := inp }

/-- TP (R287). -/
def Timer.tp (x : Timer) (inp : Bool) (tRun : Nat) : Timer :=
  let y := if !x.busy && inp && !x.inPrev then { x with start := tRun, busy := true } else x
  if y.busy then
    let et := y.el y.start tRun
    let q := decide (et.toNat < y.pt.toNat)
    if !q && !inp then { y with q := q, busy := false, et := 0, inPrev := inp } else { y with et := et, q := q, inPrev := inp }
  else { y with q := false, et := if inp then y.et else 0, inPrev := inp }

/-! Costs (R291). -/

/-- Listed cycles of an opcode beside its point read. -/
def leListed (op : Nat) : Nat :=
  if op = 0x20 ∨ op = 0x21 ∨ op = 0x22 then 6 else if op = 0x28 ∨ op = 0x29 then 4
  else if op = 0x3A ∨ op = 0x50 ∨ op = 0x51 ∨ op = 0x52 then 3 else if op = 0x3B ∨ op = 0x3C ∨ op = 0x53 then 20
  else if op = 0x63 ∨ op = 0x64 then 2 else 1

/-- Opcodes that read their operand, and those that store to it (R285, R288). -/
def leReads (op : Nat) : Bool :=
  decide ((1 ≤ op ∧ op ≤ 8) ∨ op = 0x30 ∨ (0x38 ≤ op ∧ op ≤ 0x3C) ∨ (0x40 ≤ op ∧ op ≤ 0x45) ∨ (0x48 ≤ op ∧ op ≤ 0x4D) ∨ (0x50 ≤ op ∧ op ≤ 0x53) ∨ op = 0x56 ∨ op = 0x57)
def leStores (op : Nat) : Bool := decide ((0x10 ≤ op ∧ op ≤ 0x13) ∨ op = 0x31 ∨ op = 0x32)

/-- Engine cycles of one instruction; `written` a slot the run has stored. -/
def leCost (op o : Nat) (written : Bool) : Nat :=
  if leReads op && decide (oSpace o ≤ 1) then (if written then leListed op else 20 + (leListed op - 1))
  else if leStores op && decide (oSpace o ≤ 1) then 2 else leListed op

end Sys2Proof.Machine
end

