-- ==== Sys2Proof/Machine/Logic.lean ====
section
/-! DEFINITION. Logic engines: releases, runs, instructions, modes, breakpoints, forcing commands, online change (R278 to R307). -/

namespace Sys2Proof.Machine

/-- Record of an engine, with the defaults of an engine without one (R295). -/
def State.leRec (s : State) (n : Nat) : Bytes := s.rcd 0x17 n
def leDebug (b : Bytes) : Bool := (byteAt b 2).testBit 0
def leResume (b : Bytes) : Bool := (byteAt b 2).testBit 1

/-- Unit of an engine and of a task (R278). -/
def uEngine (n : Nat) : Nat := uLogic (n * 256)
def uTask (n k : Nat) : Nat := uLogic (n * 256 + k)

/-- Task entries of an image. -/
def leTasks (img : Bytes) : List Bytes := if img.isEmpty then [] else (List.range (le img 18 2)).map (fun i => slice img (64 + 16 * i) 16)
/-- Group key of a task entry: its own group or its owner group. -/
def leGroup (d : Bytes) : Nat := byteAt d 3 * 8 + byteAt d 4
def leEvent (d : Bytes) : Bool := byteAt d 1 == 1

/-- A task or its engine is disabled (R299). -/
def State.leDis (s : State) (n k : Nat) : Bool := s.isDis (uEngine n) || s.isDis (uTask n k)

/-! Points (R307). -/

def leModeNum : LogicMode → Nat
  | .stop => 0
  | .run => 1
  | .hold => 2

/-- The engine's status points. -/
def State.enginePoints (s : State) (n : Nat) : State :=
  let e := s.eng n
  let a (i : Nat) := ptAddr s 0 (8 + n) i
  let mode := leModeNum e.mode + mkBit e.prog.sealed 4 + mkBit (e.prog.sel == 1) 5 + mkBit (!s.img.forces.isEmpty) 6 + mkBit e.held 7 + 256 * e.reason
  let hold := match e.run with
    | some r => if e.mode == .hold then r.pc else 0
    | none => 0
  let task := match e.run with
    | some r => r.task
    | none => 0
  let w (s : State) (i v : Nat) : State := s.wr (a i) (BitVec.ofNat 32 v)
  w (w (w (w (w (w (w s 16256 mode) 16257 (le e.prog.fg 4 4)) 16258 e.changes.toNat) 16259 hold) 16260 task) 16261 s.img.forces.length) 16262 e.load

/-- The status points of every engine. -/
def State.enginesPoints (s : State) : State := (List.range 8).foldl State.enginePoints s

/-! Releases and runs (R278 to R282). -/

/-- Cyclic releases of a group's cycle start (R278, R280, R296). -/
def State.leCycle (s : State) (k : Nat) : State :=
  (List.range 8).foldl (fun s n =>
    ((leTasks (s.eng n).prog.fg).filter (fun d => !leEvent d && leGroup d == k)).foldl (fun s d =>
      let e := s.eng n
      let t := byteAt d 0
      let f := e.figs.getD t {}
      if s.leDis n t || e.mode == .stop then s
      else if e.mode == .hold || f.late || f.skip then s.setEng n { e with figs := e.figs.set t { f with skipped := f.skipped + 1, skip := false } }
      else s.setEng n { e with
        ready := e.ready ++ [{ task := t, at' := s.lmt, cyclic := true, snap := (s.group k).snap }], figs := e.figs.set t { f with late := true } }) s) s

/-- Hopper task of an event task entry. -/
def leHop (d : Bytes) : Nat := le d 6 2

/-- Priority of a task as it counts now: an event task's aged one (R280, R452). -/
def State.lePrio (s : State) (d : Bytes) : Nat :=
  if leEvent d then match s.hopCfg? (leHop d) with
    | some c => effPrio c (s.hopT (leHop d))
    | none => byteAt d 2
  else byteAt d 2

/-- Instant from which a release counts: MIN_GAP after the previous one (R279). -/
def relAt (d : Bytes) (f : TaskFig) (r : Release) : Nat :=
  if r.cyclic then r.at' else match f.lastRel with
    | some u => max r.at' (u + le d 12 4 * 1000)
    | none => r.at'

/-- Release `a` is to run before release `b` (R280). -/
def relBefore (pa pb ta tb : Nat) (a b : Release) : Bool :=
  if pa ≠ pb then decide (pb < pa) else if ta ≠ tb then decide (ta < tb) else if a.cyclic != b.cyclic then a.cyclic else decide (a.task < b.task)

/-- The ready release an engine runs next (R280). -/
def State.leNext (s : State) (n : Nat) : Option (Release × Bytes) :=
  let e := s.eng n
  e.ready.foldl (fun best r =>
    match lpTask? e.prog.fg r.task with
    | none => best
    | some d =>
      let u := relAt d (e.figs.getD r.task {}) r
      if s.lmt < u then best
      else match best with
        | none => some (r, d)
        | some (q, dq) => if relBefore (s.lePrio d) (s.lePrio dq) u (relAt dq (e.figs.getD q.task {}) q) r q then some (r, d) else best) none

/-- A run starts: registers clear, its values latched (R281, R282). -/
def State.leStart (s : State) (n : Nat) : State :=
  match s.leNext n with
  | none => s
  | some (r, d) =>
    let e := s.eng n
    let f := e.figs.getD r.task {}
    let run : Run := {
      task := r.task, cyclic := r.cyclic, group := leGroup d, tRun := if r.cyclic then r.at' else s.lmt
      vals := if r.cyclic then r.snap else s.img.front
      pc := leBlock e.prog.fg (le d 8 2), firstRun := !f.ran, firstAfter := !f.ranAfter, code := e.prog.fg }
    let s1 := s.setEng n { e with
      run := some run, ready := e.ready.erase r
      figs := e.figs.set r.task { f with ran := true, ranAfter := true, lastRel := if r.cyclic then f.lastRel else some (relAt d f r) } }
    (if r.cyclic then s1 else s1.hopAsk (.engineStart (leHop d) n)).enginePoints n

/-- LOGIC_RUN_START: a free engine in RUN starts its next run; one in HOLD only for a LOGIC_STEP (R280, R297). -/
def logicRunStart (n : Nat) (s : State) : State :=
  let e := s.eng n
  if e.run.isSome || e.mode == .stop || (e.mode == .hold && e.stepLeft == 0) || s.isDis (uEngine n) || s.sys.st != .running then s else s.leStart n

/-- The open run is discarded: no hand-in (R282, R297). -/
def State.leDiscard (s : State) (n : Nat) : State :=
  let e := s.eng n
  match e.run with
  | none => s
  | some r =>
    let s1 := s.setEng n { e with run := none, held := false, figs := if r.cyclic then e.figs.upd r.task {} (fun f => { f with late := false }) else e.figs }
    match lpTask? r.code r.task with
    | some d => if leEvent d then s1.hopAsk (.runEnd (leHop d)) else s1
    | none => s1

/-- LOGIC_STEP completes with the address reached (R298). -/
def State.stepDone (s : State) (n addr : Nat) : State :=
  let s1 := s.setEng n { s.eng n with stepLeft := 0 }
  s1.finishAll (s1.flightsOn 0x0B04 (uEngine n)) ST_OK { commit := some s1.lmt, result := addr }

/-- A mode change (R297). A LOGIC_STEP that it cuts short completes with the address reached (log 235). -/
def State.leMode (s0 : State) (n : Nat) (m : LogicMode) (reason : Nat) : State :=
  let s := if (s0.eng n).mode != m && (s0.eng n).stepLeft != 0 then s0.stepDone n (((s0.eng n).run.map (·.pc)).getD 0) else s0
  let e := s.eng n
  if e.mode == m then s
  else
    let s1 := if e.mode == .hold && m == .stop then s.leDiscard n else s
    let e1 := s1.eng n
    let e2 := { e1 with
      mode := m, held := false, resume := e.held, stepLeft := 0, reason := if m == .stop then reason else e1.reason
      ready := if m == .stop then e1.ready.filter (fun r => !r.cyclic) else e1.ready
      figs := if e.mode == .stop && m == .run then e1.figs.mapV (fun k f =>
          { f with ran := false, late := f.late && (e1.run.any (fun r => r.task == k)), skip := false, overruns := 0 })
        else if m == .stop then e1.figs.mapV (fun k f => { f with late := f.late && (e1.run.any (fun r => r.task == k)) }) else e1.figs }
    ((s1.setEng n e2).raise EV_LOGIC_MODE (uEngine n) [leModeNum e.mode, leModeNum m]).enginePoints n

/-- The hand-in of a run that has executed END (R281, R282, R31). -/
def State.leHandIn (s : State) (n : Nat) (r : Run) : State :=
  let e := s.eng n
  let f := e.figs.getD r.task {}
  let cyc := r.cycles + 40 + 20 * r.writes.length
  let f1 : TaskFig := { f with
    worst := max f.worst cyc, ovN := f.ovN + r.ovN, errN := f.errN + r.errN, late := if r.cyclic then false else f.late }
  let hi : HandIn := { group := r.group, at' := s.lmt, task := n * 256 + r.task, writes := r.writes }
  let s1 := s.setEng n { e with run := none, held := false, figs := e.figs.set r.task f1 }
  let s2 := ({ s1 with logic := { s1.logic with handIns := s1.logic.handIns ++ [hi] } } : State).cmdWritten (r.writes.map Prod.fst)
  let s3 := r.flags.foldl (fun s x => s.hopAsk (.flags x.1 (BitVec.ofNat 32 (2 ^ x.2)))) s2
  let s4 := r.evts.foldl (fun s x => s.raise EV_LOGIC_USER (uTask n r.task) [x.1, x.2]) s3
  let s5 := match lpTask? r.code r.task with
    | some d => if leEvent d then s4.hopAsk (.runEnd (leHop d)) else s4
    | none => s4
  s5.enginePoints n

/-! Instructions. -/

/-- A breakpoint's test before an instruction: the counters after it and whether one hits (R298). -/
def leBreaks (bs : SMap Breakpoint) (r : Run) : SMap Breakpoint × Bool :=
  let met (b : Breakpoint) : Bool := b.addr == r.pc && (b.task == 0 || b.task == r.task) && (b.cond == 0 || (b.cond == 1 && r.ba) || (b.cond == 2 && !r.ba))
  (bs.mapV (fun _ b => if met b then { b with hits := if b.hits + 1 = b.count then 0 else b.hits + 1 } else b),
    bs.any (fun e => met e.2 && e.2.hits + 1 == e.2.count))

/-- One instruction word executes on the open run of an engine: the row's word must be the one at the run's next address. The run's
address has moved on before `f` (R285 to R291, R298). -/
def State.leStep (s : State) (n op opnd : Nat) (f : Nat → Engine → Run → Engine × Run) : State :=
  let e := s.eng n
  match e.run with
  | none => s
  | some r =>
    if 16777216 ≤ opnd ∨ leWord r.code r.pc ≠ op * 16777216 + opnd ∨ (e.mode = .hold ∧ e.stepLeft = 0) then s
    else
      let b := leBreaks e.breaks r
      if b.2 && !e.resume then
        let s1 := (s.setEng n { e with breaks := b.1 }).leMode n .hold 0
        let s2 := (s1.setEng n { s1.eng n with held := true, resume := false }).raise EV_LOGIC_BREAK (uTask n r.task) [r.task, r.pc]
        (s2.stepDone n r.pc).enginePoints n
      else
        let w := match lePoint s.sys.modNo n r.code opnd with
          | some (a, _) => (r.writes.get? a).isSome
          | none => false
        let e1 : Engine := { e with breaks := if e.resume then e.breaks else b.1, resume := false }
        let r1 : Run := { r with pc := r.pc + 1, cycles := r.cycles + leCost op opnd w }
        let x := f s.sys.modNo e1 r1
        let s1 := s.setEng n { x.1 with run := some x.2 }
        let s2 := if x.2.ended then s1.leHandIn n x.2 else s1
        if e.stepLeft = 0 then s2
        else
          let s3 := s2.setEng n { s2.eng n with stepLeft := e.stepLeft - 1 }
          if e.stepLeft = 1 ∨ x.2.ended then s3.stepDone n x.2.pc else s3

/-- An instruction that changes only BA from a bit operand. -/
def State.leBitOp (s : State) (n op opnd : Nat) (g : Bool → Bool → Bool) : State :=
  s.leStep n op opnd (fun m e r => (e, { r with ba := g r.ba (leBit m n e r opnd) }))

/-- An instruction that changes only the run from a word operand. -/
def State.leWordOp (s : State) (n op opnd : Nat) (g : Run → W32 → Run) : State :=
  s.leStep n op opnd (fun m e r => (e, g r (leLoad m n e r opnd)))

/-- An instruction without an operand that changes only the run. -/
def State.leRunOp (s : State) (n op opnd : Nat) (g : Run → Run) : State := s.leStep n op opnd (fun _ e r => (e, g r))

/-- A bit store of what `g` gives of the run, none for no store. -/
def State.leBitStore (s : State) (n op opnd : Nat) (g : Run → Option Bool) : State :=
  s.leStep n op opnd (fun m e r => (e, match g r with
    | some v => leStoreBit m n r opnd v
    | none => r))

/-- An instruction on the timer it names; `q` whether BA becomes its Q (R287). -/
def State.leTimer (s : State) (n op opnd : Nat) (q : Bool) (g : Timer → Run → Timer) : State :=
  s.leStep n op opnd (fun _ e r =>
    let x := g ((e.timers.getD (oIndex opnd) {}).ready r.tRun) r
    ({ e with timers := e.timers.set (oIndex opnd) x }, if q then { r with ba := x.q } else r))

/-- An instruction on the counter it names (R287). -/
def State.leCounter (s : State) (n op opnd : Nat) (q : Bool) (g : Counter → Run → Counter) : State :=
  s.leStep n op opnd (fun _ e r =>
    let x := g (e.counters.getD (oIndex opnd) {}) r
    ({ e with counters := e.counters.set (oIndex opnd) x }, if q then { r with ba := x.q } else r))

/-- An edge instruction on the edge memory it names: BA becomes `g BA m` (R285). -/
def State.leEdge (s : State) (n op opnd : Nat) (g : Bool → Bool → Bool) : State :=
  s.leStep n op opnd (fun _ e r =>
    let m := e.edges.getD (oIndex opnd) false
    ({ e with edges := e.edges.put false (oIndex opnd) r.ba }, { r with ba := g r.ba m }))

/-- Pushes BA with a pending operation (R285). -/
def Run.push (r : Run) (f : BrOp) : Run := { r with stack := (r.ba, f) :: r.stack }

/-- Pops (s, f): BA = s f BA. -/
def Run.pop (r : Run) : Run := match r.stack with
  | (b, .and) :: t => { r with ba := b && r.ba, stack := t }
  | (b, .or) :: t => { r with ba := b || r.ba, stack := t }
  | (b, .xor) :: t => { r with ba := Bool.xor b r.ba, stack := t }
  | [] => r

/-- Jumps `o` instructions forward from the jump (R289). -/
def Run.jump (r : Run) (o : Nat) : Run := { r with pc := r.pc - 1 + o }

/-- CTU, CTD: one step on a rising BA, saturated (R287). -/
def Counter.count (x : Counter) (ba : Bool) (d : Int) : Counter :=
  { x with cv := if ba && !x.edge then w32 (sat32 (x.cv.toInt + d)) else x.cv, edge := ba }

/-! Modes and disable (R297 to R299). -/

/-- DISABLE of an engine, at once (R299). -/
def State.engineOff (s : State) (n : Nat) (f : Flight) : State :=
  let s1 := s.leDiscard n
  let e := s1.eng n
  let s2 := s1.setEng n { e with ready := [], prog := { e.prog with sealed := false, deferred := false }, stepLeft := 0 }
  let s3 := s2.leMode n .stop 2
  ((s3.setEng n { s3.eng n with reason := 2 }).disableUnit f).enginePoints n

/-- DISABLE of a task (R299). -/
def State.taskOff (s : State) (n k : Nat) (f : Flight) : State :=
  let e := s.eng n
  let s1 := if e.run.any (fun r => r.task == k) then s.leDiscard n else s
  let e1 := s1.eng n
  (s1.setEng n { e1 with ready := e1.ready.filter (fun r => r.task != k), figs := e1.figs.upd k {} (fun g => { g with late := false }) }).disableUnit f

/-- Overruns of the cyclic tasks of a group at its commit: EV_CYCLE_OVERRUN, and the engine's stop after four in a row (R31, R293). Answers
how many there were. -/
def State.leOverruns (s : State) (k : Nat) : State × Nat :=
  (List.range 8).foldl (fun (a : State × Nat) n =>
    ((leTasks (a.1.eng n).prog.fg).filter (fun d => !leEvent d && leGroup d == k)).foldl (fun (a : State × Nat) d =>
      let s := a.1
      let e := s.eng n
      let t := byteAt d 0
      let f := e.figs.getD t {}
      if !f.late || e.mode != .run then
        (if f.overruns = 0 then s else s.setEng n { e with figs := e.figs.set t { f with overruns := 0 } }, a.2)
      else
        let s1 := (s.setEng n { e with figs := e.figs.set t { f with overruns := f.overruns + 1, skip := true } }).raise EV_CYCLE_OVERRUN (uTask n t) [n, t]
        (if 4 ≤ f.overruns + 1 then (s1.leMode n .stop 1).raise EV_LOGIC_STOPPED (uEngine n) [1] else s1, a.2 + 1)) a) (s, 0)

/-! Online change (R304, R305). -/

/-- Timers of an engine under a new image: kept where type and BASE are the same (R305). -/
def swapTimers (img : Bytes) (old : SMap Timer) : SMap Timer :=
  ((List.range (le img 20 2)).map (leTimerDecl img)).foldl (fun m d =>
    let i := le d 0 2
    let fresh : Timer := { pt := BitVec.ofNat 32 (le d 4 4), base := byteAt d 3, typ := byteAt d 2 }
    match old.get? i with
    | some x => SMap.set m i (if x.typ = byteAt d 2 ∧ x.base = byteAt d 3 then x else fresh)
    | none => SMap.set m i fresh) []

/-- Counters of an engine under a new image (R305). -/
def swapCounters (img : Bytes) (old : SMap Counter) : SMap Counter :=
  ((List.range (le img 22 2)).map (leCounterDecl img)).foldl (fun m d =>
    let i := le d 0 2
    SMap.set m i ((old.get? i).getD { pv := BitVec.ofNat 32 (le d 4 4) })) []

/-- The variable points an image declares for engine `n` (R294); the slots of the map are the module's. -/
def varPoints (m n : Nat) (img : Bytes) : List PointDef :=
  ((List.range (le img 24 4)).map (leVarDecl img)).map (fun d =>
    { rslot := 0, addr := m * 0x10000000 + (8 + n) * 0x4000 + le d 0 2, typ := byteAt d 2, cyclic := true, group := byteAt d 3, islot := 0
      writer := 1, wunit := uTask n (byteAt d 4), init := BitVec.ofNat 64 (le d 8 8) })

/-- The address is a variable of engine `n`. -/
def isVar (m n a : Nat) : Bool := decide (m * 0x10000000 + (8 + n) * 0x4000 ≤ a ∧ a < m * 0x10000000 + (8 + n) * 0x4000 + 16256)

/-- A new point takes its initial value (R14, R305). -/
def State.initPoint (s : State) (p : PointDef) : State :=
  let f1 := SMap.put 0 s.img.front p.addr (slotHalf p p.addr p.init)
  let f2 := if typeSlots p.typ = 2 then SMap.put 0 f1 (p.addr + 1) (slotHalf p (p.addr + 1) p.init) else f1
  { s with img := { s.img with front := f2, back := SMap.erase s.img.back p.addr } }

/-- A force on a point that is gone or has changed its type is dropped (R305). -/
def State.dropForces (s : State) (old : SMap PointDef) : State :=
  let bad := s.img.forces.filter (fun e => match s.cfg.points.get? e.1, old.get? e.1 with
    | some p, some q => p.typ != q.typ || !p.cyclic
    | some _, none => false
    | none, _ => true)
  bad.foldl (fun s e => ({ s with img := { s.img with forces := s.img.forces.erase e.1 } }).raise EV_FORCE_DROPPED 0 [] e.1) s

/-- A new variable takes slots above those in use (DESIGN CHOICE, log 73). -/
def newSlots (c : Cfg) (p : PointDef) : PointDef :=
  let k := 2 * (p.addr % 16384)
  { p with rslot := c.points.foldl (fun x e => max x (e.2.rslot + 2)) 0 + k, islot := c.points.foldl (fun x e => max x (e.2.islot + 2)) 0 + k }

/-- A program takes the place of an engine's in the configuration: its image and its variable points (R304). -/
def Cfg.withLogic (c : Cfg) (m n : Nat) (img : Bytes) : Cfg :=
  let kept := c.points.filter (fun e => !isVar m n e.1)
  let pts := (varPoints m n img).foldl (fun (a : SMap PointDef) p => SMap.set a p.addr (match c.points.get? p.addr with
    | some q => if typeSlots q.typ = typeSlots p.typ then { p with rslot := q.rslot, islot := q.islot } else newSlots c p
    | none => newSlots c p)) kept
  { c with logic := c.logic.set n img, points := pts }

/-- The variables of a new image take the place of the old ones; the program is now the configuration's (R304, R305, R440). -/
def State.swapVars (s : State) (n : Nat) (img : Bytes) : State :=
  let old := s.cfg.points
  let c := s.cfg.withLogic s.sys.modNo n img
  let new := varPoints s.sys.modNo n img
  let s1 := { s with cfg := { c with pkgId := nextPkg c.pkgId } }
  let s2 := (new.filter (fun p => !(old.get? p.addr).any (fun q => q.typ == p.typ))).foldl State.initPoint s1
  s2.dropForces old

/-- An engine takes a new foreground program: state carries over (R305). -/
def Engine.adopt (e : Engine) (img : Bytes) : Engine :=
  { e with
    timers := swapTimers img e.timers, counters := swapCounters img e.counters, breaks := []
    ready := e.ready.filter (fun r => (lpTask? img r.task).any (fun d => leEvent d == !r.cyclic))
    figs := e.figs.mapV (fun _ f => { f with ranAfter := false }) }

/-- The bank boundary of an engine: the commit of a group that holds one of its tasks (R304). -/
def State.leBoundary (s : State) (n k : Nat) : State :=
  let e := s.eng n
  if !e.prog.sealed || !((leTasks e.prog.fg ++ leTasks e.prog.bg).any (fun d => leGroup d == k)) then s
  else if e.prog.finished then
    let img := e.prog.bg
    let e1 := ({ e with prog := e.prog.swap, changes := e.changes + 1 }).adopt img
    let s1 := ((s.setEng n e1).swapVars n img).raise EV_LOGIC_SWAPPED (uEngine n) [le img 4 4]
    (s1.finishOut (s1.flightsOn 0x0B02 (uEngine n))).enginePoints n
  else
    (s.setEng n { e with prog := { e.prog with deferred := true } }).raiseIf (!e.prog.deferred) EV_BANK_DEFERRED (uEngine n)
      [4, n, mkBit e.prog.undurable 0 + mkBit e.prog.catchup 1]

/-! Commands. -/

/-- Gate of a command on an engine. -/
def leGate (h : CmdHdr) (s : State) (bad : List (Option Nat)) (refused : Bool) : Gate :=
  { invalid := firstBad ([needKind h 7, if h.inst % 256 = 0 then none else some 8] ++ bad), unit := h.tgt, disabled := s.isDis h.tgt, refused := refused }

/-- An image LOGIC_LOAD accepts for an engine (R294). -/
def leImageOk (n : Nat) (img : Bytes) : Bool :=
  let size := lpCode img + 4 * le img 8 4
  le img 0 2 == 1 && byteAt img 2 == n && byteAt img 3 == 0 && decide (1 ≤ le img 8 4 ∧ le img 8 4 ≤ 262144) && decide (le img 12 4 ≤ 65536)
    && decide (1 ≤ le img 16 2 ∧ le img 16 2 ≤ 1024) && decide (1 ≤ le img 18 2 ∧ le img 18 2 ≤ 255) && decide (le img 20 2 ≤ 4096)
    && decide (le img 22 2 ≤ 4096) && decide (le img 24 4 ≤ 16256) && (slice img 32 32).all (fun x => x == 0) && decide (size ≤ img.length)
    && le img 28 4 == crc32c (img.drop 64)

/-- What LogicLoad checks before its rule runs (R427, R429). -/
def gateLogicLoad (h : CmdHdr) (s : State) : Gate :=
  let n := h.inst / 256
  leGate h s [needBuf h 64, zeroTail h 12, if leImageOk n h.data then none else some 16] (s.eng n).prog.sealed

/-- Effect of LogicLoad. -/
def goLogicLoad (f : Flight) (s : State) : State :=
  let h := f.h
  let n := h.inst / 256
  let e := s.eng n; s.setEng n { e with prog := e.prog.write h.data }

/-- LOGIC_LOAD writes the background bank; ST_OK when durable (R304). -/
def runLogicLoad (h : CmdHdr) (s : State) : State := start 0x0B01 (gateLogicLoad h s) goLogicLoad h s

/-- What LogicMode checks before its rule runs (R427, R429). -/
def gateLogicMode (h : CmdHdr) (s : State) : Gate :=
  let n := h.inst / 256
  leGate h s [noBuf h, needP 0 (decide (h.p 0 1 ≤ 2)), zeroTail h 1] (h.p 0 1 == 2 && !leDebug (s.leRec n))

/-- Effect of LogicMode. -/
def goLogicMode (f : Flight) (s : State) : State :=
  let h := f.h
  let n := h.inst / 256
  let m : LogicMode := if h.p 0 1 = 0 then .stop else if h.p 0 1 = 1 then .run else .hold
  (s.leMode n m 0).ok f

/-- LOGIC_MODE at the next instruction boundary, which is now (R297). -/
def runLogicMode (h : CmdHdr) (s : State) : State := start 0x0B03 (gateLogicMode h s) goLogicMode h s

/-- What LogicStep checks before its rule runs (R427, R429). -/
def gateLogicStep (h : CmdHdr) (s : State) : Gate :=
  let n := h.inst / 256
  leGate h s [noBuf h, needP 0 (decide (1 ≤ h.p 0 2)), zeroTail h 2] (!leDebug (s.leRec n) || (s.eng n).mode != .hold || (s.eng n).stepLeft != 0)

/-- Effect of LogicStep. -/
def goLogicStep (f : Flight) (s : State) : State :=
  let h := f.h
  let n := h.inst / 256
  let e := s.eng n
  let s1 := s.setEng n { e with stepLeft := h.p 0 2, resume := e.held, held := false }
  if e.run.isSome then s1.enginePoints n else s1.leStart n

/-- LOGIC_STEP: instructions of the open run, or of the next pending release (R297, R298). -/
def runLogicStep (h : CmdHdr) (s : State) : State := start 0x0B04 (gateLogicStep h s) goLogicStep h s

/-- What LogicBreak checks before its rule runs (R427, R429). -/
def gateLogicBreak (h : CmdHdr) (s : State) : Gate :=
  let n := h.inst / 256
  leGate h s [noBuf h, needP 0 (decide (h.p 0 1 < 16)), needP 1 (decide (h.p 1 1 ≤ 1)), needP 2 (decide (h.p 1 1 = 0 ∨ h.p 2 2 ≤ 255)),
      needP 4 (decide (h.p 1 1 = 0 ∨ h.p 4 1 ≤ 2)), zeroGap h 5 6, needP 6 (decide (h.p 1 1 = 0 ∨ 1 ≤ h.p 6 2)), needP 8 (decide (h.p 1 1 = 0 ∨ h.p 8 4 < 262144)), zeroTail h 12]
      (!leDebug (s.leRec n))

/-- Effect of LogicBreak. -/
def goLogicBreak (f : Flight) (s : State) : State :=
  let h := f.h
  let n := h.inst / 256
  let e := s.eng n
  let bs := if h.p 1 1 = 0 then e.breaks.erase (h.p 0 1)
    else e.breaks.set (h.p 0 1) { addr := h.p 8 4, task := h.p 2 2, cond := h.p 4 1, count := h.p 6 2 }
  (s.setEng n { e with breaks := bs }).ok f

/-- LOGIC_BREAK: a breakpoint set or cleared at fetch (R297, R298). -/
def runLogicBreak (h : CmdHdr) (s : State) : State := start 0x0B05 (gateLogicBreak h s) goLogicBreak h s

/-- A point that can be forced, and a value of its type (R300). -/
def State.forceable (s : State) (a : Nat) : Bool :=
  match s.cfg.points.get? a with
  | none => false
  | some p =>
    let seg := bits a 27 24
    let node := bits a 23 14
    let idx := a % 16384
    p.cyclic && s.addrOk a && decide (seg ≤ 8)
      && !(seg == 0 && (node == 0 || node == 3 || node == 18 || (node == 4 && !(decide (12800 ≤ idx ∧ idx < 12864) && idx % 4 == 1))))

/-- What LogicForce checks before its rule runs (R427, R429). -/
def gateLogicForce (h : CmdHdr) (s : State) : Gate :=
  let a := h.p 0 4
  let typ := match s.cfg.points.get? a with
    | some p => p.typ
    | none => 0
  sysGate h [noBuf h, needP 0 (s.forceable a), zeroGap h 4 8, needP 8 (!s.forceable a || valueOk typ (h.p 8 8)), zeroTail h 16]
      ((s.img.forces.get? a).isNone && decide (4096 ≤ (s.img.forces.map Prod.fst ++ ((s.flightsOf (fun f => f.op == 0x0B06)).map Flight.forceAddr).filter (· != a)).eraseDups.length))

/-- LogicForce waits among the commands in flight; its rule acts at the instant it names. -/
def goLogicForce (_ : Flight) (s : State) : State :=
  s

/-- LOGIC_FORCE: at the next commit of the point's group (R300, R301). -/
def runLogicForce (h : CmdHdr) (s : State) : State := start 0x0B06 (gateLogicForce h s) goLogicForce h s

/-- What LogicUnforce checks before its rule runs (R427, R429). -/
def gateLogicUnforce (h : CmdHdr) (s : State) : Gate :=
  let a := h.p 0 4
  sysGate h [noBuf h, needP 0 (s.pointTarget a), zeroTail h 4]
      ((s.img.forces.get? a).isNone && !s.flights.any (fun f => f.op == 0x0B06 && f.forceAddr == a))

/-- LogicUnforce waits among the commands in flight; its rule acts at the instant it names. -/
def goLogicUnforce (_ : Flight) (s : State) : State :=
  s

/-- LOGIC_UNFORCE (R301). -/
def runLogicUnforce (h : CmdHdr) (s : State) : State := start 0x0B07 (gateLogicUnforce h s) goLogicUnforce h s

/-- What LogicForceClear checks before its rule runs (R427, R429). -/
def gateLogicForceClear (h : CmdHdr) (_ : State) : Gate :=
  sysGate h [noBuf h, zeroTail h 0] false

/-- Effect of LogicForceClear. -/
def goLogicForceClear (f : Flight) (s : State) : State :=
  let as := s.img.forces.map Prod.fst ++ (s.flightsOf (fun g => g.op == 0x0B06)).map Flight.forceAddr
  let gs := (as.filterMap s.slotGroup).foldl (fun l k => insNat k l) []
  if gs.isEmpty then s.ok f else s.setFlight { f with mark := gs.foldl (fun m k => m + 2 ^ k) 0 }

/-- LOGIC_FORCE_CLEAR: ST_OK once every force is removed (R301). -/
def runLogicForceClear (h : CmdHdr) (s : State) : State := start 0x0B08 (gateLogicForceClear h s) goLogicForceClear h s

/-- What LogicForceList checks before its rule runs (R427, R429). -/
def gateLogicForceList (h : CmdHdr) (s : State) : Gate :=
  { sysGate h [needBuf h (24 * s.img.forces.length), zeroTail h 12] false with exempt := true }

/-- Effect of LogicForceList. -/
def goLogicForceList (f : Flight) (s : State) : State :=
  s.okOut f (s.img.forces.flatMap (fun e =>
      nums (toLe e.1 4 ++ toLe ((s.cfg.points.get? e.1).map (·.typ) |>.getD 0) 1 ++ toLe 0 3 ++ toLe e.2.value.toNat 8 ++ toLe e.2.shadow.toNat 8)))
      s.img.forces.length

/-- LOGIC_FORCE_LIST: 24 bytes a force (R301, R429). -/
def runLogicForceList (h : CmdHdr) (s : State) : State := start 0x0B09 (gateLogicForceList h s) goLogicForceList h s

/-- What LogicReadState checks before its rule runs (R427, R429). -/
def gateLogicReadState (h : CmdHdr) (s : State) : Gate :=
  let n := h.inst / 256
  { leGate { h with target := BitVec.ofNat 32 (uEngine n) } s [needKind h 7, needBuf h 256, zeroTail h 12] false with exempt := true, unit := h.tgt }

/-- Effect of LogicReadState. -/
def goLogicReadState (f : Flight) (s : State) : State :=
  let h := f.h
  let n := h.inst / 256
  let e := s.eng n
  let g := e.figs.getD (h.inst % 256) {}
  if h.inst % 256 = 0 then
    s.okOut f ([leModeNum e.mode, e.reason, le e.prog.fg 4 4, e.prog.sel, mkBit e.prog.sealed 0, e.changes.toNat, e.load]
      ++ e.figs.flatMap (fun x => [x.1, x.2.worst, x.2.skipped, x.2.merged, x.2.ovN, x.2.errN]))
  else s.okOut f [g.worst, g.skipped, g.merged, g.ovN, g.errN]

/-- LOGIC_READ_STATE: the engine's figures, or those of a task (R307). -/
def runLogicReadState (h : CmdHdr) (s : State) : State := start 0x0B0A (gateLogicReadState h s) goLogicReadState h s

end Sys2Proof.Machine
end

