-- ==== Sys2Proof/Machine/Net.lean ====
section
/-! DEFINITION. Oczon: cyclic exchange, discovery and binding, node states, paged transfer, port links, LLDP (R101 to R122, R504). -/

namespace Sys2Proof.Machine

/-- Ethernet segment record (R103). -/
def State.segRec (s : State) (seg : Nat) : Bytes := s.rcd 0x08 seg
def segMode (b : Bytes) : Nat := byteAt b 1

/-- A segment in service: configured, not off, not disabled, this module driving, the runtime not restarting for node management (R103, R432). -/
def State.segOn (s : State) (seg : Nat) : Bool :=
  (s.rec? 0x08 seg).isSome && segMode (s.segRec seg) != 0 && !s.isDis (uSeg seg) && s.drives

/-- Node records of a segment, in ascending node number. -/
def insNodeRec (b : Bytes) : List Bytes → List Bytes
  | [] => [b]
  | x :: xs => if le b 2 2 < le x 2 2 then b :: x :: xs else x :: insNodeRec b xs

def State.segNodes (s : State) (seg : Nat) : List Bytes :=
  ((s.recsOf 0x0A).filter (fun b => byteAt b 0 == seg)).foldl (fun l b => insNodeRec b l) []

/-- Node number, home group and key of a node record (R105). -/
def nodeNum (b : Bytes) : Nat := le b 2 2
def nodeHome (b : Bytes) : Nat := byteAt b 1
def nodeRecKey (b : Bytes) : Nat := nodeKey (byteAt b 0) (nodeNum b)
def nodeHead (b : Bytes) : Bool := byteAt b 7 == 1

/-- Exchange blocks of a record as (GROUP, KIND, FIRST, SLOTS), ascending FIRST; a head node's implied blocks (R105, R110). -/
def insBlock (x : Nat × Nat × Nat × Nat) : List (Nat × Nat × Nat × Nat) → List (Nat × Nat × Nat × Nat)
  | [] => [x]
  | y :: ys => if x.2.2.1 < y.2.2.1 then x :: y :: ys else y :: insBlock x ys

def nodeBlocks (b : Bytes) : List (Nat × Nat × Nat × Nat) :=
  if nodeHead b then [(0, 3, 12288, 4096)]
  else ((List.range 8).map (fun i => (byteAt b (48 + 8 * i), byteAt b (49 + 8 * i), le b (50 + 8 * i) 2, le b (52 + 8 * i) 2))).foldl
    (fun l x => if x.2.1 = 0 then l else insBlock x l) []

/-- Slot indices of a node's blocks of a kind (1 cyclic input, 2 cyclic output, 3 paged input, 4 paged output) and group (R110). -/
def blockSlots (b : Bytes) (kind grp : Nat) : List Nat :=
  (nodeBlocks b).flatMap (fun x => if x.2.1 = kind ∧ x.1 = grp then (List.range x.2.2.2).map (x.2.2.1 + ·) else [])

/-- Address of a slot of a node. -/
def nodeSlot (s : State) (b : Bytes) (i : Nat) : Nat := ptAddr s (byteAt b 0) (nodeNum b) i

/-- A node serves a group: a block in it, or its home group (R108). -/
def nodeServes (b : Bytes) (grp : Nat) : Bool :=
  nodeHome b == grp || (nodeBlocks b).any (fun x => x.1 == grp && (x.2.1 == 1 || x.2.1 == 2))

/-- An event about a node: severity 3 for an optional one (R130). -/
def State.raiseNode (s : State) (code : Nat) (b : Bytes) : State :=
  s.raiseReq [{ code := code, sev := if (byteAt b 5).testBit 1 then 3 else evSev code, unit := uSeg (byteAt b 0),
                point := nodeSlot s b 0, params := [nodeNum b] }]

/-- Sets or clears a condition on the points of a node's slots. -/
def State.nodeCond (s : State) (b : Bytes) (slots : List Nat) (i : Nat) (on : Bool) : State :=
  slots.foldl (fun s x => match s.pointOf (nodeSlot s b x) with
    | some p => if p.addr = nodeSlot s b x then s.setCond p.addr i on else s
    | none => s) s

/-- All slots of a node of a kind, any group. -/
def kindSlots (b : Bytes) (kind : Nat) : List Nat :=
  (nodeBlocks b).flatMap (fun x => if x.2.1 = kind then (List.range x.2.2.2).map (x.2.2.1 + ·) else [])

/-- Quality of a node's paged points. -/
def State.nodePq (s : State) (b : Bytes) (slots : List Nat) (q : Nat) : State :=
  let ps := slots.filterMap (fun x => s.pointOf (nodeSlot s b x))
  let m := ps.foldl (fun m p => SMap.put 4 m p.addr q) s.img.pqual
  { s with img := { s.img with pqual := m } }

/-- Points of a node that is not exchanging are ABSENT (R101, R102, R117). -/
def State.nodeAbsent (s : State) (b : Bytes) : State :=
  let s1 := s.nodeCond b (kindSlots b 1 ++ kindSlots b 2) cAbsent true
  s1.nodePq b (kindSlots b 3 ++ kindSlots b 4) qAbsent

/-! Binding (R113 to R118). -/

/-- PTP domainNumber of the domain that a node's groups use (R105, R115). -/
def State.nodeDomain (s : State) (b : Bytes) : Nat := byteAt (s.rcd 0x03 (gDomain (s.grpRec (byteAt b 0) (nodeHome b)))) 2

/-- BIND frame of a record (R115). -/
def bindFrame (s : State) (b : Bytes) (bindId : Nat) : Bytes :=
  oczHead s 0x09 80 0 0 0 ++ toBe (nodeNum b) 2 ++ toBe bindId 2 ++ toBe (nodeHome b) 1 ++ toBe (byteAt b 6) 1 ++ toBe (s.nodeDomain b) 1 ++ toBe 0 1
    ++ toBe (le b 40 4) 4 ++ (List.range 8).flatMap (fun g =>
      let used := nodeServes b g
      if used then toBe (4 * (blockSlots b 2 g).length) 2 ++ toBe (4 * (blockSlots b 1 g).length) 2 ++ toBe (byteAt (s.grpRec (byteAt b 0) g) 2) 1 ++ toBe 1 1 ++ toBe 0 2
      else toBe 0 8)

def State.sendBind (s : State) (b : Bytes) : State :=
  let n := s.node (nodeRecKey b)
  s.sendTo (byteAt b 0) 4 n.mac (bindFrame s b n.bindId)

/-- RELEASE to a MAC address (R115, R116). -/
def State.sendRelease (s : State) (seg node bindId mac : Nat) : State :=
  s.sendTo seg 4 mac (oczHead s 0x0B 8 0 0 0 ++ toBe node 2 ++ toBe bindId 2)

/-- CAPS, MAX_OUT, MAX_IN and MIN_K of a HELLO, at their offsets in the payload (R113), serve a record (R116 item 5): of CAPS a head-node record needs
bit 0 and no record any other (DESIGN CHOICE, log 218). -/
def helloServes (s : State) (b p : Bytes) : Bool :=
  let caps := be p 43 1
  (!nodeHead b || bit caps 0) &&
  (List.range 8).all (fun g => !nodeServes b g ||
    (decide (4 * (blockSlots b 2 g).length ≤ be p 44 2) && decide (4 * (blockSlots b 1 g).length ≤ be p 46 2)
      && decide (be p 48 1 ≤ byteAt (s.grpRec (byteAt b 0) g) 2)))

/-- A record matches a HELLO by identity, or by position (R116 items 1 and 2). -/
def helloMatch (b p : Bytes) (byPos : Bool) : Bool :=
  let ids := be p 8 4 == le b 8 4 && be p 12 4 == le b 12 4
  let serial := slice p 16 16 == slice b 16 16
  if byPos then byteAt b 4 == 1 && ids && be p 36 6 == be b 32 6 && be p 42 1 == byteAt b 38 && (serial || (byteAt b 5).testBit 0)
  else byteAt b 4 == 0 && ids && serial

/-- Starts a binding (R115, R118). -/
def State.startBind (s : State) (b p : Bytes) (src : Nat) : State :=
  let k := nodeRecKey b
  let n := s.node k
  let id := if n.bindId = 65535 then 1 else n.bindId + 1
  let n1 := { n with
    st := .binding, bindId := id, mac := src, binds := 1, bindAt := s.lmt, hello := slice p 8 56, rejoin := n.st == .dropped
    replaced := byteAt b 4 == 1 && !n.serial.isEmpty && n.serial != slice p 16 16, inbox := [], reqs := [], bankOk := false }
  (((s.setNode k n1).nodeAbsent b).bankLeave k).sendBind b

/-- HELLO_RECEIVE (R116, R118); node binding pauses while the runtime restarts (R486). A node BINDING counts as bound: another node's HELLO conflicts,
its own is not answered again (DESIGN CHOICE, log 219). -/
def helloReceive (port src : Nat) (p : Bytes) (s : State) : State :=
  if !s.segOn port || s.sys.restarting || be p 0 1 ≠ 8 then s
  else
    let rs := s.segNodes port
    match (rs.find? (fun b => helloMatch b p false)).orElse (fun _ => rs.find? (fun b => helloMatch b p true)) with
    | none =>
      let q := s.port port
      let s1 := s.setPort port { q with unknown := q.unknown + 1, unknownMacs := if q.unknownMacs.contains src then q.unknownMacs else q.unknownMacs ++ [src] }
      s1.raiseIf (!q.unknownMacs.contains src) EV_NODE_UNKNOWN (uSeg port) (par64 src)
    | some b =>
      let k := nodeRecKey b
      let n := s.node k
      let bound := n.st == .binding || n.st == .preop || n.st == .operate
      let same := n.mac == src && slice n.hello 0 24 == slice p 8 24
      if bound && !same then
        let tell := match n.conflictAt with
          | some t => decide (t + 10000000000 ≤ s.lmt)
          | none => true
        if tell then (s.setNode k { n with conflictAt := some s.lmt }).raiseNode EV_NODE_CONFLICT b else s
      else if n.st == .binding then s
      else if !helloServes s b p then s.raiseNode EV_NODE_MISMATCH b
      else s.startBind b p src

/-! Paged transfer (R101, R102, R120). -/

/-- Consecutive indices in chunks of at most 360 slots, as (first, count). -/
def pageChunks : List Nat → List (Nat × Nat)
  | [] => []
  | x :: xs => match pageChunks xs with
    | (f, c) :: r => if f = x + 1 ∧ c < 360 then (x, c + 1) :: r else (x, 1) :: (f, c) :: r
    | [] => [(x, 1)]

/-- PAGE_REQ frame (R120). -/
def pageFrame (s : State) (node : Nat) (q : PageReq) : Bytes :=
  oczHead s 0x10 (16 + (if q.write then 4 * q.count else 0)) 0 0 0 ++ toBe node 2 ++ toBe q.tag 2 ++ toBe (if q.write then 1 else 0) 1 ++ toBe 0 1
    ++ toBe q.first 2 ++ toBe q.count 2 ++ toBe 0 2 ++ q.values.flatMap (fun v => toBe v.toNat 4)

/-- The durable value of a paged output that waits for its node's confirmation (R102). -/
def Node.outValue (n : Node) (i : Nat) : W32 := ((n.pageOut.find? (fun e => e.1 == i)).map Prod.snd).getD 0

/-- Sends a new request of a node. -/
def State.pageSend (s : State) (b : Bytes) (write : Bool) (c : Nat × Nat) : State :=
  let k := nodeRecKey b
  let q : PageReq := {
    tag := s.net.tag, write := write, first := c.1, count := c.2, tries := 1, sentAt := s.lmt
    values := if write then (List.range c.2).map (fun i => (s.node k).outValue (c.1 + i)) else [] }
  let n := s.node k
  let s1 := s.setNode k { n with reqs := n.reqs ++ [q] }
  ({ s1 with net := { s1.net with tag := (s1.net.tag + 1) % 65536 } }).sendTo (byteAt b 0) 3 n.mac (pageFrame s (nodeNum b) q)

/-- Paged outputs waiting for a node are written in the order of their durability (R102). -/
def State.pageService (s : State) (b : Bytes) : State :=
  let n := s.node (nodeRecKey b)
  if !s.nodePresent (nodeRecKey b) then s
  else
    let out := (n.pageOut.map Prod.fst).filter (fun i => !n.reqs.any (fun q => q.write && decide (q.first ≤ i ∧ i < q.first + q.count)))
    (pageChunks out).foldl (fun s c => s.pageSend b true c) s

/-- Sweep period of a segment, ns (R103). -/
def sweepNs (b : Bytes) : Nat := le b 8 4 * 1000000

/-- Paged inputs of a present node without a successful read for 2 x SWEEP_PERIOD are STALE (R101). -/
def State.sweepStale (s : State) (b : Bytes) : State :=
  let n := s.node (nodeRecKey b)
  if s.nodePresent (nodeRecKey b) then
    s.nodePq b ((kindSlots b 3).filter (fun i => decide (n.readAt.getD i s.lmt + 2 * sweepNs (s.segRec (byteAt b 0)) ≤ s.lmt))) qStale
  else s

/-- The sweep has no request outstanding: it has finished, in time or not (R101). -/
def State.sweepClose (s : State) (seg : Nat) : State :=
  let q := s.port seg
  if q.sweeping && (s.segNodes seg).all (fun b => (s.node (nodeRecKey b)).reqs.isEmpty) then
    s.setPort seg { q with sweeping := false, sweepLate := q.sweepLate && q.sweepDue }
  else s

/-- A sweep: waiting writes of every node in PREOP or OPERATE first, then the reads, in ascending node and point order (R101, R102). -/
def State.sweepStart (s : State) (seg : Nat) : State :=
  let s1 := s.setPort seg { s.port seg with sweeping := true, sweepDue := false, sweepAt := s.lmt }
  let ns := s1.segNodes seg
  let s2 := ns.foldl State.pageService s1
  let s3 := ns.foldl (fun s b =>
    if s.nodePresent (nodeRecKey b) then (pageChunks (kindSlots b 3)).foldl (fun s c => s.pageSend b false c) s else s) s2
  s3.sweepClose seg

/-- A sweep that finishes after its period ended is followed at once by the next (R101). -/
def State.sweepDone (s : State) (seg : Nat) : State :=
  let s1 := s.sweepClose seg
  let q := s1.port seg
  if !q.sweeping && q.sweepDue then s1.sweepStart seg else s1

/-- PAGED_SWEEP: once per SWEEP_PERIOD (R101). -/
def pagedSweep (seg : Nat) (s : State) : State :=
  if !s.segOn seg || s.sys.restarting then s
  else
    let s1 := (s.segNodes seg).foldl State.sweepStale s
    let q := s1.port seg
    if q.sweeping then (s1.setPort seg { q with sweepLate := true, sweepDue := true }).raiseIf (!q.sweepLate) EV_SWEEP_LATE (uSeg seg)
    else s1.sweepStart seg

/-- PAGE_RSP_RECEIVE: a read is committed through the DRAM journal, a write is confirmed (R101, R102, R120). -/
def pageRspReceive (port src : Nat) (p : Bytes) (s : State) : State :=
  if be p 0 1 ≠ 0x11 then s
  else match s.nodeRec? port (be p 8 2) with
  | none => s
  | some b =>
    let k := nodeRecKey b
    let n := s.node k
    match n.reqs.find? (fun q => q.tag == be p 10 2 && n.mac == src) with
    | none => s
    | some q =>
      let n1 := { n with reqs := n.reqs.erase q }
      let idx := (List.range q.count).map (q.first + ·)
      let s1 :=
        if be p 13 1 ≠ 0 then s.setNode k n1
        else if q.write then
          let left := n1.pageOut.filter (fun e => !(idx.contains e.1 && e.2 == q.values.getD (e.1 - q.first) 0))
          let s1 := (s.setNode k { n1 with pageOut := left, pagedDone := n1.pagedDone || left.isEmpty }).nodePq b
            (idx.filter (fun i => !left.any (fun e => e.1 == i))) qGood
          s1.pageService b
        else
          let s1 := s.setNode k { n1 with readAt := idx.foldl (fun m i => SMap.set m i s.lmt) n1.readAt }
          let cells := (List.range q.count).map (fun i => (nodeSlot s b (q.first + i), BitVec.ofNat 32 (be p (20 + 4 * i) 4)))
          ({ s1 with img := { s1.img with pagedJournal := s1.img.pagedJournal ++ cells } }).nodePq b idx qGood
      s1.sweepDone port

/-- PAGE_REQ_RETRY: an unanswered request is repeated twice, 2 ms apart, then left to the next sweep (R120). -/
def pageReqRetry (seg node : Nat) (s : State) : State := match s.nodeRec? seg node with
  | none => s
  | some b =>
    let k := nodeRecKey b
    let n := s.node k
    let late := n.reqs.filter (fun q => decide (q.sentAt + 2000000 ≤ s.lmt))
    let s1 := late.foldl (fun s q =>
      let n := s.node k
      if q.tries < 3 then
        (s.setNode k { n with reqs := n.reqs.map (fun r => if r.tag == q.tag then { r with tries := r.tries + 1, sentAt := s.lmt } else r) }).sendTo
          seg 3 n.mac (pageFrame s node q)
      else s.setNode k { n with reqs := n.reqs.filter (fun r => r.tag != q.tag) }) s
    s1.sweepDone seg

/-! Node states (R117, R118). -/

/-- A node reaches PREOP: its paged outputs are to be written before OPERATE (R102, R118). -/
def State.enterPreop (s : State) (b : Bytes) : State :=
  let k := nodeRecKey b
  let n := s.node k
  let outs := kindSlots b 4
  let s1 := s.setNode k { n with
    st := .preop, latched := [], misses := 0, inbox := [], reqs := [], pageOut := outs.map (fun i => (i, s.durablePaged (nodeSlot s b i)))
    pagedDone := outs.isEmpty, bankOk := false, fgTries := none, readAt := (kindSlots b 3).map (fun i => (i, s.lmt)) }
  (s1.nodePq b outs qUndelivered).pageService b

/-- BIND_ACK_RECEIVE (R115, R118). -/
def bindAckReceive (port src : Nat) (p : Bytes) (s : State) : State :=
  if s.sys.restarting || be p 0 1 ≠ 0x0A then s
  else match s.nodeRec? port (be p 8 2) with
  | none => s
  | some b =>
    let k := nodeRecKey b
    let n := s.node k
    if n.st != .binding || n.mac != src || n.bindId != be p 10 2 then s
    else if be p 12 1 = 0 then
      -- the head-node record goes to the node with the binding (R89; log 216)
      (s.setNode k { n with serial := slice n.hello 8 16, headRec := (s.headRec? port (nodeNum b)).getD [] }).enterPreop b
    else (s.setNode k { n with st := .absent }).raiseNode EV_NODE_MISMATCH b

/-- BIND_RETRY: every 10 ms, 3 BINDs in all (R115, R118). -/
def bindRetry (seg node : Nat) (s : State) : State := match s.nodeRec? seg node with
  | none => s
  | some b =>
    let k := nodeRecKey b
    let n := s.node k
    if n.st != .binding || s.lmt < n.bindAt + 10000000 || s.sys.restarting then s
    else if n.binds < 3 then (s.setNode k { n with binds := n.binds + 1, bindAt := s.lmt }).sendBind b
    else (s.setNode k { n with st := .absent }).raiseNode EV_NODE_MISMATCH b

/-- A node goes to DROPPED (R118). -/
def State.nodeToDropped (s : State) (b : Bytes) : State :=
  let k := nodeRecKey b
  let n := s.node k
  if n.st == .preop || n.st == .operate then
    (((s.setNode k { n with st := .dropped, droppedAt := s.lmt, inbox := [], reqs := [] }).nodeAbsent b).bankLeave k).raiseNode EV_NODE_DROPPED b
  else s

/-- A node goes to ABSENT with RELEASE (R118). -/
def State.nodeToAbsent (s : State) (b : Bytes) : State :=
  let k := nodeRecKey b
  let n := s.node k
  if n.st == .absent then s
  else (((((s.setNode k { n with st := .absent, inbox := [], reqs := [] }).nodeAbsent b).bankLeave k).sendRelease (byteAt b 0) (nodeNum b) n.bindId n.mac).raiseNode EV_NODE_LEFT b)

/-- NODE_DROP: DROP_CYCLES home-group snapshots in a row without a complete set (R118). -/
def nodeDrop (seg node : Nat) (s : State) : State := match s.nodeRec? seg node with
  | none => s
  | some b => if byteAt (s.segRec seg) 6 ≤ (s.node (nodeRecKey b)).misses then s.nodeToDropped b else s

/-- NODE_RELEASE_TIMEOUT: RELEASE_TIME in DROPPED (R118). -/
def nodeReleaseTimeout (seg node : Nat) (s : State) : State := match s.nodeRec? seg node with
  | none => s
  | some b =>
    let n := s.node (nodeRecKey b)
    if n.st == .dropped && decide (n.droppedAt + le (s.segRec seg) 12 4 * 1000000 ≤ s.lmt) && s.drives then s.nodeToAbsent b else s

/-- A port loses its link: its nodes are DROPPED (R118, R504). -/
def State.portDown (s : State) (port : Nat) : State :=
  let s1 := s.setPort port { s.port port with link := false, autoneg := false }
  (s1.segNodes port).foldl State.nodeToDropped s1

/-- PORT_LINK_LOSS: LOS or the PHY reports no link (R118, R504). -/
def portLinkLoss (port : Nat) (s : State) : State := if (s.port port).link then s.portDown port else s

/-- TXDIS of a port: asserted while its MODE is 0 or its optics are absent (R504), and outside service (R521). -/
def State.portTx (s : State) (port : Nat) : State :=
  let q := s.port port
  s.setPort port { q with txdis := segMode (s.segRec port) == 0 || q.abs || !s.cfg.inForce }

/-- OPTICS_PRESENCE_CHANGE: ABS#, and whether the optics could be identified (R504). -/
def opticsPresenceChange (port : Nat) (absent identified : Bool) (s : State) : State :=
  let s1 := (s.setPort port { s.port port with abs := absent }).portTx port
  let s2 := { s1 with sys := { s1.sys with opticsId := s1.sys.opticsId.set (port - 1) (identified && !absent) } }
  if absent && (s2.port port).link then s2.portDown port else s2

/-- FIELD_PORT_LINK_UP: only 1000BASE-X negotiates, by clause 37 (R504). -/
def fieldPortLinkUp (port : Nat) (s : State) : State :=
  let q := s.port port
  if q.txdis || segMode (s.segRec port) = 0 then s
  else s.setPort port { q with link := true, autoneg := segMode (s.segRec port) == 3 }

/-! Cyclic exchange (R108 to R112). -/

/-- A frame as kept for the next snapshot (R109). -/
def parseInput (p : Bytes) : InFrame :=
  let f := be p 5 1
  { group := be p 4 1 % 8, frag := be p 7 1, last := bit f 1, valid := bit f 0, received := bit f 2, cycle := be p 10 2, offset := be p 28 2,
    data := slice p 32 (be p 30 2) }

/-- A head node whose foreground is not confirmed: confirmed once the bank in use holds the module's foreground, both banks after a load; else the
foreground is loaded into both, again after a load that failed, 3 failures in all (R91, R97). -/
def State.foregroundLoad (s : State) (set k : Nat) (fresh : Bool) : State :=
  let n := s.node k
  let x := s.pset set
  let used := if n.flag 1 then 1 else 0
  let held (i : Nat) : Bool := s.bankReady k i x.fg
  let load (s : State) (t : Nat) : State :=
    ((s.setNode k { n with fgTries := some t }).sendBank k set 0 x.swapSeq.toNat x.fg).sendBank k set 1 x.swapSeq.toNat x.fg
  if n.bankOk || !s.nodePresent k then s
  else match n.fgTries with
    | none => if held used then s.setNode k { n with bankOk := true } else load s 0
    | some t =>
      if held 0 && held 1 then s.setNode k { n with bankOk := true }
      else if !(fresh && n.flag 3 && n.flag 4) || 3 ≤ t then s
      else if t = 2 then
        (s.setNode k { n with fgTries := some 3 }).raise EV_BANK_NODE_MISMATCH 0 [set, k] (ptAddr s (k / 1024) (k % 1024) 0)
      else load s (t + 1)

/-- What the station status says of banks (R91, R95, R97): a node has switched once it has passed its switch position and uses the new foreground. -/
def State.nodeBanks (s : State) (b : Bytes) (fresh : Bool) : State :=
  let k := nodeRecKey b
  match s.headRec? (byteAt b 0) (nodeNum b) with
  | none => s
  | some hb =>
    let set := headSet hb
    let x := s.pset set
    let n := s.node k
    let passed := n.flag 2 && (if n.flag 1 then 1 else 0) == x.sel
    let s1 := if x.toSwitch.contains k && passed then (s.setPset set { x with toSwitch := x.toSwitch.filter (· ≠ k) }).setPoints set else s
    (s1.foregroundLoad set k fresh).bankService set k fresh

/-- INPUT_FRAME_RECEIVE (R109, R112, R116, R118). RELEASE to an unbound MAC carries the frame's NODE and the record's BIND_ID, 0 without a record; a node
BINDING is not bound yet (DESIGN CHOICE, log 220). -/
def inputFrameReceive (port src : Nat) (p : Bytes) (s : State) : State :=
  if !s.segOn port || be p 0 1 ≠ 2 then s
  else
    let node := be p 8 2
    match s.nodeRec? port node with
    | none => s.sendRelease port node 0 src
    | some b =>
      let k := nodeRecKey b
      let n := s.node k
      if n.mac != src || n.st == .absent || n.st == .binding then s.sendRelease port node n.bindId src
      else
        let f := parseInput p
        let s1 := s.setNode k { n with status := slice p 12 16 }
        let s2 := if n.st == .dropped && f.valid then (s1.setNode k { s1.node k with rejoin := true }).enterPreop b else s1
        let m := s2.node k
        let late := f.cycle != (s2.group (gKey port f.group)).cycle % 65536
        let dup := m.inbox.any (fun g => g.group == f.group && g.frag == f.frag)
        let s3 := if late then s2.setNode k { m with late := m.late + 1 } else if dup then s2 else s2.setNode k { m with inbox := m.inbox ++ [f] }
        let g := s3.group (gKey port f.group)
        s3.nodeBanks b (!late && decide ((s3.node k).xferAt < g.startAt))

/-- A complete set: FRAG 0 through the frame marked LAST (R112). -/
def setComplete (fs : List InFrame) : Bool := match fs.find? (·.last) with
  | none => false
  | some l => (List.range (l.frag + 1)).all (fun i => fs.any (fun f => f.frag == i))

/-- Bytes of a node's input data as its frames carry them. -/
def inputByte (fs : List InFrame) (o : Nat) : Nat := match fs.find? (fun f => decide (f.offset ≤ o ∧ o < f.offset + f.data.length)) with
  | some f => byteAt f.data (o - f.offset)
  | none => 0

/-- The groups a node must have latched before OPERATE: its home group and those with an input block (R118). -/
def needGroups (b : Bytes) : List Nat := (List.range 8).filter (fun g => nodeHome b == g || !(blockSlots b 1 g).isEmpty)

/-- A node in PREOP whose conditions hold moves to OPERATE (R118). -/
def State.tryOperate (s : State) (b : Bytes) : State :=
  let k := nodeRecKey b
  let n := s.node k
  if n.st == .preop && (needGroups b).all (fun g => n.latched.contains g) && n.pagedDone && (!nodeHead b || n.bankOk) then
    -- outputs of the cycle this snapshot begins and of later ones are valid (R119)
    let from' := (List.range 8).map (fun g => (g, (s.group (gKey (byteAt b 0) g)).cycle + 1))
    let s1 := (s.setNode k { n with st := .operate, rejoin := false, replaced := false, validFrom := from' }).nodeCond b (kindSlots b 2) cAbsent false
    let s2 := s1.raiseNode (if n.rejoin then EV_NODE_REJOINED else EV_NODE_JOINED) b
    if n.replaced then s2.raiseNode EV_NODE_REPLACED b else s2
  else s

/-- NODE_STATUS records a node's latest status block where it differs from the last one recorded, in whatever state the node is, at the snapshots of its
home group, whose cycles R273 counts (R109, R267; DEDUCED, log 234). -/
def State.recordStatus (s : State) (grp : Nat) (b : Bytes) : State :=
  let k := nodeRecKey b
  let st := nums (s.node k).status
  if st.isEmpty || nodeHome b != grp then s
  else
    let s1 := s.emitBy 5 0x06 s.lmt true (fun rb =>
      if (s.chan (byteAt rb 0)).nodeSeen.get? k = some st then none
      else some (24, [byteAt b 0, 0, nodeNum b, (s.group (gKey (byteAt b 0) grp)).cycle % 65536, 0] ++ st))
    { s1 with tr := s1.tr.mapV (fun _ c => if c.st == TrState.stopped then c else { c with nodeSeen := c.nodeSeen.set k st }) }

/-- One node at the snapshot of a group: latch a complete valid set, mark the rest (R112). Answers the slots latched. -/
def State.nodeSnapshot (s0 : State) (grp : Nat) (b : Bytes) : State × List Nat :=
  let s := s0.recordStatus grp b
  let k := nodeRecKey b
  let n := s.node k
  if !nodeServes b grp || !s.nodePresent k then (s, [])
  else
    let fs := n.inbox.filter (fun f => f.group == grp)
    let done := setComplete fs
    let ok := done && fs.all (·.valid)
    let ins := blockSlots b 1 grp
    let got := !fs.isEmpty && fs.all (·.received)
    let n1 := { n with
      inbox := n.inbox.filter (fun f => f.group != grp)
      misses := if nodeHome b = grp then (if done then 0 else n.misses + 1) else n.misses
      latched := if ok && !n.latched.contains grp then n.latched ++ [grp] else n.latched }
    let s1 := s.setNode k n1
    let s2 := if ok then
        let s2 := (List.range ins.length).foldl (fun s i =>
          s.wr (nodeSlot s b (ins.getD i 0)) (BitVec.ofNat 32 (((inputByte fs (4 * i) * 256 + inputByte fs (4 * i + 1)) * 256 + inputByte fs (4 * i + 2)) * 256 + inputByte fs (4 * i + 3)))) s1
        (s2.nodeCond b ins cStale false).nodeCond b ins cAbsent false
      else if n.latched.contains grp then s1.nodeCond b ins cStale true else s1
    let s3 := s2.nodeCond b (blockSlots b 2 grp) cUndelivered (!got)
    (s3.tryOperate b, if ok then ins.map (fun i => nodeSlot s b i) else [])

/-- The snapshot of an Ethernet group (R29, R112). -/
def State.netSnapshot (s : State) (seg grp : Nat) : State × List Nat :=
  (s.segNodes seg).foldl (fun p b => let r := p.1.nodeSnapshot grp b; (r.1, p.2 ++ r.2)) (s, [])

/-- Slots split over frames of 360; a two-slot point is never split (R110). -/
def splitSlots (two : Nat → Bool) : Nat → List Nat → List (List Nat)
  | 0, _ => []
  | n + 1, l =>
    if l.length ≤ 360 then [l]
    else
      let c := if two (l.getD 359 0) then 359 else 360
      l.take c :: splitSlots two n (l.drop c)

/-- OUTPUT frames of one node (R108, R111). -/
def State.nodeOutput (s : State) (grp : Nat) (b : Bytes) : State :=
  let k := nodeRecKey b
  let n := s.node k
  let seg := byteAt b 0
  if !nodeServes b grp || n.st == .absent || n.st == .binding then s
  else
    let gb := s.grpRec seg grp
    let g := s.group (gKey seg grp)
    let apply := domTime (s.dom (gDomain gb)) g.startAt + gPeriod gb
    let outs := blockSlots b 2 grp
    let two := fun i => (s.pointOf (nodeSlot s b i)).any (fun p => typeSlots p.typ == 2 && p.addr == nodeSlot s b i)
    let frames := splitSlots two 46 outs
    let fr := (List.range frames.length).map (fun i =>
      let d := frames.getD i []
      let before := ((frames.take i).map List.length).foldl (· + ·) 0
      let flags := mkBit (n.st == .operate && decide (n.validFrom.getD grp 0 ≤ g.cycle)) 0 + mkBit (decide (i + 1 = frames.length)) 1 + mkBit n.bankOk 2
      let pay := oczHead s 0x01 (28 + 4 * d.length) grp flags i ++ toBe (nodeNum b) 2 ++ toBe (g.cycle % 65536) 2 ++ toBe (apply / 1000000000) 8
        ++ toBe (apply % 1000000000) 4 ++ toBe (gInputLead gb) 2 ++ toBe n.bindId 2 ++ toBe (4 * before) 2 ++ toBe (4 * d.length) 2
        ++ d.flatMap (fun x => toBe (s.rd (nodeSlot s b x)).toNat 4)
      { s.oczFrame seg 6 n.mac pay with launch := some (apply - gPeriod gb + gOutputAt gb), dom := gDomain gb })
    let s1 := s.setNode k { n with outCycle := n.outCycle.set grp (g.cycle % 65536) }
    s1.putLaunched seg (g.startAt + gOutputAt gb) fr

/-- The output step of an Ethernet group: ascending node, then FRAG (R111). -/
def State.netOutput (s : State) (seg grp : Nat) : State :=
  if s.segOn seg then (s.segNodes seg).foldl (fun s b => s.nodeOutput grp b) s else s

/-! Frames the module does not take, and LLDP. -/

/-- A frame of R106's discard cases. -/
def oczBad (p : Bytes) : Bool :=
  let t := be p 0 1
  be p 1 1 != 1 || decide (p.length < 4 + be p 2 2) || !(t == 0x02 || t == 0x08 || t == 0x0A || t == 0x11 || t == 0x20 || t == 0x30)

/-- OCZON_INVALID_FRAME: discarded and counted (R106); a frame from the PAIR_MAC tells of an ACTIVE partner (R395). -/
def oczonInvalidFrame (port src : Nat) (p : Bytes) (s : State) : State :=
  let q := s.port port
  let s1 := if oczBad p then s.setPort port { q with bad := q.bad + 1 } else s
  if s1.paired && s1.red.role == .active && src == s1.pairMac port then
    let pr := s1.red.partner.getD {}
    s1.dualActive { pr with role := .active, epoch := be p 6 1 }
  else s1

/-- LLDP_SEND: every LLDP_INTERVAL; Chassis ID the port's MAC, Port ID "A" to "D", TTL four intervals (R114). -/
def lldpSend (port : Nat) (s : State) : State :=
  if segMode (s.segRec port) = 0 ∨ !(s.port port).link then s
  else
    let ttl := 4 * byteAt (s.segRec port) 7
    let pay := toBe 0x0207 2 ++ toBe 4 1 ++ toBe (s.portMac port) 6 ++ toBe 0x0402 2 ++ toBe 7 1 ++ toBe (64 + port) 1 ++ toBe 0x0602 2 ++ toBe ttl 2 ++ toBe 0 2
    let s1 := s.setPort port { s.port port with lldpAt := s.lmt }
    s1.put [s.plainFrame port 5 0x0180C200000E 0x88CC pay]

/-- A port number 1 to 255 in decimal digits (R114). -/
def portNumber (id : Bytes) : Option Nat :=
  let v := id.foldl (fun n b => 10 * n + (b.toNat - 48)) 0
  if id.all (fun b => decide (48 ≤ b.toNat ∧ b.toNat ≤ 57)) ∧ 1 ≤ id.length ∧ id.length ≤ 3 ∧ 1 ≤ v ∧ v ≤ 255 then some v else none

/-- LLDP_RECEIVE: the link partner's Chassis ID of subtype 4 and its Port ID of subtype 7, a decimal port number; any other form is no neighbour (R114). -/
def lldpReceive (port chassisSub chassis portSub : Nat) (portId : Bytes) (s : State) : State :=
  s.setPort port { s.port port with
    neighbour := if chassisSub = 4 ∧ portSub = 7 then (portNumber portId).map (fun p => (chassis, p)) else none }

end Sys2Proof.Machine
end

