-- ==== Sys2Proof/Machine/Package.lean ====
section
/-! DEFINITION. Configuration records and Alaqua packages: reading, checking, writing (R434 to R438). -/

namespace Sys2Proof.Machine

/-- Bytes of a record's body in version 1 (R434, R435); 0 for a reserved type. -/
def recLen (rt : Nat) : Nat :=
  match rt with
  | 0x01 => 16 | 0x02 => 72 | 0x03 => 12 | 0x04 => 16 | 0x05 => 56 | 0x06 => 8 | 0x07 => 52 | 0x08 => 28 | 0x09 => 20 | 0x0A => 112
  | 0x0B => 288 | 0x0C => 20 | 0x0D => 72 | 0x0E => 168 | 0x0F => 272 | 0x10 => 12 | 0x11 => 16 | 0x12 => 32 | 0x13 => 8
  | 0x14 => 552 | 0x15 => 2048 | 0x16 => 184 | 0x17 => 8 | 0x18 => 24 | 0x19 => 152 | 0x1A => 32 | 0x1B => 80
  | 0x20 => 12 | 0x21 => 4 | 0x22 => 80 | 0x23 => 80 | 0x30 => 48 | 0x31 => 8
  | _ => 0

/-- Fields whose default is not zero: offset, bytes, default (R436 and the record's chapter). -/
def recDefaults (rt : Nat) (b : Bytes) : List (Nat × Nat × Nat) :=
  match rt with
  | 0x02 => [(4, 2, 2), (6, 2, 300), (10, 2, 64), (12, 4, 2000)]
  | 0x03 => [(10, 2, 50)]
  | 0x05 => [(32, 4, 1000)]
  | 0x08 => [(2, 2, 0x88B5), (6, 1, 3), (7, 1, 5), (8, 4, 1000), (12, 4, 10000), (16, 4, 2000), (20, 6, 0x004072000003)]
  | 0x09 => [(4, 1, 70), (16, 2, if 1 ≤ byteAt b 0 ∧ byteAt b 0 ≤ 4 then 20 else 0)]
  | 0x0D => if byteAt b 3 = 4 then [(22, 2, 64), (24, 2, 4)] else if byteAt b 3 = 5 then [(20, 2, 512), (22, 2, 128), (24, 4, 60000)] else []
  | 0x12 => [(4, 1, 10), (8, 4, 4000), (12, 4, 20000), (18, 2, 32767), (26, 2, 25000), (28, 2, 24000)]
  | 0x15 => [(0, 1, 2), (2, 2, 10)]
  | 0x18 => [(6, 2, 100)]
  | 0x1A => [(4, 2, 5), (6, 2, 10)]
  | _ => []

/-- The body with its missing tail: defaults, zeros where the chapter states none (R436). The event log's tail is its overrides. -/
def padBody (rt : Nat) (b : Bytes) : Bytes :=
  let full := if rt = 0x15 then 8 + 8 * byteAt b 1 else recLen rt
  let z : Bytes := List.replicate (full - b.length) 0
  let w : Bytes := b ++ z
  if z.isEmpty then b
  else (List.range w.length).map (fun i =>
    if i < b.length then w.getD i 0
    else match (recDefaults rt b).find? (fun d => decide (d.1 ≤ i ∧ i < d.1 + d.2.1)) with
      | some d => BitVec.ofNat 8 (d.2.2 / 256 ^ (i - d.1))
      | none => 0)

/-- A record as it stands in a section or buffer: its offset, itself, its DELETE flag. -/
structure RawRec where
  ofs : Nat
  r : CfgRec
  del : Bool
  deriving DecidableEq, Repr

/-- The record at an offset is well formed (R434, R436). -/
def recOk (b : Bytes) (o lim : Nat) (safe : Bool) : Bool :=
  let rt := le b o 2
  let n := le b (o + 4) 2
  let isSafe := decide (0x20 ≤ rt ∧ rt ≤ 0x23)
  decide (o + 8 + align8 n ≤ lim) && recLen rt != 0 && decide (byteAt b (o + 2) ≤ 1) && decide (byteAt b (o + 3) < 2)
    && decide (n ≤ recLen rt) && decide (keyLen rt ≤ n) && (byteAt b (o + 3) == 0 || n == keyLen rt) && (isSafe == safe)
    && (slice b (o + 8 + n) (align8 n - n)).all (fun x => x == 0)

/-- Records from `o` to `lim`, or the offset of the first that is not valid. `fuel` bounds their number. -/
def parseRecs (b : Bytes) (safe : Bool) (lim : Nat) : Nat → Nat → Except Nat (List RawRec)
  | 0, o => if o = lim then .ok [] else .error o
  | fuel + 1, o =>
    if o = lim then .ok []
    else if lim < o + 8 ∨ !recOk b o lim safe then .error o
    else
      let n := le b (o + 4) 2
      let x : RawRec := { ofs := o, r := { rtype := le b o 2, unit := le b (o + 6) 2, body := if (byteAt b (o + 3)).testBit 0 then slice b (o + 8) n else padBody (le b o 2) (slice b (o + 8) n) }, del := (byteAt b (o + 3)).testBit 0 }
      match parseRecs b safe lim fuel (o + 8 + align8 n) with
      | .error e => .error e
      | .ok xs => .ok (x :: xs)

/-- Two records have equal RTYPE and key (R434). -/
def sameRec (a b : CfgRec) : Bool := a.rtype == b.rtype && a.key == b.key

/-- Offset of the first record that repeats an earlier one (R439). -/
def dupRec : List RawRec → Option Nat
  | [] => none
  | x :: xs => match xs.find? (fun y => sameRec x.r y.r), dupRec xs with
    | some y, some z => some (min y.ofs z)
    | some y, none => some y.ofs
    | none, z => z

/-- A record in a section or buffer (R434). -/
def recBytes (r : CfgRec) : Bytes :=
  toLe r.rtype 2 ++ [1, 0] ++ toLe r.body.length 2 ++ toLe r.unit 2 ++ r.body ++ List.replicate (align8 r.body.length - r.body.length) 0

/-- A point map entry (R437, R27). -/
def pointOfEntry (b : Bytes) (o : Nat) : PointDef :=
  let m := le b (o + 4) 8
  { rslot := le b o 4, addr := m % 4294967296, typ := bits m 35 32, cyclic := m.testBit 36, group := bits m 39 37, islot := bits m 59 40
    writer := byteAt b (o + 12), wunit := le b (o + 14) 2, init := BitVec.ofNat 64 (le b (o + 16) 8) }

/-- Metadata word of a point (R27), with a paged point's quality. -/
def PointDef.meta (p : PointDef) (pq : Nat) : Nat :=
  p.addr + 2 ^ 32 * p.typ + mkBit p.cyclic 36 + 2 ^ 37 * p.group + 2 ^ 40 * p.islot + (if p.cyclic then 0 else 2 ^ 60 * pq)

def pointBytes (p : PointDef) : Bytes :=
  toLe p.rslot 4 ++ toLe (p.meta 4) 8 ++ [BitVec.ofNat 8 p.writer, 0] ++ toLe p.wunit 2 ++ toLe p.init.toNat 8

/-! Packages (R437, R438). -/

/-- The entry of section `i` in the table. -/
def secOfs (b : Bytes) (i : Nat) : Nat := le b 32 8 + 32 * i
def secKind (b : Bytes) (i : Nat) : Nat := le b (secOfs b i) 2
def secAt (b : Bytes) (i : Nat) : Nat := le b (secOfs b i + 8) 8
def secLen (b : Bytes) (i : Nat) : Nat := le b (secOfs b i + 16) 8
def secBytes (b : Bytes) (i : Nat) : Bytes := slice b (secAt b i) (secLen b i)

/-- Where sections must end: before SIG_OFS, or PKG_LEN (R437). -/
def secEnd (b : Bytes) : Nat := if (byteAt b 27).testBit 1 then le b 40 8 else le b 8 8

/-- Offset of the first header field that fails CFG_LOAD (R437, R439). -/
def headBad (b : Bytes) (len : Nat) (mustSign : Bool) : Option Nat :=
  let fl := byteAt b 27
  let signed := fl.testBit 1
  if le b 0 4 ≠ 0x51414C41 then some 0
  else if le b 4 2 ≠ 1 then some 4
  else if le b 6 2 ≠ 128 then some 6
  else if len < le b 8 8 ∨ le b 8 8 < 128 then some 8
  else if le b 16 4 = 0 then some 16
  else if !fl.testBit 0 ∧ le b 20 4 ≠ 0 then some 20
  else if le b 24 2 ≠ 0x7240 then some 24
  else if 0xB0 < byteAt b 26 then some 26
  else if 8 ≤ fl ∨ (mustSign ∧ !signed) then some 27
  else if le b 28 2 = 0 ∨ 64 < le b 28 2 then some 28
  else if le b 30 2 ≠ 0 then some 30
  else if le b 32 8 % 8 ≠ 0 ∨ le b 32 8 < 128 ∨ secEnd b < le b 32 8 + 32 * le b 28 2 then some 32
  else if (signed ∧ le b 40 8 + 3384 ≠ le b 8 8) ∨ (!signed ∧ le b 40 8 ≠ 0) then some 40
  else if le b 60 4 ≠ 0 then some 60
  else if (slice b 96 28).any (fun x => x != 0) then some 96
  else if le b 124 4 ≠ crc32c (slice b 0 124) then some 124
  else none

/-- A section's KIND is known (R437). -/
def kindKnown (k : Nat) : Bool := decide (1 ≤ k ∧ k ≤ 7)

/-- Offset of the field of a point map entry that is reserved and not zero, or not listed (R9, R27, R437). -/
def mapEntryBad (b : Bytes) (e : Nat) : Option Nat :=
  if (byteAt b (e + 11)).testBit 7 then some (e + 11)
  else if 3 < byteAt b (e + 12) then some (e + 12)
  else if byteAt b (e + 13) ≠ 0 then some (e + 13)
  else none

/-- Offset of the first field of section `i`'s entry that fails (R437, R439). -/
def sectionBad (b : Bytes) (i : Nat) : Option Nat :=
  let o := secOfs b i
  let n := le b 28 2
  let ovr := (List.range n).any (fun j => j < i && decide (0 < secLen b j) && decide (0 < secLen b i)
    && decide (secAt b i < secAt b j + secLen b j) && decide (secAt b j < secAt b i + secLen b i))
  if !kindKnown (secKind b i) ∧ !(byteAt b (o + 2)).testBit 0 then some o
  else if 2 ≤ byteAt b (o + 2) then some (o + 2)
  else if byteAt b (o + 3) ≠ 0 then some (o + 3)
  else if secAt b i % 8 ≠ 0 ∨ secAt b i < 128 ∨ ovr then some (o + 8)
  else if secEnd b < secAt b i + secLen b i then some (o + 16)
  else if le b (o + 24) 4 ≠ crc32c (secBytes b i) then some (o + 24)
  else if le b (o + 28) 4 ≠ 0 then some (o + 28)
  else if secKind b i = 2 ∧ secLen b i ≠ 24 * le b (o + 4) 4 then some (o + 4)
  else if secKind b i = 6 ∧ secLen b i ≠ 4104 then some (o + 16)
  else if secKind b i = 7 ∧ secLen b i ≠ 32776 then some (o + 16)
  else if (secKind b i = 5) ∧ !(byteAt b 27).testBit 2 then some 27
  else if secKind b i = 5 ∧ (List.range i).any (fun j => secKind b j == 5) then some o
  else if secKind b i = 6 ∧ (slice b (secAt b i + 1) 7).any (fun x => x != 0) then some (secAt b i + 1)
  else if secKind b i = 7 ∧ byteAt b (secAt b i + 1) ≠ 0 then some (secAt b i + 1)
  else if secKind b i = 7 ∧ le b (secAt b i + 4) 4 ≠ 0 then some (secAt b i + 4)
  else if secKind b i = 2 then ((List.range (le b (o + 4) 4)).map (fun j => secAt b i + 24 * j)).findSome? (mapEntryBad b)
  else none

/-- Offset of the field of a package that tells of its sections and signature as a whole and fails: FLAGS[2] without a safety section, and the signature
block's FORMAT and reserved bytes (R437, R438). -/
def wholeBad (b : Bytes) : Option Nat :=
  let g := le b 40 8
  if (byteAt b 27).testBit 2 ∧ !(List.range (le b 28 2)).any (fun i => secKind b i == 5) then some 27
  else if !(byteAt b 27).testBit 1 then none
  else if le b g 2 ≠ 1 then some g
  else if le b (g + 2) 2 ≠ 0 then some (g + 2)
  else if (slice b (g + 3381) 3).any (fun x => x != 0) then some (g + 3381)
  else none

/-- Section `i`'s records, offsets within the package. -/
def sectionRecs (b : Bytes) (i : Nat) : Except Nat (List RawRec) :=
  match parseRecs b false (secAt b i + secLen b i) (secLen b i / 8 + 1) (secAt b i) with
  | .error e => .error e
  | .ok xs => if xs.length = le b (secOfs b i + 4) 4 then .ok xs else .error (secOfs b i + 4)

def concatRecs : List (Except Nat (List RawRec)) → Except Nat (List RawRec)
  | [] => .ok []
  | .error e :: _ => .error e
  | .ok xs :: r => match concatRecs r with
    | .error e => .error e
    | .ok ys => .ok (xs ++ ys)

/-- A package as CFG_LOAD checks it; an error is the offset of the failing field (R437 to R439). -/
def parsePackage (b : Bytes) (len : Nat) (sigOk mustSign : Bool) : Except Nat Package :=
  match headBad b len mustSign with
  | some e => .error e
  | none =>
    let is := List.range (le b 28 2)
    match (is.findSome? (sectionBad b)).orElse (fun _ => wholeBad b) with
    | some e => .error e
    | none =>
      match concatRecs ((is.filter (fun i => secKind b i == 1)).map (sectionRecs b)) with
      | .error e => .error e
      | .ok rs =>
        match dupRec rs with
        | some e => .error e
        | none =>
          if (byteAt b 27).testBit 1 ∧ !sigOk then .error (le b 40 8)
          else
            let of := fun k => (is.filter (fun i => secKind b i == k)).map (secBytes b)
            .ok {
              pkgId := le b 16 4, baseId := le b 20 4, delta := (byteAt b 27).testBit 0, signed := (byteAt b 27).testBit 1
              recs := rs.map (fun x => (x.r, x.del))
              points := (is.filter (fun i => secKind b i == 2)).flatMap (fun i => (List.range (le b (secOfs b i + 4) 4)).map (fun j => pointOfEntry b (secAt b i + 24 * j)))
              logic := of 3, spin := of 4, micro := of 6, place := of 7
              safety := (of 5).head? }

/-- A record takes its place in the order of RTYPE and key: units are taken in ascending number. -/
def insCfg (r : CfgRec) : List CfgRec → List CfgRec
  | [] => [r]
  | x :: xs => if r.rtype < x.rtype || (r.rtype == x.rtype && decide (r.key < x.key)) then r :: x :: xs else x :: insCfg r xs

/-- Records in key order: a new one replaces the one of its RTYPE and key (R439). -/
def putRec (rs : List CfgRec) (r : CfgRec) : List CfgRec :=
  if rs.any (sameRec r) then rs.map (fun x => if sameRec r x then r else x) else insCfg r rs

/-- A delta's records on a configuration (R439). -/
def deltaRecs (rs : List CfgRec) (ds : List (CfgRec × Bool)) : List CfgRec :=
  ds.foldl (fun rs d => if d.2 then rs.filter (fun x => !sameRec d.1 x) else putRec rs d.1) rs

/-- Addresses that a point map lists twice (R28, R540). -/
def dupAddrs : List PointDef → List Nat
  | [] => []
  | p :: ps => (if ps.any (fun q => q.addr == p.addr) then [p.addr] else []) ++ dupAddrs ps

/-- The configuration a package makes of another one (R439); a point map, where it holds one, is the whole map (R540). The safety configuration is not touched. -/
def Cfg.apply (c : Cfg) (p : Package) (id : Nat) : Cfg :=
  let logic := p.logic.foldl (fun (m : SMap Bytes) b => SMap.set m (byteAt b 2) b)
  let spin := p.spin.foldl (fun (m : SMap Bytes) b => SMap.set m (le b 8 4) b)
  let pts := p.points.foldl (fun (m : SMap PointDef) d => SMap.set m d.addr d) []
  let dups := dupAddrs p.points
  let named := (p.recs.filter (fun d => !d.2)).map Prod.fst
  if p.delta then
    { c with named := named, dups := dups, admitted := true, inForce := true, pkgId := id, recs := deltaRecs c.recs p.recs, points := if p.points.isEmpty then c.points else pts, logic := logic c.logic, spin := spin c.spin }
  else
    { c with named := named, dups := dups, admitted := true, inForce := true, pkgId := id, recs := deltaRecs [] p.recs, points := pts, logic := logic [], spin := spin [] }

/-! The package that CFG_READ writes (R429, R437). -/

/-- Sections of the admitted configuration: KIND, entries, bytes. -/
def Cfg.sections (c : Cfg) : List (Nat × Nat × Bytes) :=
  [(1, c.recs.length, c.recs.flatMap recBytes), (2, c.points.length, c.points.flatMap (fun e => pointBytes e.2))]
  ++ c.logic.map (fun e => (3, 1, e.2)) ++ c.spin.map (fun e => (4, 1, e.2))

/-- Section table and section bytes, laid out from an offset. -/
def layoutSecs : Nat → List (Nat × Nat × Bytes) → Bytes × Bytes
  | _, [] => ([], [])
  | o, s :: ss =>
    let n := s.2.2.length
    let pad := align8 n - n
    let r := layoutSecs (o + align8 n) ss
    (toLe s.1 2 ++ [0, 0] ++ toLe s.2.1 4 ++ toLe o 8 ++ toLe n 8 ++ toLe (crc32c s.2.2) 4 ++ toLe 0 4 ++ r.1,
     s.2.2 ++ List.replicate pad 0 ++ r.2)

/-- The admitted configuration as an unsigned full package; `tool` gives bytes 48 to 95, which no rule states (log 3). -/
def Cfg.package (c : Cfg) (tool : Bytes) : Bytes :=
  let ss := c.sections
  let at' := 128 + 32 * ss.length
  let lay := layoutSecs at' ss
  let head := toLe 0x51414C41 4 ++ toLe 1 2 ++ toLe 128 2 ++ toLe (at' + lay.2.length) 8 ++ toLe c.pkgId 4 ++ toLe 0 4 ++ toLe 0x7240 2
    ++ [0xB0, 0] ++ toLe ss.length 2 ++ toLe 0 2 ++ toLe 128 8 ++ toLe 0 8 ++ slice (tool ++ List.replicate 48 0) 0 12 ++ toLe 0 4
    ++ slice (tool ++ List.replicate 48 0) 12 32 ++ List.replicate 28 0
  head ++ toLe (crc32c head) 4 ++ lay.1 ++ lay.2

end Sys2Proof.Machine
end

