-- ==== Sys2Proof/Machine/SluiceFields.lean ====
section
/-! DEFINITION. Sluice, budget 0: the range of every field of every record (R9, R435, R441, R539). -/

namespace Sys2Proof.Machine

/-- A violation that Sluice reports (R444): unit, item, test, measure, figure, limit and the two further numbers. -/
structure Viol where
  unit : Nat := 0
  item : Nat := 0
  test : Nat := 0
  measure : Nat := 0
  value : Nat := 0
  limit : Nat := 0
  aux0 : Nat := 0
  aux1 : Nat := 0
  deriving DecidableEq, Repr

/-- A field of a record body and its range: offset, bytes, signed reading, least and greatest value. -/
structure FR where
  o : Nat
  n : Nat
  sg : Bool
  lo : Int
  hi : Int
  deriving DecidableEq, Repr

def fu (o n : Nat) (lo hi : Int) : FR := ⟨o, n, false, lo, hi⟩
def fi (o n : Nat) (lo hi : Int) : FR := ⟨o, n, true, lo, hi⟩
/-- Reserved bytes are zero (R9). -/
def fz (o n : Nat) : FR := ⟨o, n, false, 0, 0⟩
/-- At least `lo`. -/
def fmin (o n : Nat) (lo : Int) : FR := ⟨o, n, false, lo, 2 ^ (8 * n) - 1⟩
/-- A gain: reserved bits zero (R137). -/
def fgain (o : Nat) : FR := ⟨o, 4, false, 0, 2097151⟩

def FR.val (f : FR) (b : Bytes) : Int := if f.sg then leS b f.o f.n else (le b f.o f.n : Nat)
def FR.ok (f : FR) (b : Bytes) : Bool := decide (f.lo ≤ f.val b) && decide (f.val b ≤ f.hi)

/-- A list of checks that apply only under a condition (R539). -/
def onlyIf {α : Type} (c : Bool) (l : List α) : List α := if c then l else []

/-! Ranges of each record type. -/

/-- Encoder (R40). -/
def frEncoder (b : Bytes) : List FR :=
  [fu 0 1 0 19, fu 1 1 0 3] ++ onlyIf (byteAt b 1 == 1 || byteAt b 1 == 2) [fu 5 1 0 1]
  ++ onlyIf (byteAt b 1 == 3) [fu 3 1 8 40, fu 4 1 0 3, fu 6 2 100 4000, fu 8 2 5 1000, fu 12 4 1 2147483648]

/-- Race (R47). -/
def frRace (b : Bytes) : List FR :=
  let src := byteAt b 1
  [fu 0 1 0 7, fu 1 1 0 4] ++ onlyIf (src == 0) [fu 2 1 0 19] ++ onlyIf (src == 1) [fu 2 1 0 7] ++ onlyIf (src == 2 || src == 4) [fz 2 1]
  ++ [fu 3 1 0 3, fu 4 2 1 16, fu 6 2 50 1000, fu 8 1 0 15, fu 9 1 0 1, fu 10 2 1 65535, fu 12 4 0 50000, fmin 16 8 1]
  ++ onlyIf (src == 1) [fmin 32 4 1, fmin 36 4 1]

/-- PTP domain (R64). -/
def frDomain (b : Bytes) : List FR :=
  [fu 0 1 0 3, fu 1 1 0 3, fu 2 1 0 127, fu 3 1 0 1, fu 4 1 0 15] ++ onlyIf (byteAt b 1 == 3) [fu 5 1 0 3]
  ++ [fi 6 1 (-7) 0, fu 9 1 0 1, fu 10 2 1 500]

/-- Port timing (R68). -/
def frTiming : List FR := [fu 0 1 0 3, fz 1 3]

/-- Action arguments of a cog (R74). -/
def frCogArg (b : Bytes) : List FR :=
  match byteAt b 4 with
  | 0 => [fz 40 16]
  | 1 => [fu 40 1 0 15, fu 41 1 0 3, fz 42 2] ++ onlyIf (byteAt b 41 == 3) [fmin 44 4 40] ++ [fz 48 8]
  | 2 => [fu 40 1 0 3, fz 41 15]
  | 3 => [fu 40 1 0 15, fz 41 15]
  | 4 => [fu 40 2 0 1023, fu 42 1 0 31, fz 43 13]
  | 5 => [fu 40 2 0 2047, fu 42 1 0 1, fz 43 1, fz 46 10]
  | 6 => [fu 40 1 0 63, fz 41 15]
  | _ => [fu 40 1 0 8, fu 41 1 0 7, fz 42 14]

/-- Cog (R73, R76). -/
def frCog (b : Bytes) : List FR :=
  [fu 0 2 0 4095, fu 2 1 0 7, fu 3 1 0 1, fu 4 1 0 7, fu 5 1 0 7, fz 6 2]
  ++ onlyIf ((byteAt b 5).testBit 1) [fmin 24 8 4294967296]
  ++ [fmin 32 4 1000, fi 36 4 (if byteAt b 4 = 6 then 0 else -2147483648) (if byteAt b 4 = 6 then 0 else 1000000)]
  ++ onlyIf (decide (byteAt b 4 ≤ 7)) (frCogArg b)

/-- Fast output (R83). -/
def frFastOut : List FR := [fu 0 1 0 15, fu 1 1 0 2, fu 2 1 0 1, fu 3 1 0 1, fi 4 2 (-1000) 1000, fz 6 2]

/-- Head node (R89). -/
def frHead : List FR :=
  [fu 0 1 1 4, fz 1 1, fu 2 2 0 1023, fu 4 1 0 7, fu 5 1 0 63, fu 6 2 1 65535, fu 8 2 0 10000, fz 10 6, fmin 36 8 4294967296]

/-- Ethernet segment (R103). -/
def frSegment : List FR :=
  [fu 0 1 1 4, fu 1 1 0 3, fmin 2 2 0x600, fu 4 2 0 4094, fu 6 1 1 16, fu 7 1 1 30, fu 8 4 10 60000, fu 12 4 100 600000, fu 16 4 0 100000, fz 26 2]

/-- Cycle group (R29, R104). -/
def frGroup (b : Bytes) : List FR :=
  [fu 0 1 0 8, fu 1 1 0 7, fu 2 1 0 7, fu 3 1 0 1, fu 4 1 20 90, fu 5 1 0 1, fu 6 1 0 3, fz 7 1]
  ++ onlyIf (byteAt b 3 == 0) [fu 12 4 0 ((gPeriod b : Int) - 1)]
  ++ (if 1 ≤ byteAt b 0 ∧ byteAt b 0 ≤ 4 then [fu 16 2 1 4000] else [fz 16 2]) ++ [fz 18 2]

/-- Node (R105). -/
def frNode (b : Bytes) : List FR :=
  [fu 0 1 1 4, fu 1 1 0 7, fu 2 2 0 1023, fu 4 1 0 1, fu 5 1 0 3, fu 6 1 0 2, fu 7 1 0 1]
  ++ onlyIf (byteAt b 4 == 1) [fmin 38 1 1] ++ [fu 39 1 0 8, fu 40 4 1 10000000, fu 44 1 1 3, fz 45 3]
  ++ (List.range 8).flatMap (fun i =>
    let o := 48 + 8 * i
    fu (o + 1) 1 0 4 :: onlyIf (byteAt b (o + 1) != 0)
      [fu o 1 0 (if 3 ≤ byteAt b (o + 1) then 0 else 7), fu (o + 2) 2 0 16383, fu (o + 4) 2 1 (16384 - (le b (o + 2) 2 : Nat)), fz (o + 6) 2])

/-- A selector: its KIND among those allowed for its use, reserved bytes zero, its INDEX in range (R139). -/
def frSel (b : Bytes) (o : Nat) : List FR :=
  let idx := match byteAt b o with
    | 2 => [fu (o + 4) 4 0 799]
    | 3 => [fu (o + 4) 4 0 31]
    | 4 => [fu (o + 4) 4 0 19]
    | 5 => [fu (o + 4) 4 0 7]
    | 7 => [fu (o + 4) 4 0 31]
    | 8 => [fu (o + 4) 4 0 15]
    | 1 => []
    | _ => [fz (o + 4) 4]
  fz (o + 1) 3 :: idx

/-- Loop (R137, R156). -/
def frLoop (b : Bytes) : List FR :=
  [fu 0 2 0 2047, fu 2 1 0 2, fu 3 1 0 63, fmin 4 2 1, fu 6 2 0 ((le b 4 2 : Nat) - 1), fu 8 1 0 3, fu 9 1 0 8, fu 10 1 0 7, fu 11 1 0 1]
  ++ onlyIf (byteAt b 11 == 1) [fu 12 2 0 255] ++ [fz 14 2]
  ++ frSel b 16 ++ frSel b 24 ++ frSel b 32 ++ frSel b 40 ++ frSel b 48
  ++ [fgain 56, fz 78 2, fz 92 4, fgain 96, fgain 100, fgain 104, fgain 108, fgain 112, fu 116 2 0 32767, fu 118 2 0 32768, fu 120 2 0 32768, fz 122 6]
  ++ (List.range 8).flatMap (fun i => if i < byteAt b 9 then (List.range 5).map (fun j => fgain (128 + 20 * i + 4 * j)) else [fz (128 + 20 * i) 20])

/-- Override group (R157). -/
def frOgroup (b : Bytes) : List FR := [fz 1 7] ++ frSel b 8 ++ [fz 18 2]

/-- Fantail task (R179, R180). -/
def frFantail (b : Bytes) : List FR :=
  [fu 0 2 0 3071, fu 2 1 0 3, fu 3 1 1 5, fu 4 1 0 2, fu 5 1 0 1, fu 8 4 10 3600000, fz 12 4]
  ++ match byteAt b 3 with
    | 3 => [fu 6 2 0 63, fi 20 2 1 32767, fi 22 2 0 4096, fi 24 2 1 32767, fu 26 1 1 8, fu 27 1 0 1, fu 32 4 0 16000000, fz 44 28]
    | 4 => [fu 6 2 0 3, fz 26 46]
    | 5 => [fu 6 2 0 31, fi 16 2 1024 6144, fi 18 2 1024 6144, fu 24 4 1000 3600000, fz 28 44]
    | _ => [fu 6 2 0 2047, fgain 16, fgain 20, fgain 24, fgain 28, fgain 32, fgain 36, fu 40 2 0 500, fu 42 2 257 1024, fu 44 1 0 3, fu 45 1 2 8,
        fu 46 1 0 1, fi 48 2 1 16384, fi 50 2 0 4096, fu 54 2 10 3600, fu 56 2 1 1024, fmin 58 2 1, fmin 60 2 1, fz 66 6]

/-- Axis (R185, R202, R211). -/
def frAxis (b : Bytes) : List FR :=
  [fu 0 1 0 63, fu 1 1 0 7, fu 2 1 0 63, fmin 6 1 1, fu 4 1 0 1, fu 5 1 0 1, fu 7 1 0 15, fu 8 2 0 1023, fmin 10 1 1, fmin 12 1 1, fu 13 1 0 254,
   fmin 14 1 1, fz 15 1, fz 18 2, fz 28 4, fmin 96 8 (1024 * 65536)]
  ++ onlyIf (decide (byteAt b 0 < 32)) [fz 144 20] ++ [fz 164 4]

/-- Converter sequence (R215, R217). -/
def frSequence (b : Bytes) : List FR :=
  [fu 0 1 0 3, fu 1 1 0 4, fu 2 1 0 (if byteAt b 1 = 1 then 7 else if byteAt b 1 = 2 then 15 else 0)] ++ onlyIf (byteAt b 1 == 2) [fu 3 1 0 1]
  ++ [fu 6 1 1 32, fu 7 1 0 7, fz 8 8]
  ++ (List.range 32).flatMap (fun e =>
    let o := 16 + 8 * e
    if e < byteAt b 6 then [fu o 1 0 50, fu (o + 1) 1 0 8, fmin (o + 2) 2 10, fu (o + 4) 1 0 2, fz (o + 5) 3] else [fz o 8])

/-- Timer (R223). -/
def frTimer (b : Bytes) : List FR := [fu 0 1 0 7, fz 2 2, fmin 4 4 100, fu 8 4 0 ((le b 4 4 : Nat) - 1)]

/-- PWM (R224). -/
def frPwm : List FR := [fu 0 1 0 15, fu 1 1 0 2, fu 2 1 0 1, fu 4 1 0 7, fz 5 3, fu 8 4 2 16777215]

/-- Current-loop channel (R226). -/
def frChannel : List FR :=
  [fu 0 1 0 31, fu 1 1 0 3, fu 2 1 0 7, fu 3 1 0 7, fmin 4 1 1, fz 5 3, fu 8 4 0 24000, fu 12 4 0 24000, fu 24 2 0 24000, fu 26 2 4000 30000,
   fu 28 2 12000 28000, fz 30 2]

/-- Digital channel (R238). -/
def frDio : List FR := [fu 0 1 0 63, fu 1 1 0 2, fu 2 1 0 7, fu 3 1 0 1, fu 4 2 0 10000, fz 6 2]

/-- A capture signal (R247, R248). -/
def frSignal (b : Bytes) (o : Nat) : List FR :=
  [fu o 1 1 8, fz (o + 2) 2] ++ match byteAt b o with
    | 2 => [fu (o + 4) 4 0 799]
    | 3 => [fu (o + 4) 4 0 31]
    | 4 => [fu (o + 4) 4 0 1]
    | 5 => [fu (o + 4) 4 0 19]
    | 6 => [fu (o + 4) 4 0 7]
    | 7 => [fu (o + 4) 4 0 (4 * 65536 + 2047)]
    | 8 => [fu (o + 4) 4 0 63]
    | _ => []

/-- Capture unit (R247). -/
def frCapture (b : Bytes) : List FR :=
  [fu 0 1 0 15, fu 1 1 0 2] ++ onlyIf (byteAt b 1 == 0) [fz 2 1] ++ onlyIf (byteAt b 1 == 1) [fu 2 1 0 3]
  ++ [fu 3 1 0 31, (if (byteAt b 3).testBit 4 then fu 4 1 0 15 else fu 4 1 (byteAt b 0 : Nat) (byteAt b 0 : Nat)), fu 5 1 1 64, fu 6 1 0 31, fu 7 1 0 8]
  ++ onlyIf (byteAt b 1 == 0) [fmin 8 4 50, fu 12 4 0 ((le b 8 4 : Nat) - 1)] ++ [fmin 20 4 1]
  ++ onlyIf (decide (2 ≤ byteAt b 6)) [fmin 24 2 2] ++ [fu 26 1 1 64]
  ++ (List.range 8).map (fun i => if i < byteAt b 7 then fu (32 + i) 1 0 ((byteAt b 5 : Nat) - 1) else fz (32 + i) 1)
  ++ (List.range 64).flatMap (fun i => if i < byteAt b 5 then frSignal b (40 + 8 * i) else [fz (40 + 8 * i) 8])

/-- Event log (R262). -/
def frLog (b : Bytes) : List FR :=
  [fu 0 1 0 7, fu 2 2 1 600, fz 4 4] ++ (List.range (byteAt b 1)).flatMap (fun i => [fmin (10 + 8 * i) 2 1, fu (12 + 8 * i) 4 0 65536])

/-- Tailrace channel (R266). -/
def frTailrace (b : Bytes) : List FR :=
  [fu 0 1 0 15, fu 2 1 0 3, fu 3 1 0 7, fu 6 1 0 16, fu 7 1 0 4, fu 8 4 100 1000000, fu 12 1 0 64, fz 13 3, fu 16 4 1 262144, fz 20 4]
  ++ (List.range (min 16 (byteAt b 6))).flatMap (fun i => [fu (24 + 8 * i) 1 0 8, fu (25 + 8 * i) 1 0 7])
  ++ (List.range (min 4 (byteAt b 7))).flatMap (fun i => [fu (152 + 8 * i) 2 0 2047, fu (154 + 8 * i) 2 1 2048, fmin (156 + 8 * i) 2 1, fz (158 + 8 * i) 2])

/-- Logic engine (R295). -/
def frEngine : List FR := [fu 0 1 0 7, fu 1 1 0 1, fu 2 1 0 3, fz 3 5]

/-- CAN port (R329, R330). -/
def frCan (b : Bytes) : List FR :=
  [fu 0 1 0 3, fu 1 1 0 3, fu 2 1 0 127, fu 3 1 0 4, fu 4 1 0 4, fu 5 1 0 63, fu 6 2 10 1000]
  ++ onlyIf (byteAt b 3 == 0) [fu 8 2 1 32, fu 10 2 2 256, fu 12 1 1 128, fu 13 1 1 (min 128 (byteAt b 12 : Nat))]
  ++ onlyIf ((byteAt b 2).testBit 0 && byteAt b 4 == 0) [fu 14 1 1 32, fu 15 1 1 32, fu 16 1 1 16, fu 17 1 1 (min 16 (byteAt b 16 : Nat))] ++ [fz 18 6]

/-- CAN message object (R331). -/
def frObject (b : Bytes) : List FR :=
  let send := byteAt b 2 == 2
  [fu 0 1 0 3, fu 2 1 0 2] ++ onlyIf (byteAt b 2 != 0)
    ([fu 3 1 0 (if send then 31 else 7), fu 4 4 0 (if (byteAt b 3).testBit 0 then 536870911 else 2047)]
     ++ (if send then [fz 8 4, fu 13 1 0 2] else [fu 8 4 0 536870911, fz 13 1])
     ++ [fu 12 1 0 (if (byteAt b 3).testBit 1 then 64 else 8), fu 14 1 0 7, fu 15 1 0 16, fu 16 2 0 63, fz 18 2]
     ++ onlyIf (!send && le b 20 4 != 0) [fu 20 4 100 10000000]
     ++ (List.range 16).flatMap (fun i =>
        let o := 24 + 8 * i
        if i < byteAt b 15 then [fu o 2 0 511, fu (o + 2) 1 1 32, fu (o + 3) 1 0 3, fu (o + 4) 2 0 16383, fz (o + 6) 2] else [fz o 8]))

/-- Pair (R380). -/
def frPairRec : List FR := [fu 0 1 0 1, fu 1 1 0 1, fu 2 1 0 1, fz 3 1, fu 4 2 1 60, fu 6 2 1 3600]

/-- Sluice (R443). -/
def frSluice : List FR := (List.range 72).map (fun i => fu i 1 1 100) ++ [fz 72 8]

/-- Safety pair (R352). -/
def frSafePair (b : Bytes) : List FR :=
  [fu 0 1 0 11, fu 1 1 0 3, fu 2 1 0 (if byteAt b 1 = 1 ∨ byteAt b 1 = 2 then 1 else 0), fu 3 1 1 4, fz 6 2]
  ++ onlyIf (byteAt b 1 == 1 || byteAt b 1 == 2) [fu 8 4 250 2000000]

/-- Test pulse (R354). -/
def frTestPulse (b : Bytes) : List FR := [fu 0 1 0 15, fz 1 1] ++ onlyIf (byteAt b 0 % 16 != 0) [fu 2 2 8 1000]

/-- Safety function (R358). -/
def frSafeFn (b : Bytes) : List FR :=
  [fu 0 2 0 127, fu 2 1 0 2, fu 3 1 0 1, fu 4 1 1 8, fu 6 1 1 2]
  ++ (if byteAt b 6 = 1 then [fz 7 1, fu 8 2 0 23] else [fu 8 2 0 255]) ++ [fz 10 2, fu 12 4 1000 10000000]
  ++ (List.range 8).flatMap (fun i =>
    let o := 24 + 4 * i
    if i < byteAt b 4 then
      [fu o 1 1 3, fu (o + 2) 2 0 (if byteAt b o = 1 then 11 else if byteAt b o = 2 then 255 else 127)] ++ onlyIf (byteAt b o != 2) [fz (o + 1) 1]
    else [fz o 4])
  ++ (if byteAt b 2 = 0 then [fz 56 4] else [fu 56 4 1000 60000000])
  ++ [fu 60 1 (if byteAt b 2 = 2 then 1 else 0) 2] ++ onlyIf (byteAt b 60 == 1) [fz 61 1, fu 62 2 16 19] ++ onlyIf (byteAt b 60 == 2) [fu 61 1 0 7, fu 62 2 0 255]

/-- Nalat connection (R365). -/
def frConn (b : Bytes) : List FR :=
  [fu 0 2 0 255, fu 2 1 0 1, fu 3 1 1 4, fu 4 1 0 7, fu 5 1 1 8, fu 6 2 0 1023, fu 8 2 0 16383, fmin 10 2 20, fmin 12 4 1]
  ++ (if byteAt b 2 = 0 then [fz 16 64]
      else (List.range 32).flatMap (fun i => onlyIf ((byteAt b (17 + 2 * i)).testBit 7) [fu (16 + 2 * i) 1 0 (32 * (byteAt b 5 : Nat) - 1)]))

/-- Hopper task (R447, R456). -/
def frHopper (b : Bytes) : List FR :=
  let ext := byteAt b 2 == 1
  [fu 0 2 128 1023, fu 2 1 1 2] ++ (if ext then [fu 3 1 0 63, fu 4 1 (byteAt b 3 : Nat) 63, fu 7 1 4 7] else [fz 3 1, fu 4 1 0 63, fu 7 1 0 7])
  ++ [fu 5 1 0 1, fu 6 1 0 1, fmin 8 4 1] ++ onlyIf (le b 12 4 != 0) [fu 12 4 10 10000000] ++ onlyIf (le b 16 4 != 0) [fu 16 4 10 10000000, fu 20 4 0 ((le b 16 4 : Nat) - 1)]
  ++ (if ext then [fu 24 4 1000 1000000000, fu 28 4 10 10000000] else [fz 28 4]) ++ [fz 42 6]

/-- Concentrator source (R458). -/
def frSource (b : Bytes) : List FR := [fu 0 2 384 479, fu 2 1 0 15] ++ onlyIf (decide (le b 0 2 < 448)) [fu 4 1 0 2] ++ [fz 5 3]

/-- Ranges of a record. -/
def recFields (rt : Nat) (b : Bytes) : List FR :=
  match rt with
  | 0x01 => frEncoder b | 0x02 => frRace b | 0x03 => frDomain b | 0x04 => frTiming | 0x05 => frCog b | 0x06 => frFastOut | 0x07 => frHead
  | 0x08 => frSegment | 0x09 => frGroup b | 0x0A => frNode b | 0x0B => frLoop b | 0x0C => frOgroup b | 0x0D => frFantail b | 0x0E => frAxis b
  | 0x0F => frSequence b | 0x10 => frTimer b | 0x11 => frPwm | 0x12 => frChannel | 0x13 => frDio | 0x14 => frCapture b | 0x15 => frLog b
  | 0x16 => frTailrace b | 0x17 => frEngine | 0x18 => frCan b | 0x19 => frObject b | 0x1A => frPairRec | 0x1B => frSluice
  | 0x20 => frSafePair b | 0x21 => frTestPulse b | 0x22 => frSafeFn b | 0x23 => frConn b | 0x30 => frHopper b | 0x31 => frSource b
  | _ => []

/-! Conditions that are no range of one field: (offset, holds). -/

/-- A byte is a number up to `hi`, or 0xFF for none. -/
def orNone (b : Bytes) (o hi : Nat) : Nat × Bool := (o, decide (byteAt b o ≤ hi) || byteAt b o == 255)

/-- A binary32 value above 0 and at most 1. -/
def f32Unit (x : W32) : Bool := !f32NaN x && !f32Zero x && !f32Neg x && decide (x.toNat ≤ 0x3F800000)

/-- No two override entries name one code, and none a code of severity 7 (R262). -/
def logOvrOk (b : Bytes) (i : Nat) : Bool :=
  evSev (le b (8 + 8 * i) 2) != 7 && !(List.range i).any (fun j => le b (8 + 8 * j) 2 == le b (8 + 8 * i) 2)

/-- Quanta of a CAN port's nominal and data bit at 80 MHz: BRP x (1 + TSEG1 + TSEG2) (R330). -/
def canNomDiv (b : Bytes) : Nat := (canNomTiming b).quanta
def canDataDiv (b : Bytes) : Nat := (canDataTiming b).quanta

/-- Bits of a SIG entry lie within the object's data (R332): the highest byte it reaches. -/
def sigFits (b : Bytes) (o : Nat) : Bool :=
  let st := le b o 2
  let len := byteAt b (o + 2)
  let bits := 8 * byteAt b 12
  if (byteAt b (o + 3)).testBit 0 then
    let first := st % 8 + 1
    let more := if len ≤ first then 0 else (len - first + 7) / 8
    decide ((st / 8 + more + 1) * 8 ≤ bits)
  else decide (st + len ≤ bits)

def recConds (rt : Nat) (b : Bytes) : List (Nat × Bool) :=
  match rt with
  | 0x01 => [(1, !(byteAt b 1 == 2 && decide (3 < byteAt b 0)))]
  | 0x02 => [(2, byteAt b 1 != 3 || !(byteAt b 2).testBit 3)]
  | 0x08 => [(2, !(([0x0800, 0x86DD, 0x8100, 0x88A8, 0x88CC, 0x88F7] : List Nat).contains (le b 2 2)))]
  | 0x09 => [(8, decide (gCommitAt b + 5000 ≤ gOutputAt b ∧ gOutputAt b < gPeriod b))]
  | 0x0B =>
    [(16, [1, 2, 3].contains (byteAt b 16)), (24, [0, 1, 2, 3, 4, 5].contains (byteAt b 24)), (32, [0, 1, 2, 3, 4, 5, 6].contains (byteAt b 32)),
     (40, [0, 1, 2, 3].contains (byteAt b 40)), (48, [0, 1, 7, 8].contains (byteAt b 48)),
     (62, decide (leS b 62 2 ≤ leS b 64 2)), (66, decide (leS b 66 2 ≤ leS b 68 2)), (70, decide (leS b 70 2 ≤ leS b 72 2))]
    ++ [16, 24, 32, 40].map (fun o => (o + 4, byteAt b o != 2 || !((le b (o + 4) 4).testBit 5 || (le b (o + 4) 4).testBit 6 || (le b (o + 4) 4).testBit 7)))
  | 0x0C => [(8, [1, 7, 8].contains (byteAt b 8))]
  | 0x0D => onlyIf (byteAt b 3 == 3) [(16, f32Unit (BitVec.ofNat 32 (le b 16 4)))]
  | 0x0E =>
    [orNone b 3 19, (24, decide (le b 20 4 ≤ le b 24 4)), (136, decide (leS b 128 8 ≤ leS b 136 8)), (88, decide (le b 88 8 ≤ le b 32 8)),
     (32, decide (50000 ≤ le b 32 8 * 65536)), (40, decide (2500000000 ≤ le b 40 8 * 65536)), (48, decide (2500000000 ≤ le b 48 8 * 65536)),
     (56, decide (125000000000000 ≤ le b 56 8 * 65536)), (64, decide (2500000000 ≤ le b 64 8 * 65536)), (72, decide (2500000000 ≤ le b 72 8 * 65536)),
     (80, decide (125000000000000 ≤ le b 80 8 * 65536)), (88, decide (50000 ≤ le b 88 8 * 65536)),
     (32, decide (32 ≤ byteAt b 0) || decide (le b 32 8 ≤ 12750000 * 4294967296))]
  | 0x10 => [orNone b 1 3]
  | 0x11 => [orNone b 3 7]
  | 0x12 => [(12, decide (le b 8 4 + 1000 ≤ le b 12 4)), (18, decide (leS b 16 2 < leS b 18 2)), (20, le b 20 4 == 0 || decide (50 ≤ le b 20 4 ∧ le b 20 4 ≤ 10000000))]
  | 0x14 =>
    [orNone b 27 7, (28, le b 28 4 % 16 == 0), (7, byteAt b 7 == 0 || (byteAt b 6).testBit 0),
     (2, byteAt b 1 != 2 || (decide (byteAt b 2 / 16 ≤ 8) && !(byteAt b 2).testBit 3))]
    ++ (List.range (min 64 (byteAt b 5))).map (fun i => (41 + 8 * i, byteAt b (41 + 8 * i) == 2 || byteAt b (41 + 8 * i) == 4))
  | 0x15 => (List.range (byteAt b 1)).map (fun i => (8 + 8 * i, logOvrOk b i))
  | 0x16 => [orNone b 4 7, orNone b 5 7]
  | 0x18 => [(3, decide (80 ≤ canNomDiv b))] ++ onlyIf ((byteAt b 2).testBit 0) [(4, decide (16 ≤ canDataDiv b ∧ canDataDiv b ≤ canNomDiv b))]
  | 0x19 => onlyIf (byteAt b 2 != 0)
    ([(3, !((byteAt b 3).testBit 2 && !(byteAt b 3).testBit 1)), (3, !((byteAt b 3).testBit 3 && (byteAt b 3).testBit 1)),
      (12, decide (byteAt b 12 ≤ 8) || [12, 16, 20, 24, 32, 48, 64].contains (byteAt b 12))]
     ++ (List.range (min 16 (byteAt b 15))).map (fun i => (24 + 8 * i, sigFits b (24 + 8 * i))))
  | 0x1A => onlyIf (byteAt b 0 == 1)
    ((List.range 4).map (fun i => (8 + 6 * i, byteAt b (8 + 6 * i) % 4 == 2 && !(List.range i).any (fun j => slice b (8 + 6 * j) 6 == slice b (8 + 6 * i) 6))))
  | 0x20 => [orNone b 4 3, orNone b 5 3] ++ onlyIf (byteAt b 1 == 1 || byteAt b 1 == 2) [(8, le b 8 4 % 250 == 0)]
  | 0x31 => [(3, byteAt b 3 % 16 == 0)]
  | _ => []

/-- Unit under which a record's violation is reported: its unit, its segment or port for a node, group or object, 0xF000 for a system record, else 0 (R434, R444). -/
def recUnit (rt : Nat) (b : Bytes) : Nat :=
  match rt with
  | 0x02 => uRace (byteAt b 0) | 0x05 => uCog (le b 0 2) | 0x07 => uSeg (byteAt b 0) | 0x08 => uSeg (byteAt b 0) | 0x0A => uSeg (byteAt b 0)
  | 0x09 => if byteAt b 0 = 0 then uSys else if byteAt b 0 ≤ 4 then uSeg (byteAt b 0) else uCan (byteAt b 0 - 5)
  | 0x0B => uLoop (le b 0 2) | 0x0C => uGroup (byteAt b 0) | 0x0D => uFt (byteAt b 2) | 0x0E => uAxis (byteAt b 0) | 0x0F => uSeq (byteAt b 0)
  | 0x12 => uCl (byteAt b 0) | 0x14 => uCap (byteAt b 0) | 0x17 => uLogic (byteAt b 0 * 256) | 0x18 => uCan (byteAt b 0) | 0x19 => uCan (byteAt b 0)
  | 0x22 => uSafe (le b 0 2)
  | 0x10 => uSys | 0x11 => uSys | 0x13 => uSys | 0x15 => uSys | 0x16 => uSys | 0x1A => uSys | 0x1B => uSys | 0x30 => uSys | 0x31 => uSys
  | _ => 0

/-- Violation of a field: AUX0 the RTYPE, AUX1 the field's offset, VALUE what it holds (R444). -/
def fieldViol (rt : Nat) (b : Bytes) (o n : Nat) : Viol := { unit := recUnit rt b, value := le b o n, aux0 := rt, aux1 := o }

/-- Every field of a record that Sluice refuses by its range. -/
def rangeViols (rt : Nat) (b : Bytes) : List Viol :=
  ((recFields rt b).filter (fun f => !f.ok b)).map (fun f => { fieldViol rt b f.o (min 8 f.n) with limit := wrapN 64 (if f.val b < f.lo then f.lo else f.hi) })
  ++ ((recConds rt b).filter (fun c => !c.2)).map (fun c => fieldViol rt b c.1 2)

end Sys2Proof.Machine
end

