-- ==== Sys2Proof/Machine/SluicePoints.lean ====
section
/-! DEFINITION. Sluice, budgets 0 and 1: the point map against the records that define its points (R28, R100, R540). -/

namespace Sys2Proof.Machine

/-- What a record or chapter fixes about the writer of a point. -/
inductive WSpec where
  | any                 -- nothing: a paged point
  | input               -- a field input
  | open'               -- one writer that the map names
  | unit (u : Nat)      -- the unit itself
  | task (u : Nat)      -- a logic task
  | module'             -- the module: a unit, whichever the map names
  deriving DecidableEq, Repr

/-- A point that a record or chapter implies (R540). -/
structure Imp where
  addr : Nat
  /-- Type, where fixed. -/
  typ : Option Nat
  cyclic : Bool := true
  /-- Owner group, where fixed. -/
  grp : Option Nat
  w : WSpec
  /-- The map must list it. -/
  must : Bool := true
  deriving DecidableEq, Repr

/-- Points at indices of a local node, all with one owner and writer: (index, type). -/
def impsAt (s : State) (node base : Nat) (grp : Option Nat) (w : WSpec) (l : List (Nat × Nat)) : List Imp :=
  l.map (fun e => { addr := ptAddr s 0 node (base + e.1), typ := some e.2, grp := grp, w := w })

def ints (l : List Nat) : List (Nat × Nat) := l.map (fun i => (i, 3))

/-- Node 4: races, domains, cogs, fast outputs, placement sets (R71, R87). -/
def impNode4 (s : State) : List Imp :=
  (s.recsOf 0x02).flatMap (fun b => impsAt s 4 (byteAt b 0 * 32) none (.unit (uRace (byteAt b 0)))
    [(0, 5), (2, 6), (4, 4), (5, 4), (6, 3), (8, 5), (10, 3), (11, 4), (12, 3), (13, 3)])
  ++ (s.recsOf 0x03).flatMap (fun b => impsAt s 4 (256 + byteAt b 0 * 16) none .module' [(0, 3), (1, 3), (2, 3), (3, 3), (4, 6), (6, 6), (8, 3)])
  ++ (s.recsOf 0x05).flatMap (fun b => impsAt s 4 (512 + le b 0 2 * 3) none (.unit (uCog (le b 0 2))) (ints [0, 1, 2]))
  ++ (s.recsOf 0x06).flatMap (fun b => impsAt s 4 (12800 + byteAt b 0 * 4) none .module' [(0, 0), (2, 3), (3, 3)]
      ++ impsAt s 4 (12800 + byteAt b 0 * 4) none .open' [(1, 0)])
  ++ ((List.range 64).filter (fun k => (s.recsOf 0x07).any (fun b => headSet b == k) || (s.recsOf 0x05).any (fun b => cogAction b == 6 && byteAt b 40 == k))).flatMap
      (fun k => impsAt s 4 (12864 + k * 4) none .module' (ints [0, 1, 2, 3]))

/-- Nodes 1 and 2: analogue and digital I/O (R241, R242). -/
def impIo (s : State) : List Imp :=
  (s.recsOf 0x0F).flatMap (fun b =>
    let n := byteAt b 0
    let g := some (byteAt b 7)
    ((List.range (seqN b)).filter (fun e => entFormat b e != 2)).flatMap (fun e => impsAt s 1 (n * 32 + e) g (.unit (uSeq n)) [(0, if entFormat b e = 0 then 2 else 3)])
    ++ impsAt s 1 (128 + n * 2) g (.unit (uSeq n)) (ints [0, 1]))
  ++ (s.recsOf 0x12).flatMap (fun b =>
    let n := byteAt b 0
    let g := some (byteAt b 2)
    impsAt s 1 (256 + n * 8) g (if byteAt b 1 = 3 then .open' else .unit (uCl n)) [(0, 2)]
    ++ impsAt s 1 (256 + n * 8) g (.unit (uCl n)) [(1, 3), (2, 3), (3, 3), (4, 3), (5, 2), (6, 3)])
  ++ (s.recsOf 0x11).flatMap (fun b => impsAt s 1 (512 + byteAt b 0) (some (byteAt b 4)) .open' [(0, 2)])
  ++ impsAt s 1 544 (some 0) .module' [(0, 0), (2, 3)] ++ impsAt s 1 544 (some 0) .open' [(1, 3)]
  ++ (s.recsOf 0x13).flatMap (fun b =>
    impsAt s 2 (byteAt b 0 * 4) (some (byteAt b 2)) .module' [(0, 0), (2, 3), (3, 3)] ++ impsAt s 2 (byteAt b 0 * 4) (some (byteAt b 2)) .open' [(1, 0)])

/-- Nodes 16 and 17: loops and axes (R158, R212). -/
def impMotion (s : State) : List Imp :=
  (s.recsOf 0x0B).flatMap (fun b =>
    let l := le b 0 2
    let g := some (byteAt b 10)
    impsAt s 16 (l * 8) g .open' [(0, 2), (1, 2), (2, 3)] ++ impsAt s 16 (l * 8) g (.unit (uLoop l)) [(3, 2), (4, 2), (5, 2), (6, 2), (7, 3)])
  ++ (s.recsOf 0x0E).flatMap (fun b =>
    let x := byteAt b 0
    let g := some (byteAt b 1)
    impsAt s 17 (x * 256) g (.unit (uAxis x)) ([(0, 5), (4, 5), (6, 4), (7, 4)] ++ ints [8, 9, 10, 11, 12, 13, 14]
      ++ onlyIf (byteAt b 3 != 255 || decide (32 ≤ x)) [(2, 5)])
    ++ onlyIf (axFlag b 2) (impsAt s 17 (x * 256) g .open' [(15, 5), (17, 3)]))

/-- Nodes 18 and 19: capture, Tailrace, the log, CAN (R275, R346). -/
def impRec (s : State) : List Imp :=
  (s.recsOf 0x14).flatMap (fun b => impsAt s 18 (byteAt b 0 * 8) (some 0) (.unit (uCap (byteAt b 0))) (ints [0, 1, 2, 3]))
  ++ (s.recsOf 0x16).flatMap (fun b => impsAt s 18 (128 + byteAt b 0 * 8) (some 0) .module' (ints [0, 1, 2, 3, 4]))
  ++ impsAt s 18 256 (some 0) .module' [(0, 3), (1, 3), (2, 3), (3, 3), (4, 5), (6, 3)]
  ++ (s.recsOf 0x19).flatMap (fun b => impsAt s 19 (byteAt b 0 * 256 + byteAt b 1) (some 0) .module' (ints [0]))
  ++ (s.recsOf 0x18).flatMap (fun b => impsAt s 19 (1024 + byteAt b 0 * 8) (some 0) .module' (ints [0, 1, 2, 3, 4, 5, 6, 7]))

/-- Nodes 0 and 3: the system and the safety mirror (R375, R396, R476). -/
def impSys (s : State) : List Imp :=
  impsAt s 0 0 (some 0) .module' (ints ([0, 1, 2, 3, 4, 5, 6, 7, 8, 9, 10, 11, 12, 16, 17, 18, 19, 20, 21, 22, 23, 256, 257, 258, 259]
    ++ (s.recsOf 0x09).flatMap (fun b => [32 + byteAt b 0 * 8 + byteAt b 1, 104 + byteAt b 0 * 8 + byteAt b 1])))
  ++ impsAt s 3 0 (some 0) .module' ((List.range 24).map (fun i => (512 + i, 0)) ++ ints [576, 577])
  ++ onlyIf s.sys.variantS (impsAt s 3 0 (some 0) .module' (ints ((List.range 8).map (560 + ·) ++ (List.range 4).map (568 + ·))))
  ++ (sfAll s.safe.recs 0x22).flatMap (fun b => impsAt s 3 (fnNo b * 4) (some 0) .module' [(0, 3), (1, 3), (2, 4), (3, 3)])
  ++ (sfAll s.safe.recs 0x20).flatMap (fun b => impsAt s 3 (544 + byteAt b 0) (some 0) .module' (ints [0]))
  ++ (sfAll s.safe.recs 0x23).flatMap (fun b => impsAt s 3 (1024 + le b 0 2 * 2) (some 0) .module' (ints [0, 1]))

/-- Points of the mirror that a safety section not yet accepted would define: the map may list them (log 40). -/
def impSpare (s : State) : List Imp :=
  ((List.range 128).flatMap (fun f => impsAt s 3 (f * 4) (some 0) .module' [(0, 3), (1, 3), (2, 4), (3, 3)])
  ++ (List.range 12).flatMap (fun p => impsAt s 3 (544 + p) (some 0) .module' (ints [0]))
  ++ (List.range 12).flatMap (fun p => impsAt s 3 (560 + p) (some 0) .module' (ints [0]))
  ++ (List.range 256).flatMap (fun c => impsAt s 3 (1024 + c * 2) (some 0) .module' (ints [0, 1]))).map (fun i => { i with must := false })

/-- Nodes 8 to 15: status and variables of the logic engines (R294, R307). -/
def impLogic (s : State) : List Imp :=
  (List.range 8).flatMap (fun n =>
    let img := s.cfg.logic.getD n []
    onlyIf (!img.isEmpty || (s.rec? 0x17 n).isSome) (impsAt s (8 + n) 16256 (some 0) (.unit (uEngine n)) (ints [0, 1, 2, 3, 4, 5, 6]))
    ++ (varPoints s.sys.modNo n img).map (fun p => { addr := p.addr, typ := some p.typ, grp := some p.group, w := .task p.wunit }))

/-- Every local point (R21, R540). -/
def impLocal (s : State) : List Imp := impSys s ++ impIo s ++ impNode4 s ++ impLogic s ++ impMotion s ++ impRec s

/-- Exchange blocks of a node with their kinds, those that a head node implies included (R88, R105): KIND, GROUP, FIRST, SLOTS. -/
def mapBlocks (b : Bytes) : List (Nat × Nat × Nat × Nat) :=
  if nodeHead b then [(4, 0, 0, 12288), (3, 0, 12288, 4096)]
  else (List.range 8).filterMap (fun i =>
    let o := 48 + 8 * i
    if byteAt b (o + 1) = 0 then none else some (byteAt b (o + 1), byteAt b o, le b (o + 2) 2, le b (o + 4) 2))

/-- The block of a node that holds an index. -/
def blockAt (b : Bytes) (i : Nat) : Option (Nat × Nat × Nat × Nat) := (mapBlocks b).find? (fun k => decide (k.2.2.1 ≤ i ∧ i < k.2.2.1 + k.2.2.2))

/-- Signals that a CAN object maps: (point index, entry) (R332). -/
def objPoints (b : Bytes) : List (Nat × Nat) := if byteAt b 2 = 0 then [] else (List.range (min 16 (byteAt b 15))).map (fun g => (le b (28 + 8 * g) 2, g))

/-- What the records say of an address outside the local segment: nothing if no record defines it. -/
def impField (s : State) (a : Nat) : Option Imp :=
  let seg := bits a 27 24
  let node := bits a 23 14
  let i := a % 16384
  if 1 ≤ seg ∧ seg ≤ 4 then
    match s.nodeRec? seg node with
    | none => none
    | some b => match blockAt b i with
      | none => none
      | some k => some { addr := a, typ := if nodeHead b then some (if i < 8192 then 2 else 3) else none, cyclic := decide (k.1 ≤ 2), grp := some k.2.1, w := if k.1 = 1 then .input else if k.1 = 2 then .open' else .any }
  else if 5 ≤ seg ∧ seg ≤ 8 then
    match (s.recsOf 0x19).find? (fun b => byteAt b 0 + 5 == seg && le b 16 2 == node && (objPoints b).any (fun e => e.1 == i)) with
    | none => none
    | some b => some { addr := a, typ := none, grp := some (byteAt b 14), w := if coDir b = 1 then .input else .open' }
  else none

/-- The writer of a map entry is as fixed. -/
def WSpec.ok (w : WSpec) (p : PointDef) : Bool := match w with
  | .any => true
  | .input => p.writer == 0
  | .open' => decide (1 ≤ p.writer ∧ p.writer ≤ 3)
  | .unit u => p.writer == 2 && p.wunit == u
  | .task u => p.writer == 1 && p.wunit == u
  | .module' => p.writer == 2

/-- A map entry agrees with what the records fix (R540). -/
def Imp.agrees (i : Imp) (p : PointDef) : Bool :=
  (i.typ.isNone || i.typ == some p.typ) && i.cyclic == p.cyclic && (i.grp.isNone || i.grp == some p.group) && i.w.ok p

/-- Unit under which a point's violation is reported. -/
def pointUnit (a : Nat) (w : WSpec) : Nat := match w with
  | .unit u => u
  | _ => let seg := bits a 27 24
    if 1 ≤ seg ∧ seg ≤ 4 then uSeg seg else if 5 ≤ seg ∧ seg ≤ 8 then uCan (seg - 5) else uSys

def pointViol (a : Nat) (w : WSpec) (v : Nat) : Viol := { unit := pointUnit a w, item := a, value := v }

/-- An entry by itself: type, place, owner, slots, writer (R19, R24, R25, R27, R28). -/
def mapEntryOk (s : State) (p : PointDef) : Bool :=
  let two := typeSlots p.typ = 2
  decide (p.addr / 268435456 = s.sys.modNo) && decide (p.typ ≤ 6)
  && (!two || p.addr % 2 == 0 || (bits p.addr 27 14 == 17 && p.addr % 256 == 15))
  && decide (p.rslot + typeSlots p.typ ≤ 33554432)
  && (if p.cyclic then decide (p.islot + typeSlots p.typ ≤ 1048576) && (s.grpRec? (bits p.addr 27 24) p.group).isSome else p.group == 0 && p.islot == 0)
  && (match p.writer with
      | 0 => true
      | 1 => decide (p.wunit / 4096 = 7) && (lpTask? (s.cfg.logic.getD (p.wunit % 4096 / 256) []) (p.wunit % 256)).isSome
      | 2 => unitOk p.wunit
      | 3 => true
      | _ => false)
  && valueOk p.typ p.init.toNat

/-- Entries whose image or retained slots another entry takes as well. -/
def slotClash (p q : PointDef) : Bool :=
  let ovr := fun (x y : Nat) => decide (x < y + typeSlots q.typ ∧ y < x + typeSlots p.typ)
  ovr p.rslot q.rslot || (p.cyclic && q.cyclic && ovr p.islot q.islot) || ovr p.addr q.addr

def slotClashes : List PointDef → List PointDef
  | [] => []
  | p :: ps => (if ps.any (slotClash p) then [p] else []) ++ slotClashes ps

/-- Slots of the node blocks and of the CAN signals: each must be a slot of a defined point. -/
def fieldSlots (s : State) : List Nat :=
  (s.recsOf 0x0A).flatMap (fun b => (mapBlocks b).flatMap (fun k => (List.range k.2.2.2).map (fun j => nodeSlot s b (k.2.2.1 + j))))
  ++ (s.recsOf 0x19).flatMap (fun b => (objPoints b).map (fun e => ptAddr s (5 + byteAt b 0) (le b 16 2) e.1))

/-- Violations of the point map (R28, R540). -/
def mapViols (s : State) : List Viol :=
  let imps := impLocal s
  let spare := impSpare s
  let pts := s.cfg.points.map (·.2)
  imps.flatMap (fun i => match s.cfg.points.get? i.addr with
    | none => if i.must then [pointViol i.addr i.w 0] else []
    | some p => if i.agrees p then [] else [pointViol i.addr i.w p.wunit])
  ++ pts.flatMap (fun p =>
    if !mapEntryOk s p then [pointViol p.addr .any p.wunit]
    else if bits p.addr 27 24 = 0 then
      if (imps.any (fun i => i.addr == p.addr)) || (spare.any (fun i => i.addr == p.addr && i.agrees p)) then [] else [pointViol p.addr .any p.wunit]
    else match impField s p.addr with
      | none => [pointViol p.addr .any p.wunit]
      | some i =>
        if i.agrees p && (typeSlots p.typ = 1 || (impField s (p.addr + 1)).any (fun j => j.agrees p)) then [] else [pointViol p.addr i.w p.wunit])
  ++ s.cfg.dups.map (fun a => pointViol a .any 0)
  ++ (slotClashes pts).map (fun p => pointViol p.addr .any p.islot)
  ++ ((fieldSlots s).filter (fun a => (s.pointOf a).isNone)).map (fun a => pointViol a .any 0)

/-! Budget 1 (R14, R23, R100). -/

/-- Image slots owned by a group. -/
def groupSlots (s : State) (seg grp : Nat) : Nat :=
  s.cfg.points.foldl (fun n e => n + (if e.2.cyclic && bits e.1 27 24 == seg && e.2.group == grp then typeSlots e.2.typ else 0)) 0

/-- Every configured group: segment, group, period in ns, slots. -/
def groupList (s : State) : List (Nat × Nat × Nat × Nat) :=
  (s.recsOf 0x09).map (fun b => (byteAt b 0, byteAt b 1, gPeriod b, groupSlots s (byteAt b 0) (byteAt b 1)))

/-- The greatest of a list under a measure, with its figure. -/
def largest {α : Type} (f : α → Nat) : List α → Option α
  | [] => none
  | x :: xs => match largest f xs with
    | none => some x
    | some y => if f y ≤ f x then some x else some y

/-- Unit of a group. -/
def segUnit (seg : Nat) : Nat := if seg = 0 then uSys else if seg ≤ 4 then uSeg seg else uCan (seg - 5)

/-- The load of one budget (R444): largest unit, measure, figure, limit. -/
structure Load where
  unit : Nat := 0
  measure : Nat := 0
  value : Nat := 0
  limit : Nat := 0
  deriving DecidableEq, Repr

/-- The point-rate sum, active points and image slots. -/
def budget1 (s : State) : List Viol × Load :=
  let gs := groupList s
  let share := fun (g : Nat × Nat × Nat × Nat) => g.2.2.2 * 1000000 * 128 / g.2.2.1
  let sum : Nat := gs.foldl (fun n g => n + share g) 0
  let value := (sum + 127) / 128
  let slots : Nat := s.cfg.points.foldl (fun n e => n + (if e.2.cyclic then typeSlots e.2.typ else 0)) 0
  let active : Nat := s.cfg.points.foldl (fun n e => n + typeSlots e.2.typ) 0
  let big := (largest share gs).getD (0, 0, 1, 0)
  ((if 1048576 * 128 < sum then [{ unit := segUnit big.1, measure := 5, value := value, limit := 1048576, aux0 := big.2.1, aux1 := (share big + 127) / 128 }] else [])
   ++ (if 33554432 < active then [{ measure := 5, value := active, limit := 33554432 }] else [])
   ++ (if 1048576 < slots then [{ measure := 5, value := slots, limit := 1048576 }] else []),
   { unit := segUnit big.1, measure := 5, value := value, limit := 1048576 })

end Sys2Proof.Machine
end

