-- ==== Sys2Proof/Machine/SluiceLogic.lean ====
section
/-! DEFINITION. Sluice, budgets 0 and 2: logic programs (R281, R282, R284, R286, R289 to R294, R456). -/

namespace Sys2Proof.Machine

/-! Operands (R283 to R290). -/

/-- How an opcode uses bits [23:0]; none for a reserved opcode. -/
inductive LeForm where
  | plain | bitRead | bitStore | edge | timer | counter | word | wordStore | imm | jump | call | flag
  deriving DecidableEq, Repr

def leForm (op : Nat) : Option LeForm :=
  if op = 0 ∨ (0x09 ≤ op ∧ op ≤ 0x0E) ∨ op = 0x3D ∨ op = 0x3E ∨ op = 0x54 ∨ op = 0x55 ∨ op = 0x64 ∨ op = 0x65 then some .plain
  else if 1 ≤ op ∧ op ≤ 8 then some .bitRead
  else if 0x10 ≤ op ∧ op ≤ 0x13 then some .bitStore
  else if op = 0x14 ∨ op = 0x15 then some .edge
  else if 0x20 ≤ op ∧ op ≤ 0x24 then some .timer
  else if 0x28 ≤ op ∧ op ≤ 0x2C then some .counter
  else if op = 0x31 ∨ op = 0x32 then some .wordStore
  else if op = 0x33 ∨ op = 0x34 ∨ op = 0x67 then some .imm
  else if 0x60 ≤ op ∧ op ≤ 0x62 then some .jump
  else if op = 0x63 then some .call
  else if op = 0x66 then some .flag
  else if op = 0x30 ∨ (0x38 ≤ op ∧ op ≤ 0x3C) ∨ (0x40 ≤ op ∧ op ≤ 0x45) ∨ (0x48 ≤ op ∧ op ≤ 0x4D) ∨ (0x50 ≤ op ∧ op ≤ 0x53) ∨ op = 0x56 ∨ op = 0x57 then some .word
  else none

/-- Type of a point or variable operand that is declared. -/
def leOperTyp (img : Bytes) (o : Nat) : Option Nat :=
  if oSpace o = 0 then (if oIndex o < le img 12 4 then some (leRefTyp img (oIndex o)) else none)
  else if oSpace o = 1 then (leVar? img (oIndex o)).map (fun d => byteAt d 2)
  else none

def leTimerThere (img : Bytes) (i : Nat) : Bool := (List.range (le img 20 2)).any (fun j => le (leTimerDecl img j) 0 2 == i)
def leCounterThere (img : Bytes) (i : Nat) : Bool := (List.range (le img 22 2)).any (fun j => le (leCounterDecl img j) 0 2 == i)

/-- A point or variable as a bit operand: BIT 0 for BOOL, none for a two-slot point (R284). -/
def leBitOk (img : Bytes) (o : Nat) : Bool := match leOperTyp img o with
  | some t => typeSlots t == 1 && (t != 0 || oBit o == 0)
  | none => false

/-- As a word operand: BIT selects the slot of a two-slot point, else 0 (R284). -/
def leWordOk (img : Bytes) (o : Nat) : Bool := match leOperTyp img o with
  | some t => decide (oBit o < typeSlots t)
  | none => false

/-- The word is a legal instruction of the image (R284, R289, R290). -/
def leWordLegal (img : Bytes) (w : Nat) : Bool :=
  let o := w % 16777216
  let sp := oSpace o
  let i := oIndex o
  match leForm (w / 16777216) with
  | none => false
  | some .plain => o == 0
  | some .bitRead => match sp with
    | 0 => leBitOk img o
    | 1 => leBitOk img o
    | 2 => oBit o == 0 && leTimerThere img i
    | 3 => oBit o == 0 && leCounterThere img i
    | 4 => decide (i < 256)
    | 6 => oBit o == 0 && decide (i < 4)
    | _ => false
  | some .bitStore => match sp with
    | 0 => leBitOk img o && (byteAt img (lpRefs img + 8 * i + 5)).testBit 0
    | 1 => leBitOk img o
    | 4 => decide (i < 256)
    | _ => false
  | some .edge => sp == 5 && oBit o == 0 && decide (i < 4096)
  | some .timer => sp == 2 && oBit o == 0 && leTimerThere img i
  | some .counter => sp == 3 && oBit o == 0 && leCounterThere img i
  | some .word => match sp with
    | 0 => leWordOk img o
    | 1 => leWordOk img o
    | 2 => oBit o == 0 && leTimerThere img i
    | 3 => oBit o == 0 && leCounterThere img i
    | 4 => oBit o == 0 && decide (i < 256)
    | _ => false
  | some .wordStore => match sp with
    | 0 => leWordOk img o && (byteAt img (lpRefs img + 8 * i + 5)).testBit 0
    | 1 => leWordOk img o
    | 4 => oBit o == 0 && decide (i < 256)
    | _ => false
  | some .imm => decide (o < 65536)
  | some .jump => decide (1 ≤ o)
  | some .call => decide (o < le img 16 2)
  | some .flag => decide (o < 65536) && !o.testBit 5

/-! Blocks (R286, R289, R290). -/

def leOp (img : Bytes) (pc : Nat) : Nat := leWord img pc / 16777216
def leOpnd (img : Bytes) (pc : Nat) : Nat := leWord img pc % 16777216
def leBlockLen (img : Bytes) (blk : Nat) : Nat := le img (lpBlocks img + 8 * blk + 4) 4
def leBlockPcs (img : Bytes) (blk : Nat) : List Nat := (List.range (leBlockLen img blk)).map (leBlock img blk + ·)

/-- Branch depth where an instruction is reached: what falls through and what jumps there; none if two differ (R286). -/
def meetDepth (ds : List Nat) : Option (Option Nat) := match ds with
  | [] => some none
  | d :: r => if r.all (· == d) then some (some d) else none

/-- Depth analysis of a block from an address on: the first address that breaks R286 or R289, or lets a path run out of the block (R290).
`ends` is the opcode that ends the block: END of an entry block, RET of a called one. -/
def leDepths (img : Bytes) (last ends : Nat) : Nat → Nat → Option Nat → List (Nat × Nat) → Option Nat
  | 0, pc, fall, jumps => if fall.isSome ∨ jumps.any (fun j => pc ≤ j.1) then some (pc - 1) else none
  | n + 1, pc, fall, jumps =>
    match meetDepth (fall.toList ++ (jumps.filter (fun j => j.1 == pc)).map (·.2)) with
    | none => some pc
    | some none => leDepths img last ends n (pc + 1) none jumps
    | some (some d) =>
      let op := leOp img pc
      let dst := pc + leOpnd img pc
      if op = 0x0B ∨ op = 0x0C ∨ op = 0x0D then (if 16 ≤ d then some pc else leDepths img last ends n (pc + 1) (some (d + 1)) jumps)
      else if op = 0x0E then (if d = 0 then some pc else leDepths img last ends n (pc + 1) (some (d - 1)) jumps)
      else if op = 0x60 ∨ op = 0x61 ∨ op = 0x62 then
        (if last < dst then some pc else leDepths img last ends n (pc + 1) (if op = 0x60 then none else some d) ((dst, d) :: jumps))
      else if op = 0x63 then (if d ≠ 0 then some pc else leDepths img last ends n (pc + 1) (some d) jumps)
      else if op = 0x64 ∨ op = 0x65 then (if d ≠ 0 ∨ op ≠ ends then some pc else leDepths img last ends n (pc + 1) none jumps)
      else leDepths img last ends n (pc + 1) (some d) jumps

/-- Blocks a block calls. -/
def leCallees (img : Bytes) (blk : Nat) : List Nat := ((leBlockPcs img blk).filter (fun pc => leOp img pc == 0x63)).map (leOpnd img)

/-- Nesting depth of the calls from a block, or none where it passes the fuel: a cycle or more than 8 (R289). -/
def leNest (img : Bytes) : Nat → Nat → Option Nat
  | 0, _ => none
  | f + 1, blk => ((leCallees img blk).foldl (fun (a : Option Nat) c => match a, leNest img f c with
    | some x, some y => some (max x (y + 1))
    | _, _ => none) (some 0))

/-- Blocks that a block reaches, itself first. -/
def leReach (img : Bytes) : Nat → Nat → List Nat
  | 0, blk => [blk]
  | f + 1, blk => blk :: (leCallees img blk).flatMap (leReach img f)

/-- The addresses of a task's code: its entry block and every block it calls. -/
def leTaskPcs (img : Bytes) (d : Bytes) : List Nat := ((leReach img 8 (le d 8 2)).eraseDups).flatMap (leBlockPcs img)

/-- Slots a task can write (R281, R291). -/
def leTaskSlots (m n : Nat) (img : Bytes) (d : Bytes) : List Nat :=
  (((leTaskPcs img d).filter (fun pc => leStores (leOp img pc))).filterMap (fun pc => (lePoint m n img (leOpnd img pc)).map (·.1))).eraseDups

/-- Longest path from an address, in engine cycles, with the slots the run has stored and the return addresses (R291). -/
def lePath (m n : Nat) (img : Bytes) : Nat → Nat → List Nat → List Nat → Nat
  | 0, _, _, _ => 0
  | f + 1, pc, wr, calls =>
    let op := leOp img pc
    let o := leOpnd img pc
    let slot := (lePoint m n img o).map (·.1)
    let c := leCost op o (slot.any (fun a => wr.contains a))
    let wr1 := if op = 0x10 ∨ op = 0x11 ∨ op = 0x31 then wr ++ slot.toList else wr
    if op = 0x65 then c
    else if op = 0x64 then (match calls with
      | [] => c
      | r :: rs => c + lePath m n img f r wr1 rs)
    else if op = 0x63 then c + lePath m n img f (leBlock img o) wr1 ((pc + 1) :: calls)
    else if op = 0x60 then c + lePath m n img f (pc + o) wr1 calls
    else if op = 0x61 ∨ op = 0x62 then c + max (lePath m n img f (pc + o) wr1 calls) (lePath m n img f (pc + 1) wr1 calls)
    else c + lePath m n img f (pc + 1) wr1 calls

/-- A task's worst case in engine cycles (R291). The fuel is above the length of any path of a program that R290 admits. -/
def leWorst (m n : Nat) (img : Bytes) (d : Bytes) : Nat :=
  lePath m n img 1099511627776 (leBlock img (le d 8 2)) [] [] + 40 + 20 * (leTaskSlots m n img d).length

/-! Checks of one image under budget 0. ITEM is the instruction's address, or the point's. -/

def leViol (u item value : Nat) : Viol := { unit := u, item := item, value := value }

/-- Violations of the tables of an image (R294, R447, R456). -/
def leTableViols (s : State) (n : Nat) (img : Bytes) : List Viol :=
  let u := uEngine n
  let ts := leTasks img
  let tv := ts.filter (fun d =>
    !(decide (1 ≤ byteAt d 0) && decide (byteAt d 1 ≤ 1) && decide (byteAt d 2 ≤ 63) && decide (byteAt d 3 ≤ 8) && decide (byteAt d 4 ≤ 7) && byteAt d 5 == 0
      && (s.grpRec? (byteAt d 3) (byteAt d 4)).isSome && decide (le d 8 2 < le img 16 2) && le d 10 2 == 0
      && (if leEvent d then decide (128 ≤ leHop d ∧ leHop d ≤ 1023) && decide (10 ≤ le d 12 4 ∧ le d 12 4 ≤ 10000000)
            && (match s.rec? 0x30 (leHop d) with
                | some b => byteAt b 2 == 2 && byteAt b 7 == n && le b 40 2 == uTask n (byteAt d 0)
                | none => false)
          else true)
      && decide ((ts.filter (fun e => byteAt e 0 == byteAt d 0)).length = 1)))
  let bv := (List.range (le img 16 2)).filter (fun i => leBlockLen img i == 0 || decide (le img 8 4 < leBlock img i + leBlockLen img i))
  let rv := (List.range (le img 12 4)).filter (fun i =>
    let o := lpRefs img + 8 * i
    match s.pointOf (leRefAddr img i) with
    | some p => !(p.addr == leRefAddr img i && p.typ == leRefTyp img i && p.cyclic && decide (byteAt img (o + 5) ≤ 1) && le img (o + 6) 2 == 0
        && (byteAt img (o + 5) == 0 || (p.writer == 1 && p.wunit / 256 == uEngine n / 256)))
    | none => true)
  let decls := fun (k : Nat) (f : Nat → Bytes) (ok : Bytes → Bool) => (List.range k).filter (fun i =>
    !ok (f i) || (List.range i).any (fun j => le (f j) 0 2 == le (f i) 0 2))
  let timers := decls (le img 20 2) (leTimerDecl img) (fun d => decide (le d 0 2 < 4096) && decide (byteAt d 2 ≤ 2) && decide (byteAt d 3 ≤ 3))
  let counters := decls (le img 22 2) (leCounterDecl img) (fun d => decide (le d 0 2 < 4096) && le d 2 2 == 0)
  let vars := decls (le img 24 4) (leVarDecl img) (fun d =>
    decide (le d 0 2 + typeSlots (byteAt d 2) ≤ 16256) && decide (byteAt d 2 ≤ 6) && (typeSlots (byteAt d 2) == 1 || le d 0 2 % 2 == 0)
    && decide (byteAt d 3 ≤ 7) && (lpTask? img (byteAt d 4)).isSome && le d 5 3 == 0 && valueOk (byteAt d 2) (le d 8 8))
  tv.map (fun d => leViol (uTask n (byteAt d 0)) 0 (leHop d)) ++ bv.map (fun i => leViol u (leBlock img i) (leBlockLen img i))
  ++ rv.map (fun i => leViol u (leRefAddr img i) (leRefTyp img i)) ++ timers.map (fun i => leViol u 0 (le (leTimerDecl img i) 0 2))
  ++ counters.map (fun i => leViol u 0 (le (leCounterDecl img i) 0 2))
  ++ vars.map (fun i => leViol u (s.sys.modNo * 0x10000000 + (8 + n) * 0x4000 + le (leVarDecl img i) 0 2) (byteAt (leVarDecl img i) 2))

/-- Violations of the code of an image whose tables stand (R281, R282, R286, R289, R290). -/
def leCodeViols (s : State) (n : Nat) (img : Bytes) : List Viol :=
  let u := uEngine n
  let m := s.sys.modNo
  let blocks := List.range (le img 16 2)
  let ts := leTasks img
  let entries := ts.map (fun d => le d 8 2)
  let called := blocks.flatMap (leCallees img)
  let words := (List.range (le img 8 4)).filter (fun pc => !leWordLegal img (leWord img pc))
  if !words.isEmpty then words.map (fun pc => leViol u pc (leWord img pc))
  else
    let flow := (blocks.filter (fun b => entries.contains b || called.contains b)).filterMap (fun b =>
      let first := leBlock img b
      let len := leBlockLen img b
      if entries.contains b ∧ called.contains b then some first
      else leDepths img (first + len - 1) (if entries.contains b then 0x65 else 0x64) len first (some 0) [])
    let deep := (ts.filter (fun d => (leNest img 9 (le d 8 2)).isNone)).map (fun d => leBlock img (le d 8 2))
    if !(flow ++ deep).isEmpty then (flow ++ deep).map (fun pc => leViol u pc (leWord img pc))
    else
      let stores := ts.flatMap (fun d => ((leTaskPcs img d).filter (fun pc => leStores (leOp img pc) && decide (oSpace (leOpnd img pc) ≤ 1))).filterMap (fun pc =>
        let a := ((lePoint m n img (leOpnd img pc)).map (·.1)).getD 0
        match s.pointOf a with
        | some p => if p.cyclic && p.writer == 1 && p.wunit == uTask n (byteAt d 0) && p.gkey == leGroup d then none else some (leViol u pc a)
        | none => some (leViol u pc a)))
      let uses := fun (d : Bytes) => ((leTaskPcs img d).filter (fun pc =>
        let sp := oSpace (leOpnd img pc)
        decide (leForm (leOp img pc) ≠ some .imm ∧ leForm (leOp img pc) ≠ some .jump ∧ leForm (leOp img pc) ≠ some .call ∧ leForm (leOp img pc) ≠ some .flag)
          && (sp == 2 || sp == 3 || sp == 5))).map (fun pc => (leOpnd img pc / 2097152, oIndex (leOpnd img pc), pc))
      let shared := ts.flatMap (fun d => (uses d).filter (fun x => ts.any (fun e => byteAt e 0 != byteAt d 0 && (uses e).any (fun y => y.1 == x.1 && y.2.1 == x.2.1))))
      stores ++ shared.map (fun x => leViol u x.2.2 x.2.1)

/-- Violations of one program image under budget 0. -/
def leViols (s : State) (n : Nat) (img : Bytes) : List Viol :=
  if img.isEmpty then []
  else
    let t := leTableViols s n img
    if t.isEmpty then leCodeViols s n img else t

/-! Schedulability (R292). -/

/-- A task for the test: number, priority, priority towards others, worst case, period and deadline, the last three in quarters of a ns. -/
structure LeSched where
  task : Nat
  prio : Nat
  towards : Nat
  c : Nat
  p : Nat
  d : Nat
  deriving DecidableEq, Repr

def leSched (s : State) (n : Nat) (img : Bytes) : List LeSched :=
  (leTasks img).map (fun d =>
    let g := s.grpRec (byteAt d 3) (byteAt d 4)
    let gap := le d 12 4 * 4000
    { task := byteAt d 0, prio := byteAt d 2
      towards := if leEvent d then max (byteAt d 2) (byteAt (s.rcd 0x30 (leHop d)) 4) else byteAt d 2
      c := 5 * leWorst s.sys.modNo n img d
      p := if leEvent d then gap else 4 * gPeriod g
      d := if leEvent d then gap else 4 * gCommitAt g })

def divUp (a b : Nat) : Nat := (a + b - 1) / b

/-- Sum of c / p as a fraction. -/
def loadSum (l : List (Nat × Nat)) : Nat × Nat := l.foldl (fun a x => (a.1 * x.2 + x.1 * a.2, a.2 * x.2)) (0, 1)

/-- Response bound of a task: blocking, its own worst case, and what runs before it. -/
def leResponse (l : List LeSched) (i : LeSched) : Nat :=
  (l.filter (fun j => j.task != i.task && decide (j.towards < i.prio))).foldl (fun a j => max a j.c) 0 + i.c
  + (l.filter (fun j => j.task != i.task && decide (i.prio ≤ j.towards))).foldl (fun a j => a + divUp i.d j.p * j.c) 0

/-- Both tests of R292 on one engine, and its load in 1/10,000. -/
def leBudget (s : State) (n : Nat) (img : Bytes) : List Viol × Nat :=
  let l := leSched s n img
  let q := loadSum (l.map (fun i => (i.c, i.p)))
  let load := divUp (q.1 * 10000) q.2
  ((if q.2 * 85 < q.1 * 100 then [({ unit := uEngine n, test := 1, measure := 6, value := load, limit := 8500 } : Viol)] else [])
   ++ (l.filter (fun i => i.d < leResponse l i)).map (fun i =>
        { unit := uTask n i.task, test := 2, measure := 2, value := divUp (leResponse l i) 4, limit := i.d / 4 }), load)

end Sys2Proof.Machine
end

