-- ==== Sys2Proof/Machine/SluiceRefs.lean ====
section
/-! DEFINITION. Sluice, budget 0: what records say of one another, and the refusals that each record's chapter states (R441). -/

namespace Sys2Proof.Machine

/-- Violations of one record: the fields, by offset, whose condition does not hold. -/
def condViols (rt : Nat) (b : Bytes) (l : List (Nat × Bool)) : List Viol := (l.filter (fun c => !c.2)).map (fun c => fieldViol rt b c.1 2)

/-- Bodies of a type with their violations. -/
def eachRec (s : State) (rt : Nat) (f : Bytes → List (Nat × Bool)) : List Viol := (s.recsOf rt).flatMap (fun b => condViols rt b (f b))

/-- An encoder input with a record whose MODE is not off. -/
def State.encThere (s : State) (e : Nat) : Bool := (s.rec? 0x01 e).any (fun b => encMode b != 0)
def State.there (s : State) (rt key : Nat) : Bool := (s.rec? rt key).isSome

/-- A cyclic point at its own address. -/
def State.cyclicAt (s : State) (a : Nat) : Option PointDef := match s.cfg.points.get? a with
  | some p => if p.cyclic then some p else none
  | none => none

/-! Races and cogs. -/

/-- Derived parents of a race stand to a depth of 3, without a cycle (R43). -/
def State.derivedOk (s : State) : Nat → Nat → Bool
  | 0, _ => false
  | f + 1, n => match s.rec? 0x02 n with
    | none => false
    | some b => raceSource b != 1 || s.derivedOk f (raceSrc b)

/-- Races (R43, R46, R47). -/
def raceViols (old s : State) : List Viol := eachRec s 0x02 (fun b =>
  let n := byteAt b 0
  let kept := match old.rec? 0x02 n with
    | none => true
    | some a => (old.race n).st == .idle || (slice a 1 3 == slice b 1 3 && slice a 16 8 == slice b 16 8)
  [(2, raceSource b != 0 || s.encThere (raceSrc b)), (2, raceSource b != 1 || s.derivedOk 4 n), (2, raceSource b != 3 || raceSrc b / 16 != s.sys.modNo),
   (3, raceSource b != 3 || (old.net.srcDoms.get? (raceSrc b)).all (· == raceDom b)),
   (2, raceSource b != 0 || (s.recsOf 0x02).all (fun c => byteAt c 0 ≥ n || raceSource c != 0 || raceSrc c != raceSrc b)), (1, kept)])

/-- Cogs (R73, R76, R83, R217). -/
def cogViols (s : State) : List Viol := eachRec s 0x05 (fun b =>
  let a := cogArg b 0 1
  [(2, s.there 0x02 (cogRace b)), (36, decide (-(((le (s.raceRec (cogRace b)) 6 2 : Nat) : Int) * 1000 - 50000) ≤ cogOffset b))]
  ++ match cogAction b with
    | 1 => [(40, (s.rec? 0x06 a).any (fun o => byteAt o 1 != 2))]
    | 2 => [(40, (s.rec? 0x0F a).any (fun q => seqTrig q == 3))]
    | 3 => [(40, s.there 0x14 a)]
    | 5 => [(40, s.there 0x0B (cogArg b 0 2))]
    | 7 => [(40, (s.grpRec? a (byteAt b 41)).any gCogPaced)]
    | _ => [])

/-! The field network. -/

/-- A segment carries groups: local, an Ethernet segment or a CAN port with a record (R104). -/
def State.segThere (s : State) (seg : Nat) : Bool := seg == 0 || (decide (seg ≤ 4) && s.there 0x08 seg) || (decide (5 ≤ seg ∧ seg ≤ 8) && s.there 0x18 (seg - 5))

/-- Cycle groups (R85, R104, R390). -/
def groupViols (s : State) : List Viol := eachRec s 0x09 (fun b =>
  let starters := (s.recsOf 0x05).filter (fun c => cogAction c == 7 && byteAt c 40 == byteAt b 0 && byteAt c 41 == byteAt b 1)
  [(0, s.segThere (byteAt b 0)), (3, !gCogPaced b || starters.length == 1), (5, !gProtected b || (!gCogPaced b && decide (500000 ≤ gPeriod b)))])

/-- Head nodes (R89). -/
def headViols (s : State) : List Viol := eachRec s 0x07 (fun b =>
  [(2, (s.nodeRec? (byteAt b 0) (le b 2 2)).any nodeHead),
   (4, (s.raceRec (byteAt b 4)).length != 0 && (byteAt (s.raceRec (byteAt b 4)) 8).testBit (byteAt b 0 - 1)
      && !(s.recsOf 0x05).any (fun c => cogAction c == 6 && byteAt c 40 == headSet b && cogRace c != byteAt b 4)),
   (0, decide ((s.recsOf 0x07).length ≤ 1024))])

/-- Two blocks of a node share an index. -/
def blocksClash (b : Bytes) : Bool :=
  (List.range 8).any (fun i => (List.range i).any (fun j =>
    let f := fun k => le b (50 + 8 * k) 2
    let n := fun k => if byteAt b (49 + 8 * k) = 0 then 0 else le b (52 + 8 * k) 2
    decide (0 < n i ∧ 0 < n j ∧ f i < f j + n j ∧ f j < f i + n i)))

/-- Nodes (R105). -/
def nodeViols (s : State) : List Viol := eachRec s 0x0A (fun b =>
  let seg := byteAt b 0
  let used := (List.range 8).filter (fun i => byteAt b (49 + 8 * i) != 0)
  let cyc := used.filter (fun i => decide (byteAt b (49 + 8 * i) ≤ 2))
  let doms := (s.grpRec seg (nodeHome b) :: cyc.map (fun i => s.grpRec seg (byteAt b (48 + 8 * i)))).map gDomain
  [(0, s.there 0x08 seg), (1, (s.grpRec? seg (nodeHome b)).isSome), (48, !blocksClash b)]
  ++ cyc.map (fun i => (48 + 8 * i, (s.grpRec? seg (byteAt b (48 + 8 * i))).isSome))
  ++ [(7, !nodeHead b || (used.isEmpty && (s.headRec? seg (nodeNum b)).isSome)), (1, doms.all (· == doms.headD 0)),
      (2, decide (((s.recsOf 0x0A).filter (fun c => byteAt c 0 == seg)).length ≤ 1024))])

/-! Loops and Fantail. -/

/-- A source selector names something configured; a point source is a cyclic Q15 point (R139, R226). -/
def State.selOk (s : State) (b : Bytes) (o : Nat) : Bool :=
  let i := le b (o + 4) 4
  match byteAt b o with
  | 1 => (s.cyclicAt i).any (fun p => p.typ == 2)
  | 2 => (s.rec? 0x0F (i / 256)).any (fun q => decide (i % 256 < seqN q))
  | 3 => s.there 0x12 i
  | 4 => s.encThere i
  | 5 => s.there 0x02 i
  | _ => true

/-- A destination selector names a point, channel or PWM whose one writer is this unit (R139, R241). -/
def State.destOk (s : State) (b : Bytes) (o u : Nat) : Bool :=
  let i := le b (o + 4) 4
  let mine := fun (a : Nat) => (s.cyclicAt a).any (fun p => p.typ == 2 && p.writer == 2 && p.wunit == u)
  match byteAt b o with
  | 1 => mine i
  | 7 => s.there 0x12 i && mine (ptAddr s 0 1 (256 + 8 * i))
  | 8 => s.there 0x11 i && mine (ptAddr s 0 1 (512 + i))
  | _ => true

/-- Loops (R139, R153, R156). -/
def loopViols (old s : State) : List Viol :=
  (s.cfg.recs.filter (fun r => r.rtype == 0x0B)).flatMap (fun r =>
    let b := r.body
    let l := le b 0 2
    let running := (old.rec? 0x0B l).isSome && (old.loop l).mode != .disabled
    condViols 0x0B b
      ([(0, r.unit == uLoop l), (16, s.selOk b 16), (24, s.selOk b 24), (32, s.selOk b 32), (40, s.selOk b 40), (48, s.destOk b 48 (uLoop l)),
        (96, !running || !s.cfg.named.any (sameRec r) || slice b 96 192 == (old.loop l).coef.fg)]
       ++ onlyIf (lpMember b) [(12, s.there 0x0C (lpOgroup b)), (48, byteAt b 48 == 0)]))

/-- Override groups (R153, R157). -/
def ogroupViols (s : State) : List Viol := eachRec s 0x0C (fun b =>
  let g := byteAt b 0
  let ms := (s.recsOf 0x0B).filter (fun l => lpMember l && lpOgroup l == g)
  let key := fun (l : Bytes) => (le l 0 2 / 128, lpLane l, lpPeriod l, lpPhase l)
  [(0, decide (1 ≤ ms.length ∧ ms.length ≤ 8)), (0, ms.all (fun l => key l == key (ms.headD []))), (8, s.destOk b 8 (uGroup g))])

/-- Fantail tasks (R162, R163). -/
def fantailViols (s : State) : List Viol := eachRec s 0x0D (fun b =>
  let k := byteAt b 3
  let i := le b 6 2
  [(6, decide (((s.recsOf 0x0D).filter (fun c => byteAt c 3 == k && le c 6 2 == i)).length = 1)),
   (6, match k with
    | 1 => s.there 0x0B i
    | 2 => s.there 0x0B i
    | 4 => (s.rec? 0x01 i).any (fun e => encMode e == 2)
    | 5 => (s.rec? 0x12 i).any (fun c => byteAt c 1 == 3)
    | _ => true),
   (2, decide (((s.recsOf 0x0D).filter (fun c => byteAt c 2 == byteAt b 2)).length ≤ 768))])

/-- Axes (R192, R211). -/
def axisViols (old s : State) : List Viol := eachRec s 0x0E (fun b =>
  let x := byteAt b 0
  let moving := (old.rec? 0x0E x).isSome && (old.axis x).st != .disabled
  let kept := match old.rec? 0x0E x with
    | some a => !moving || (byteAt a 3 == byteAt b 3 && slice a 120 8 == slice b 120 8)
    | none => true
  let pt := fun (i typ : Nat) (mine : Bool) => (s.cyclicAt (axRemote b i)).any (fun p =>
    p.typ == typ && (if mine then p.writer == 2 && p.wunit == uAxis x else p.writer == 0))
  [(3, byteAt b 3 == 255 || s.encThere (byteAt b 3)), (3, byteAt b 3 == 255 || !(s.recsOf 0x0E).any (fun c => byteAt c 0 != x && byteAt c 3 == byteAt b 3)), (3, kept)]
  ++ onlyIf (!axLocal b) [(144, pt 0 5 true), (148, pt 1 4 true), (152, pt 2 3 true), (156, pt 3 5 false), (160, pt 4 3 false)])

/-! Analogue I/O. -/

/-- Converter sequences, timers, PWM outputs, current-loop channels (R217, R223, R224, R226). -/
def analogueViols (s : State) : List Viol :=
  eachRec s 0x0F (fun b => [(2, seqTrig b != 1 || s.there 0x10 (byteAt b 2)), (2, seqTrig b != 2 || s.there 0x11 (byteAt b 2))])
  ++ eachRec s 0x10 (fun b => [(1, byteAt b 1 == 255 || (s.rec? 0x03 (byteAt b 1)).any (fun d => byteAt d 1 != 0))])
  ++ eachRec s 0x11 (fun b => [(3, byteAt b 3 == 255 || (s.rec? 0x10 (byteAt b 3)).any (fun t => le t 4 4 % le b 8 4 == 0))])
  ++ eachRec s 0x12 (fun b =>
    let n := byteAt b 0
    let named := fun (l : Bytes) (k : Nat) => [16, 24, 32, 40, 48].any (fun o => byteAt l o == k && le l (o + 4) 4 == n)
    [(1, (byteAt b 1 == 1 || byteAt b 1 == 2) || !(s.recsOf 0x0B).any (fun l => named l 3)),
     (1, byteAt b 1 == 3 || !((s.recsOf 0x0B).any (fun l => named l 7) || (s.recsOf 0x0C).any (fun g => byteAt g 8 == 7 && le g 12 4 == n)))])

/-! Capture, Tailrace. -/

/-- A capture signal names something configured (R29, R248). -/
def State.signalOk (s : State) (b : Bytes) (o : Nat) : Bool :=
  let i := le b (o + 4) 4
  match byteAt b o with
  | 1 => (s.pointOf i).any (fun p => p.cyclic)
  | 2 => (s.rec? 0x0F (i / 256)).any (fun q => decide (i % 256 < seqN q))
  | 3 => s.there 0x12 i
  | 5 => s.encThere i
  | 6 => s.there 0x02 i
  | 7 => s.there 0x0B (i % 65536)
  | 8 => s.there 0x0E i
  | _ => true

def captureViols (s : State) : List Viol :=
  eachRec s 0x14 (fun b =>
    [(2, byteAt b 1 != 1 || s.there 0x0F (byteAt b 2)), (2, byteAt b 1 != 2 || (s.grpRec? (byteAt b 2 / 16) (byteAt b 2 % 16)).isSome),
     (4, !capMember b || (s.rec? 0x14 (byteAt b 4)).any (fun m => !capMember m))]
    ++ (List.range (byteAt b 5)).map (fun i => (40 + 8 * i, s.signalOk b (40 + 8 * i))))
  ++ eachRec s 0x16 (fun _ => [(12, decide ((s.recsOf 0x16).foldl (fun n c => n + byteAt c 12) 0 ≤ 64))])

/-! CAN. -/

/-- The point a signal maps has a type it can carry (R332). -/
def State.sigTypeOk (s : State) (b : Bytes) (g : Nat) : Bool :=
  (s.cfg.points.get? (ptAddr s (5 + byteAt b 0) (le b 16 2) (le b (28 + 8 * g) 2))).any (fun p =>
    p.typ != 5 && p.typ != 6 && (p.typ != 4 || byteAt b (26 + 8 * g) == 32))

/-- Ports and objects (R331, R332). -/
def canViols (s : State) : List Viol := eachRec s 0x19 (fun b =>
  if byteAt b 2 = 0 then []
  else
    let all := (s.recsOf 0x19).filter (fun c => byteAt c 0 == byteAt b 0)
    let uses := fun (i : Nat) => all.foldl (fun n c => n + (if le c 16 2 = le b 16 2 then ((objPoints c).filter (fun e => e.1 == i)).length else 0)) 0
    [(0, s.there 0x18 (byteAt b 0)), (3, !(byteAt b 3).testBit 1 || (byteAt (s.canRec (byteAt b 0)) 2).testBit 0),
     (14, (s.grpRec? (5 + byteAt b 0) (byteAt b 14)).isSome)]
    ++ (objPoints b).map (fun e => (28 + 8 * e.2, s.sigTypeOk b e.2 && uses e.1 == 1)))

/-! Pairs, Hopper, the concentrator. -/

def systemViols (s : State) : List Viol :=
  eachRec s 0x1A (fun b => onlyIf (byteAt b 0 == 1) [(8, (s.rec? 0x08 1).any (fun g => segMode g != 0))])
  ++ eachRec s 0x30 (fun b => onlyIf (byteAt b 2 == 2)
      [(40, decide (le b 40 2 / 4096 = 7) && (lpTask? (s.cfg.logic.getD (le b 40 2 % 4096 / 256) []) (le b 40 2 % 256)).any (fun d => leEvent d && leHop d == le b 0 2))])
  ++ eachRec s 0x31 (fun b => [(0, decide (448 ≤ le b 0 2) || (s.rec? 0x13 (le b 0 2 - 384)).any (fun d => dioDir d == 1))])

/-! Safety section (R352, R358, R365). -/

def connRec? (s : State) (c : Nat) : Option Bytes := sfRec? s.safe.recs 0x23 c

/-- A consumed bit or word of a connection. -/
def bitThere (s : State) (c bitNo : Nat) : Bool := (connRec? s c).any (fun b => cnDir b == 0 && decide (bitNo < 32 * cnWords b))

/-- An input of any function is this one. -/
def isInput (s : State) (kind idx bitNo : Nat) : Bool :=
  (sfAll s.safe.recs 0x22).any (fun b => (List.range (fnNin b)).any (fun i => fnInKind b i == kind && fnInIdx b i == idx && (kind != 2 || fnInBit b i == bitNo)))

def safeFnConds (s : State) (b : Bytes) : List (Nat × Bool) :=
  let rs := s.safe.recs
  (List.range (fnNin b)).map (fun i => (24 + 4 * i, match fnInKind b i with
    | 1 => (sfRec? rs 0x20 (fnInIdx b i)).any (fun p => byteAt p 1 == 1 || byteAt p 1 == 2)
    | 2 => bitThere s (fnInIdx b i) (fnInBit b i)
    | _ => decide (fnInIdx b i < fnNo b) && (sfRec? rs 0x22 (fnInIdx b i)).isSome))
  ++ [(8, if byteAt b 6 = 1 then (sfRec? rs 0x20 (le b 8 2 / 2)).any (fun p => byteAt p 1 == 3) && !isInput s 1 (le b 8 2 / 2) 0
          else bitThere s (le b 8 2) (byteAt b 7) && !isInput s 2 (le b 8 2) (byteAt b 7)),
      (16, ((List.range 64).filter (fun a => (fnAxes b).testBit a)).all (fun a => s.there 0x0E a)),
      (62, byteAt b 60 != 1 || (s.rec? 0x01 (le b 62 2)).any (fun e => encMode e == 1)),
      (62, byteAt b 60 != 2 || (connRec? s (le b 62 2)).any (fun c => cnDir c == 0 && decide (byteAt b 61 < cnWords c)))]

/-- The node's block holds every word of the connection, as cyclic INT32 points (R365). -/
def connBlockOk (s : State) (b : Bytes) : Bool := match s.nodeRec? (byteAt b 3) (le b 6 2) with
  | none => false
  | some n => match blockAt n (le b 8 2) with
    | none => false
    | some k => k.1 == (if cnDir b = 0 then 1 else 2) && k.2.1 == byteAt b 4 && decide (le b 8 2 + 5 + cnWords b ≤ k.2.2.1 + k.2.2.2)
        && (List.range (5 + cnWords b)).all (fun i => (s.cyclicAt (ptAddr s (byteAt b 3) (le b 6 2) (le b 8 2 + i))).any (fun p =>
            p.typ == 3 && (cnDir b == 0 || p.writer == 2)))

def safetyViols (s : State) : List Viol :=
  let rs := s.safe.recs
  (rs.flatMap (fun r => rangeViols r.1 r.2))
  ++ (sfAll rs 0x20).flatMap (fun b => condViols 0x20 b [(1, byteAt b 1 != 3 || !isInput s 1 (byteAt b 0) 0)])
  ++ (sfAll rs 0x22).flatMap (fun b => condViols 0x22 b (safeFnConds s b))
  ++ (sfAll rs 0x23).flatMap (fun b => condViols 0x23 b
      [(12, decide (((sfAll rs 0x23).filter (fun c => cnId c == cnId b)).length = 1)), (8, connBlockOk s b),
       (4, (s.grpRec? (byteAt b 3) (byteAt b 4)).any (fun g => !gCogPaced g))])

/-! Budget 0 as a whole. -/

/-- Spindle programs of the configuration that R316 refuses. -/
def spinViols (s : State) : List Viol :=
  (s.cfg.spin.filter (fun e => !spinImageOk e.1 e.2)).map (fun e => { unit := uSpin e.1, value := le e.2 8 4 })

/-- Every violation of budget 0 of the configuration `s.cfg`, with the module's present state in `old`. -/
def budget0 (old s : State) : List Viol :=
  (s.cfg.recs.flatMap (fun r => rangeViols r.rtype r.body))
  ++ raceViols old s ++ cogViols s ++ groupViols s ++ headViols s ++ nodeViols s ++ loopViols old s ++ ogroupViols s ++ fantailViols s
  ++ axisViols old s ++ analogueViols s ++ captureViols s ++ canViols s ++ systemViols s ++ safetyViols s
  ++ (List.range 8).flatMap (fun n => leViols s n (s.cfg.logic.getD n [])) ++ spinViols s ++ mapViols s

/-- The first violation: the lowest unit, the lowest test within it (R441). -/
def firstViol : List Viol → Option Viol
  | [] => none
  | v :: vs => match firstViol vs with
    | none => some v
    | some w => if v.unit < w.unit ∨ (v.unit = w.unit ∧ v.test ≤ w.test) then some v else some w

end Sys2Proof.Machine
end

