-- ==== Sys2Proof/Machine/SluiceBudgets.lean ====
section
/-! DEFINITION. Sluice, budgets 2 to 10 (R70, R82, R100, R125 to R127, R133, R173, R209, R220, R256, R272, R273, R292, R318, R343, R370, R372, R388, R442, R455). -/

namespace Sys2Proof.Machine

/-! Budget 2: engines. A load is a fraction; its limit is 85 %. -/

/-- Accesses of a selector in engine cycles (R133). -/
def selCost (k : Nat) : Nat := match k with
  | 1 => 20 | 2 => 8 | 3 => 8 | 4 => 16 | 5 => 24 | 7 => 8 | 8 => 8 | _ => 0

/-- Cycles of one loop's sample (R133). -/
def loopCost (b : Bytes) : Nat :=
  72 + 160 + 12 * lpNbiq b + ([16, 24, 32, 40, 48].map (fun o => selCost (byteAt b o))).foldl (· + ·) 0
  + (if byteAt b 32 ≠ 0 then 8 else 0) + (if lpFlag b 1 then 40 else 0) + (if lpMember b then 12 else 0)

/-- Cycles of a lane in one frame: the loops due, and the decision of every group with members due (R133). -/
def laneFrame (s : State) (ls : List Bytes) : Nat :=
  ls.foldl (fun n b => n + loopCost b) 0
  + (((ls.filter lpMember).map lpOgroup).eraseDups).foldl (fun n g =>
      n + 8 + 4 * (ls.filter (fun b => lpMember b && lpOgroup b == g)).length + selCost (byteAt (s.rcd 0x0C g) 8)) 0

/-- The dearest frame of a lane: its number and cycles (R133). -/
def laneWorst (s : State) (ls : List Bytes) : Nat × Nat :=
  let hyper := ls.foldl (fun n b => Nat.lcm n (lpPeriod b)) 1
  if 1048576 < hyper then (0, laneFrame s ls)
  else (largest (·.2) ((List.range hyper).map (fun f => (f, laneFrame s (ls.filter (fun b => f % lpPeriod b == lpPhase b)))))).getD (0, 0)

/-- What a part of budget 2 finds: violations, and loads as (unit, part, whole). -/
structure Part where
  viols : List Viol := []
  loads : List (Nat × Nat × Nat) := []
  deriving DecidableEq, Repr

def Part.join (a b : Part) : Part := ⟨a.viols ++ b.viols, a.loads ++ b.loads⟩

/-- Loop lanes (R133): UNIT the lane's lowest loop, AUX0 its engine x 4 + lane, AUX1 the frame. -/
def laneParts (s : State) : List Part :=
  (List.range 64).filterMap (fun k =>
    let ls := (s.recsOf 0x0B).filter (fun b => le b 0 2 / 128 * 4 + lpLane b == k)
    if ls.isEmpty then none
    else
      let w := laneWorst s ls
      let u := uLoop (ls.foldl (fun n b => min n (le b 0 2)) 4095)
      some { viols := if 13600 < w.2 then [{ unit := u, measure := 1, value := w.2, limit := 13600, aux0 := k, aux1 := w.1 }] else []
             loads := [(u, w.2, 16000)] })

/-- Cycles of an axis per update (R209). -/
def axisCost (b : Bytes) : Nat :=
  (if axLocal b then 520 else 500) + 880 + (if byteAt b 3 = 255 then 0 else 40) + 20

/-- Motion engines (R209): within the budget for every configuration; the sum is reported. -/
def motionParts (s : State) : List Part :=
  (List.range 8).filterMap (fun e =>
    let xs := (s.recsOf 0x0E).filter (fun b => byteAt b 0 / 8 == e)
    if xs.isEmpty then none else some { loads := [(uAxis (8 * e), xs.foldl (fun n b => n + axisCost b) 0, 16000)] })

/-- Cogs (R82): firings per ms against 54,400, as a fraction per ns. -/
def cogPart (s : State) : Part :=
  let q := loadSum ((s.recsOf 0x05).map (fun b => (1, cogMinInt b)))
  let worst := (s.recsOf 0x05).foldl (fun (a : Nat × Nat) b => if cogMinInt b < a.2 then (le b 0 2, cogMinInt b) else a) (0, 4294967296)
  { viols := if q.2 * 544 < q.1 * 10000 then
      [{ unit := uCog worst.1, value := divUp (q.1 * 1000000) q.2, limit := 54400, aux0 := worst.2 }] else []
    loads := if q.1 = 0 then [] else [(uCog worst.1, q.1 * 1000, q.2 * 64)] }

/-- Duration of a converter sequence, ns (R218). -/
def seqTime (b : Bytes) : Nat := (List.range (seqN b)).foldl (fun n e => n + entTime b e) 0 + 50

/-- The shortest interval between a sequence's starts, ns, where its trigger gives one (R220). -/
def seqInterval (s : State) (b : Bytes) : Option Nat :=
  if seqTrig b = 1 then some (le (s.rcd 0x10 (byteAt b 2)) 4 4 * 10)
  else if seqTrig b = 2 then some (le (s.pwmRec (byteAt b 2)) 8 4 * 10 - le b 4 2 * 10)
  else if seqTrig b = 3 then
    (((s.recsOf 0x05).filter (fun c => cogAction c == 2 && byteAt c 40 == byteAt b 0)).map cogMinInt).foldl
      (fun a x => some (match a with
        | some y => min x y
        | none => x)) none
  else none

/-- Converter sequences (R220): AUX0 the sequence, AUX1 the interval. -/
def seqParts (s : State) : List Part :=
  (s.recsOf 0x0F).map (fun b => match seqInterval s b with
    | none => {}
    | some i => { viols := if 85 * i < 100 * seqTime b then
                    [{ unit := uSeq (byteAt b 0), measure := 2, value := seqTime b, limit := 85 * i / 100, aux0 := byteAt b 0, aux1 := i }] else []
                  loads := [(uSeq (byteAt b 0), seqTime b, max 1 i)] })

/-- Work of a Fantail task per ms, as a fraction (R173). -/
def ftCost (s : State) (b : Bytes) : Nat × Nat :=
  let p := lpPeriod (s.rcd 0x0B (le b 6 2))
  match byteAt b 3 with
  | 1 => (30 * 50, max 1 p)
  | 2 => (180 * 50 * le b 8 4 + 6000 * (max 1 p * le b 56 2), max 1 p * le b 56 2 * le b 8 4)
  | 3 => (40 * le b 32 4, 1000)
  | 4 => (24000, 1)
  | _ => (200, 1)

/-- Fantail units (R173): AUX0 the largest task. -/
def ftParts (s : State) : List Part :=
  (List.range 4).filterMap (fun u =>
    let ts := (s.recsOf 0x0D).filter (fun b => byteAt b 2 == u)
    if ts.isEmpty then none
    else
      let q := loadSum (ts.map (ftCost s))
      let big := (largest (fun b => let c := ftCost s b; c.1 * 1000000 / c.2) ts).getD []
      some { viols := if q.2 * 680000 < q.1 then [{ unit := uFt u, measure := 1, value := divUp q.1 q.2, limit := 680000, aux0 := le big 0 2 }] else []
             loads := [(uFt u, q.1, q.2 * 800000)] })

/-- Logic engines (R292). -/
def logicParts (s : State) : List Part :=
  (List.range 8).filterMap (fun n =>
    let img := s.cfg.logic.getD n []
    if img.isEmpty then none
    else
      let r := leBudget s n img
      some { viols := r.1, loads := [(uEngine n, r.2, 10000)] })

/-- Tasks of an extension core: number, priority, priority towards others, budget, period, deadline in ns (R455). -/
def extSched (s : State) (core : Nat) : List LeSched :=
  (((s.recsOf 0x30).filter (fun b => byteAt b 2 == 1 && byteAt b 7 == core)).map (fun b =>
    let p := if le b 8 4 = 2147483648 then le b 16 4 * 1000 else le b 28 4 * 1000
    ({ task := le b 0 2, prio := byteAt b 3, towards := byteAt b 4, c := le b 24 4, p := p, d := p } : LeSched))).filter (fun i => i.p != 0)

/-- The smallest response of a task, or the first figure above its deadline (R455). -/
def extResponse (l : List LeSched) (i : LeSched) : Nat → Nat → Nat
  | 0, r => r
  | f + 1, r =>
    let r1 := i.c + (l.filter (fun j => j.task != i.task && decide (i.prio ≤ j.towards))).foldl (fun a j => a + divUp r j.p * j.c) 0
    if r1 = r ∨ i.d < r1 then r1 else extResponse l i f r1

/-- Extension cores (R455): UNIT the system, AUX0 the core, AUX1 the task. -/
def extParts (s : State) : List Part :=
  [4, 5, 6, 7].filterMap (fun core =>
    let l := extSched s core
    if l.isEmpty then none
    else
      let q := loadSum (l.map (fun i => (i.c, i.p)))
      let r := fun (i : LeSched) => extResponse l i i.d i.c
      some { viols := (if q.2 * 85 < q.1 * 100 then [({ unit := uSys, test := 1, measure := 6, value := divUp (q.1 * 10000) q.2, limit := 8500, aux0 := core } : Viol)] else [])
               ++ (l.filter (fun i => i.d < r i)).map (fun i => { unit := uSys, test := 2, measure := 2, value := r i, limit := i.d, aux0 := core, aux1 := i.task })
             loads := [(uSys, q.1, q.2)] })

/-! Spindle programs (R256 test 3, R272, R318). -/

/-- Shortest interval between a capture unit's samples, ns (R256). -/
def capInterval (s : State) (b : Bytes) : Nat :=
  if byteAt b 1 = 0 then le b 8 4 * 10
  else if byteAt b 1 = 1 then (let q := s.seqRec (byteAt b 2); (seqInterval s q).getD (seqTime q))
  else gPeriod (s.grpRec (byteAt b 2 / 16) (byteAt b 2 % 16))

/-- Traced samples per second of a Tailrace channel, as a fraction (R266, R272). -/
def tracedRate (s : State) (b : Bytes) : Nat × Nat :=
  loadSum ((List.range (byteAt b 7)).flatMap (fun i =>
    let o := 152 + 8 * i
    ((s.recsOf 0x0B).filter (fun l => decide (le b o 2 ≤ le l 0 2 ∧ le l 0 2 < le b o 2 + le b (o + 2) 2))).map (fun l => (50000, lpPeriod l * le b (o + 4) 2))))

/-- Wire time of a minimum frame and of a byte at a port mode, ps (R126, R318). -/
def bytePs (mode : Nat) : Nat := if mode = 1 then 800 else if mode = 2 then 3200 else 8000

def spinParts (s : State) : List Part :=
  s.cfg.spin.filterMap (fun e =>
    let n := e.1
    let len := spinLen e.2
    let u := uSpin n
    let part := fun (test i100 : Nat) => some ({
      viols := if 85 * i100 < 12500 * len then [{ unit := u, test := test, measure := 2, value := divUp (5 * len) 4, limit := 85 * i100 / 10000, aux1 := i100 / 100 }] else []
      loads := [(u, 125 * len, max 1 i100)] } : Part)
    if n < 4 then none
    else if n < 8 then (match s.rec? 0x08 (n - 3) with
      | some g => if segMode g = 0 then none else part 0 (84 * bytePs (segMode g) / 10)
      | none => none)
    else if n < 24 then (match s.rec? 0x14 (n - 8) with
      | some b => if (byteAt b 3).testBit 3 then part 3 (100 * capInterval s b) else none
      | none => none)
    else match s.rec? 0x16 (n - 24) with
      | none => none
      | some b =>
        let q := tracedRate s b
        if !(byteAt b 2).testBit 1 || q.1 == 0 then none
        else some { viols := if 85 * q.2 * 1000000000 < q.1 * len * 125 then
                      [{ unit := u, measure := 6, value := divUp (q.1 * len * 12500) (q.2 * 1000000000), limit := 8500 }] else []
                    loads := [(u, q.1 * len * 125, q.2 * 100000000000)] })

/-- Budget 2. Its LOAD is the engine with the largest share. -/
def budget2 (s : State) : List Viol × Load :=
  let ps := laneParts s ++ motionParts s ++ [cogPart s] ++ seqParts s ++ ftParts s ++ logicParts s ++ extParts s ++ spinParts s
  let p := ps.foldl Part.join {}
  let pct := fun (l : Nat × Nat × Nat) => divUp (l.2.1 * 10000) l.2.2
  let big := largest pct p.loads
  (p.viols, { unit := (big.map (·.1)).getD 0, measure := 6, value := (big.map pct).getD 0, limit := 8500 })

/-! Budget 3: Ethernet (R70, R125, R126, R127). Times in ps. -/

/-- Wire time of a frame (R126). -/
def wirePs (mode : Nat) (tagged : Bool) (payload : Nat) : Nat :=
  (max payload (if tagged then 42 else 46) + 18 + (if tagged then 4 else 0) + 20) * bytePs mode
def guardPs (mode : Nat) : Nat := 1542 * bytePs mode
def segTagged (b : Bytes) : Bool := le b 4 2 != 0

/-- Payload bytes of a node's frames of one kind for a group (R108, R110). -/
def nodeFrames (s : State) (b : Bytes) (kind grp : Nat) : List Nat :=
  let slots := (blockSlots b kind grp).map (nodeSlot s b)
  let fs := splitSlots (fun a => (s.pointOf a).any (fun p => typeSlots p.typ == 2 && p.addr == a)) slots.length slots
  if fs.isEmpty then [32] else fs.map (fun f => 32 + 4 * f.length)

/-- Path bound to a node of a frame with this payload (R126). -/
def pathPs (seg : Bytes) (b : Bytes) (payload : Nat) : Nat :=
  let mode := byteAt b 44
  let hops := byteAt b 39
  (hops + 1) * wirePs mode (segTagged seg) payload + hops * (guardPs mode + le seg 16 4 * 1000)

/-- Burst of a group on its segment: kind 1 input, 2 output. -/
def burstPs (s : State) (seg : Bytes) (kind grp : Nat) : Nat :=
  ((s.segNodes (byteAt seg 0)).filter (fun b => nodeServes b grp)).foldl (fun n b =>
    (nodeFrames s b kind grp).foldl (fun n p => n + wirePs (segMode seg) (segTagged seg) p) n) 0

/-- The largest path of the group's frames: its node and time. -/
def groupPath (s : State) (seg : Bytes) (kind grp : Nat) : Nat × Nat :=
  (largest (·.2) (((s.segNodes (byteAt seg 0)).filter (fun b => nodeServes b grp)).map (fun b =>
    (nodeNum b, ((nodeFrames s b kind grp).map (pathPs seg b)).foldl max 0)))).getD (0, 0)

/-- Bursts of a group that fall in the interval of length `p` that starts `k` x `p` after the shortest group's start (R127): all of them
where the group is cog-paced or follows another domain. -/
def burstsIn (short g : Bytes) (at' : Nat) (k : Nat) : Nat :=
  let p := gPeriod short
  let q := gPeriod g
  if gCogPaced g ∨ gCogPaced short ∨ gDomain g ≠ gDomain short then divUp p q
  else
    let lo := gPhase short + k * p + 16 * q
    let x := gPhase g + at'
    let upTo := fun (t : Nat) => (t + 16 * q - x + q - 1) / q
    upTo (lo + p) - upTo lo

/-- Frames of one interval beside the bursts: race segments, bank notices, heartbeats (R127). -/
def otherPs (s : State) (seg : Bytes) (p : Nat) : Nat :=
  let port := byteAt seg 0
  let w := wirePs (segMode seg) (segTagged seg)
  ((s.recsOf 0x02).filter (fun b => (byteAt b 8).testBit (port - 1))).foldl (fun n b => n + divUp p (le b 4 2 * 62500) * w 72) 0
  + ((((s.recsOf 0x07).filter (fun b => byteAt b 0 == port)).map headSet).eraseDups).length * w 32
  + (if s.paired ∧ port = 1 then divUp p 250000 * w 32 else 0)

/-- Times of a segment's gate cycle, ps, at which queues 3 to 5 are closed, as (from, length): one guard band before every OUTPUT burst of a time-paced
group, until it ends (R125). -/
def gateWindows (s : State) (seg : Bytes) (gs : List Bytes) (cyc : Nat) : List (Nat × Nat) :=
  (gs.filter (fun g => !gCogPaced g)).flatMap (fun g =>
    let b := burstPs s seg 2 (byteAt g 1)
    let guard := guardPs (segMode seg)
    if b = 0 then []
    else (List.range (cyc / (gPeriod g * 1000))).map (fun j =>
      (((gPhase g + gOutputAt g + j * gPeriod g) * 1000 + cyc - guard % cyc) % cyc, guard + b)))

/-- Gates open at a time of the cycle: queues 6 and 7 always, 3 to 5 outside the windows, 0 to 2 never (R124, R125). -/
def gatesAt (cyc : Nat) (ws : List (Nat × Nat)) (x : Nat) : Nat :=
  if ws.any (fun w => decide ((x + cyc - w.1) % cyc < w.2)) then 0xC0 else 0xF8

/-- Entries whose gates differ from those of the entry before. -/
def gateSteps (last : Nat) : List (Nat × Nat) → List (Nat × Nat)
  | [] => []
  | e :: r => if e.2 = last then gateSteps last r else e :: gateSteps e.2 r

/-- A port's gate control list: its cycle time, ns, the longest group period of the port, and its entries (R125). -/
def State.gateList (s : State) (port : Nat) : Nat × List (Nat × Nat) :=
  let seg := s.segRec port
  let gs := (s.recsOf 0x09).filter (fun g => byteAt g 0 == port)
  let longest := gs.foldl (fun n g => max n (gPeriod g)) 0
  let cyc := longest * 1000
  let ws := gateWindows s seg gs cyc
  let times := (ws.flatMap (fun w => [w.1, (w.1 + w.2) % cyc])).foldl (fun l x => insNat x l) [0]
  if longest = 0 then (0, []) else (longest, gateSteps 0 (times.map (fun x => (x, gatesAt cyc ws x))))

/-- Tests of one Ethernet segment; ITEM names the node of a path. An OUTPUT burst counts two gate entries, its closing and its opening (DESIGN CHOICE,
log 221). -/
def ethViols (s : State) (seg : Bytes) : List Viol × Nat :=
  let port := byteAt seg 0
  let u := uSeg port
  let gs := (s.recsOf 0x09).filter (fun g => byteAt g 0 == port)
  match gs.foldl (fun (a : Option Bytes) g => match a with
    | some x => if gPeriod g < gPeriod x then some g else some x
    | none => some g) none with
  | none => ([], 0)
  | some short =>
    let p := gPeriod short
    let longest := gs.foldl (fun n g => max n (gPeriod g)) p
    let ks := List.range (longest / p)
    let outAt := ks.map (fun k => gs.foldl (fun n g => n + burstsIn short g (gOutputAt g) k
      * (burstPs s seg 2 (byteAt g 1) + (if gCogPaced g then 0 else guardPs (segMode seg)))) (otherPs s seg p))
    let inAt := ks.map (fun k => gs.foldl (fun n g => n + burstsIn short g (2 * gPeriod g - gInputLead g * 1000 % gPeriod g) k * burstPs s seg 1 (byteAt g 1)) 0)
    let out := outAt.foldl max 0
    let inp := inAt.foldl max 0
    let lim := 900 * p
    let entries := gs.foldl (fun n g => n + (if gCogPaced g then 0 else 2 * (longest / gPeriod g))) 0
    let node := fun (k : Nat) => ptAddr s port k 0
    ((if 256 < entries then [({ unit := u, value := entries, limit := 256 } : Viol)] else [])
     ++ (if lim < out then [{ unit := u, test := 1, measure := 2, value := divUp out 1000, limit := lim / 1000, aux0 := byteAt short 1, aux1 := p }] else [])
     ++ (if lim < inp then [{ unit := u, test := 2, measure := 2, value := divUp inp 1000, limit := lim / 1000, aux0 := byteAt short 1, aux1 := p }] else [])
     ++ gs.flatMap (fun g =>
        let k := byteAt g 1
        let po := groupPath s seg 2 k
        let pi := groupPath s seg 1 k
        let t3 := gOutputAt g * 1000 + burstPs s seg 2 k + po.2 + 2000000 + (if gCogPaced g then guardPs (segMode seg) else 0)
        let t4 := burstPs s seg 1 k + pi.2 + 2000000
        (if gPeriod g * 1000 < t3 then [({ unit := u, test := 3, item := node po.1, measure := 2, value := divUp t3 1000, limit := gPeriod g, aux0 := k, aux1 := gPeriod g } : Viol)] else [])
        ++ (if gInputLead g * 1000000 < t4 then
            [{ unit := u, test := 4, item := node pi.1, measure := 2, value := divUp t4 1000, limit := gInputLead g * 1000, aux0 := k, aux1 := gInputLead g }] else []))
     ++ onlyIf s.paired ((s.segNodes port).filterMap (fun b =>
        let ps := (gs.filter (fun g => gProtected g && nodeServes b (byteAt g 1)))
        match largest gPeriod ps with
        | none => none
        | some g => let need := (4 * gPeriod g + 100000) / 1000
          if le b 40 4 < need then some { unit := u, test := 5, item := node (nodeNum b), measure := 4, value := le b 40 4, limit := need, aux0 := byteAt g 1 } else none)),
     max (divUp (out * 10) p) (divUp (inp * 10) p))

/-- Races whose lead is too short for the farthest subscribing node: a node of the race's ports whose head node record names the race (R70, R89; DEDUCED,
log 75). AUX0 the path bound, AUX1 the lead, both ns. -/
def leadViols (s : State) : List Viol :=
  (s.recsOf 0x02).filterMap (fun b =>
    let nodes := ([1, 2, 3, 4].filter (fun p => (byteAt b 8).testBit (p - 1))).flatMap (fun p => (s.segNodes p).filter (fun n =>
      (s.headRec? p (nodeNum n)).any (fun h => byteAt h 4 == byteAt b 0)))
    let path := fun (n : Bytes) => divUp (pathPs (s.segRec (byteAt n 0)) n 72) 1000
    match largest path nodes with
    | none => none
    | some n =>
      let lead := le b 6 2 * 1000
      if lead < path n + 20000 then
        some { unit := uRace (byteAt b 0), item := ptAddr s (byteAt n 0) (nodeNum n) 0, measure := 2, value := path n + 20000, limit := lead, aux0 := path n, aux1 := lead }
      else none)

/-- Budget 3. -/
def budget3 (s : State) : List Viol × Load :=
  let rs := ((s.recsOf 0x08).filter (fun b => segMode b != 0)).map (fun b => (uSeg (byteAt b 0), ethViols s b))
  let big := largest (fun r => r.2.2) rs
  (leadViols s ++ rs.flatMap (fun r => r.2.1), { unit := (big.map (·.1)).getD 0, measure := 6, value := (big.map (fun r => r.2.2)).getD 0, limit := 9000 })

/-! Budget 4: CAN (R343). Times in units of 12.5 ns. -/

/-- Time of an object's frame on its port. -/
def frameTime (port b : Bytes) : Nat :=
  let n := byteAt b 12
  let ide := (byteAt b 3).testBit 0
  if !(byteAt b 3).testBit 1 then
    (if ide then 67 + 8 * n + (53 + 8 * n) / 4 else 47 + 8 * n + (33 + 8 * n) / 4) * canNomDiv port
  else
    let d := divUp (5 * (8 * n + (if n ≤ 16 then 26 else 30))) 4
    (if ide then 58 else 35) * canNomDiv port + d * (if (byteAt b 3).testBit 2 then canDataDiv port else canNomDiv port)

/-- Budget 4: AUX0 the group with the largest part. -/
def budget4 (s : State) : List Viol × Load :=
  let rs := (s.recsOf 0x18).map (fun b =>
    let p := byteAt b 0
    let q := loadSum (((s.recsOf 0x19).filter (fun o => byteAt o 0 == p && coDir o == 2 && coTrigger o != 1)).map (fun o =>
      (25 * frameTime b o, 2 * gPeriod (s.grpRec (5 + p) (byteAt o 14)))))
    (uCan p, divUp (q.1 * 10000) q.2, decide (q.2 < 2 * q.1)))
  let big := largest (fun r => r.2.1) rs
  ((rs.filter (fun r => r.2.2)).map (fun r => { unit := r.1, measure := 6, value := r.2.1, limit := 5000 }),
   { unit := (big.map (·.1)).getD 0, measure := 6, value := (big.map (fun r => r.2.1)).getD 0, limit := 5000 })

/-! Budget 5: capture (R256). -/

def up64 (n : Nat) : Nat := (n + 63) / 64 * 64

/-- Bytes of one record of a unit. -/
def recordBytes (b : Bytes) : Nat :=
  let n := capPre b + capPost b
  let sb := sampleBytes b
  up64 (80 + 32 * byteAt b 7) + (if (byteAt b 6).testBit 0 then up64 (n * sb) else 0)
  + ((List.range 4).filter (fun i => (byteAt b 6).testBit (i + 1))).length * up64 (n / capR b * sb)

/-- Budget 5. The capture area is 8 GiB (R17): no record sets another. -/
def budget5 (s : State) : List Viol × Load :=
  let us := s.recsOf 0x14
  let area := us.foldl (fun n b => n + le b 28 4) 0
  let reds := fun (b : Bytes) => ((List.range 4).filter (fun i => (byteAt b 6).testBit (i + 1))).length
  let rate := fun (b : Bytes) => (1000000000 * sampleBytes b * ((if (byteAt b 6).testBit 0 then max 1 (capR b) else 0) + reds b), max 1 (capInterval s b) * max 1 (capR b))
  let q := loadSum (us.map rate)
  let big := largest (fun b => (rate b).1 / (rate b).2) us
  let bu := (big.map (fun b => uCap (byteAt b 0))).getD 0
  ((us.filter (fun b => decide (le b 28 4 * 1048576 < recordBytes b * capBufs b))).map (fun b =>
      ({ unit := uCap (byteAt b 0), test := 1, value := recordBytes b, limit := le b 28 4 * 1048576 / max 1 (capBufs b) } : Viol))
   ++ (if 8192 < area then [{ unit := bu, test := 2, value := area, limit := 8192 }] else [])
   ++ (if 12000000000 * q.2 < q.1 then [{ unit := bu, test := 4, measure := 3, value := divUp q.1 q.2, limit := 12000000000 }] else []),
   { unit := bu, measure := 3, value := divUp q.1 q.2, limit := 12000000000 })

/-! Budget 6: Tailrace (R273). -/

/-- Bytes per second of the sources of a channel, in bit order, each a fraction. -/
def trRates (s : State) (b : Bytes) : List (Nat × Nat) :=
  let st := 16 * (stampRaces b).length
  let src := fun (i : Nat) (l : List (Nat × Nat)) => if (byteAt b 1).testBit i then loadSum l else (0, 1)
  let sel := (List.range (min 16 (byteAt b 6))).map (fun i => let o := 24 + 8 * i; (byteAt b o, byteAt b (o + 1), le b (o + 2) 3, le b (o + 5) 3))
  let groups := (sel.map (fun x => (x.1, x.2.1))).eraseDups
  let commit := groups.map (fun g =>
    let mine := sel.filter (fun x => x.1 == g.1 && x.2.1 == g.2)
    let n := s.cfg.points.foldl (fun n e => if e.2.cyclic && bits e.1 27 24 == g.1 && e.2.group == g.2 then
      n + ((List.range (typeSlots e.2.typ)).filter (fun j => mine.any (fun x => decide (x.2.2.1 ≤ e.2.islot + j ∧ e.2.islot + j ≤ x.2.2.2)))).length else n) 0
    (1000000000 * (40 + st + 5 * n + 16 * (mine.length + divUp n 1024)), max 1 (gPeriod (s.grpRec g.1 g.2))))
  let tr := tracedRate s b
  [src 0 commit, src 1 (groups.map (fun g => (1000000000 * 32800, max 1 (gPeriod (s.grpRec g.1 g.2))))), src 2 [(50000 * (32 + st), 1), (16 * tr.1, tr.2)],
   src 3 [(le b 16 4 * (1048 + st), 1)], src 4 (((s.recsOf 0x05).filter (fun c => (byteAt c 5).testBit 2)).map (fun c => (1000000000 * (48 + st), cogMinInt c))),
   src 5 ((s.recsOf 0x0A).map (fun n => (1000000000 * (48 + st), max 1 (gPeriod (s.grpRec (byteAt n 0) (nodeHome n)))))), src 6 [(1000 * (32 + st), 1)], src 7 [(1000 * (104 + st), 1)]]

/-- Budget 6: AUX0 the channel with the largest part, AUX1 its largest source. -/
def budget6 (s : State) : List Viol × Load :=
  let cs := (s.recsOf 0x16).map (fun b => (byteAt b 0, trRates s b))
  let q := loadSum (cs.flatMap (·.2))
  let rate := fun (f : Nat × Nat) => divUp f.1 f.2
  let big := (largest (fun c => (c.2.map rate).foldl (· + ·) 0) cs).getD (0, [])
  let src := (largest (fun i => rate (big.2.getD i (0, 1))) (List.range big.2.length)).getD 0
  ((if 8000000000 * q.2 < q.1 then [{ unit := uSys, measure := 3, value := divUp q.1 q.2, limit := 8000000000, aux0 := big.1, aux1 := src }] else []),
   { unit := if cs.isEmpty then 0 else uSys, measure := 3, value := divUp q.1 q.2, limit := 8000000000 })

/-! Budgets 7 and 8: MRAM and the copy (R388, R442). -/

/-- Edge memories a program uses. -/
def edgesOf (img : Bytes) : Nat :=
  (((List.range (le img 8 4)).filter (fun pc => leOp img pc == 0x14 || leOp img pc == 0x15)).map (fun pc => oIndex (leOpnd img pc))).eraseDups.length

/-- Unit-state bytes of one commit of local group 0 (R388). -/
def unitStateBytes (s : State) : Nat :=
  let n := fun (rt : Nat) => (s.recsOf rt).length
  96 * n 0x0B + 64 * (n 0x0E + n 0x02) + 24 * n 0x05 + 32 * n 0x0D + 80 * ((s.recsOf 0x19).filter (fun b => coDir b == 2)).length
  + 16 * (sfAll s.safe.recs 0x23).length
  + s.cfg.logic.foldl (fun a e => a + 16 * le e.2 20 2 + 8 * le e.2 22 2 + divUp (edgesOf e.2) 8) 0

/-- CHANGE of a group, percent (R443). -/
def changeOf (s : State) (seg grp : Nat) : Nat := match s.rec? 0x1B 0 with
  | some b => byteAt b (seg * 8 + grp)
  | none => 100

def lg0Period (s : State) : Nat := max 1 (gPeriod (s.grpRec 0 0))

/-- Budget 7 (R442): a rate is bytes x 10^9 over ns. -/
def budget7 (s : State) : List Viol × Load :=
  let gs := groupList s
  let rate := fun (g : Nat × Nat × Nat × Nat) => (10000000 * (6400 + 9 * g.2.2.2 * changeOf s g.1 g.2.1 / 2), g.2.2.1)
  let q := loadSum (gs.map (fun g => (5000000 * (12800 + 9 * g.2.2.2 * changeOf s g.1 g.2.1), g.2.2.1))
    ++ [(1000000000 * unitStateBytes s, lg0Period s), (67108864 + 100000000, 1)])
  let big := (largest (fun g => (rate g).1 / (rate g).2) gs).getD (0, 0, 1, 0)
  ((if 2000000000 * q.2 < q.1 then [{ unit := segUnit big.1, measure := 3, value := divUp q.1 q.2, limit := 2000000000, aux0 := big.2.1 }] else []),
   { unit := segUnit big.1, measure := 3, value := divUp q.1 q.2, limit := 2000000000 })

/-- Budget 8 (R388), paired only. -/
def budget8 (s : State) : List Viol × Load :=
  let gs := groupList s
  let rate := fun (g : Nat × Nat × Nat × Nat) => (500000000 * (256 + 9 * g.2.2.2 + 32 * divUp g.2.2.2 1024), g.2.2.1)
  let q := loadSum (gs.map rate ++ [(1000000000 * unitStateBytes s, lg0Period s)])
  let big := (largest (fun g => (rate g).1 / (rate g).2) gs).getD (0, 0, 1, 0)
  if !s.paired then ([], { measure := 3, limit := 5000000000 })
  else
    ((if 5000000000 * q.2 < q.1 then [{ unit := segUnit big.1, measure := 3, value := divUp q.1 q.2, limit := 5000000000, aux0 := big.2.1 }] else []),
     { unit := segUnit big.1, measure := 3, value := divUp q.1 q.2, limit := 5000000000 })

/-! Budgets 9 and 10: safety and Nalat (R3, R370, R372). -/

/-- Response time of a function, us: the largest over its inputs (R372). -/
def fnResponse (s : State) : Nat → Nat → Nat
  | 0, _ => 0
  | f + 1, n =>
    let b := sfRec s.safe.recs 0x22 n
    ((List.range (fnNin b)).map (fun i => match fnInKind b i with
      | 1 => let p := sfRec s.safe.recs 0x20 (fnInIdx b i)
        let tp := sfRec s.safe.recs 0x21 0
        let on := fun (k : Nat) => decide (k < 4) && (byteAt tp 0).testBit k
        250 * (byteAt p 3 + (if on (byteAt p 4) || on (byteAt p 5) then 3 else 0)) + 350
      | 2 => cnWd (sfRec s.safe.recs 0x23 (fnInIdx b i)) * 100 + 2000
      | _ => fnResponse s f (fnInIdx b i))).foldl max 0

/-- The input of a function with that response. -/
def worstInput (s : State) (b : Bytes) : Nat :=
  ((List.range (fnNin b)).find? (fun i => match fnInKind b i with
    | 1 => let p := sfRec s.safe.recs 0x20 (fnInIdx b i)
      let tp := sfRec s.safe.recs 0x21 0
      let on := fun (k : Nat) => decide (k < 4) && (byteAt tp 0).testBit k
      250 * (byteAt p 3 + (if on (byteAt p 4) || on (byteAt p 5) then 3 else 0)) + 350 == fnResponse s 128 (fnNo b)
    | 2 => cnWd (sfRec s.safe.recs 0x23 (fnInIdx b i)) * 100 + 2000 == fnResponse s 128 (fnNo b)
    | _ => fnResponse s 128 (fnInIdx b i) == fnResponse s 128 (fnNo b))).getD 0

/-- Budget 9: UNIT the function, AUX0 its input. -/
def budget9 (s : State) : List Viol × Load :=
  let fs := sfAll s.safe.recs 0x22
  let big := largest (fun b => fnResponse s 128 (fnNo b)) fs
  (onlyIf (!s.sys.variantS) (fs.map (fun b => ({ unit := uSafe (fnNo b) } : Viol)) ++ (sfAll s.safe.recs 0x23).map (fun b => { aux0 := le b 0 2 }))
   ++ (fs.filter (fun b => le b 12 4 < fnResponse s 128 (fnNo b))).map (fun b =>
        { unit := uSafe (fnNo b), measure := 4, value := fnResponse s 128 (fnNo b), limit := le b 12 4, aux0 := worstInput s b }),
   { unit := (big.map (fun b => uSafe (fnNo b))).getD 0, measure := 4, value := (big.map (fun b => fnResponse s 128 (fnNo b))).getD 0, limit := (big.map (fun b => le b 12 4)).getD 0 })

/-- Least watchdog of a connection, us (R370). -/
def wdMin (s : State) (b : Bytes) : Nat := (if s.paired then 6 else 3) * gPeriod (s.grpRec (byteAt b 3) (byteAt b 4)) / 1000 + 1000

/-- Budget 10: AUX0 the connection. -/
def budget10 (s : State) : List Viol × Load :=
  let cs := sfAll s.safe.recs 0x23
  let big := largest (fun b => wdMin s b * 10000 / max 1 (cnWd b)) cs
  ((cs.filter (fun b => cnWd b * 100000 < (if s.paired then 6 else 3) * gPeriod (s.grpRec (byteAt b 3) (byteAt b 4)) + 1000000)).map (fun b =>
      { unit := segUnit (byteAt b 3), measure := 4, value := cnWd b * 100, limit := wdMin s b, aux0 := le b 0 2 }),
   { unit := (big.map (fun b => segUnit (byteAt b 3))).getD 0, measure := 4, value := (big.map (fun b => cnWd b * 100)).getD 0, limit := (big.map (wdMin s)).getD 0 })

end Sys2Proof.Machine
end

