-- ==== Sys2Proof/Machine/Sluice.lean ====
section
/-! DEFINITION. Sluice: the budgets in their order, the report, the change as a candidate configuration (R440, R441, R444). -/

namespace Sys2Proof.Machine

/-- Budgets 0 to 10 in their order: violations and load of each. -/
def budgetOf (old s : State) (i : Nat) : List Viol × Load :=
  match i with
  | 0 => (budget0 old s, {})
  | 1 => budget1 s
  | 2 => budget2 s
  | 3 => budget3 s
  | 4 => budget4 s
  | 5 => budget5 s
  | 6 => budget6 s
  | 7 => budget7 s
  | 8 => budget8 s
  | 9 => budget9 s
  | _ => budget10 s

/-- A LOAD entry: budget, measure, unit, figure, limit (R444). -/
def loadEntry (i : Nat) (l : Load) : List Nat := [i, l.measure, l.unit, l.value, l.limit]

/-- The check from budget `i` on: the first violation, and the loads up to it. `n` budgets are left. -/
def sluiceFrom (old s : State) : Nat → Nat → Option (Nat × Viol) × List (List Nat)
  | 0, _ => (none, [])
  | n + 1, i =>
    let b := budgetOf old s i
    match firstViol b.1 with
    | some v => (some (i, v), [loadEntry i b.2])
    | none =>
      let r := sluiceFrom old s n (i + 1)
      (r.1, loadEntry i b.2 :: r.2)

/-- The report on a candidate `s`, with the module's present state in `old` (R441, R444). CHECK_US is left open. -/
def sluiceReport (old s : State) (us : Nat) : Report :=
  let r := sluiceFrom old s 11 0
  let base : Report := { pkgId := s.cfg.pkgId, checkLmt := old.lmt, checkUs := us, load := r.2 }
  match r.1 with
  | none => base
  | some (i, v) => { base with
      refused := true, budget := i, test := v.test, unit := v.unit, item := v.item, measure := v.measure, value := v.value, limit := v.limit,
      aux0 := v.aux0, aux1 := v.aux1 }

/-- A report in its 512 bytes (R444). -/
def reportBytes (r : Report) : Bytes :=
  let z : Nat → Bytes := fun n => List.replicate n 0
  let entry := fun (e : List Nat) =>
    toLe (e.getD 0 0) 1 ++ toLe (e.getD 1 0) 1 ++ toLe (e.getD 2 0) 2 ++ z 4 ++ toLe (e.getD 3 0) 8 ++ toLe (e.getD 4 0) 8 ++ z 8
  toLe 1 2 ++ [if r.refused then 1 else 0, 0] ++ toLe r.pkgId 4 ++ toLe r.checkLmt 8 ++ toLe r.checkUs 4 ++ z 44
  ++ toLe r.budget 1 ++ toLe r.test 1 ++ toLe r.unit 2 ++ toLe r.item 4 ++ toLe r.measure 1 ++ z 7 ++ toLe r.value 8 ++ toLe r.limit 8
  ++ toLe r.aux0 8 ++ toLe r.aux1 8 ++ z 16
  ++ slice (r.load.flatMap entry ++ z 352) 0 352 ++ z 32

/-! The candidate configuration. -/

/-- The module's configuration as every admitted change leaves it, committed or not: pending packages, sealed programs (R440). -/
def State.nextCfg (s : State) : Cfg :=
  let c1 := s.cfg.queue.foldl (fun c q => c.apply q.pkg (nextPkg c.pkgId)) s.cfg
  let c2 := (List.range 8).foldl (fun (c : Cfg) n => if (s.eng n).prog.sealed then c.withLogic s.sys.modNo n (s.eng n).prog.bg else c) c1
  (List.range 40).foldl (fun (c : Cfg) n => if (s.spin n).prog.sealed then { c with spin := c.spin.set n (s.spin n).prog.bg } else c) { c2 with named := [], dups := [] }

/-- The module under a candidate configuration. -/
def State.under (s : State) (c : Cfg) : State := { s with cfg := { c with inForce := true } }

/-- Sluice's check of a candidate configuration and safety section; a free value is the duration of the check. -/
def State.sluice (s : State) (c : Cfg) (safe : List (Nat × Bytes)) : Report × State :=
  let n := s.under c
  (sluiceReport s { n with safe := { n.safe with recs := safe } } (s.freeVal % 4294967296), s.useFree)

/-- A refusal: the report, EV_SLUICE_REFUSED, ST_REFUSED with BUDGET, TEST and UNIT in DETAIL and VALUE in RESULT (R444). -/
def State.sluiceRefuse (s : State) (f : Flight) (r : Report) (out : List Nat) : State :=
  let detail := r.budget + 256 * r.test + 65536 * r.unit
  (s.raise EV_SLUICE_REFUSED r.unit [r.budget, r.test, r.unit, r.value]).finish f ST_REFUSED
    { detail := detail, result := r.value, commit := some s.lmt, inBuf := !out.isEmpty, out := out }

end Sys2Proof.Machine
end

