-- ==== Sys2Proof/Machine/Admit.lean ====
section
/-! DEFINITION. An admitted change at its commit point: units removed, units that take new records, points, commands in flight (R433, R439, R540, R542). -/

namespace Sys2Proof.Machine

/-! What differs between two configurations. -/

/-- Keys of records of a type that `n` has and `o` has not. -/
def freshKeys (o n : Cfg) (rt : Nat) : List Nat :=
  ((n.recs.filter (fun r => r.rtype == rt && !o.recs.any (sameRec r))).map CfgRec.key)

/-- Keys of records of a type that `o` has and `n` has not. -/
def goneKeys (o n : Cfg) (rt : Nat) : List Nat := freshKeys n o rt

/-- Keys of records of a type that are new in `n` or whose body differs (R81). -/
def diffKeys (o n : Cfg) (rt : Nat) : List Nat :=
  ((n.recs.filter (fun r => r.rtype == rt && !o.recs.any (fun x => sameRec r x && x.body == r.body))).map CfgRec.key)

/-- Started commands on a removed unit complete ST_DISABLED, in fetch order (R542). -/
def State.dropUnit (s : State) (u : Nat) : State := s.finishAll (s.flightsOf (fun f => f.unit == u)) ST_DISABLED

/-! Removal, under the configuration that still names the unit (R439, R542). -/

/-- A node record is removed: ABSENT with RELEASE (R118). -/
def State.removeNode (s : State) (k : Nat) : State :=
  match (s.recsOf 0x0A).find? (fun b => le b 0 4 == k) with
  | none => s
  | some b =>
    let s1 := s.nodeToAbsent b
    { s1 with net := { s1.net with nodes := s1.net.nodes.erase (nodeRecKey b) } }

/-- A capture unit is removed: its open record closes (R257). -/
def State.removeCap (s : State) (u : Nat) : State :=
  let s1 := s.capDisableOne u
  { s1 with caps := s1.caps.erase u }

/-- A loop is removed: as DISABLE, its last output DISABLE_OUT (R149, R150). -/
def State.removeLoop (s : State) (l : Nat) : State :=
  let s1 := (s.loopDisable l).dropUnit (uLoop l)
  { s1 with loops := s1.loops.erase l }

/-- Fantail tasks whose KIND or TARGET a change alters: the former task ends as a removed one (DESIGN CHOICE, log 224). -/
def ftMoved (o n : Cfg) : List Nat :=
  ((o.recs.filter (fun r => r.rtype == 0x0D && n.recs.any (fun x => sameRec r x && (ftKind x.body != ftKind r.body || ftTarget x.body != ftTarget r.body)))).map
    CfgRec.key)

/-- A Fantail task is removed: its test ends as at DISABLE, its commands complete (R432, R542). -/
def State.removeFt (s : State) (k : Nat) : State :=
  let s1 := s.ftStop k ST_DISABLED
  let s2 := s1.finishAll (s1.flightsOf (fun f => f.op / 256 == 7 && f.h.p (if f.op == 0x0705 then 12 else 0) 2 == k)) ST_DISABLED
  { s2 with fts := s2.fts.erase k }

/-- A current-loop channel is removed: its stage goes off. -/
def State.removeCl (s : State) (n : Nat) : State :=
  let c := s.cl n
  (s.setCl n { ({} : ClChan) with ruled := c.ruled, alarmHigh := c.alarmHigh }).dropUnit (uCl n)

/-- A CAN port is removed: off, its pending objects dropped (R344). -/
def State.removeCan (s : State) (p : Nat) : State :=
  let s1 := s.dropUnit (uCan p)
  { s1 with cans := s1.cans.erase p }

/-- A Tailrace channel is removed: production stops, the partly filled buffer goes back (R270). -/
def State.removeTr (s : State) (c : Nat) : State :=
  let s1 := s.trFlush c true
  { s1 with tr := s1.tr.erase c }

/-- Races, cogs, fast outputs, encoders, domains of a configuration that is going. -/
def State.removeTime (n : Cfg) (s : State) : State :=
  let o := s.cfg
  let s1 := (goneKeys o n 5).foldl (fun s c => let s1 := s.dropUnit (uCog c); { s1 with cogs := s1.cogs.erase c }) s
  let s2 := (goneKeys o n 2).foldl (fun s r => let s1 := s.dropUnit (uRace r); { s1 with races := s1.races.erase r }) s1
  { s2 with
    fos := (goneKeys o n 6).foldl SMap.erase s2.fos
    encs := (goneKeys o n 1).foldl SMap.erase s2.encs
    doms := (goneKeys o n 3).foldl SMap.erase s2.doms }

/-- Field network and CAN. -/
def State.removeNet (n : Cfg) (s : State) : State :=
  let o := s.cfg
  let s1 := (goneKeys o n 0x0A).foldl State.removeNode s
  let s2 := (goneKeys o n 8).foldl (fun s g => s.dropUnit (uSeg g)) s1
  let s3 := (goneKeys o n 0x18).foldl State.removeCan s2
  { s3 with img := { s3.img with groups := (goneKeys o n 9).foldl (fun m k => SMap.erase m (gKey (k % 256) (k / 256))) s3.img.groups } }

/-- Loops, groups, Fantail, motion. -/
def State.removeControl (n : Cfg) (s : State) : State :=
  let o := s.cfg
  let s1 := (goneKeys o n 0x0D ++ ftMoved o n).foldl State.removeFt s
  let s2 := (goneKeys o n 0x0B).foldl State.removeLoop s1
  let s3 := (goneKeys o n 0x0C).foldl (fun s g => let s1 := s.dropUnit (uGroup g); { s1 with ogs := s1.ogs.erase g }) s2
  (goneKeys o n 0x0E).foldl (fun s x => let s1 := s.dropUnit (uAxis x); { s1 with mot := { s1.mot with axes := s1.mot.axes.erase x } }) s3

/-- Analogue and digital, capture, recording, Hopper. -/
def State.removeRest (n : Cfg) (s : State) : State :=
  let o := s.cfg
  let s1 := (goneKeys o n 0x0F).foldl (fun s q => let s1 := s.dropUnit (uSeq q); { s1 with ana := { s1.ana with seqs := s1.ana.seqs.erase q } }) s
  let s2 := (goneKeys o n 0x12).foldl State.removeCl s1
  let s3 := { s2 with ana := { s2.ana with
    timers := (goneKeys o n 0x10).foldl SMap.erase s2.ana.timers
    pwms := (goneKeys o n 0x11).foldl SMap.erase s2.ana.pwms
    dios := (goneKeys o n 0x13).foldl SMap.erase s2.ana.dios } }
  let s4 := (goneKeys o n 0x14).foldl State.removeCap s3
  let s5 := (goneKeys o n 0x16).foldl State.removeTr s4
  (goneKeys o n 0x30).foldl (fun s k => let s1 := s.hopStop k; { s1 with hop := { s1.hop with tasks := s1.hop.tasks.erase k } }) s5

/-- Unit identifier of a record that is a unit with commands (R37), by RTYPE and key. -/
def unitOfRec (rt k : Nat) : Option Nat :=
  if rt = 2 then some (uRace k) else if rt = 5 then some (uCog k) else if rt = 0x0B then some (uLoop k) else if rt = 0x0C then some (uGroup k)
  else if rt = 0x0E then some (uAxis k) else if rt = 0x14 then some (uCap k) else if rt = 0x18 then some (uCan k) else if rt = 8 then some (uSeg k)
  else if rt = 0x12 then some (uCl k) else if rt = 0x0F then some (uSeq k) else none

/-- A removed unit is no longer disabled. -/
def State.dropDisabled (n : Cfg) (s : State) : State :=
  let gone := (s.cfg.recs.filter (fun r => !n.recs.any (sameRec r))).filterMap (fun r => unitOfRec r.rtype r.key)
  { s with cfg := { s.cfg with disabled := s.cfg.disabled.filter (fun u => !gone.contains u) } }

/-! Units that take a new record (R439). -/

/-- Domains: a new ROLE starts the domain again, at its time (R65). -/
def State.takeDomains (o : Cfg) (s : State) : State :=
  (diffKeys o s.cfg 3).foldl (fun s d =>
    let x := s.dom d
    let role := domRole (s.domRec d)
    let was := ((o.recs.find? (fun r => r.rtype == 3 && r.key == d)).map (fun r => domRole r.body)).getD 0
    if role = was then s
    else (s.setDom d { x with st := if role = 0 then .disabled else .free, now := domTime x s.lmt, lmtAt := s.lmt, rate := 0, slew := 0, heard := false, goodSyncs := 0, gm := none, ports := [] }).domPoints d) s

/-- Races: an enabled one leaves IDLE, parents first (R50). -/
def State.takeRaces (s : State) : State :=
  (s.recsOf 2).foldl (fun s b =>
    let n := byteAt b 0
    if (s.race n).st != .idle || s.isDis (uRace n) || s.parentIdle n then s
    else s.raceStartTree 4 n ((s.race n).born && s.raceIncremental 4 n)) s

/-- Cogs whose record is new or changed start again from it (R81); outputs take IDLE_LEVEL (R83). -/
def State.takeCogs (o : Cfg) (s : State) : State :=
  let s1 := (diffKeys o s.cfg 5).foldl (fun s c =>
    let b := s.cogRec c
    let armed := (byteAt b 5).testBit 0 && (s.race (cogRace b)).st != .idle && !s.isDis (uCog c)
    (s.setCog c (freshCog b armed)).cogPoints c) s
  let s2 := { s1 with fos := s1.fos.mapV (fun _ f => { f with cmdSeen := none }) }
  (diffKeys o s2.cfg 6).foldl (fun s k =>
    let b := s.foRec k
    (s.setFo k { s.fo k with hiZ := byteAt b 1 == 0, level := byteAt b 2 == 1, pending := [] }).foPoints k) s2

/-- Groups: a new or changed one has no previous start (R85). Ports: TXDIS follows the segments (R504, R521). A node that is not exchanging, a new one among them,
has its points ABSENT, those that the change adds too (R23, R117, R118). -/
def State.takeNet (o : Cfg) (s : State) : State :=
  let s1 := (diffKeys o s.cfg 9).foldl (fun s k =>
    let g := gKey (k % 256) (k / 256)
    s.setGroup g { s.group g with started := false, delayed := none }) s
  let s2 := [1, 2, 3, 4].foldl (fun s p =>
    let g := s.gateList p
    (s.setPort p { s.port p with gateCycle := g.1, gates := g.2 }).portTx p) s1
  (s2.recsOf 0x0A).foldl (fun s b => if s.nodePresent (nodeRecKey b) then s else s.nodeAbsent b) s2

/-- A new or changed axis record: its maxima are in force, those of AXIS_LIMITS are not any more, and FLAGS[3] enables at the next update (R211). -/
def State.takeAxis (s : State) (x : Nat) : State :=
  let a := { s.axis x with lim := [0, 0, 0, 0], fresh := true }
  s.setAxis x { a with restoring := !a.rest && a.exceeds (a.limNow (s.axRec x)) }

/-- A new or changed Fantail task: its MODE is the record's; MODE 0 makes it IDLE, FLAGS[0] starts it (R163, R164). -/
def State.takeFt (s : State) (k : Nat) : State :=
  let b := s.ftRec k
  let s1 := s.setFt k { s.ft k with mode := byteAt b 4 }
  if byteAt b 4 = 0 then s1.ftStop k ST_ABORTED
  else if (byteAt b 5).testBit 0 && (s1.ft k).st == .idle && !s1.isDis (uFt (ftUnit b)) then s1.ftState k .running
  else s1

/-- A changed record of a DISABLED loop with another coefficient set: the set is in force in the foreground, and in a background that holds no writes
(R156 refuses it for a running loop; DESIGN CHOICE, log 223). -/
def State.takeCoef (s : State) (l : Nat) : State :=
  let c := slice (s.loopRec l) 96 192
  let p := s.loop l
  if p.mode == .disabled && p.coef.fg != c then
    s.setLoop l { p with coef := { p.coef with fg := c, bg := if p.coef.bg == p.coef.fg && !p.coef.sealed then c else p.coef.bg } }
  else s

/-- A new loop counts as DISABLED with its record's coefficient set in both banks (R149, R155). -/
def State.takeControl (o : Cfg) (s : State) : State :=
  let s0 := (diffKeys o s.cfg 0x0B).foldl State.takeCoef s
  let s1 := (freshKeys o s.cfg 0x0B).foldl (fun s l =>
    let c := slice (s.loopRec l) 96 192
    s.setLoop l { coef := { fg := c, bg := c } }) s0
  let s2 := (diffKeys o s1.cfg 0x0D).foldl State.takeFt s1
  let s3 := (freshKeys o s2.cfg 0x0E).foldl (fun s x => s.setAxis x {}) s2
  (diffKeys o s3.cfg 0x0E).foldl State.takeAxis s3

/-- Sequences: a continuous one runs from admission; results wait for a first conversion (R218, R221). -/
def State.takeSeqs (o : Cfg) (s : State) : State :=
  (diffKeys o s.cfg 0x0F).foldl (fun s n =>
    let q := s.seq n
    let s1 := s.setSeq n { q with results := [], ovr := [], starts := [] }
    if seqTrig (s.seqRec n) = 4 ∧ q.running.isNone ∧ !s.isDis (uSeq n) then s1.seqBegin n s1.lmt else s1.seqPoints n) s

/-- Current loops the change names (R232, R236, R237, R522), digital channels, PWM outputs and timers whose record differs. -/
def State.takeAnalogue (o : Cfg) (named : List Nat) (s : State) : State :=
  let s1 := named.foldl State.clAdmit { s with ana := { s.ana with pairedFe := s.paired } }
  let s2 := (diffKeys o s1.cfg 0x13).foldl (fun s n =>
    let d := s.dio n
    (s.setDio n { d with on := d.on && dioDir (s.dioRec n) == 2 }).dioPoints n) s1
  let s3 := (diffKeys o s2.cfg 0x11).foldl (fun s n => s.setPwm n { s.pwm n with live := false, on := 0 }) s2
  { s3 with ana := { s3.ana with timers := (diffKeys o s3.cfg 0x10).foldl SMap.erase s3.ana.timers } }

/-- Capture units: an open record of a changed unit closes, an ARMED one starts its buffer again; FLAGS[0] arms (R247, R252). -/
def State.takeCaps (o : Cfg) (s : State) : State :=
  let ks := diffKeys o s.cfg 0x14
  let s1 := ks.foldl (fun s u =>
    let c := s.cap u
    match c.st with
    | .filling => s.capClose u true (c.trig.getD { at' := s.lmt, src := 255, unit := u })
    | .armed => s.capArm u
    | _ => s) s
  ks.foldl (fun s u =>
    if (byteAt (s.capRec u) 3).testBit 0 && (s.cap u).st == .idle && !s.isDis (uCap u) && (s.capGroup u).all s.capFree then
      s.setCap u { s.cap u with arming := true }
    else s) s1

/-- Tailrace channels with FLAGS[0] start (R266). -/
def State.takeTr (o : Cfg) (s : State) : State :=
  (diffKeys o s.cfg 0x16).foldl (fun s c => if (byteAt (s.rcd 0x16 c) 2).testBit 0 then s.trStart c else s) s

/-- A port whose record differs starts again by bus integration, its CAN_SENDs kept; commands it can no longer serve are refused (R339, R345, R542). -/
def State.takeCan (o : Cfg) (s : State) : State :=
  let s1 := (diffKeys o s.cfg 0x18).foldl (fun s p =>
    let c := s.can p
    let s1 := s.canAdmit p false
    (s1.setCan p { s1.can p with objs := c.objs }).canPoints p) s
  s1.cans.foldl (fun s e =>
    let p := e.1
    let dead := e.2.objs.filter (fun x => (s.canObjRec? p x.1).isNone)
    let s1 := dead.foldl (fun s x => s.finishAll (s.canSends p x.1) ST_REFUSED) s
    s1.setCan p { s1.can p with objs := (s1.can p).objs.filter (fun x => (s.canObjRec? p x.1).isSome) }) s1

/-- A module's role when the pair record comes or goes: alone ACTIVE, or single. -/
def State.takePair (s : State) : State :=
  if s.paired ∧ s.red.role = .single then s.setRole .active
  else if !s.paired ∧ s.red.role ≠ .single then s.setRole .single
  else s

/-- Hopper tasks: extension tasks with FLAGS[0] start, logic event tasks wait (R450). -/
def State.takeHopper (o : Cfg) (s : State) : State :=
  (s.hopTasks).foldl (fun s n => match s.hopCfg? n with
    | none => s
    | some c =>
      let dorm := (s.hopT n).st == .dormant
      if c.ext then (if dorm && c.auto && (diffKeys o s.cfg 0x30).contains n then s.setHopT n { s.hopT n with st := .waiting, flags := 0, heldFlags := 0 } else s)
      else if dorm && !s.leDis (c.ltask / 256 % 16) (c.ltask % 256) then s.setHopT n { s.hopT n with st := .waiting }
      else s) s

/-- A bank takes an admitted image as its foreground; a sealed background waits on. -/
def Bank.takeIn (b : Bank) (img : Bytes) : Bank := { b with fg := img, written := b.sealed && b.written }

/-- An engine's new program (R294, R305, R307); a first one takes INIT_MODE (R295). -/
def State.takeProgram (o : Cfg) (s : State) (n : Nat) : State :=
  let img := s.cfg.logic.getD n []
  if img == o.logic.getD n [] then s
  else if img.isEmpty then
    let s1 := s.leDiscard n
    s1.setEng n { s1.eng n with prog := {}, ready := [], timers := [], counters := [], edges := [] }
  else
    let e := s.eng n
    let first := (o.logic.getD n []).isEmpty
    let e1 := ({ e with prog := e.prog.takeIn img, changes := 0, mode := if first && byteAt (s.leRec n) 1 == 1 && !s.isDis (uEngine n) then .run else e.mode }).adopt img
    (s.setEng n e1).enginePoints n

/-- Admitted loads of the engines (R307). -/
def State.takeLoads (s : State) : State :=
  (List.range 8).foldl (fun s n =>
    let img := (s.eng n).prog.fg
    let l := if img.isEmpty then 0 else (leBudget s n img).2
    if l = (s.eng n).load then s else (s.setEng n { s.eng n with load := l }).enginePoints n) s

/-- Logic engines, Hopper and spindle programs. -/
def State.takePrograms (o : Cfg) (s : State) : State :=
  let s1 := ((List.range 8).foldl (State.takeProgram o) s).takeLoads
  (List.range 40).foldl (fun s n =>
    let img := s.cfg.spin.getD n []
    if img == o.spin.getD n [] then s
    else
      let p := s.spin n
      s.setSpin n { p with
        prog := if img.isEmpty then {} else p.prog.takeIn img, kept := []
        queue := p.window.toList ++ p.queue, window := none }) (s1.takeHopper o)

/-- Microstep and placement sections go into background banks (R437); a sealed bank is left as it is. -/
def State.takeBanks (p : Package) (s : State) : State :=
  let s1 := p.micro.foldl (fun s b =>
    let x := byteAt b 0
    let a := s.axis x
    if a.table.sealed then s else s.setAxis x { a with table := a.table.write (slice b 8 4096) }) s
  p.place.foldl (fun s b => match s.headRec? (byteAt b 0) (le b 2 2) with
    | none => s
    | some hd =>
      let set := headSet hd
      let k := nodeKey (byteAt b 0) (le b 2 2)
      if (s.pset set).sealed then s
      else
        let x := (List.range 4096).foldl (fun (x : BankSet) i =>
          let o := 8 + 8 * i
          x.putBg (k * 4096 + i) { fireTrim := BitVec.ofNat 16 (be b o 2), driveTrim := BitVec.ofNat 16 (be b (o + 2) 2), health := BitVec.ofNat 32 (be b (o + 4) 4) }) (s.pset set)
        (s.setPset set { x with undurable := true }).setPoints set) s1

/-! Points (R14, R540). -/

/-- Slots of points that are gone or have changed their type are empty; new points take their initial values. -/
def State.takePoints (o : Cfg) (s : State) : State :=
  let kept := fun (a : Nat) => match s.cfg.points.get? a, o.points.get? a with
    | some p, some q => p.typ == q.typ && p.cyclic == q.cyclic
    | _, _ => false
  let dead := (o.points.filter (fun e => !kept e.1)).flatMap (fun e => e.2.slots)
  let clr {α : Type} (m : SMap α) : SMap α := dead.foldl SMap.erase m
  let s1 := { s with img := { s.img with
    front := clr s.img.front, back := clr s.img.back, frontQ := clr s.img.frontQ, cond := clr s.img.cond, changed := clr s.img.changed
    paged := clr s.img.paged, pqual := clr s.img.pqual } }
  let new := (s.cfg.points.filter (fun e => !kept e.1)).map Prod.snd
  let s2 := (new.filter (fun p => p.cyclic)).foldl State.initPoint s1
  let s3 := { s2 with img := { s2.img with
    paged := (new.filter (fun (p : PointDef) => !p.cyclic)).foldl (fun (m : SMap W32) (p : PointDef) => p.slots.foldl (fun m a => SMap.put 0 m a (slotHalf p a p.init)) m) s2.img.paged } }
  s3.dropForces o.points

/-! Commands in flight (R542). -/

/-- A waiting command that the new record forbids: it would now complete ST_REFUSED at its fetch. -/
def State.nowRefused (s : State) (f : Flight) : Bool :=
  let n := f.unit % 4096
  if f.op = 0x0901 then seqTrig (s.seqRec n) != 0 && (s.seq n).running.isNone
  else if f.op = 0x0601 then lpFlag (s.loopRec n) 0
  else if f.op = 0x0502 then f.commit.isNone && (match s.pointOf f.h.tgt with
    | some p => p.writer != 3
    | none => (s.nozzleOf f.h.tgt).isNone)
  else if f.op = 0x0303 then raceSource (s.raceRec n) != 0 || encMode (s.encRec (raceSrc (s.raceRec n))) == 3
    || !(byteAt (s.encRec (raceSrc (s.raceRec n))) 5).testBit 0
  else if f.op = 0x0703 then byteAt (s.loopRec (ftTarget (s.ftRec (f.h.p 0 2)))) 11 == 1
  else if f.op = 0x0904 then s.calBlocked n false && (s.cl n).cal.isNone
  else if f.op = 0x0B06 then !s.forceable f.forceAddr
  else if f.op = 0x0B04 then !leDebug (s.leRec (n / 256))
  else if f.op = 0x0D01 then byteAt (s.canRec n) 1 != 1 || coTrigger (s.canObjRec n f.mark) != 1 || s.canListen n
  else if f.op = 0x0D03 then (s.can n).detect.isNone
  else false

/-- Commands that the new records forbid complete ST_REFUSED at the commit point (R542). -/
def State.refuseNow (s : State) : State := s.finishAll (s.flightsOf s.nowRefused) ST_REFUSED { commit := some s.lmt }

/-! The change as a whole. -/

/-- Channels of RTYPE 0x0012 that a package admits. -/
def admittedCls (p : Package) : List Nat := (p.recs.filter (fun r => r.1.rtype == 0x12 && !r.2)).map (fun r => r.1.key)

/-- A configuration takes the place of the one in force; `cls` are the current-loop channels it names (R439, R542). -/
def State.applyCfg (s : State) (n : Cfg) (cls : List Nat) : State :=
  let o := s.cfg
  let s1 := ((((s.removeTime n).removeNet n).removeControl n).removeRest n).dropDisabled n
  let s2 := { s1 with cfg := { n with named := [], dups := [], disabled := s1.cfg.disabled, queue := s1.cfg.queue, stage := s1.cfg.stage, report := s1.cfg.report, admitAt := s.lmt } }
  let s3 := (((s2.takePoints o).takeDomains o).takeRaces.takeCogs o).takeNet o
  let s4 := ((((s3.takeControl o).takeSeqs o).takeAnalogue o cls).takeCaps o).takeTr o
  ((s4.takeCan o).takePair).takePrograms o

/-- A package comes into force (R439, R440, R542). -/
def State.applyPackage (s : State) (p : Package) : State :=
  ((s.applyCfg (s.cfg.apply p (nextPkg s.cfg.pkgId)) (admittedCls p)).takeBanks p).refuseNow

/-- The active module's configuration as the bulk copy brings it: in force on the standby from here on (R385, R387). -/
def State.mirrorConfig (s : State) (x : Cfg) : State :=
  let s1 := s.applyCfg { x with queue := s.cfg.queue, stage := s.cfg.stage, stageDurable := s.cfg.stageDurable, report := s.cfg.report }
    (diffKeys s.cfg x 0x12)
  { s1 with cfg := { s1.cfg with disabled := x.disabled, inForce := x.inForce } }

/-- Configurations among the units of a good bulk block (R385). -/
def State.mirrorConfigs (s : State) (kind : Nat) (ok : Bool) (units : List (Nat × UnitState)) : State :=
  if kind != 3 || !ok || (s.red.role != .standby && s.red.role != .syncing) then s
  else units.foldl (fun s e => match e.2 with
    | .config x => s.mirrorConfig x
    | _ => s) s

end Sys2Proof.Machine
end

