-- ==== Sys2Proof/Machine/Commands.lean ====
section
/-! DEFINITION. Host commands on the configuration, UNIT_DISABLE and UNIT_ENABLE, seals of programs, the safety section, ABORT (R304, R324, R373, R430 to R433, R439, R440). -/

namespace Sys2Proof.Machine

/-! Packages (R439). -/

/-- Both signatures of a package verify with a configuration key that is programmed and not revoked (R438, R473). -/
def State.pkgSigned (s : State) (h : CmdHdr) : Bool := h.sigOk && sigBlockOk h.data (le h.data 40 8) 1 s.sys.ckSlots

/-- The tool may not send unsigned packages (R438, R473). -/
def gateCfgLoad (h : CmdHdr) (s : State) : Gate :=
  let base := firstBad [needSys h, needBuf h 0, zeroTail h 12]
  { exempt := true
    invalid := match base, parsePackage (h.data.take h.bufLen) h.bufLen (s.pkgSigned h) s.signedOnly with
      | some o, _ => some o
      | none, .error o => some o
      | none, .ok _ => none }

/-- CFG_LOAD: the package is staged, and ST_OK once it is durable (R439). -/
def goCfgLoad (f : Flight) (s : State) : State :=
  match parsePackage (f.h.data.take f.h.bufLen) f.h.bufLen (s.pkgSigned f.h) s.signedOnly with
  | .error _ => s
  | .ok p =>
    let s1 : State := { s with
      cfg := { s.cfg with stage := some p, stageDurable := false }
      journal := s.journal ++ [{ seq := s.jseq, grp := 72, cycle := 0, slots := [], stage := some (some p) }], jseq := s.jseq + 1 }
    (s1.setFlight { f with commit := some s.lmt, mark := s.jseq + 1 }).raise EV_CFG_STAGED

def runCfgLoad (h : CmdHdr) (s : State) : State := start 0x0201 (gateCfgLoad h s) goCfgLoad h s

/-- The staged package as a change of the configuration that the previous change leaves; none where the stage is empty or a delta's base differs. -/
def State.stagedChange (s : State) : Option (Package × Cfg) :=
  match s.cfg.stage with
  | none => none
  | some p =>
    let c := s.nextCfg
    if p.delta && p.baseId != c.pkgId then none else some (p, c.apply p (nextPkg c.pkgId))

/-- CFG_CHECK writes the report and changes nothing (R439). -/
def gateCfgCheck (h : CmdHdr) (s : State) : Gate :=
  { exempt := true, invalid := firstBad [needSys h, needBuf h 512, zeroTail h 12, if s.stagedChange.isSome then none else some 8] }

/-- A safety section: its records, then SAFETY_CRC over them in its last four bytes (R373; the place is DEDUCED, log 43). None where a channel rejects it. -/
def parseSafety (b : Bytes) : Option (List (Nat × Bytes) × W32) :=
  let lim := (b.length - 4) / 8 * 8
  if b.length < 4 then none
  else match parseRecs b true lim (lim / 8 + 1) 0 with
    | .error _ => none
    | .ok rs =>
      let crc := le b (b.length - 4) 4
      if (dupRec rs).isSome ∨ rs.any (·.del) ∨ crc ≠ crc32c (b.take lim) then none
      else some (rs.map (fun x => (x.r.rtype, x.r.body)), BitVec.ofNat 32 crc)

/-- The safety section that Sluice checks with a change: the package's, else the accepted one (R3, R373). A module without safety channels has none to
reject it, and checks its records alone. -/
def State.sectionOf (s : State) (p : Package) : List (Nat × Bytes) := match p.safety with
  | none => s.safe.recs
  | some b => match parseSafety b with
    | some x => x.1
    | none => if s.sys.variantS then s.safe.recs else
        match parseRecs b true ((b.length - 4) / 8 * 8) (b.length / 8 + 1) 0 with
        | .error _ => []
        | .ok rs => rs.map (fun x => (x.r.rtype, x.r.body))

def goCfgCheck (f : Flight) (s : State) : State :=
  match s.stagedChange with
  | none => s
  | some (p, c) =>
    let r := s.sluice c (s.sectionOf p)
    let out := nums (reportBytes r.1)
    if r.1.refused then r.2.sluiceRefuse f r.1 out else r.2.okOut f out

def runCfgCheck (h : CmdHdr) (s : State) : State := start 0x0202 (gateCfgCheck h s) goCfgCheck h s

/-- An admissible change waits for the commit of local group 0, its report with it (R439). -/
def State.pend (s : State) (f : Flight) (p : Package) (r : Report) (out : List Nat) : State :=
  { s with cfg := { s.cfg with queue := s.cfg.queue ++ [{ ring := f.h.ring, tag := f.h.tag, pkg := p, report := out }], report := r } }

def gateCfgAdmit (h : CmdHdr) (s : State) : Gate :=
  { exempt := true, invalid := firstBad [needSys h, needBuf h 512, zeroTail h 16,
      if s.stagedChange.isSome then none else some 8, needP 12 (s.cfg.stage.all (fun p => p.pkgId == h.p 12 4))] }

/-- CFG_ADMIT: the check of CFG_CHECK, then the change at the next commit of local group 0 (R439). -/
def goCfgAdmit (f : Flight) (s : State) : State :=
  match s.stagedChange with
  | none => s
  | some (p, c) =>
    let r := s.sluice c (s.sectionOf p)
    let out := nums (reportBytes r.1)
    if r.1.refused then r.2.sluiceRefuse f r.1 out else r.2.pend f p r.1 out

def runCfgAdmit (h : CmdHdr) (s : State) : State := start 0x0203 (gateCfgAdmit h s) goCfgAdmit h s

/-- The records of a CFG_RECORD buffer, or the offset of the first that is not valid, or that repeats one (R434, R436, R439). -/
def recordDelta (h : CmdHdr) : Except Nat (List (CfgRec × Bool)) :=
  match parseRecs (h.data.take h.bufLen) false (h.p 12 4) (h.p 12 4 / 8 + 1) 0 with
  | .error o => .error o
  | .ok rs => match dupRec rs with
    | some o => .error o
    | none => .ok (rs.map (fun x => (x.r, x.del)))

/-- The records as a package: a delta on the configuration in force. -/
def recordPackage (rs : List (CfgRec × Bool)) (base : Nat) : Package :=
  { pkgId := nextPkg base, baseId := base, delta := true, signed := false, recs := rs, points := [], logic := [], spin := [], micro := [], place := [], safety := none }

def gateCfgRecord (h : CmdHdr) (_ : State) : Gate :=
  let base := firstBad [needSys h, needBuf h (h.p 12 4 + 512), zeroTail h 16]
  { exempt := true
    invalid := match base, recordDelta h with
      | some o, _ => some o
      | none, .error o => some o
      | none, .ok _ => none }

/-- CFG_RECORD: its records as a delta, with the check and the commit point of CFG_ADMIT (R439). -/
def goCfgRecord (f : Flight) (s : State) : State :=
  match recordDelta f.h with
  | .error _ => s
  | .ok rs =>
    let c := s.nextCfg
    let p := recordPackage rs c.pkgId
    let r := s.sluice (c.apply p p.pkgId) s.safe.recs
    let out := nums (reportBytes r.1)
    if r.1.refused then r.2.sluiceRefuse f r.1 out else r.2.pend f p r.1 out

def runCfgRecord (h : CmdHdr) (s : State) : State := start 0x0204 (gateCfgRecord h s) goCfgRecord h s

/-- CFG_READ: the admitted configuration as an unsigned full package; a short buffer answers the size needed (R429). -/
def gateCfgRead (h : CmdHdr) (_ : State) : Gate := { exempt := true, invalid := firstBad [needSys h, needBuf h 0, zeroTail h 12] }

def goCfgRead (f : Flight) (s : State) : State :=
  let tool := (List.range 6).flatMap (fun i => toLe (Config.freeValue (s.free + i)).toNat 8)
  let s1 := { s with free := s.free + 6 }
  let b := s.cfg.package tool
  if f.h.bufLen < b.length then s1.finish f ST_INVALID { result := b.length, detail := 24 }
  else s1.okOut f (nums b)

def runCfgRead (h : CmdHdr) (s : State) : State := start 0x0205 (gateCfgRead h s) goCfgRead h s

/-- SLUICE_READ: the load part of the report for the admitted configuration (R429, R444). -/
def gateSluiceRead (h : CmdHdr) (_ : State) : Gate := { exempt := true, invalid := firstBad [needSys h, needBuf h 512, zeroTail h 12] }

def goSluiceRead (f : Flight) (s : State) : State :=
  let r := s.sluice s.cfg s.safe.recs
  let last := s.cfg.report
  r.2.okOut f (nums (reportBytes { load := r.1.load, budget := 0xFF, pkgId := s.cfg.pkgId, checkLmt := last.checkLmt, checkUs := last.checkUs }))

def runSluiceRead (h : CmdHdr) (s : State) : State := start 0x0208 (gateSluiceRead h s) goSluiceRead h s

/-! Seals of programs (R304, R324). -/

/-- The report of a seal, where the command names a buffer for it. -/
def sealOut (h : CmdHdr) (r : Report) : List Nat := if h.buf then nums (reportBytes r) else []

/-- A buffer is optional: where it is named it holds a report; else no parameter is used. -/
def optReport (h : CmdHdr) : List (Option Nat) := if h.buf then [needBuf h 512, zeroTail h 12] else [zeroTail h 0]

def gateLogicSeal (h : CmdHdr) (s : State) : Gate :=
  let e := s.eng (h.inst / 256)
  leGate h s (optReport h) (!e.prog.written || e.prog.sealed || e.mode == .hold)

/-- LOGIC_SEAL: the background program and what it implies as one change; sealed if Sluice admits it (R304). -/
def goLogicSeal (f : Flight) (s : State) : State :=
  let n := f.h.inst / 256
  let e := s.eng n
  let c := s.nextCfg.withLogic s.sys.modNo n e.prog.bg
  let r := s.sluice { c with pkgId := nextPkg c.pkgId } s.safe.recs
  let out := sealOut f.h r.1
  if r.1.refused then r.2.sluiceRefuse f r.1 out
  else ((r.2.setEng n { e with prog := { e.prog with sealed := true, deferred := false } }).setFlight { f with out := out }).enginePoints n

def runLogicSeal (h : CmdHdr) (s : State) : State := start 0x0B02 (gateLogicSeal h s) goLogicSeal h s

def gateSpinSeal (h : CmdHdr) (s : State) : Gate :=
  let p := s.spin h.inst
  spinGate h s (optReport h) (!p.prog.written || p.prog.sealed) false

/-- SPIN_SEAL: the background program as one change; it swaps at the first gap once it is durable (R324). -/
def goSpinSeal (f : Flight) (s : State) : State :=
  let n := f.h.inst
  let p := s.spin n
  let c := s.nextCfg
  let r := s.sluice { c with spin := c.spin.set n p.prog.bg, pkgId := nextPkg c.pkgId } s.safe.recs
  let out := sealOut f.h r.1
  if r.1.refused then r.2.sluiceRefuse f r.1 out
  else (r.2.setSpin n { p with prog := { p.prog with sealed := true, deferred := false } }).setFlight { f with out := out }

def runSpinSeal (h : CmdHdr) (s : State) : State := start 0x0C02 (gateSpinSeal h s) goSpinSeal h s

/-! The safety section (R373). -/

/-- A section of an admitted package is staged, unless a channel rejects it (R373). -/
def State.stageSafety (s : State) (sec : Option Bytes) : State :=
  match sec with
  | none => s
  | some b => if s.sys.variantS then { s with safe := { s.safe with staged := parseSafety b, accepting := false } } else s

def gateSafeConfigStage (h : CmdHdr) (s : State) : Gate :=
  { invalid := firstBad [needSys h, needBuf h 4, zeroTail h 12, if !s.sys.variantS || (parseSafety (h.data.take h.bufLen)).isSome then none else some 16],
    disabled := !s.sys.variantS }

/-- SAFE_CONFIG_STAGE: both channels have checked the section; Sluice checks it as a change (R374, R440). -/
def goSafeConfigStage (f : Flight) (s : State) : State :=
  match parseSafety (f.h.data.take f.h.bufLen) with
  | none => s
  | some x =>
    let r := s.sluice s.nextCfg x.1
    if r.1.refused then r.2.sluiceRefuse f r.1 []
    else ({ r.2 with safe := { r.2.safe with staged := some x, accepting := false } }).ok f

def runSafeConfigStage (h : CmdHdr) (s : State) : State := start 0x0E03 (gateSafeConfigStage h s) goSafeConfigStage h s

/-- A function of either channel is in RUN or STOPPING. -/
def State.fnBusy (s : State) : Bool :=
  let busy := fun (c : SafeChan) => c.fns.any (fun e => e.2.st == FnState.run || e.2.st == FnState.stopping)
  busy s.safe.a || busy s.safe.b

def gateSafeConfigAccept (h : CmdHdr) (s : State) : Gate :=
  { invalid := firstBad [needSys h, noBuf h, zeroTail h 4]
    disabled := !s.sys.variantS
    refused := s.fnBusy || s.safe.accepting || !(s.safe.staged.any (fun x => x.2.toNat == h.p 0 4)) }

/-- SAFE_CONFIG_ACCEPT: at the next safety cycle, unless Sluice refuses the section (R373). -/
def goSafeConfigAccept (f : Flight) (s : State) : State :=
  match s.safe.staged with
  | none => s
  | some x =>
    let r := s.sluice s.nextCfg x.1
    if r.1.refused then r.2.sluiceRefuse f r.1 []
    else { r.2 with safe := { r.2.safe with accepting := true } }

def runSafeConfigAccept (h : CmdHdr) (s : State) : State := start 0x0E04 (gateSafeConfigAccept h s) goSafeConfigAccept h s

/-! UNIT_DISABLE and UNIT_ENABLE (R432, R433). -/

/-- RTYPE of a unit kind's record; 0 where the kind needs none. -/
def kindRec (k : Nat) : Nat :=
  if k = 1 then 2 else if k = 2 then 5 else if k = 3 then 0x0B else if k = 4 then 0x0C else if k = 5 then 0x0E else if k = 6 then 0x14
  else if k = 8 then 0x18 else if k = 9 then 8 else if k = 10 then 0x12 else if k = 11 then 0x0F else 0

/-- The unit is configured. -/
def State.unitThere (s : State) (u : Nat) : Bool :=
  let k := u / 4096
  let i := u % 4096
  if kindRec k ≠ 0 then (s.rec? (kindRec k) i).isSome
  else if k = 7 then i % 256 = 0 || (s.logicTask? (i / 256) (i % 256)).isSome
  else true

def gateUnit (h : CmdHdr) (s : State) : Gate :=
  { exempt := true
    invalid := firstBad [if h.tgt < 65536 ∧ unitOk h.tgt ∧ s.unitThere h.tgt then none else some 8, noBuf h, zeroTail h 0]
    unit := h.tgt, refused := h.kind == 0xE || h.kind == 0xF }

/-- The tasks of a Fantail unit. -/
def State.ftTasks (s : State) (u : Nat) : List Nat := ((s.recsOf 0x0D).filter (fun b => ftUnit b == u)).map (fun b => le b 0 2)

/-- DISABLE of a Fantail unit: every task IDLE (R432). -/
def State.ftOff (s : State) (u : Nat) (f : Flight) : State := ((s.ftTasks u).foldl (fun s k => s.ftStop k ST_DISABLED) s).disableUnit f

/-- DISABLE of a spindle program between windows: its bank is unsealed, queued windows are left to the default verdict (R325). -/
def State.spinOff (s : State) (n : Nat) (f : Flight) : State :=
  let p := s.spin n
  (s.setSpin n { p with prog := { p.prog with sealed := false, deferred := false } }).disableUnit f

/-- A logic event task is DORMANT while its logic task or its engine is disabled; its flags are gone (R449, R450). -/
def State.hopSleep (s : State) : State :=
  s.hopTasks.foldl (fun s n => match s.hopCfg? n with
    | some c =>
      let k := s.hopT n
      if !c.ext && k.st != .dormant && s.leDis (c.ltask / 256 % 16) (c.ltask % 256) then
        s.setHopT n { (if k.st == .running then k.ended s.lmt k.started else k) with st := .dormant, flags := 0, heldFlags := 0, released := false, aged := false }
      else s
    | none => s) s

/-- What UNIT_DISABLE does at its fetch: at once, or nothing yet for a unit whose rule names a later instant (R432). -/
def goUnitDisable (f : Flight) (s : State) : State :=
  let i := f.unit % 4096
  if s.isDis f.unit then if (s.flightsOn 0x0207 f.unit).isEmpty then s.ok f else s
  else match f.unit / 4096 with
  | 1 => if (s.race i).st == .idle then s.disableUnit f else s
  | 2 => if s.cogRaceIdle i then (s.setCog i { s.cog i with st := .disarmed }).disableUnit f else s
  | 6 => (s.capDisable i).disableUnit f
  | 7 => (if i % 256 = 0 then s.engineOff (i / 256) f else s.taskOff (i / 256) (i % 256) f).hopSleep
  | 8 => s.canOff i f
  | 9 => if (s.recsOf 9).all (fun b => byteAt b 0 != i) then s.disableUnit f else s
  | 11 => if (s.seq i).running.isSome then s.setSeq i { s.seq i with stopping := true } else s.seqDisable i
  | 12 => s.ftOff i f
  | 13 => if (s.spin i).window.isSome then s else s.spinOff i f
  | _ => s

def runUnitDisable (h : CmdHdr) (s : State) : State := start 0x0206 (gateUnit h s) goUnitDisable h s

/-- A logic event task whose engine and logic task are both enabled waits again (R450). -/
def State.hopWake (s : State) : State :=
  s.hopTasks.foldl (fun s n => match s.hopCfg? n with
    | some c => if !c.ext && (s.hopT n).st == .dormant && !s.leDis (c.ltask / 256 % 16) (c.ltask % 256) then s.setHopT n { s.hopT n with st := .waiting, flags := 0, heldFlags := 0 } else s
    | none => s) s

/-- Kinds that take UNIT_ENABLE, as UNIT_DISABLE, at their next sample or update: loops, override groups, axes, current-loop channels. -/
def lateUnit (k : Nat) : Bool := k == 3 || k == 4 || k == 5 || k == 10

/-- What a unit that resumes at the fetch does when it returns to service (R433). -/
def State.unitBack (s : State) (u : Nat) : State :=
  let i := u % 4096
  match u / 4096 with
  | 1 => if s.parentIdle i then s else s.raceStartTree 4 i true
  | 6 => if (byteAt (s.capRec i) 3).testBit 0 && (s.cap i).st == .idle && (s.capGroup i).all s.capFree then s.setCap i { s.cap i with arming := true } else s
  | 7 => if i % 256 = 0 then ((s.setEng (i / 256) { s.eng (i / 256) with reason := 2 }).enginePoints (i / 256)).hopWake else s.hopWake
  | 8 => s.canAdmit i true
  | 11 => if seqTrig (s.seqRec i) = 4 then s.seqBegin i s.lmt else s.seqPoints i
  | 12 => (s.ftTasks i).foldl (fun s k =>
      let b := s.ftRec k
      if (byteAt b 5).testBit 0 && byteAt b 4 != 0 && (s.ft k).st == .idle then (s.setFt k { s.ft k with mode := byteAt b 4 }).ftState k .running else s) s
  | _ => s

/-- UNIT_ENABLE: the unit resumes under its admitted record; ST_OK at that instant, or at the fetch for a unit that is not disabled (R433, log 72). -/
def goUnitEnable (f : Flight) (s : State) : State :=
  if !s.isDis f.unit then s.ok f
  else if lateUnit (f.unit / 4096) then s
  else
    let s1 := { s with cfg := { s.cfg with disabled := s.cfg.disabled.filter (fun u => u != f.unit) } }
    (s1.unitBack f.unit).enableUnit f

def runUnitEnable (h : CmdHdr) (s : State) : State := start 0x0207 (gateUnit h s) goUnitEnable h s

/-! ABORT (R430). -/

/-- What becomes of a started operation at the abort instant. -/
inductive AbortCase where
  /-- The commit point is not reached: withdrawn, with these effects on its unit. -/
  | withdraw (s : State)
  /-- The commit point is reached, or the unit decides later: the ABORT waits. -/
  | wait (s : State)

/-- A pending change is withdrawn; the changes behind it are checked again at their commit (log 41). -/
def unqueue (f : Flight) : List PendCfg → List PendCfg
  | [] => []
  | q :: r => if q.ring == f.h.ring && q.tag == f.h.tag then r.map (fun x => { x with again := true }) else q :: unqueue f r

/-- Operations that are committed at their fetch and wait for durability, a sweep or a write-back only (R36, R92, R418, R431). -/
def committedAtFetch (op : Nat) : Bool := (durableOp op && op != 0x0502) || op / 256 == 1

/-- Operations of an axis, which decides at its next update (R208). -/
def axisOp (op : Nat) : Bool := op / 256 == 8 && op < 0x080A

/-- The unit's answer to an ABORT of a started operation (R52, R80, R92, R168, R236, R253, R298, R301, R336, R339, R341, R373, R392, R439). -/
def State.abortCase (s : State) (g : Flight) : AbortCase :=
  let i := g.unit % 4096
  if g.commit.isSome || committedAtFetch g.op || axisOp g.op then .wait s
  else match g.op with
  | 0x0203 => .withdraw { s with cfg := { s.cfg with queue := unqueue g s.cfg.queue } }
  | 0x0204 => .withdraw { s with cfg := { s.cfg with queue := unqueue g s.cfg.queue } }
  | 0x0206 => .withdraw (if g.unit / 4096 = 11 then s.setSeq i { s.seq i with stopping := false } else s)
  | 0x0303 => .withdraw (s.setRace i { s.race i with refArmed := false })
  | 0x0405 => .withdraw ((s.setPset g.mark { s.pset g.mark with sealed := false, deferred := false }).setPoints g.mark)
  | 0x0604 => .withdraw (s.setLoop i { s.loop i with coef := { (s.loop i).coef with sealed := false, deferred := false } })
  | 0x0703 => .withdraw (if (s.ft (g.h.p 0 2)).st == .testing then s.ftTestEnd (g.h.p 0 2) else s)
  | 0x080B => .withdraw (s.setAxis i { s.axis i with table := { (s.axis i).table with sealed := false, deferred := false }, xfer := 0 })
  | 0x0904 => .withdraw (s.setCl i { s.cl i with cal := none })
  | 0x0A01 => .withdraw ((s.capGroup i).foldl (fun s v => s.setCap v { s.cap v with arming := false }) s)
  | 0x0A03 => .withdraw ((s.capGroup i).foldl (fun s v => s.setCap v { s.cap v with
      trigs := (s.cap v).trigs.filter (fun t => !(t.at' == g.h.t && t.unit == i && (t.src == 0 || t.src == 3)))
      fires := if v = i then (s.cap v).fires.filter (fun t => !(t.at' == g.h.t && t.src == 0)) else (s.cap v).fires }) s)
  | 0x0B02 => .withdraw ((s.setEng (i / 256) { s.eng (i / 256) with prog := { (s.eng (i / 256)).prog with sealed := false, deferred := false } }).enginePoints (i / 256))
  | 0x0B04 => .withdraw (s.setEng (i / 256) { s.eng (i / 256) with stepLeft := 0 })
  | 0x0C02 => .withdraw (s.setSpin i { s.spin i with prog := { (s.spin i).prog with sealed := false, deferred := false } })
  | 0x0D01 =>
    let c := s.can i
    if c.onBus == some g.mark then .wait (s.setCan i { c with noRetry := true })
    else .withdraw ((s.setCan i (c.setObj g.mark { c.obj g.mark with pending := none, lateOpen := false })).canObjPoint i g.mark)
  | 0x0D02 => .withdraw ((s.setCan i { s.can i with st := .busOff }).canPoints i)
  | 0x0D03 => .withdraw ((s.setCan i { s.can i with detect := none }).canPoints i)
  | 0x0E04 => .withdraw { s with safe := { s.safe with accepting := false } }
  | 0x1001 => .withdraw s
  | 0x0F02 => .withdraw { s with red := { s.red with planned := none } }
  | _ => .withdraw s

/-- The command an ABORT names, while it is in flight and not an orphan. -/
def State.abortee (s : State) (f : Flight) : Option Flight :=
  s.flights.find? (fun g => g.is (f.h.p 0 1) (BitVec.ofNat 32 (f.h.p 4 4)) && !g.orphan && !(g.is f.h.ring f.h.tag))

def gateAbort (h : CmdHdr) (s : State) : Gate :=
  let f : Flight := { h := h, op := 0x0104 }
  let g := s.abortee f
  { exempt := true
    invalid := firstBad [needSys h, noBuf h, needP 0 (decide (h.p 0 1 ≤ 63)), zeroGap h 1 4, zeroTail h 8, needP 4 (!g.any (fun g => g.op == 0x0104) && !(h.p 0 1 == h.ring && h.p 4 4 == h.tag.toNat))] }

/-- ABORT: R430's table at the abort instant. -/
def goAbort (f : Flight) (s : State) : State :=
  match s.abortee f with
  | none => s.finish f ST_ABORT_LATE { detail := 1, commit := some s.lmt }
  | some g =>
    if (s.abortsOf g).any (fun a => !(a.is f.h.ring f.h.tag)) then s.finish f ST_REFUSED { detail := 2 }
    else if g.held then (s.finish g ST_ABORTED).ok f
    else match s.abortCase g with
      | .withdraw s1 => (s1.finish g ST_ABORTED).ok f
      | .wait s1 => s1

def runAbort (h : CmdHdr) (s : State) : State := start 0x0104 (gateAbort h s) goAbort h s

/-- ABORTs that wait for an operation now gone complete ST_ABORT_LATE, after it (R413, R430). -/
def State.abortsLate (s : State) : State :=
  (s.flightsOf (fun f => f.op == 0x0104)).foldl (fun s f => if (s.abortee f).isSome then s else s.finish f ST_ABORT_LATE { commit := some s.lmt }) s

/-! The commit of local group 0 (R439, R440). -/

/-- One pending change at its commit point: checked again where an earlier one was withdrawn, then in force, its command complete (R439, R542). -/
def State.admitOne (s : State) (q : PendCfg) : State :=
  let fl := s.flight? q.ring q.tag
  let c := s.cfg.apply q.pkg (nextPkg s.cfg.pkgId)
  let r := s.sluice c (s.sectionOf q.pkg)
  let done := fun (s : State) => { s with cfg := { s.cfg with queue := s.cfg.queue.drop 1 } }
  if q.again && r.1.refused then
    match fl with
    | some f => done (r.2.sluiceRefuse f r.1 (nums (reportBytes r.1)))
    | none => done r.2
  else
    let s1 := (done (s.applyPackage q.pkg)).stageSafety q.pkg.safety
    let s2 := s1.raise EV_CFG_ADMITTED
    match fl with
    | none => s2
    | some f =>
      let s3 := if f.op = 0x0203 then { s2 with cfg := { s2.cfg with stage := none, stageDurable := false } } else s2
      let f1 := { f with commit := some s.lmt, out := q.report }
      if s3.synced then s3.setFlight { f1 with waitStandby := true }
      else s3.okOut f1 q.report

/-- Every pending change, in fetch order. -/
def State.admitAll (s : State) : State := s.cfg.queue.foldl (fun s _ => match s.cfg.queue with
  | q :: _ => s.admitOne q
  | [] => s) s

end Sys2Proof.Machine
end

