-- ==== Sys2Proof/Machine/HostBytes.lean ====
section
/-! DEFINITION. Structures in host memory as bytes, little-endian: descriptors, completions, event messages, doorbell words, Tailrace buffer descriptors
(R8, R407, R410, R412, R414, R416). -/

namespace Sys2Proof.Machine

/-- Word `i` of the doorbell block (R407). -/
def dblkWord (b : Bytes) (i : Nat) : W32 := BitVec.ofNat 32 (le b (4 * i) 4)

/-- OPCODE of a command descriptor (R410). -/
def descOp (d : Bytes) : Nat := le d 0 2

/-- A command descriptor of 64 bytes as fetched from a ring (R410). -/
def descHdr (t ring : Nat) (d : Bytes) : CmdHdr :=
  let f := le d 2 2
  { t := t, ring := ring, tag := BitVec.ofNat 32 (le d 4 4), target := BitVec.ofNat 32 (le d 8 4), buf := bit f 0, fence := bit f 1, noint := bit f 2
    wake := bit f 3, rsv := f / 16 != 0, rsv12 := le d 12 4 != 0, params := slice d 16 48 }

/-- The last command of each high byte, 0x01 to 0x11, of the command table; those of 0x01 begin at 0 (R427). -/
def lastOps : List Nat := [5, 8, 5, 5, 4, 5, 6, 11, 5, 13, 10, 3, 4, 5, 3, 5, 7]

/-- An opcode that the command table lists (R427). -/
def opListed (op : Nat) : Bool :=
  decide (1 ≤ op / 256) && decide (op % 256 ≤ lastOps.getD (op / 256 - 1) 0) && decide (op / 256 ≤ 17) && (op / 256 == 1 || op % 256 != 0)

/-- A command whose opcode is not listed completes ST_INVALID without effect (R9, R427). -/
def runUnlisted (op : Nat) (h : CmdHdr) (s : State) : State := start op { invalid := some 0 } (fun _ s => s) { h with rsv := false, rsv12 := false } s

/-- A completion entry, 32 bytes (R412). RESULT_IN_BUF tells of the host buffer. -/
def completionBytes (c : Completion) : Bytes :=
  toLe c.tag.toNat 4 ++ toLe c.op 2 ++ toLe c.status 1 ++ toLe (mkBit c.phase 0 + mkBit c.orphan 1 + mkBit c.inBuf 2) 1 ++ toLe c.cmdRing 2 ++ toLe c.head 2
    ++ toLe c.detail 4 ++ toLe c.commitLmt 8 ++ toLe c.result 8

/-- An event message, 64 bytes; byte 2 as byte 1 of the event record (R260, R414). -/
def evtMsgBytes (m : EvtMsg) : Bytes :=
  let e := m.ev
  let p := e.params.flatMap (fun x => toLe x 4)
  toLe e.code 2 ++ toLe (e.sev + mkBit e.cleared 3) 1 ++ toLe (mkBit m.phase 0 + mkBit (decide (32 < p.length)) 1 + mkBit m.held 2) 1 ++ toLe e.bootId 4
    ++ toLe e.lmt 8 ++ toLe e.suppressed 2 ++ toLe e.unit 2 ++ toLe e.point 4 ++ toLe (min m.lost 4294967295) 4 ++ toLe 0 4
    ++ (p ++ List.replicate 32 0).take 32

/-- ADDR and LEN of a Tailrace buffer descriptor as the host writes it (R416). -/
def trDescOf (d : Bytes) : Nat × Nat := (le d 0 8, le d 8 4)

/-- The module's write-back, bytes 16 to 31 of a Tailrace buffer descriptor (R416). -/
def trBackBytes (b : TrBuf) : Bytes :=
  toLe b.used 4 ++ toLe (b.firstOfs.getD 4294967295) 4 ++ toLe (mkBit b.phase 0 + mkBit b.early 1 + mkBit b.flushed 2) 1 ++ toLe 0 3 ++ toLe b.firstSeq 4

end Sys2Proof.Machine
end

