-- ==== Sys2Proof/Machine/Host.lean ====
section
/-! DEFINITION. The host link: set-up registers, sweeps and rings, interrupts, power states, function resets, admin ring commands (R399 to R422). -/

namespace Sys2Proof.Machine

/-! The PCI Express function (R399). -/

/-- The standard header of the function's configuration space, by dword offset: IDs, Bus Master Enable, revision and class, the two 64-bit
non-prefetchable memory BARs without the host's base addresses, subsystem IDs, no INTx (R399). -/
def State.pciHeader (s : State) (ofs : Nat) : Nat := match ofs with
  | 0x00 => 0x72401F4E
  | 0x04 => mkBit s.host.bme 2
  | 0x08 => 0x118000 * 256 + 0xB0
  | 0x10 => 4
  | 0x18 => 4
  | 0x2C => 65536 * (if s.sys.variantS then 1 else 2) + 0x1F4E
  | _ => 0

/-- Sizes of BAR0 and BAR2 (R399). -/
def barSize (bar : Nat) : Nat := if bar = 0 then 65536 else if bar = 2 then 8192 else 0

/-! Registers (R402 to R405). -/

/-- HSTAT.QUIESCED: QUIESCE is set and no command is in flight (R404). -/
def State.quiesced (s : State) : Bool := s.host.quiesce && s.flights.isEmpty && s.host.fetched.isEmpty

/-- HSTAT (R404). -/
def State.hstat (s : State) : Nat :=
  stateCode s.sys.st + mkBit s.host.adminUp 4 + mkBit s.host.setupErr 5 + mkBit s.host.locked 6 + mkBit s.quiesced 7 + mkBit s.host.hbLost 8
    + 512 * s.sys.startMode + 4096 * s.host.setupCode

def identReg : Nat := 0x01B07240
def State.capsReg (s : State) : Nat := if s.sys.variantS then 0x0FFFFF03 else 0x0FFFFF02

/-- What a read of a register returns, without the effect of reading LMT_LO (R402). -/
def State.regValue (s : State) (ofs : Nat) : Nat :=
  match ofs with
  | 0x00 => identReg
  | 0x04 => s.capsReg
  | 0x08 => s.hstat
  | 0x0C => mkBit s.host.adminEn 0 + mkBit s.host.quiesce 1
  | 0x10 => if s.sys.st == .faultHalt then s.sys.hfault.toNat else 0
  | 0x14 => s.sys.bootId
  | 0x18 => s.lmt % 4294967296
  | 0x1C => s.host.lmtHi.toNat
  | 0x20 => s.host.dblkLo.toNat
  | 0x24 => s.host.dblkHi.toNat
  | 0x28 => s.host.sweep.toNat
  | 0x2C => s.host.hbcfg.toNat
  | 0x30 => s.host.acqLo.toNat
  | 0x34 => s.host.acqHi.toNat
  | 0x38 => s.host.acqSize.toNat
  | 0x40 => s.host.acmpLo.toNat
  | 0x44 => s.host.acmpHi.toNat
  | 0x48 => s.host.acmpSize.toNat
  | 0x4C => s.host.acmpVec.toNat
  | 0x50 => s.host.evrLo.toNat
  | 0x54 => s.host.evrHi.toNat
  | 0x58 => s.host.evrSize.toNat
  | 0x5C => s.host.evrVec.toNat
  | 0x60 => mkBit s.host.locked 0
  | _ => 0

/-- A read of another size returns bytes of the containing register (R402). -/
def State.regBytes (s : State) (ofs n : Nat) : Bytes := slice (toLe (s.regValue (ofs / 4 * 4)) 4) (ofs % 4) n

/-- LMT_LO_READ: LMT bits 31 to 0, latching bits 63 to 32 (R402). -/
def lmtLoRead (s : State) : State :=
  { s with host := { s.host with readData := BitVec.ofNat 32 s.lmt, lmtHi := BitVec.ofNat 32 (s.lmt / 4294967296) } }

/-- QUIESCE: HCTL.QUIESCE is written (R404). -/
def quiesceWrite (on : Bool) (s : State) : State := { s with host := { s.host with quiesce := on } }

/-- SULOCK_LOCK: every RWL field is locked until the next function reset (R402). -/
def sulockLock (s : State) : State := { s with host := { s.host with locked := true } }

def pow2In (v lo hi : Nat) : Bool := decide (lo ≤ v) && decide (v ≤ hi) && v == 2 ^ v.log2

def HostIf.dblk (h : HostIf) : Nat := h.dblkLo.toNat + 4294967296 * h.dblkHi.toNat

/-- SETUP_CODE of a setting of ADMIN_EN (R404). -/
def HostIf.setupCheck (h : HostIf) : Nat :=
  if h.dblk = 0 then 1
  else if (h.acqLo = 0 ∧ h.acqHi = 0) ∨ (h.acmpLo = 0 ∧ h.acmpHi = 0) ∨ (h.evrLo = 0 ∧ h.evrHi = 0) then 2
  else if !(pow2In h.acqSize.toNat 16 4096 && pow2In h.acmpSize.toNat 16 65536 && pow2In h.evrSize.toNat 16 65536) then 3
  else if 127 < h.acmpVec.toNat ∨ 127 < h.evrVec.toNat then 4
  else 0

/-- The three rings of R405. -/
def HostIf.adminRings (h : HostIf) : SMap HostRing :=
  let b := fun (lo hi : W32) => lo.toNat + 4294967296 * hi.toNat
  [(ringKey 0 0, { kind := 0, num := 0, base := b h.acqLo h.acqHi, size := h.acqSize.toNat, bound := 0, fetchMax := 64 }),
   (ringKey 1 0, { kind := 1, num := 0, base := b h.acmpLo h.acmpHi, size := h.acmpSize.toNat, bound := h.acmpVec.toNat }),
   (ringKey 2 0, { kind := 2, num := 0, base := b h.evrLo h.evrHi, size := h.evrSize.toNat, bound := h.evrVec.toNat,
                   minSev := 2, immSev := 5, wakeSev := 6, areaMask := 2 ^ 64 - 1 })]

/-- Writes the messages held over a function reset into event ring 0, with HELD (R422). -/
def HostIf.heldEvent (h : HostIf) (t k : Nat) (ev : Event) : HostIf :=
  match h.rings.get? k with
  | none => h
  | some r =>
    if r.free = 0 then { h with rings := h.rings.set k { r with lost := min 4294967295 (r.lost + 1) } }
    else
      let m : EvtMsg := { ring := r.num, slot := r.prod, ev := ev, phase := r.phase, held := true, lost := r.lost }
      ({ h with rings := h.rings.set k { r.step with lost := 0, episode := false }, evts := h.evts ++ [m] } : HostIf).entry t k (decide (r.immSev ≤ ev.sev)) (decide (r.wakeSev ≤ ev.sev))

/-- A completion held out of D0 is written in place of its reservation; it is already counted as unsignalled (R421). -/
def HostIf.heldCpl (h : HostIf) (c : Completion) : HostIf :=
  let k := ringKey 1 c.ring
  match h.rings.get? k with
  | none => { h with heldCpls := h.heldCpls ++ [c] }
  | some r =>
    if r.err then { h with heldCpls := h.heldCpls ++ [c] }
    else { h with rings := h.rings.set k { r.step with reserved := r.reserved - 1 }, cpls := h.cpls ++ [{ c with slot := r.prod, phase := r.phase }] }

/-- A held event message is written, with HELD (R421). -/
def HostIf.heldMsg (h : HostIf) (m : EvtMsg) : HostIf :=
  let k := ringKey 2 m.ring
  match h.rings.get? k with
  | none => h
  | some r =>
    if r.free = 0 then { h with rings := h.rings.set k { r with lost := min 4294967295 (r.lost + 1) } }
    else { h with
      rings := h.rings.set k { r.step with lost := 0, episode := false }
      evts := h.evts ++ [{ m with slot := r.prod, phase := r.phase, held := true, lost := r.lost }] }

/-- Messages pending on vectors that are not masked are sent (R419, R421). -/
def HostIf.sendPending (h : HostIf) (t : Nat) : HostIf :=
  if h.power == .d0 && h.bme && !h.funcMask then
    (h.pba.filter (fun v => h.unmasked.contains v)).foldl (fun h v => { (h.signalled v) with sent := h.sent ++ [.msix t v] }) h
  else h

/-- Back in D0 with Bus Master Enable: held entries ring by ring in order, then pending messages (R421). -/
def HostIf.flushHeld (h : HostIf) (t : Nat) : HostIf :=
  if h.dma then
    let cs := h.heldCpls
    let es := h.heldEvts
    let h1 := cs.foldl HostIf.heldCpl { h with heldCpls := [], heldEvts := [] }
    ((es.foldl HostIf.heldMsg h1).orphansOut t).sendPending t
  else h

/-- ADMIN_EN_SET: the setting of ADMIN_EN is checked and the rings start (R405); completions and events held over a function reset follow (R422). -/
def adminEnSet (s : State) : State :=
  if s.host.locked || s.host.adminUp then s
  else
    let c := s.host.setupCheck
    if c ≠ 0 then { s with host := { s.host with adminEn := false, setupErr := true, setupCode := c } }
    else
      let per := s.host.sweep.toNat * 1000
      let first := (s.lmt + 10000 + per - 1) / per * per
      let booting := s.sys.st == .boot || s.sys.st == .verify || s.sys.st == .load
      let h1 : HostIf := { s.host with
        adminEn := true, adminUp := true, setupErr := false, setupCode := 0, rings := s.host.adminRings
        dblkNow := s.host.dblk, sweepNow := s.host.sweep.toNat, hbNow := s.host.hbcfg.toNat
        sweepFrom := if booting then 0 else first, hbSince := s.lmt }
      let s1 : State := { s with host := h1 }
      let s2 := match s.host.resetCause with
        | some cause => ({ s1 with host := { s1.host with resetCause := none, droppedEvts := 0 } } : State).raise EV_HOST_RESET 0
            [cause, s.host.orphans.length, s.host.droppedEvts]
        | none => s1
      let h2 := s2.host.orphanEvts.foldl (fun h m => HostIf.heldEvent h s.lmt (ringKey 2 0) m.ev) { s2.host with orphanEvts := [] }
      { s2 with host := h2.orphansOut s.lmt }

/-- A function reset (R422): `pci` where the function itself is reset, not ADMIN_EN cleared. -/
def State.functionReset (s : State) (cause : Nat) (pci : Bool) : State :=
  let h := s.host
  let lost := (h.rings.filter (fun e => decide (e.2.kind = 2))).foldl (fun n e => n + e.2.lost) 0
  let h1 : HostIf := {
    power := if pci then .d0 else h.power, bme := if pci then false else h.bme, pmeEn := h.pmeEn, pmeStatus := h.pmeStatus
    wakeOut := h.wakeOut, perstHigh := h.perstHigh, cfgReadyBy := h.cfgReadyBy, linkRate := h.linkRate, linkWidth := h.linkWidth
    fetched := h.fetched, sent := h.sent, cpls := h.cpls, evts := h.evts, trDone := h.trDone
    orphans := h.orphans ++ h.heldCpls.map (fun c => { c with orphan := true })
    orphanEvts := (h.orphanEvts ++ h.heldEvts).take 65536
    resetCause := some cause
    droppedEvts := h.droppedEvts + lost + ((h.orphanEvts ++ h.heldEvts).length - 65536) }
  { s with
    host := h1
    flights := s.flights.map (fun f => { f with orphan := true })
    tr := s.tr.mapV (fun _ c => if c.st == .running || c.st == .draining then { c with st := TrState.spilling } else c) }

/-- FUNCTION_RESET (R422). -/
def functionResetEvent (cause : Nat) (s : State) : State := s.functionReset cause true

/-- ADMIN_EN_CLEAR: a function reset; the cause's code is left open (R422, log 3). -/
def adminEnClear (s : State) : State :=
  if s.host.locked || !s.host.adminEn then s else (s.functionReset (s.freeVal % 4294967296) false).useFree

/-- REGISTER_WRITE: a naturally aligned 32-bit write, any other being ignored (R402). Reserved bits are ignored (R9); RWL registers only while not
locked. -/
def registerWrite (ofs size : Nat) (val : W32) (s : State) : State :=
  if size ≠ 4 then s
  else if ofs = 0x0C then
    let s1 := quiesceWrite (val.getLsbD 1) s
    if val.getLsbD 0 && !s1.host.adminEn then adminEnSet s1
    else if !val.getLsbD 0 && s1.host.adminEn then adminEnClear s1 else s1
  else if s.host.locked then s
  else
    let h := s.host
    let v := val.toNat
    let page : W32 := BitVec.ofNat 32 (v / 4096 * 4096)
    let set : HostIf := match ofs with
      | 0x20 => { h with dblkLo := page }
      | 0x24 => { h with dblkHi := val }
      | 0x28 => if 1 ≤ v % 128 ∧ v % 128 ≤ 64 then { h with sweep := BitVec.ofNat 32 (v % 128) } else h
      | 0x2C => if v % 65536 = 0 ∨ (10 ≤ v % 65536 ∧ v % 65536 ≤ 60000) then { h with hbcfg := BitVec.ofNat 32 (v % 65536) } else h
      | 0x30 => { h with acqLo := page }
      | 0x34 => { h with acqHi := val }
      | 0x38 => { h with acqSize := BitVec.ofNat 32 (v % 131072) }
      | 0x40 => { h with acmpLo := page }
      | 0x44 => { h with acmpHi := val }
      | 0x48 => { h with acmpSize := BitVec.ofNat 32 (v % 131072) }
      | 0x4C => { h with acmpVec := BitVec.ofNat 32 (v % 128) }
      | 0x50 => { h with evrLo := page }
      | 0x54 => { h with evrHi := val }
      | 0x58 => { h with evrSize := BitVec.ofNat 32 (v % 131072) }
      | 0x5C => { h with evrVec := BitVec.ofNat 32 (v % 128) }
      | 0x60 => if val.getLsbD 0 then { h with locked := true } else h
      | _ => h
    { s with host := set }

/-! The sweep (R405, R407 to R409, R416 to R418). -/

/-- A ring as a ring block describes it (R417). -/
def ringOf (h : CmdHdr) : HostRing :=
  let k := h.p 0 1
  { kind := k, num := h.p 2 2, base := h.p 4 8, size := h.p 12 4, bound := h.p 16 2
    prio := if k = 0 then h.p 18 1 else 0
    fetchMax := if k = 0 then h.p 19 1 else 1
    modCount := if k = 0 then 1 else h.p 18 1
    modTime := if k = 0 then 0 else h.p 20 2
    minSev := if k = 2 then h.p 19 1 else 0
    immSev := if k = 2 then h.p 22 1 else 8
    wakeSev := if k = 2 then h.p 23 1 else 8
    areaMask := if k = 2 then h.p 24 8 else 0 }

/-- The changeable fields of a ring block put on an existing ring (R417). -/
def HostRing.modified (r : HostRing) (h : CmdHdr) : HostRing :=
  let n := ringOf h
  { r with bound := n.bound, prio := n.prio, fetchMax := n.fetchMax, modCount := n.modCount, modTime := n.modTime,
           minSev := n.minSev, immSev := n.immSev, wakeSev := n.wakeSev, areaMask := n.areaMask }

/-- Deletion of a Tailrace buffer ring: every held buffer is returned, then the channel spills (R418). -/
def State.trRingDelete (s : State) (c : Nat) : State :=
  let bs := s.host.trBufs.getD c []
  let back := bs.map (fun b => if b.used = 0 then b else { b with early := true, flushed := true })
  let s1 : State := { s with host := ({ s.host with trBufs := s.host.trBufs.erase c } : HostIf).trReturn s.lmt c back }
  let ch := s1.chan c
  let s2 : State := { s1 with host := { s1.host with rings := s1.host.rings.erase (ringKey 3 c) } }
  if ch.st == .running || ch.st == .draining then (s2.setChan c { ch with st := .spilling, oldest := none }).raiseIf (ch.st == .running) EV_TR_SPILL 0 [c]
  else s2.setChan c { ch with oldest := none }

/-- Deletion of an event ring: its unwritten messages are dropped and told on event ring 0 (R418). -/
def State.evRingDelete (s : State) (n : Nat) : State :=
  let drop := (s.host.heldEvts.filter (fun m => m.ring == n)).length
  let r0 := s.host.rings.getD (ringKey 2 0) {}
  let h1 : HostIf := { s.host with
    heldEvts := s.host.heldEvts.filter (fun m => m.ring != n)
    rings := (s.host.rings.set (ringKey 2 0) { r0 with lost := min 4294967295 (r0.lost + drop) }).erase (ringKey 2 n) }
  ({ s with host := h1 } : State).raiseIf (decide (0 < drop)) EV_EVQ_LOST 0 [n, drop]

/-- Ring commands take effect at a sweep, in fetch order (R417, R418). -/
def State.ringCmd (s : State) (f : Flight) : State :=
  let k := ringKey (f.h.p 0 1) (f.h.p 2 2)
  let set := fun (r : HostRing) => ({ s with host := { s.host with rings := s.host.rings.set k r } } : State)
  if f.op = 0x0101 then (set (ringOf f.h)).ok f
  else if f.op = 0x0102 then match s.host.rings.get? k with
    | some r => (set (r.modified f.h)).ok f
    | none => s.finish f ST_REFUSED
  else match f.h.p 0 1, s.host.rings.get? k with
    | _, none => s.finish f ST_REFUSED
    | 0, some r => (set { r with stopping := true }).setFlight { f with commit := some (f.commit.getD s.lmt), mark := 1 }
    | 1, some _ => ({ s with host := { s.host with rings := s.host.rings.erase k } } : State).ok f
    | 2, some _ => (s.evRingDelete (f.h.p 2 2)).ok f
    | _, some _ => (s.trRingDelete (f.h.p 2 2)).ok f

/-- A stopped command ring is gone once the commands fetched from it have completed (R418). -/
def State.ringDeletes (s : State) : State :=
  (s.flightsOf (fun f => f.op == 0x0103 && f.mark == 1)).foldl (fun s f =>
    let n := f.h.p 2 2
    if s.flights.any (fun g => g.h.ring == n && !g.orphan) || s.host.fetched.any (fun g => g.ring == n) then s
    else ({ s with host := { s.host with rings := s.host.rings.erase (ringKey 0 n) } } : State).ok f) s

/-- A ring goes to ERROR (R409). -/
def State.ringError (s : State) (k v : Nat) : State :=
  match s.host.rings.get? k with
  | none => s
  | some r => ({ s with host := { s.host with rings := s.host.rings.set k { r with err := true } } } : State).raise EV_RING_ERROR 0 [k / 64, r.num, v]

/-- The host has consumed the first `n` entries of a ring. -/
def consumed {α : Type} (p : α → Bool) : Nat → List α → List α
  | 0, xs => xs
  | _ + 1, [] => []
  | n + 1, x :: xs => if p x then consumed p n xs else x :: consumed p (n + 1) xs

/-- The doorbell word of a ring is taken (R407 to R409). -/
def State.doorbell (s : State) (block : Bytes) (k : Nat) : State :=
  match s.host.rings.get? k with
  | none => s
  | some r =>
    let w := (dblkWord block ((if r.kind = 0 then 0 else if r.kind = 1 then 64 else if r.kind = 2 then 128 else 136) + r.num)).toNat
    if r.err then s
    else if r.size ≤ w then s.ringError k w
    else if r.kind = 0 ∨ r.kind = 3 then { s with host := { s.host with rings := s.host.rings.set k { r with prod := w } } }
    else
      let n := (w + r.size - r.cons) % r.size
      if r.used < n then s.ringError k w
      else { s with host := { s.host with
        rings := s.host.rings.set k { r with cons := w }
        cpls := if r.kind = 1 then consumed (fun c => c.ring == r.num) n s.host.cpls else s.host.cpls
        evts := if r.kind = 2 then consumed (fun m => m.ring == r.num) n s.host.evts else s.host.evts } }

/-- The next Tailrace buffer descriptor up to the producer index is taken, or puts its ring in ERROR (R407, R416). -/
def State.trDesc (s : State) (x : Nat × Bytes) : State :=
  let d := (x.1, trDescOf x.2)
  let k := ringKey 3 d.1
  match s.host.rings.get? k with
  | none => s
  | some r =>
    if r.err || r.prod == r.cons then s
    else if d.2.1 % 64 ≠ 0 ∨ d.2.2 % 64 ≠ 0 ∨ d.2.2 < 4096 ∨ 67108864 < d.2.2 then s.ringError k d.2.2
    else
      let bs := s.host.trBufs.getD d.1 []
      ({ s with host := { s.host with
        rings := s.host.rings.set k { r with cons := if r.cons + 1 = r.size then 0 else r.cons + 1 }
        trBufs := s.host.trBufs.set d.1 (bs ++ [{ addr := d.2.1, len := d.2.2 }]) } } : State).trBuffers d.1

/-- The heartbeat word is compared (R411). -/
def State.hbWordRead (s : State) (w : W32) : State :=
  if s.host.hbNow = 0 then { s with host := { s.host with hbWord := w, hbSince := s.lmt } }
  else if w = s.host.hbWord then s
  else
    let s1 : State := { s with host := { s.host with hbWord := w, hbSince := s.lmt, hbLost := false } }
    s1.raiseIf s.host.hbLost EV_HOST_HB_LOST 0 [] 0 true

/-- Sweeps run (R408, R420, R480, R486). -/
def State.sweeps (s : State) : Bool :=
  s.host.adminUp && s.host.dma && decide (s.host.sweepFrom ≤ s.lmt)
    && (s.sys.st == .ready || s.sys.st == .running || s.sys.st == .faultHalt) && s.sys.pfail == .ok && !s.sys.resetLow

/-- SWEEP, at the completion of its read: the doorbell block's words 0 to 159, and the descriptors of new Tailrace buffers with their channels (R405, R408, R411). -/
def sweepEvent (block : Bytes) (descs : List (Nat × Bytes)) (ok : Bool) (s : State) : State :=
  if !s.sweeps then s
  else if !ok then s.raise EV_HOST_LINK_ERROR
  else
    let rings := s.host.rings.mapV (fun _ r => { r with taken := 0 })
    let s1 : State := { s with host := { s.host with
      dblkNow := s.host.dblk, sweepNow := s.host.sweep.toNat, hbNow := s.host.hbcfg.toNat, rings := rings } }
    let s2 := (s1.flightsOf (fun f => (f.op == 0x0101 || f.op == 0x0102 || f.op == 0x0103) && f.mark == 0)).foldl State.ringCmd s1
    let s3 := s2.host.rings.keys.foldl (fun s k => s.doorbell block k) s2
    let s4 := descs.foldl State.trDesc s3
    let s5 : State := { s4 with host := s4.host.orphansOut s4.lmt }
    s5.hbWordRead (dblkWord block 152)

/-- DESCRIPTOR_FETCH: a descriptor read completes; its command starts as its own row, and one whose opcode no row carries here (R408, R409, R427). -/
def descriptorFetch (t ring : Nat) (desc : Bytes) (ok : Bool) (s : State) : State :=
  let h := descHdr t ring desc
  if !s.fetchable ring then s
  else if !ok then s.raise EV_HOST_LINK_ERROR
  else if !opListed (descOp desc) then hostRow (descOp desc) h (runUnlisted (descOp desc)) s
  else
    let s1 := s.fetchOne ring
    { s1 with host := { s1.host with fetched := s1.host.fetched ++ [{ ring := ring, tag := h.tag, at' := s1.lmt, cpl := s1.host.cplNow }] } }

/-- HOST_HEARTBEAT_TIMEOUT (R411). -/
def hostHeartbeatTimeout (s : State) : State :=
  if decide (0 < s.host.hbNow) && s.host.adminUp && !s.host.hbLost && decide (s.host.hbSince + s.host.hbNow * 1000000 ≤ s.lmt) then
    ({ s with host := { s.host with hbLost := true } } : State).raise EV_HOST_HB_LOST
  else s

/-! Interrupts and power (R419 to R421). -/

/-- MSIX_MODERATION_TIMEOUT: the oldest unsignalled entry of a ring has waited MOD_TIME (R419). -/
def msixModerationTimeout (vec : Nat) (s : State) : State :=
  if s.host.rings.any (fun e => decide (e.2.kind ≠ 0) && decide (e.2.bound = vec) && decide (0 < e.2.modTime) && decide (0 < e.2.unsig)
      && decide (e.2.unsigSince + e.2.modTime * 1000 ≤ s.lmt)) then { s with host := s.host.msgDue s.lmt vec }
  else s

/-- MSIX_UNMASK: a vector's mask, or the function mask, is cleared; a pending message is sent (R419). -/
def msixUnmask (vec : Option Nat) (s : State) : State :=
  let h := match vec with
    | some v => if v < 128 ∧ !s.host.unmasked.contains v then { s.host with unmasked := s.host.unmasked ++ [v] } else s.host
    | none => { s.host with funcMask := false }
  { s with host := h.sendPending s.lmt }

/-- Tailrace channels meet the host link's new state: RUNNING ones out of D0 spill, SPILLING ones with buffers drain (R271, R420). -/
def State.trLink (s : State) : State :=
  s.tr.keys.foldl (fun s c => if s.host.dma then s.trBuffers c else trSpillStart c s) s

/-- POWER_STATE_CHANGE: a write of the power management register, or the loss of the link (R420, R421). -/
def powerStateChange (pst : Nat) (pmeEn pmeClr : Bool) (s : State) : State :=
  let p := if pst = 1 then PwrState.d3hot else if pst = 2 then .d3cold else .d0
  let s0 := if s.host.power == .d3cold && p != .d3cold then s.functionReset (s.freeVal % 4294967296) true |>.useFree else s
  let changed := p != s.host.power
  let s1 : State := { s0 with host := { s0.host with power := p, pmeEn := pmeEn, pmeStatus := s0.host.pmeStatus && !pmeClr } }
  let s2 := s1.raiseIf changed EV_HOST_POWER 0 [pst]
  ({ s2 with host := s2.host.flushHeld s2.lmt } : State).trLink

/-- BUS_MASTER_ENABLE_CHANGE (R400, R420, R421). -/
def busMasterEnableChange (on : Bool) (s : State) : State :=
  let s1 : State := { s with host := { s.host with bme := on } }
  ({ s1 with host := s1.host.flushHeld s1.lmt } : State).trLink

/-- PME_REPEAT: PM_PME every 100 ms while PME_Status stays set in D3hot (R420). -/
def pmeRepeat (s : State) : State :=
  if s.host.power == .d3hot && s.host.pmeStatus then { s with host := { s.host with sent := s.host.sent ++ [.pme s.lmt] } } else s

/-- HOST_LINK_TRAINED: rate in tenths of GT/s, and width (R401). -/
def hostLinkTrained (rate width : Nat) (s : State) : State :=
  let s1 : State := { s with host := { s.host with linkRate := rate, linkWidth := width } }
  let good := (decide (320 ≤ rate) && decide (4 ≤ width)) || (decide (160 ≤ rate) && decide (8 ≤ width))
  s1.raiseIf (!good) EV_HOST_LINK_DEGRADED 0 [rate, width]

/-- PERST_DEASSERTION: the link trains and configuration requests are answered within 100 ms; WAKE# is released (R420, R502). -/
def perstDeassertion (s : State) : State :=
  { s with host := { s.host with perstHigh := true, wakeOut := false, cfgReadyBy := s.lmt + 100000000 } }

/-! Admin commands (R417, R418, R429). -/

/-- What Nop checks before its rule runs (R427, R429). -/
def gateNop (h : CmdHdr) (_ : State) : Gate :=
  { exempt := true, invalid := firstBad [needSys h, noBuf h, zeroTail h 0] }

/-- Effect of Nop. -/
def goNop (f : Flight) (s : State) : State :=
  s.ok f

def runNop (h : CmdHdr) (s : State) : State := start 0x0100 (gateNop h s) goNop h s

/-- Reserved and range checks of a ring block; `all` for RING_CREATE (R417). -/
def ringBlockBad (h : CmdHdr) (s : State) (all : Bool) : List (Option Nat) :=
  let k := h.p 0 1
  let n := h.p 2 2
  [needSys h, noBuf h, zeroTail h 32, needP 0 (decide (k ≤ 3)), needP 1 (h.p 1 1 == 0),
   needP 2 (match k with
     | 0 => decide (1 ≤ n ∧ n ≤ 63)
     | 1 => decide (1 ≤ n ∧ n ≤ 63)
     | 2 => decide (n ≤ 7)
     | _ => decide (n ≤ 15)),
   needP 4 (!all || (h.p 4 8 % 4096 == 0 && h.p 4 8 != 0)),
   needP 12 (!all || pow2In (h.p 12 4) 16 (if k = 0 ∨ k = 3 then 4096 else 65536)),
   needP 16 (if k = 0 then decide (h.p 16 2 ≤ 63) && (s.host.rings.get? (ringKey 1 (h.p 16 2))).isSome else decide (h.p 16 2 ≤ 127)),
   needP 18 (if k = 0 then decide (h.p 18 1 ≤ 3) else decide (1 ≤ h.p 18 1)),
   needP 19 (if k = 0 then decide (1 ≤ h.p 19 1 ∧ h.p 19 1 ≤ 64) else if k = 2 then decide (h.p 19 1 ≤ 7) else h.p 19 1 == 0),
   needP 20 (k != 0 || h.p 20 2 == 0),
   needP 22 (if k = 2 then decide (h.p 22 1 ≤ 8) else h.p 22 1 == 0),
   needP 23 (if k = 2 then decide (h.p 23 1 ≤ 8) else h.p 23 1 == 0),
   needP 24 (k == 2 || h.p 24 8 == 0)]

/-- A ring exists, or a command in flight creates it. -/
def State.ringThere (s : State) (k n : Nat) : Bool :=
  (s.host.rings.get? (ringKey k n)).isSome || s.flights.any (fun f => f.op == 0x0101 && f.h.p 0 1 == k && f.h.p 2 2 == n && !f.orphan)

/-- What RingCreate checks before its rule runs (R427, R429). -/
def gateRingCreate (h : CmdHdr) (s : State) : Gate :=
  { invalid := firstBad (ringBlockBad h s true), refused := s.ringThere (h.p 0 1) (h.p 2 2) }

/-- RingCreate waits among the commands in flight; its rule acts at the instant it names. -/
def goRingCreate (_ : Flight) (s : State) : State :=
  s

/-- RING_CREATE: ST_OK once the next sweep takes the ring up (R417). -/
def runRingCreate (h : CmdHdr) (s : State) : State := start 0x0101 (gateRingCreate h s) goRingCreate h s

/-- What RingModify checks before its rule runs (R427, R429). -/
def gateRingModify (h : CmdHdr) (s : State) : Gate :=
  { invalid := firstBad (ringBlockBad h s false), refused := !s.ringThere (h.p 0 1) (h.p 2 2) }

/-- RingModify waits among the commands in flight; its rule acts at the instant it names. -/
def goRingModify (_ : Flight) (s : State) : State :=
  s

/-- RING_MODIFY takes effect at the next sweep (R417). -/
def runRingModify (h : CmdHdr) (s : State) : State := start 0x0102 (gateRingModify h s) goRingModify h s

/-- What RingDelete checks before its rule runs (R427, R429). -/
def gateRingDelete (h : CmdHdr) (s : State) : Gate :=
  let k := h.p 0 1
  let n := h.p 2 2
  let busy := k == 1 && (s.host.rings.any (fun e => e.2.kind == 0 && e.2.bound == n) || (match s.host.rings.get? (ringKey 1 n) with
    | some r => decide (0 < r.reserved)
    | none => false))
  { invalid := firstBad [needSys h, noBuf h, zeroTail h 4, needP 0 (decide (k ≤ 3)), needP 1 (h.p 1 1 == 0),
        needP 2 (if k = 0 ∨ k = 1 then decide (1 ≤ n ∧ n ≤ 63) else if k = 2 then decide (1 ≤ n ∧ n ≤ 7) else decide (n ≤ 15))],
    refused := busy || (s.host.rings.get? (ringKey k n)).isNone }

/-- RingDelete waits among the commands in flight; its rule acts at the instant it names. -/
def goRingDelete (_ : Flight) (s : State) : State :=
  s

/-- RING_DELETE stops the ring at the next sweep (R418). -/
def runRingDelete (h : CmdHdr) (s : State) : State := start 0x0103 (gateRingDelete h s) goRingDelete h s

/-- What SysInfo checks before its rule runs (R427, R429). -/
def gateSysInfo (h : CmdHdr) (_ : State) : Gate :=
  { exempt := true, invalid := firstBad [needSys h, needBuf h 256, zeroTail h 12] }

/-- Effect of SysInfo. -/
def goSysInfo (f : Flight) (s : State) : State :=
  s.okOut f ([identReg, s.capsReg, s.sys.serial, s.sys.bootId, s.hstat, s.lmt] ++ (List.range 4).map (fun d => domTime (s.dom d) s.lmt))

/-- SYS_INFO: IDENT, CAPS, serial, BOOT_ID, HSTAT, LMT and each domain's time at one instant (R429), as figures in this order. -/
def runSysInfo (h : CmdHdr) (s : State) : State := start 0x0105 (gateSysInfo h s) goSysInfo h s

end Sys2Proof.Machine
end

