-- ==== Sys2Proof/Machine/Cycle.lean ====
section
/-! DEFINITION. The instants of a cycle group: start, commit, output launch, and cog actions (R29 to R36, R74, R79, R85, R112, R334, R439, R476). -/

namespace Sys2Proof.Machine

/-! Which groups have cycles. -/

/-- The module runs cycles: its configuration is in force and its role runs it (R391, R469, R470). -/
def State.cyclesRun (s : State) : Bool :=
  s.cfg.admitted && s.cfg.inForce && (s.sys.st == .ready || s.sys.st == .running) &&
  (s.red.role == .single || s.red.role == .active || s.red.role == .standby)

/-- Commits are made: not after the power fail's last commits, and not by a paired ACTIVE module in power fail (R480). -/
def State.mayCommit (s : State) : Bool :=
  s.sys.pfail == .ok || (s.sys.pfail == .sealing && s.red.role != .active)

/-- After a takeover, cycles start from D + 50 us on (R389). -/
def State.startsHeld (s : State) : Bool := s.red.lastCause == 1 && (match s.red.tookAt with
  | some d => decide (s.lmt < d + 50000)
  | none => false)

/-- Groups configured on a segment. -/
def State.groupsOf (s : State) (seg : Nat) : List Nat := ((s.recsOf 0x09).filter (fun b => byteAt b 0 == seg)).map (fun b => byteAt b 1)

/-! Cycle start (R29, R30, R112). -/

/-- UNIT_DISABLE of an Ethernet segment at the next cycle of each of its groups: nodes homed there go ABSENT with RELEASE; complete at the
last group (R118, R432). -/
def State.segLeaves (s : State) (seg grp : Nat) : State :=
  match (s.flightsOn 0x0206 (uSeg seg)).head? with
  | none => s
  | some f =>
    let s1 := ((s.segNodes seg).filter (fun b => nodeHome b == grp)).foldl State.nodeToAbsent s
    let m := if f.mark.testBit grp then f.mark else f.mark + 2 ^ grp
    if (s.groupsOf seg).all (fun g => m.testBit g) then s1.disableUnit f else s1.setFlight { f with mark := m }

/-- Input values a group latches at its snapshot (R29, R112, R334); a module that does not drive the field takes none (R391). -/
def State.latchInputs (s : State) (seg grp : Nat) : State × List Nat :=
  if !s.drives then (s, [])
  else if 1 ≤ seg ∧ seg ≤ 4 then s.netSnapshot seg grp
  else if 5 ≤ seg ∧ seg ≤ 8 then s.canSnapshot seg grp
  else (s, [])

/-- A cycle of a group starts now: snapshot, then the releases of its cyclic tasks (R29, R278). -/
def State.groupBegin (s : State) (seg grp : Nat) : State :=
  let k := gKey seg grp
  let x := (s.segLeaves seg grp).latchInputs seg grp
  let s1 := x.1.takeSnapshot k x.2
  let g := s1.group k
  let s2 := s1.setGroup k { g with cycle := (g.cycle + 1) % 2 ^ 64, open' := true, startAt := s1.lmt, started := true, delayed := none }
  if s2.sys.st == .running then s2.leCycle k else s2

/-- A domain time is a cycle start of a time-paced group; LMT resolves it to 1 ns (R104). -/
def onStart (b : Bytes) (tau : Nat) : Bool :=
  let p := gPeriod b
  let r := (tau + p - gPhase b % p) % p
  r ≤ 1 || p ≤ r + 1

/-- GROUP_CYCLE_START: a time-paced start by its domain, or the delayed start of a cog-paced group (R29, R85, R104). -/
def groupCycleStart (seg grp : Nat) (s : State) : State :=
  match s.grpRec? seg grp with
  | none => s
  | some b =>
    let g := s.group (gKey seg grp)
    let due := if gCogPaced b then (match g.delayed with
        | some u => decide (u ≤ s.lmt)
        | none => false)
      else onStart b (domTime (s.dom (gDomain b)) s.lmt) && (!g.started || decide (g.startAt + gPeriod b / 2 ≤ s.lmt))
    if s.cyclesRun && !s.startsHeld && due then s.groupBegin seg grp else s

/-- GROUP_START of a cog at its action instant (R85). -/
def State.pacedStart (s : State) (seg grp at' : Nat) : State :=
  match s.grpRec? seg grp with
  | none => s
  | some b =>
    let k := gKey seg grp
    let g := s.group k
    if !s.cyclesRun || s.startsHeld || !gCogPaced b then s
    else if g.delayed.isSome || (g.started && g.startAt == at') then s.raise EV_GROUP_PACED 0 [seg, grp]
    else if g.started && decide (at' < g.startAt + gPeriod b) then s.setGroup k { g with delayed := some (g.startAt + gPeriod b) }
    else s.groupBegin seg grp

/-- GROUP_PACING_TIMEOUT: 16 periods after the previous start, or after the admission or the instant of RUNNING (R85). Local group 0, whose first commit
brings RUNNING, counts from READY (DEDUCED, log 215). -/
def groupPacingTimeout (seg grp : Nat) (s : State) : State :=
  match s.grpRec? seg grp with
  | none => s
  | some b =>
    let g := s.group (gKey seg grp)
    let ref := if g.started then g.startAt else s.cfg.admitAt
    let counts := s.sys.st == .running || gKey seg grp == 0
    if s.cyclesRun && !s.startsHeld && counts && gCogPaced b && g.delayed.isNone && decide (ref + 16 * gPeriod b ≤ s.lmt) then s.groupBegin seg grp else s

/-! Module points (R476). -/

/-- The module's supplies, store and temperatures are measured: values the spec gives no source for (log 3). -/
def State.measure (s : State) : State :=
  let v (i : Nat) := (Config.freeValue (s.free + i)).toNat % 65536
  { s with
    free := s.free + 8
    sys := { s.sys with logicMv := v 0, fieldMv := v 1, holdupMj := v 2, temps := [v 3, v 4, v 5, v 6] } }

/-- Update state as UPD shows it: [2:0] state, [8] a cold activation is pending (R476, R483). -/
def updPoint (s : State) : Nat :=
  let other := s.sys.slots.getD (1 - s.sys.runSlot) {}
  let st := match s.sys.upd with
    | .idle => 0
    | .staged => 1
    | .armed => 2
    | .activating => 3
    | .trial => 4
  st + mkBit (s.sys.upd == .armed && other.flags.testBit 1) 8

/-- VERSION of a slot; 0 if empty. -/
def slotVersion (s : State) (i : Nat) : Nat :=
  let x := s.sys.slots.getD i {}
  if x.st == .empty then 0 else x.version

/-- Points of local node 0 of the module as a whole (R476). -/
def State.sysPoints (s : State) : State :=
  let w (s : State) (i : Nat) (v : Int) := s.wrLocal 0 i v
  let y := s.sys
  let jour := (Config.freeValue (s.free - 1)).toNat % 10001
  let vals : List (Nat × Int) := [(0, (s.hstat % 65536 : Nat)), (1, y.bootId), (2, (slotVersion s y.runSlot : Nat)), (3, (slotVersion s (1 - y.runSlot) : Nat)),
    (4, (updPoint s : Nat)), (5, s.cfg.pkgId), (6, y.logicMv), (7, y.fieldMv), (8, y.holdupMj), (9, y.temps.getD 0 0), (10, y.temps.getD 1 0),
    (11, y.temps.getD 2 0), (12, y.temps.getD 3 0), (16, (y.ecc.getD 0 0).toNat), (17, (y.ecc.getD 1 0).toNat), (18, (y.ecc.getD 2 0).toNat),
    (19, (y.ecc.getD 3 0).toNat), (20, y.commitLate.toNat), (21, y.overruns.toNat), (22, jour), (23, y.powerFails.toNat)]
  let s1 := vals.foldl (fun (s : State) (e : Nat × Int) => w s e.1 e.2) s
  (s.recsOf 0x09).foldl (fun (s : State) (b : Bytes) =>
    let k := gKey (byteAt b 0) (byteAt b 1)
    let g := s.group k
    w (w s (32 + k) g.cycles.toNat) (104 + k) g.margin) s1

/-- Points whose owner writes them at the commits of the local segment: status of every unit that keeps one (R71, R87, R256, R275, R346, R375,
R396, R476). -/
def State.localPoints (s : State) : State :=
  let s1 := (((s.measure.sysPoints.safePoints).redPoints).recPoints).capPoints
  let s2 := ((s1.enginesPoints).fieldPoints).vrefPoints
  let s3 := ((s2.recsOf 0x05).map (fun b => le b 0 2)).foldl State.cogPoints s2
  let s4 := (s3.sets.keys).foldl State.setPoints s3
  [0, 1, 2, 3].foldl State.canLoadPoint s4

/-! Commit (R29, R31 to R36). -/

/-- A standby keeps, of its own engines' writes, only those to its own local nodes 0 and 3; the rest comes with the delta (R385, R391, R396). -/
def State.standbyDrop (s : State) (k : Nat) : State :=
  if s.red.role == .standby then
    { s with img := { s.img with back := s.img.back.filter (fun e =>
        s.slotGroup e.1 != some k || (bits e.1 27 24 == 0 && (bits e.1 23 14 == 0 || bits e.1 23 14 == 3))) } }
  else s

/-- A delta of the group that is not complete by its next commit drops the standby to SYNCING (R387). -/
def State.deltaLate (s : State) (k : Nat) : State :=
  let c := (s.group k).cycle
  if s.red.role == .standby && s.red.blocks.any (fun b => b.kind == 1 && b.key == k && (!b.complete || decide (b.cycle + 1 < c))) then
    let s1 := s.setRole .syncing
    ({ s1 with red := { s1.red with syncPct := 0, copying := false, blocks := [] } }).raise EV_RED_COPY_LATE 0 [k / 8, k % 8]
  else s

/-- Bank boundaries of the logic engines at a commit of a group (R304). -/
def State.leBoundaries (s : State) (k : Nat) : State := ((List.range 8).foldl (fun s n => s.leBoundary n k) s).takeLoads

/-- What only a commit of local group 0 does after the image: pending changes in force (R439), paged writes (R36), bank writes (R92). -/
def State.localCommit (s : State) : State × List (Nat × W32) :=
  let x := s.admitAll.commitPaged
  (x.1.markBanks, x.2)

/-- The module enters RUNNING at the first commit of local group 0 with a configuration in force (R85, R469). -/
def State.runningNow (s : State) : State :=
  if s.sys.st == .ready && s.cfg.admitted && s.cfg.inForce then
    let s0 := s.setSt .running
    { s0 with cfg := { s.cfg with admitAt := s.lmt }
              fos := s.fos.mapV (fun _ f => { f with cmdSeen := none }) }
  else s

/-- A point-driven fast output takes its CMD level at the output step `t`, plus SKEW (R83, R84). -/
def State.foCommand (t : Nat) (s : State) (o : Nat) : State :=
  let b := s.foRec o
  let f := s.fo o
  let v := (s.rd (s.foPoint o + 1)).getLsbD 0
  if f.hiZ || f.cmdSeen == some v then s
  else
    let s1 := s.setFo o { f with cmdSeen := some v }
    if f.level == v && f.pending.isEmpty then s1
    else if 64 ≤ s.foPending o then
      ((s1.setFo o { s1.fo o with dropped := f.dropped + 1 }).raise EV_FO_OVERFLOW 0 [] (s.foPoint o)).foPoints o
    else
      let at' := ((t : Int) + leS b 4 2).toNat
      s1.setFo o { s1.fo o with pending := insEdge { at' := at', kind := if v then 0 else 1 } f.pending }

/-- Point-driven outputs whose CMD point belongs to a group take it at the output step `t`: those of negative SKEW, whose edges lie before it, or the
others (R83). -/
def State.foOutput (s : State) (k t : Nat) (early : Bool) : State :=
  let os := ((s.recsOf 0x06).filter (fun b => byteAt b 1 == 2 && decide (leS b 4 2 < 0) == early)).map (fun b => byteAt b 0)
  ((os.filter (fun o => s.slotGroup (s.foPoint o + 1) == some k)).foldl (State.foCommand t) s).foFlush s.lmt

/-- Edges of negative SKEW that the output step of a commit of the local segment will bring are known from the commit on (R83). -/
def State.foEarly (s : State) (seg grp : Nat) : State :=
  let k := gKey seg grp
  if seg = 0 && s.drives && s.sys.pfail != .stopped then s.foOutput k ((s.group k).startAt + gOutputAt (s.grpRec seg grp)) true else s

/-- The commit of a group (R29). -/
def State.groupCommitNow (s : State) (seg grp : Nat) : State :=
  let k := gKey seg grp
  let o := s.leOverruns k
  let s1 := { o.1 with sys := { o.1.sys with overruns := o.1.sys.overruns + BitVec.ofNat 32 o.2 } }
  let s2 := (s1.deltaLate k).gather k
  let s3 := if seg = 0 then s2.localPoints else s2
  let s4 := if 5 ≤ seg then s3.canCommit seg grp else s3
  let b := s.grpRec seg grp
  let s5 := (s4.remoteAxes k ((s.group k).startAt + gPeriod b)).standbyDrop k
  let x := s5.commitImage k
  let s6 := x.1.leBoundaries k
  let y := if k = 0 then s6.localCommit else (s6, [])
  let s7 := y.1.writeThrough k x.2.1 y.2
  let s8 := (s7.emitBy 0 0x01 s7.lmt true (commitBody s7 k x.2.1)).emitBy 1 0x02 s7.lmt false (shadowBody s7 k x.2.2)
  let g := s8.group k
  let s9 := s8.setGroup k { g with cycles := g.cycles + 1, commitAt := s8.lmt }
  (if k = 0 then s9.runningNow else s9).foEarly seg grp

/-- The first CFG_ADMIT, in READY before any group has cycles: the commit of local group 0 takes the change and the module runs (R439, R469). -/
def State.firstCommit (s : State) : State :=
  let x := s.localCommit
  let s1 := x.1.writeThrough 0 [] x.2
  let s2 := { s1 with cfg := { s1.cfg with inForce := s1.cfg.admitted } }
  s2.runningNow

/-- The commit of a group's open cycle falls due, and has not been made (R29). -/
def State.commitDue (s : State) (b : Bytes) : Bool :=
  let g := s.group (gKey (byteAt b 0) (byteAt b 1))
  s.cyclesRun && g.open' && decide (g.startAt + gCommitAt b ≤ s.lmt) && (g.cycles == 0 || decide (g.commitAt < g.startAt + gCommitAt b))

/-- A commit at COMMIT_AT of an open cycle (R29, R31, R439, R480). -/
def groupCommit (seg grp : Nat) (s : State) : State :=
  if !s.mayCommit then s
  else if seg = 0 ∧ grp = 0 ∧ s.sys.st = .ready ∧ s.sys.startMode = 0 ∧ !s.cfg.inForce ∧ !s.cfg.queue.isEmpty then s.firstCommit
  else match s.grpRec? seg grp with
    | none => s
    | some b =>
      if s.commitDue b then s.groupCommitNow seg grp else s

/-! Output step (R111, R238, R335). -/

/-- Whether the module launches a cycle's frames, by the instant of its commit: one that drives the field those committed since it became ACTIVE; one that
gave the active role away at S those it had committed before S, from the PAIR_MAC (R389, R392). -/
def State.launches (s : State) (commitAt : Nat) : Bool :=
  if s.drives then (match s.red.tookAt with
    | some d => decide (d ≤ commitAt)
    | none => true)
  else (match s.red.gaveAt with
    | some d => decide (commitAt < d)
    | none => false)

/-- An output step as the ACTIVE module makes it (R392). -/
def State.asActive (s : State) (f : State → State) : State :=
  if s.drives then f s
  else
    let t := f { s with red := { s.red with role := .active } }
    { t with red := { t.red with role := s.red.role } }

/-- GROUP_OUTPUT_LAUNCH: at OUTPUT_AT, built from the front buffer (R29, R111, R238, R335); a module that does not drive the field launches
nothing (R391). -/
def groupOutputLaunch (seg grp : Nat) (s : State) : State :=
  match s.grpRec? seg grp with
  | none => s
  | some b =>
    let k := gKey seg grp
    let g := s.group k
    if s.cyclesRun && s.sys.pfail != .stopped && g.open' && g.cycles != 0 && decide (g.startAt + gOutputAt b ≤ s.lmt) && decide (g.startAt + gCommitAt b ≤ g.commitAt) then
      let s1 := if !s.launches g.commitAt then s
        else if seg = 0 then (if s.drives then (s.foOutput k s.lmt false).dioOutput grp else s)
        else if seg ≤ 4 then s.asActive (fun s => s.netOutput seg grp)
        else if s.drives then s.canOutput seg grp else s
      s1.setGroup k { s1.group k with open' := false }
    else s

/-! Cog actions (R74, R79). -/

/-- One firing's action at its action instant `d` of LMT (R74). -/
def State.cogPerform (s : State) (c : Nat) (x : Firing) (d : Nat) : State :=
  let b := s.cogRec c
  let k := s.cog c
  let s1 := (s.setCog c { k with fires := k.fires + 1, due := k.due.erase x, doneFire := some ((x.at' : Int) - cogOffset b).toNat }).cogPoints c
  let s2 := match cogAction b with
    | 1 =>
      let o := cogArg b 0 1
      let f := s1.fo o
      if x.noEdge || f.hiZ || byteAt (s1.foRec o) 1 != 1 then s1
      else
        let e : FoEdge := { at' := ((d : Int) + leS (s1.foRec o) 4 2).toNat, kind := cogArg b 1 1, width := cogArg b 4 4 }
        s1.setFo o { f with pending := insEdge e f.pending }
    | 2 => if seqTrig (s1.seqRec (cogArg b 0 1)) = 3 then s1.seqStart (cogArg b 0 1) 0 else s1
    | 3 => if (s1.capRec? (cogArg b 0 1)).isSome && !s1.isDis (uCap (cogArg b 0 1)) then
        s1.capTrigger (cogArg b 0 1) { at' := d, src := 1, unit := cogArg b 0 1, cog := c }
      else s1
    | 4 => s1.hopAsk (.flags (cogArg b 0 2) (BitVec.ofNat 32 (2 ^ (cogArg b 2 1 % 32))))
    | 5 =>
      let l := cogArg b 0 2
      let p := s1.loop l
      s1.setLoop l { p with steps := p.steps ++ [{ at' := d, relative := cogArg b 2 1 == 1, value := sgn 16 (cogArg b 4 2) }] }
    | 7 => s1.pacedStart (cogArg b 0 1) (cogArg b 1 1) d
    | _ => s1
  if (byteAt b 5).testBit 2 then
    s2.emit 4 0x05 0 d 24 [c, cogRace b, cogAction b, (s2.cog c).fires.toNat, x.target / 4294967296, x.target % 4294967296] true (fun _ => true)
  else s2

/-- LMT at which a firing is carried out: its action instant, or that of its edge where a negative SKEW puts the edge before it (R83; DEDUCED, log 214). -/
def State.cogAt (s : State) (b : Bytes) (x : Firing) : Nat :=
  let d := s.cogLmt b x
  if cogAction b = 1 then ((d : Int) + min 0 (leS (s.foRec (cogArg b 0 1)) 4 2)).toNat else d

/-- Firings due by an instant: LMT at which each is carried out, cog, firing. -/
def State.cogDue (s : State) (t : Nat) : List (Nat × Nat × Firing) :=
  s.cogs.flatMap (fun (e : Nat × Cog) =>
    (e.2.due.map (fun (x : Firing) => (s.cogAt (s.cogRec e.1) x, e.1, x))).filter (fun (y : Nat × Nat × Firing) => decide (y.1 ≤ t)))

/-- Orders firings by instant, then cog (R79). -/
def insFiring (x : Nat × Nat × Firing) : List (Nat × Nat × Firing) → List (Nat × Nat × Firing)
  | [] => [x]
  | y :: ys => if x.1 < y.1 ∨ (x.1 = y.1 ∧ x.2.1 < y.2.1) then x :: y :: ys else y :: insFiring x ys

/-- COG_ACTION: a cog's action instant has come; every action due by then is performed in the order of its instant, then of its cog (R74, R79). -/
def cogActionAt (c : Nat) (s : State) : State :=
  let mine := ((s.cog c).due.map (s.cogAt (s.cogRec c))).filter (fun d => decide (d ≤ s.lmt))
  match mine.foldl (fun (m : Option Nat) d => some (min d (m.getD d))) none with
  | none => s
  | some d =>
    let l := (s.cogDue d).foldl (fun (a : List (Nat × Nat × Firing)) x => insFiring x a) []
    (l.foldl (fun (s : State) (x : Nat × Nat × Firing) => s.cogPerform x.2.1 x.2.2 (s.cogLmt (s.cogRec x.2.1) x.2.2)) s).foFlush s.lmt

/-! Catch-up of a banked table (R94). -/

/-- The catch-up copy of one table is done; KIND as EV_BANK_DEFERRED numbers it: 0 placement, 1 microstep, whose new background bank now goes to the
stage again (R191), 2 loop coefficients, 3 spindle, 4 logic. -/
def bankCatchupDone (kind unit : Nat) (s : State) : State :=
  let fin (b : Bank) : Bank := { b with catchup := false }
  match kind with
  | 0 => (s.setPset unit { s.pset unit with catchup := false }).setPoints unit
  | 1 => s.setAxis unit { s.axis unit with table := fin (s.axis unit).table, xfer := 342 }
  | 2 => s.setLoop unit { s.loop unit with coef := fin (s.loop unit).coef }
  | 4 => s.setEng unit { s.eng unit with prog := fin (s.eng unit).prog }
  | 3 => s.setSpin unit { s.spin unit with prog := fin (s.spin unit).prog }
  | _ => s

end Sys2Proof.Machine
end

