-- ==== Sys2Proof/Machine/Boot.lean ====
section
/-! DEFINITION. The start of the module: what survives it, BOOT, the replay of the journal, READY and the resumption of every unit (R51, R81, R118,
R159, R181, R210, R243, R257, R271, R306, R345, R377, R465, R469 to R475, R479, R481, R494). -/

namespace Sys2Proof.Machine

/-! Slots and the update state at a start (R475, R481, R488, R489). -/

/-- The start mode: straps tied to GND, bit 0 START_MODE0, bit 1 START_MODE1; recovery also after 3 failed starts (R470, R517). -/
def strapStart (tied failed : Nat) : Nat :=
  if 3 ≤ failed ∨ tied.testBit 1 then 2 else if tied.testBit 0 then 1 else 0

/-- A slot of the flash. -/
def Sys.slot (y : Sys) (i : Nat) : FwSlot := y.slots.getD i {}

/-- A slot changes its status. -/
def Sys.mark (y : Sys) (i : Nat) (x : SlotSt) : Sys := { y with slots := y.slots.set i { y.slot i with st := x } }

/-- The committed slot: the one that ran last, or the other. -/
def Sys.committedSlot (y : Sys) : Nat := if (y.slot y.runSlot).st == .committed then y.runSlot else 1 - y.runSlot

/-- The armed or running activation goes back to the committed image. -/
def Sys.reverse (y : Sys) : Bool := y.updArm.any (·.reverse)

/-- The trial slot, if there is one. -/
def Sys.trialSlot (y : Sys) : Option Nat :=
  if (y.slot 0).st == .trial then some 0 else if (y.slot 1).st == .trial then some 1 else none

/-- Format versions that an image writes, one for each region of R18 (R474, R482). -/
def FwSlot.formats (x : FwSlot) : List Nat := (List.range 7).map (fun i => x.rformat.getD i 0)

/-- No region of the MRAM has a newer format than an image's (R482). -/
def Sys.formatsOk (y : Sys) (x : FwSlot) : Bool := (List.range 7).all (fun i => decide (y.formats.getD i 0 ≤ x.rformat.getD i 0))

/-- The image of the trial slot is given up: it is staged, the old formats are in force (R489). -/
def Sys.rollback (y : Sys) : Sys :=
  let y1 := match y.trialSlot with
    | some i => y.mark i .staged
    | none => y
  { y1 with formats := (y1.slot y1.committedSlot).formats, upd := .staged, updArm := none, dualWrite := false, trialFailed := false, migration := 0, swapLeft := [] }

/-- A start in TRIAL failed, or the power went while ACTIVATING (R488, R489). -/
def Sys.mustRollback (y : Sys) (cold : Bool) : Bool :=
  y.trialFailed || (y.upd == .activating && !cold) || (y.upd == .trial && y.starting)

/-- KIND 2 is armed: this start is its activation (R485). -/
def Sys.armedStart (y : Sys) : Bool := y.upd == .armed && y.updArm.any (fun a => a.kind == 2)

/-- The activation through a start: the staged image becomes the trial image; a reverse one runs the committed slot (R487, R489). -/
def Sys.activateCold (y : Sys) : Sys :=
  let y1 := { y with upd := .activating, swapLeft := [] }
  if y.reverse then y1 else y1.mark (1 - y.runSlot) .trial

/-- The update unit and the slot to be run as a start finds them. -/
def Sys.atBoot (y : Sys) (cold : Bool) : Sys :=
  let y1 := if y.mustRollback cold then y.rollback else if y.armedStart then y.activateCold else y
  { y1 with runSlot := match y1.trialSlot with
      | some i => if y1.upd == .activating && y1.reverse then 1 - i else i
      | none => y1.committedSlot }

/-! BOOT. -/

/-- What a safety channel's own store keeps (R377): latches of pairs, legs and functions. -/
def SafeChan.stored (c : SafeChan) : SafeChan :=
  { pairs := c.pairs.mapV (fun _ p => { a := { testFault := p.a.testFault }, b := { testFault := p.b.testFault }, disc := p.disc })
    fns := c.fns.mapV (fun _ f => { latch := f.latch, reason := 11 }) }

/-- The safety side at a start (R351, R377). -/
def Safety.atBoot (x : Safety) : Safety :=
  { recs := x.recs, crc := x.crc, crcA := x.crcA, crcB := x.crcB, a := x.a.stored, b := x.b.stored
    outs := x.outs.mapV (fun _ o => { fault := o.fault }) }

/-- The front end's own store: MODE and ALARM_HIGH of each channel, and PAIRED (R232, R522). -/
def Analogue.atBoot (a : Analogue) : Analogue :=
  { cls := a.cls.mapV (fun _ c => { mode := c.mode, alarmHigh := c.alarmHigh }), almsel := a.almsel, fieldLow := a.fieldLow, pairedFe := a.pairedFe }

/-- The event log at a start: durable records, the sequence and a freeze are retained (R264, R265). -/
def EvLog.atBoot (l : EvLog) : EvLog :=
  { recs := l.recs.filter (·.durable), nextSeq := l.nextSeq, frozen := l.frozen, counters := l.counters, reserve := l.reserve, notReserved := l.notReserved }

/-- The host interface at a start: its registers at reset; what stands in host memory and on the bus is not the module's. -/
def HostIf.atBoot (h : HostIf) : HostIf :=
  { sent := h.sent, cpls := h.cpls, evts := h.evts, trDone := h.trDone, perstHigh := h.perstHigh, cfgReadyBy := h.cfgReadyBy }

/-- What a boot leaves of Hopper: an edge held while the clocks were stopped is pending when they run again (R461; log 253). -/
def Hopper.atBoot (h : Hopper) : Hopper := { sources := SMap.mapV (fun _ _ => { pending := true }) (h.sources.filter (fun e => e.2.held)) }

/-- BOOT at LMT `t`: everything but what the module retains begins again; BOOT_ID + 1, straps sampled (R61, R469 to R471, R517). -/
def State.boot (s : State) (t strapMode : Nat) (strapPair cold : Bool) : State :=
  let y := s.sys.atBoot cold
  let failed := if s.sys.starting then y.failedStarts + 1 else y.failedStarts
  let s1 : State := {
    pending := s.pending, free := s.free, lmt := t
    sys := {
      variantS := y.variantS, modNo := y.modNo, serial := y.serial, bootId := (y.bootId + 1) % 4294967296
      startMode := strapStart strapMode failed, strapMode := strapMode, strapPair := strapPair, pairUnit := if strapPair then 1 else 0
      powered := true, charging := true, holdupOk := y.holdupOk && y.powered, bootAt := t, clocksOn := true, failedStarts := failed, starting := true, powerFails := y.powerFails
      console := y.console ++ [(t, 0, false)], mLink := y.mLink, slots := y.slots, runSlot := y.runSlot, otpLevel := y.otpLevel, ckSlots := y.ckSlots
      unsignedOk := y.unsignedOk, upd := y.upd, updArm := y.updArm, formats := y.formats, dualWrite := y.dualWrite, migration := y.migration, opticsId := y.opticsId }
    host := s.host.atBoot, log := s.log.atBoot, journal := s.journal, jseq := s.jseq, settled := s.settled, home := s.home
    net := { ports := s.net.ports.mapV (fun _ p => { abs := p.abs }) }
    ana := s.ana.atBoot, safe := s.safe.atBoot, hop := s.hop.atBoot
    red := { role := if s.home.role == .single then .single else .starting, epoch := s.home.epoch, inhibit := s.home.inhibit
             mac := s.red.mac, stepping := s.red.stepping } }
  let s2 := if s1.log.frozen then (s1.useFree).thawFor s1.freeVal else s1
  s2.raiseIf (s.sys.mustRollback cold) EV_UPD_ROLLBACK

/-! LOAD: the replay (R479). -/

/-- The admitted configuration has a pair record. -/
def Cfg.pairs (c : Cfg) : Bool := c.recs.any (fun r => r.rtype == 0x1A && byteAt r.body 0 == 1)

/-- The journal is replayed from the settled point; the retained configuration, stage, image and force table are there, and not in force yet
(R439, R465, R479, R494). -/
def State.replay (s : State) : State :=
  let es := sealedHead s.journal
  let h := es.foldl Retained.apply s.home
  let s1 : State := { s with
    home := h, journal := []
    settled := match es.getLast? with
      | some e => e.seq + 1
      | none => s.settled
    cfg := { h.cfg with stage := h.stage, stageDurable := h.stage.isSome, disabled := h.disabled, inForce := false }
    hop := { s.hop with image := h.image }
    img := { s.img with forces := h.forces }
    red := { s.red with role := if h.cfg.pairs then .starting else .single, epoch := h.epoch, inhibit := h.inhibit } }
  s1.raise EV_RETAIN_REPLAY 0 [es.length, s.journal.length - es.length]

/-! Resumption of a normal start. -/

/-- A retained map without the addresses that name no point. -/
def keepPoints {α : Type} (s : State) (m : SMap α) : SMap α := m.filter (fun e => (s.pointOf e.1).isSome)

/-- Points at their retained values, cycle numbers, forces (R31, R303, R479). -/
def State.resumePoints (s : State) : State :=
  let h := s.home
  { s with img := { s.img with
    front := keepPoints s h.front, frontQ := keepPoints s h.frontQ, back := [], cond := [], changed := []
    paged := keepPoints s h.paged, pqual := keepPoints s h.pqual, forces := h.forces
    groups := h.cycles.map (fun e => (e.1, { cycle := e.2 })) } }

/-- A race as retained: its position, and the speed and limits in force (R44, R51, R52). -/
def Race.resume (r : Race) : Race := {
  pos := r.pos, born := r.born, rate := r.rate, vmAcc := r.vmAcc, vmJerk := r.vmJerk, recRate := r.recRate, recAcc := r.recAcc, recJerk := r.recJerk
  seq := r.seq, refPos := r.refPos }

/-- Races from their retained positions, cogs as retained, outputs at IDLE_LEVEL (R51, R81, R541). -/
def State.resumeRaces (o : Cfg) (s : State) : State :=
  let h := s.home
  let s1 : State := { s with
    encs := h.encs.mapV (fun _ x => { count := x.count, word := x.word, corr := x.corr })
    races := h.races.mapV (fun _ r => r.resume)
    cogs := h.cogs.mapV (fun _ c => { c with due := [], lastFire := none, doneFire := none }) }
  (s1.takeDomains o).takeRaces.takeCogs o

/-- A node after a restart: its state is retained, but PREOP and OPERATE are DROPPED (R118). -/
def Node.resume (n : Node) (t : Nat) : Node :=
  { st := if n.st == .preop || n.st == .operate then .dropped else n.st
    bindId := n.bindId, mac := n.mac, serial := n.serial, hello := n.hello, headRec := n.headRec, replaced := n.replaced, rejoin := n.rejoin
    binds := n.binds, bindAt := t, droppedAt := t }

/-- Bank sets, nodes and ports (R92, R118, R504). -/
def State.resumeNet (o : Cfg) (s : State) : State :=
  let h := s.home
  let s1 : State := { s with
    sets := h.sets.mapV (fun _ x => { x with undurable := false, durMark := 0, unheld := false, tries := [], toSwitch := [], heldFt := [] })
    net := { s.net with nodes := h.nodes.mapV (fun _ n => n.resume s.lmt) } }
  s1.takeNet o

/-- Mode of a loop after a restart: the retained one with RESUME, AUTO where a relay test held it in TRACK (R159, R169; DEDUCED, log 227). -/
def Loop.resumed (l : Loop) (b : Bytes) : LoopMode :=
  if !lpFlag b 2 then .disabled else if l.relay.isSome || l.back then .auto else l.mode

/-- Loops, override groups and Fantail tasks (R159, R164, R181). -/
def State.resumeControl (s : State) : State :=
  let h := s.home
  let s1 : State := { s with
    loops := h.loops.mapV (fun n l => { l with
      mode := l.resumed (s.loopRec n), lastMode := l.resumed (s.loopRec n)
      fresh := true, seenReq := true, steps := [], relay := none, back := false, pvBad := false, spBad := false, coef := l.coef.resume })
    ogs := h.ogs.mapV (fun _ g => { g with winner := none, decided := false })
    fts := h.fts.mapV (fun _ x => { x with
      test := none, held := none, hist := [], decim := 0, fill := 0, lastAt := none
      frozenAt := s.lmt, frozenTold := false, shortAt := s.lmt
      cov := [0x461C4000, 0, 0, 0, 0x461C4000, 0, 0, 0, 0x461C4000] })
    encs := s.encs }
  h.fts.foldl (fun s e => if e.2.st == .testing then s.ftState e.1 .running else s) s1

/-- One axis after a restart: DISABLED at its retained p; UNHOMED kept only with an SSI encoder, whose position p takes at its first word; a sealed bank
is transferred again; the record's maxima are in force (R210). -/
def State.resumeAxis (s : State) (x : Nat) (a : Axis) : Axis :=
  let e := axEnc (s.axRec x)
  let ssi := e.any (fun e => encMode (s.encRec e) == 3)
  { st := .disabled, code := a.code, p := a.p, addrBias := a.addrBias, encOffset := a.encOffset, unhomed := !ssi || a.unhomed, resync := ssi
    table := a.table.resume, xfer := if a.table.sealed then 342 else 0, restAt := s.lmt }

/-- Axes: their moves are lost (R210). -/
def State.resumeAxes (s : State) : State :=
  let s1 := { s with mot := { s.mot with axes := s.home.axes.mapV (fun x a => s.resumeAxis x a) } }
  s.home.axes.foldl (fun s e => s.raise EV_AXIS_RESTART (uAxis e.1) [e.2.queue.length]) s1

/-- Converters, channels, PWM and digital outputs (R232, R243). -/
def State.resumeAnalogue (o : Cfg) (s : State) : State :=
  let h := s.home.ana
  let s1 : State := { s with ana := { s.ana with
    seqs := h.seqs.mapV (fun _ q => { runs := q.runs })
    dios := h.dios.mapV (fun _ d => { latched := d.latched, hard := d.latched }) } }
  let s2 := (s1.takeSeqs o).takeAnalogue o ((s1.recsOf 0x12).map (fun b => byteAt b 0))
  { s2 with ana := { s2.ana with cls := s2.ana.cls.mapV (fun n c => match h.cls.get? n with
      | some r => { c with zero := r.zero, span := r.span, cmd := r.cmd, headroom := r.headroom, cls := r.cls, flag := r.flag }
      | none => c) } }

/-- Capture units: their records are lost (R257). -/
def State.resumeCaps (o : Cfg) (s : State) : State :=
  let h := s.home.caps
  let n (c : CapUnit) : Nat := c.heldN + (if c.st == .filling then 1 else 0)
  let s1 := { s with caps := h.mapV (fun _ c => { next := c.next, lost := c.lost + BitVec.ofNat 32 (n c) }) }
  let s2 := h.foldl (fun s e => s.raiseIf (decide (0 < n e.2)) EV_CAP_LOST (uCap e.1) [n e.2]) s1
  s2.takeCaps o

/-- What a channel's spill and its open gap lost (R271). -/
def TrChan.restartGap (c : TrChan) : TrGap :=
  let sp := c.spill
  let g := c.gap
  { records := sp.length + ((g.map (·.records)).getD 0)
    bytes := c.spillBytes + ((g.map (·.bytes)).getD 0)
    first := match sp.head? with
      | some r => r.lmt
      | none => (g.map (·.first)).getD 0
    last := match g with
      | some g => g.last
      | none => (sp.getLast?.map (·.lmt)).getD 0
    reason := 2 }

/-- Tailrace channels: the first record of each is a GAP (R271). -/
def State.resumeTr (o : Cfg) (s : State) : State :=
  let s1 := { s with tr := s.home.tr.mapV (fun _ c => { seq := c.seq, gap := some c.restartGap }) }
  s1.takeTr o

/-- One logic engine after a restart (R306). -/
def State.resumeEngine (s : State) (n : Nat) (e : Engine) : Engine :=
  let m : LogicMode := if leResume (s.leRec n) then (if e.mode == .hold then .stop else e.mode) else .stop
  { e with
    mode := m, reason := if m == .stop then 3 else e.reason, held := false, resume := false, run := none, breaks := [], stepLeft := 0
    timers := e.timers.mapV (fun _ x => { x with resumed := true })
    ready := e.ready.filter (fun r => !r.cyclic)
    figs := e.figs.mapV (fun _ f => { f with ran := false, late := false, skip := false, overruns := 0, lastRel := none })
    prog := e.prog.resume }

/-- Logic engines and spindle programs (R303, R306, R325). -/
def State.resumePrograms (s : State) : State :=
  let h := s.home
  let s1 : State := { s with
    logic := { engines := h.logic.engines.mapV (fun n e => s.resumeEngine n e) }
    spins := h.spins.mapV (fun _ p => { prog := p.prog.resume }) }
  let s2 := s1.enginesPoints
  s2.raise EV_LOGIC_RESTART 0 [h.forces.length]

/-- CAN ports by bus integration, found rates kept (R345). -/
def State.resumeCan (s : State) : State :=
  let s1 := { s with cans := s.home.cans.mapV (fun _ c => { found := c.found }) }
  ((s1.recsOf 0x18).map (fun b => byteAt b 0)).foldl (fun s p => s.canAdmit p true) s1

/-- Hopper: extension tasks with FLAGS[0] start with their flags clear, the others are DORMANT; logic event tasks wait (R465). -/
def State.resumeHopper (s : State) : State :=
  let s1 := { s with hop := { s.hop with tasks := [], partition := s.hop.image } }
  s1.hopTasks.foldl (fun s n => match s.hopCfg? n with
    | none => s
    | some c =>
      let go := if c.ext then c.auto else !s.leDis (c.ltask / 256 % 16) (c.ltask % 256)
      s.setHopT n { st := if go then .waiting else .dormant }) s1

/-- A race-armed activation whose target lies behind has passed (R481, R485). -/
def State.updPassed (s : State) : Bool := match s.sys.updArm with
  | some a => s.sys.upd == .armed && a.kind == 1 && decide (diff96 a.at' ((s.race a.unit).pos.toNat * 4294967296) < 0)
  | none => false

/-- An activation is skipped (R481, R487). -/
def State.updSkip (s : State) : State :=
  ({ s with sys := { s.sys with upd := .staged, updArm := none } }).raise EV_UPD_SKIPPED

/-- The local outputs of a module that does not drive the field: fast outputs high-impedance, DIO off, PWM low, current loops 0 uA (R391, R521). -/
def State.outputsOff (s : State) : State :=
  { s with
    fos := s.fos.mapV (fun _ f => { f with hiZ := true, pending := [] })
    ana := { s.ana with
      pwms := s.ana.pwms.mapV (fun _ p => { p with live := false })
      dios := s.ana.dios.mapV (fun _ d => { d with on := false })
      cls := s.ana.cls.mapV (fun _ c => if c.mode = 3 then { c with drive := 0, supply := 0, alarm := false } else c) } }

/-- The local outputs of a module that takes over: driven from the first commit on, by the cogs from the first segment it fits (R83, R391). -/
def State.outputsOn (s : State) : State :=
  let fos := s.fos.mapV (fun n f => { f with hiZ := byteAt (s.foRec n) 1 == 0, cmdSeen := none, pending := [] })
  { s with fos := fos, cogs := s.cogs.mapV (fun _ c => { c with due := c.due.map (fun x => { x with noEdge := true }) }) }

/-- What a change of role does beside the role's own rule: outputs (R391), and engines in HOLD at a takeover or a planned switch (R494). -/
def State.roleChange (s old : State) : State :=
  if old.red.role == s.red.role then s
  else
    let s1 := if s.drives && !old.drives then s.outputsOn else if !s.drives && old.drives then s.outputsOff else s
    if (old.red.role == .standby && s.red.role == .active) || (old.red.role == .active && s.red.role == .standby) then
      (List.range 8).foldl (fun s n => if (s.eng n).mode == .hold then s.leMode n .stop 3 else s) s1
    else s1

/-- A normal start with an admitted configuration: it is in force and every unit resumes (R469, R479). -/
def State.resume (s : State) : State :=
  let s0 : State := { s with cfg := { s.cfg with inForce := true, admitAt := s.lmt } }
  let o : Cfg := { s0.cfg with recs := s0.cfg.recs.filter (fun r => r.rtype == 5 || r.rtype == 0x0B || r.rtype == 0x0D || r.rtype == 0x0E), points := [] }
  let s1 := { s0 with red := { s0.red with waitFrom := s.lmt } }
  let s2 := (((s1.resumePoints).resumeRaces o).resumeNet o).resumeControl
  let s3 := (((s2.resumeAxes).resumeAnalogue o).resumeCaps o).resumeTr o
  let s4 := ((s3.resumePrograms).resumeCan).resumeHopper
  let s5 := s4.takeLoads
  let s6 := if s5.drives then s5 else s5.outputsOff
  if s6.updPassed then s6.updSkip else s6

/-! READY (R469, R470). -/

/-- A start on a new image has reached READY: TRIAL, or STAGED after a reverse activation; an activation still armed is looked for from now
(R481, R487, R489). -/
def State.updReady (s : State) : State :=
  if s.sys.upd == .activating then
    let nx : UpdState := if s.sys.reverse then .staged else .trial
    let y := { s.sys with upd := nx, updArm := none, dualWrite := nx == .trial, migration := 100 }
    let y1 := if s.sys.reverse then (match y.trialSlot with
      | some i => y.mark i .staged
      | none => y) else y
    ({ s with sys := y1 }).raise EV_UPD_ACTIVATED
  else { s with sys := { s.sys with updFrom := s.lmt } }

/-- READY: the failed starts are cleared; a normal start applies the retained configuration; the others are BLOCKED in a pair, with HEALTH 1. -/
def State.ready (s : State) : State :=
  let s1 := s.setSt .ready
  let s2 := ({ s1 with sys := { s1.sys with starting := false, failedStarts := 0 } }).updReady
  if s2.sys.startMode = 0 then (if s2.cfg.admitted then s2.resume else s2)
  else if s2.cfg.pairs then { s2 with red := { s2.red with role := .blocked, health := 1 } }
  else s2

/-- LOAD and the holdup store are both done (R469). -/
def State.tryReady (s : State) : State :=
  if s.sys.st == .load && s.sys.loadDone && s.sys.holdupOk then s.ready else s

end Sys2Proof.Machine
end

