-- ==== Sys2Proof/Machine/Update.lean ====
section
/-! DEFINITION. Firmware update: staging, arming, activation, trial and commit, and the key store (R473, R474, R483 to R489, R494). -/

namespace Sys2Proof.Machine

/-! The image header (R474). -/

def fwVersion (b : Bytes) : Nat := le b 12 4
def fwSec (b : Bytes) : Nat := le b 16 4
def fwFlags (b : Bytes) : Nat := byteAt b 9
def fwFormats (b : Bytes) : List Nat := (List.range 7).map (fun i => byteAt b (36 + i))

/-- One entry of the component table: KIND 1 to 10, reserved bytes zero, its bytes before the signature block. -/
def fwCompOk (b : Bytes) (i : Nat) : Bool :=
  let o := 64 + 96 * i
  let k := le b o 2
  decide (1 ≤ k ∧ k ≤ 10) && (slice b (o + 2) 6).all (· == 0) && (slice b (o + 24) 8).all (· == 0) && decide (le b (o + 8) 8 + le b (o + 16) 8 ≤ le b 28 8)

/-- The header and its component table are well formed, for this part and stepping (R474). -/
def fwHeaderOk (b : Bytes) (len : Nat) : Bool :=
  le b 0 4 == 0x57465053 && le b 4 2 == 1 && le b 6 2 == 0x7240 && byteAt b 8 == 0xB0 && decide (fwFlags b < 8)
  && decide (1 ≤ le b 10 2 ∧ le b 10 2 ≤ 16) && decide (fwSec b ≤ 255) && decide (le b 20 8 ≤ 1073741824) && decide (le b 20 8 ≤ len)
  && decide (64 + 96 * le b 10 2 ≤ le b 28 8 ∧ le b 28 8 ≤ le b 20 8) && (slice b 43 21).all (· == 0) && (List.range (le b 10 2)).all (fwCompOk b)

/-- A configuration key slot is programmed. -/
def Sys.keyed (y : Sys) : Bool := y.ckSlots.any (· != 0)

/-- An image verifies at staging: its header, its level, its signature with a firmware key, a key image's with a configuration key; an unsigned key image only while no key slot is programmed (R473, R475). -/
def State.fwOk (s : State) (h : CmdHdr) : Bool :=
  let b := h.data.take h.bufLen
  fwHeaderOk b h.bufLen && decide (s.sys.otpLevel ≤ fwSec b)
  && ((h.sigOk && decide (le b 28 8 + 3384 ≤ le b 20 8) && (if (fwFlags b).testBit 2 then sigBlockOk b (le b 28 8) 1 s.sys.ckSlots else sigBlockOk b (le b 28 8) 0 [1, 1, 1, 1]))
    || ((fwFlags b).testBit 2 && !s.sys.keyed))

/-- Sizes of the regions of R18 in MiB, the migration reserve left out. -/
def regionMiB : List Nat := [128, 256, 128, 64, 64, 64]

/-- Regions whose format an image changes. -/
def State.migrates (s : State) (formats : List Nat) (i : Nat) : Bool := formats.getD i 0 != (s.sys.slot s.sys.runSlot).rformat.getD i 0

/-- The migrated regions fit in the reserve of 320 MiB (R488). -/
def State.reserveFits (s : State) (formats : List Nat) : Bool :=
  decide (((List.range 6).filter (s.migrates formats)).foldl (fun n i => n + regionMiB.getD i 0) 0 ≤ 320)

/-- The slot that does not run. -/
def State.otherSlot (s : State) : FwSlot := s.sys.slot (1 - s.sys.runSlot)

/-! UPD_STAGE. -/

def gateUpdStage (h : CmdHdr) (s : State) : Gate :=
  { invalid := firstBad [needSys h, needBuf h 64, zeroTail h 12, if s.fwOk h then none else some 16]
    refused := !(s.sys.upd == .idle || s.sys.upd == .staged) || !s.reserveFits (fwFormats h.data) }

/-- UpdStage waits among the commands in flight; its rule acts at the instant it names. -/
def goUpdStage (_ : Flight) (s : State) : State :=
  s

/-- UPD_STAGE: the image is on its way to NOR; UPD_STAGE_DURABLE completes it (R484). -/
def runUpdStage (h : CmdHdr) (s : State) : State := start 0x1001 (gateUpdStage h s) goUpdStage h s

/-- UPD_STAGE_DURABLE: the oldest image being staged is verified and in NOR, or its verification failed (R484). -/
def updStageDurable (ok : Bool) (s : State) : State :=
  match (s.flightsOn 0x1001 0xF000).head? with
  | none => s
  | some f =>
    let b := f.h.data
    if !ok then s.finish f ST_INVALID { detail := 16 }
    else if !(s.sys.upd == .idle || s.sys.upd == .staged) then s.finish f ST_REFUSED
    else
      let x : FwSlot := { st := .staged, version := fwVersion b, secVer := fwSec b, flags := fwFlags b, rformat := fwFormats b }
      let s1 : State := { s with sys := { s.sys with slots := s.sys.slots.set (1 - s.sys.runSlot) x, upd := .staged } }
      (s1.raise EV_UPD_STAGED).ok f

/-! UPD_ARM, UPD_CANCEL. -/

/-- The instant that UPD_ARM and a UPD_CANCEL in TRIAL name (R484). -/
def armOf (h : CmdHdr) (reverse : Bool) : UpdArm :=
  let kind := h.p 0 1
  { kind := kind, unit := h.p 1 1, reverse := reverse
    at' := if kind = 0 then h.p 8 8 * 1000000000 + h.p 16 4 else if kind = 1 then h.p 8 8 * 4294967296 + h.p 16 4 else 0 }

/-- Fields of that instant in their ranges. -/
def armBad (h : CmdHdr) : List (Option Nat) :=
  let kind := h.p 0 1
  [noBuf h, needP 0 (decide (kind ≤ 2)), needP 1 (decide (kind = 0 → h.p 1 1 ≤ 3) && decide (kind = 1 → h.p 1 1 ≤ 7)), zeroGap h 2 8,
   needP 16 (decide (kind = 0 → h.p 16 4 < 1000000000)), zeroTail h 20]

/-- The instant cannot be armed: too near, a race that is IDLE or past the target, or not the next start where only that is accepted (R484, R494). -/
def State.armRefused (s : State) (a : UpdArm) : Bool :=
  if a.kind = 2 then false
  else if s.sys.st == .faultHalt || s.sys.startMode != 0 then true
  else if a.kind = 0 then (s.dom a.unit).st == .disabled || decide (a.at' < domTime (s.dom a.unit) s.lmt + 2000000000)
  else (s.race a.unit).st == .idle || decide (diff96 a.at' ((s.raceNow 4 a.unit).toNat * 4294967296) < 0)

/-- A change that Sluice has admitted is not in force yet (R440). -/
def State.changeInFlight (s : State) : Bool :=
  !s.cfg.queue.isEmpty || s.logic.engines.any (fun e => e.2.prog.sealed) || s.spins.any (fun e => e.2.prog.sealed) || s.safe.accepting

/-- Write-through of the admitted configuration while migrated regions are written twice, over its limit: point values and metadata by the group's
terms, unit state by a share the header does not tell (R442, R488; log 60). -/
def State.trialOver (s : State) : Bool :=
  let f := s.otherSlot.rformat
  let twice := if s.migrates f 0 || s.migrates f 1 then 2 else 1
  let extra := if s.migrates f 4 then s.freeVal % (unitStateBytes s + 1) else 0
  let gs := groupList s
  let q := loadSum (gs.map (fun g => (twice * 5000000 * (12800 + 9 * g.2.2.2 * changeOf s g.1 g.2.1), g.2.2.1))
    ++ [(1000000000 * (unitStateBytes s + extra), lg0Period s), (67108864 + 100000000, 1)])
  decide (2000000000 * q.2 < q.1)

def gateUpdArm (h : CmdHdr) (s : State) : Gate :=
  { invalid := firstBad (needSys h :: armBad h)
    refused := s.sys.upd != .staged || s.otherSlot.flags.testBit 2 || s.changeInFlight || s.trialOver || s.armRefused (armOf h false) }

/-- Effect of UpdArm. -/
def goUpdArm (_ : Flight) (s : State) : State :=
  s.useFree

/-- UPD_ARM: the microcode is being preloaded; UPD_PRELOAD_DONE completes it (R484). -/
def runUpdArm (h : CmdHdr) (s : State) : State := start 0x1002 (gateUpdArm h s) goUpdArm h s

/-- The activation restarts the module: FLAGS[1], or a new format of the point value or metadata region (R487). -/
def State.updCold (s : State) (x : FwSlot) : Bool := x.flags.testBit 1 || s.migrates x.rformat 0 || s.migrates x.rformat 1

/-- UPD_PRELOAD_DONE: ARMED; RESULT [0] tells a hitless activation (R484). -/
def updPreloadDone (s : State) : State :=
  match (s.flightsOn 0x1002 0xF000).head? with
  | none => s
  | some f =>
    if s.sys.upd != .staged then s.finish f ST_REFUSED
    else
      let a := armOf f.h false
      let s1 : State := { s with sys := { s.sys with upd := .armed, updArm := some a, updFrom := s.lmt } }
      (s1.raise EV_UPD_ARMED).ok f (mkBit (a.kind != 2 && !s.updCold s.otherSlot) 0)

def gateUpdCancel (h : CmdHdr) (s : State) : Gate :=
  { invalid := firstBad (needSys h :: (if s.sys.upd == .trial then armBad h else [noBuf h, zeroTail h 0]))
    refused := s.sys.upd == .idle || s.sys.upd == .activating || (s.sys.upd == .trial && s.armRefused (armOf h true)) }

/-- UPD_CANCEL: STAGED to IDLE with the image discarded, ARMED to STAGED, TRIAL to ARMED for the reverse activation (R484, R489). -/
def goUpdCancel (f : Flight) (s : State) : State :=
  let y := s.sys
  let y1 : Sys := match y.upd with
    | .staged => { (if s.otherSlot.st == .staged then { y with slots := y.slots.set (1 - y.runSlot) {} } else y) with upd := .idle }
    | .armed => { y with upd := .staged, updArm := none }
    | .trial => { y with upd := .armed, updArm := some (armOf f.h true), updFrom := s.lmt }
    | _ => y
  ({ s with sys := y1 }).ok f

def runUpdCancel (h : CmdHdr) (s : State) : State := start 0x1003 (gateUpdCancel h s) goUpdCancel h s

/-! UPD_COMMIT, UPD_STATUS. -/

/-- The first free configuration key slot is programmed. -/
def programKey : List Nat → List Nat
  | [] => []
  | k :: ks => if k = 0 then 1 :: ks else k :: programKey ks

/-- What a key image does: program the next free slot, revoke slots, permit unsigned packages with the first slot, or set signed-only. Its contents
have no layout in the spec: `v` is a free value, bit 0 program, bit 1 permit, bit 2 signed-only, bits 8 to 15 revoke (R473; log 61). -/
def Sys.takeKey (y : Sys) (v : Nat) : Sys :=
  let first := v.testBit 0 && !y.keyed
  let k1 := if v.testBit 0 then programKey y.ckSlots else y.ckSlots
  let k2 := (List.range 8).map (fun i => if v.testBit (8 + i) && k1.getD i 0 == 1 then 2 else k1.getD i 0)
  { y with ckSlots := k2, unsignedOk := (if first then v.testBit 1 else y.unsignedOk) && !v.testBit 2 }

/-- UPD_COMMIT is taken in TRIAL with HSTAT RUNNING, or for a staged key image (R483, R489). -/
def State.mayCommitUpd (s : State) : Bool :=
  (s.sys.upd == .trial && s.sys.st == .running) || (s.sys.upd == .staged && s.otherSlot.flags.testBit 2)

def gateUpdCommit (h : CmdHdr) (s : State) : Gate := { invalid := firstBad [needSys h, noBuf h, zeroTail h 0], refused := !s.mayCommitUpd }

/-- A key image takes effect in the OTP at its commit. -/
def State.commitKey (s : State) (f : Flight) : State :=
  let y := s.sys.takeKey s.freeVal
  let s1 : State := { s.useFree with sys := { y with slots := y.slots.set (1 - y.runSlot) {}, upd := .idle } }
  (s1.raise EV_UPD_COMMITTED).ok f

/-- UPD_COMMIT: a sealed journal entry makes the trial image the committed one (R489). -/
def goUpdCommit (f : Flight) (s : State) : State :=
  if s.sys.upd == .staged then s.commitKey f
  else
    let s1 : State := { s with journal := s.journal ++ [{ seq := s.jseq, grp := 72, cycle := 0, slots := [] }], jseq := s.jseq + 1 }
    s1.setFlight { f with mark := s.jseq + 1 }

def runUpdCommit (h : CmdHdr) (s : State) : State := start 0x1004 (gateUpdCommit h s) goUpdCommit h s

/-- The trial image is committed: level raised, reserve released, dual writes ended (R489). -/
def State.commitTrial (s : State) (f : Flight) : State :=
  let y := s.sys.mark s.sys.runSlot .committed
  let s1 : State := { s with sys := { y with
    otpLevel := max y.otpLevel (y.slot y.runSlot).secVer, upd := .idle, updArm := none, dualWrite := false, migration := 0, trialFailed := false } }
  (s1.raise EV_UPD_COMMITTED).ok f

/-- UPD_COMMITs whose journal entry is sealed take effect and complete (R489). -/
def State.updCommits (s : State) : State :=
  (s.flightsOn 0x1004 0xF000).foldl (fun s f =>
    if f.mark = 0 || s.journal.any (fun e => e.seq + 1 == f.mark && !e.sealed) then s
    else if s.sys.upd == .trial then s.commitTrial f
    else s.finish f ST_REFUSED) s

/-- A slot's figures in UPD_STATUS: status, VERSION, SEC_VER, FLAGS, RFORMAT. -/
def slotFigures (x : FwSlot) : List Nat :=
  [match x.st with
    | .empty => 0
    | .committed => 1
    | .trial => 2
    | .staged => 3, x.version, x.secVer, x.flags] ++ (List.range 7).map (fun i => x.rformat.getD i 0)

def gateUpdStatus (h : CmdHdr) (_ : State) : Gate := { exempt := true, invalid := firstBad [needSys h, needBuf h 256, zeroTail h 12] }

/-- UPD_STATUS: state, running slot, both slots' headers, A, migration progress, as figures in this order (R484; log 22). -/
def goUpdStatus (f : Flight) (s : State) : State :=
  let a := match s.sys.updArm with
    | some a => [1, a.kind, a.unit, a.at', mkBit a.reverse 0]
    | none => [0, 0, 0, 0, 0]
  s.okOut f ([updCode s.sys.upd, s.sys.runSlot] ++ slotFigures (s.sys.slot 0) ++ slotFigures (s.sys.slot 1) ++ a ++ [s.sys.migration])

def runUpdStatus (h : CmdHdr) (s : State) : State := start 0x1005 (gateUpdStatus h s) goUpdStatus h s

/-! Activation (R485 to R489). -/

/-- A new segment of a race is searched for the armed crossing (R485). -/
def updSearch (n ts : Nat) (s : State) : State := match s.sys.updArm with
  | none => s
  | some a =>
    let r := s.race n
    if s.sys.upd != .armed || a.kind != 1 || a.unit != n || a.found.isSome || r.st == .idle || r.st == .lost then s
    else
      let g? := if raceSource (s.raceRec n) = 3 then chooseSeg (r.remote.filter (fun g => !g.lost)) ts else r.segs.head?.filter (fun g => g.ts == ts)
      match g? with
      | none => s
      | some g =>
        let lo := ts - g.ts
        match crossing g true a.at' lo (lo + r.segPeriod * 62500) with
        | none => s
        | some tau => { s with sys := { s.sys with updArm := some { a with found := some (g.ts + tau) } } }

/-- Instant A has come (R485). -/
def State.updDue (s : State) : Bool := match s.sys.updArm with
  | none => false
  | some a =>
    s.sys.upd == .armed &&
    (match a.kind with
     | 0 => (s.dom a.unit).st != .disabled && decide (a.at' ≤ domTime (s.dom a.unit) s.lmt)
     | 1 => a.found.any (fun t => decide (t ≤ s.raceTime a.unit))
     | _ => false)

/-- Instant A passed while the module was down (R481). -/
def State.updGone (s : State) : Bool := match s.sys.updArm with
  | none => false
  | some a => a.kind == 0 && decide (a.at' + (s.lmt - s.sys.updFrom) < domTime (s.dom a.unit) s.lmt)

/-- The image whose activation, or whose withdrawal, is armed. -/
def State.updImage (s : State) : FwSlot := if s.sys.reverse then s.sys.slot s.sys.runSlot else s.otherSlot

/-- Engines that still run the old microcode: 0x300 + loop, 0x500 + motion, 0x700 + logic, 0xD00 + spindle, 0xC00 + Fantail, 0x100 Millrace,
0x900 + port frame engine (R12, R486). -/
def allEngines : List Nat :=
  (List.range 16).map (0x300 + ·) ++ (List.range 8).map (0x500 + ·) ++ (List.range 8).map (0x700 + ·) ++ (List.range 40).map (0xD00 + ·)
  ++ (List.range 4).map (0xC00 + ·) ++ [0x100, 0x901, 0x902, 0x903, 0x904]

/-- Engines at their boundary swap to the new microcode (R486). -/
def State.swapEngines (s : State) (p : Nat → Bool) : State :=
  if s.sys.swapLeft.isEmpty then s else { s with sys := { s.sys with swapLeft := s.sys.swapLeft.filter (fun e => !p e) } }

/-- Logic engines that swap at a commit of a group: those with a task in it, between two runs (R304, R486, R494). -/
def State.swapLogic (s : State) (k : Nat) : State :=
  s.swapEngines (fun e => decide (0x700 ≤ e ∧ e < 0x708) && (s.eng (e - 0x700)).run.isNone
    && ((leTasks (s.eng (e - 0x700)).prog.fg).isEmpty || (leTasks (s.eng (e - 0x700)).prog.fg).any (fun d => leGroup d == k)))

/-- Spindle engines between two windows (R324, R486). -/
def State.swapSpins (s : State) : State := s.swapEngines (fun e => decide (0xD00 ≤ e ∧ e < 0xD28) && (s.spin (e - 0xD00)).window.isNone)

/-- FLAGS[0]: both channels load their new images and test themselves; every function restarts with reason 11 (R487). -/
def State.safeReload (s : State) : State :=
  if !s.sys.variantS then s
  else
    let x := s.safe.lost
    let s1 : State := { s with safe := { x with layer := .selfTest, passA := false, passB := false, loaded := true } }
    s1.safeRequest (axesWanted s1.safeFns x.a x.b)

/-- A hitless activation begins: fetch stops, HOLD becomes STOP, every engine has still to swap (R486, R494). -/
def State.updHitless (s : State) : State :=
  let s1 := (List.range 8).foldl (fun s n => if (s.eng n).mode == .hold then s.leMode n .stop 3 else s) s
  let s2 : State := { s1 with sys := { s1.sys with upd := .activating, restarting := true, swapLeft := allEngines, migration := 0 } }
  if s.updImage.flags.testBit 0 then s2.safeReload else s2

/-- UPD_ACTIVATION: at A, skipped, cold or hitless (R481, R486, R487). -/
def updActivation (s : State) : State :=
  if !s.updDue then s
  else
    let x := s.updImage
    let cold := s.updCold x
    if s.updGone then s.updSkip
    else if (x.flags.testBit 0 || cold) && s.fnBusy then s.updSkip
    else if cold then ({ s with sys := s.sys.activateCold }).boot s.lmt s.sys.strapMode s.sys.strapPair true
    else s.updHitless

/-- Events held during the restart go to the rings and the log (R486). -/
def State.deliverHeld (s : State) : State :=
  let hs := s.log.held
  let s1 := s.setLog { s.log with held := [] }
  hs.foldl (fun s e =>
    let d := deliver1 s e.1 e.2 false false s.recorders
    s.withRecorders (raiseAll s 5 d.2 d.1)) s1

/-- UPD_RESTART_DONE: fetching resumes; the update is in TRIAL, or STAGED after a reverse activation (R486, R489). -/
def updRestartDone (s : State) : State :=
  if !s.sys.restarting then s
  else
    let y0 := { s.sys with restarting := false, swapLeft := [] }
    let y1 : Sys :=
      if y0.upd != .activating then y0
      else if y0.reverse then { (y0.mark y0.runSlot .staged) with formats := s.otherSlot.formats, runSlot := 1 - y0.runSlot, upd := .staged, updArm := none, dualWrite := false, migration := 100 }
      else { (y0.mark (1 - y0.runSlot) .trial) with
        formats := s.otherSlot.formats, runSlot := 1 - y0.runSlot, upd := .trial, updArm := none, migration := 100, dualWrite := (List.range 6).any (s.migrates s.otherSlot.rformat) }
    (({ s with sys := y1 }).deliverHeld).raiseIf (y0.upd == UpdState.activating) EV_UPD_ACTIVATED

end Sys2Proof.Machine
end

