-- ==== Sys2Proof/Machine/Power.lean ====
section
/-! DEFINITION. Supplies, resets and module faults: the rows of the start sequence, of power fail and of the fault list (R11, R13, R222, R469 to R475,
R479, R480, R499, R518, R519, R535). -/

namespace Sys2Proof.Machine

/-! The start sequence (R469, R471). -/

/-- LOGIC_REGULATION_REACHED: an unpowered module enters BOOT, or is held in reset while RESET# is low; LMT counts from 0 at power-on (R61, R469, R518). -/
def logicRegulationReached (strapMode : Nat) (strapPair : Bool) (s : State) : State :=
  if s.sys.clocksOn then s
  else if s.sys.resetLow then { s with lmt := 0, sys := { s.sys with powered := true, pfail := .stopped } }
  else s.boot 0 strapMode strapPair false

/-- BOOT_ROM_DONE: SC0 has found a slot; VREFBUF has been switched on 1,000 us after regulation (R222, R469). HSTAT stays BOOT while the baseplate is
below -25 C, and the bounds of the start run from the instant `warmAt` at which it has reached that (R535). -/
def bootRomDone (warmAt : Nat) (s0 : State) : State :=
  let s : State := { s0 with sys := { s0.sys with bootAt := max s0.sys.bootAt (min warmAt s0.lmt) } }
  if s0.sys.st == .boot then
    let s1 := s.vrefSwitch true
    ({ s1 with ana := { s1.ana with vrefAt := s.sys.bootAt + 1000000 } }).setSt .verify
  else s0

/-- The slot that was being verified fails (R475). `k` is the KIND of the first component that fails, 0 for the header. -/
def State.slotFails (s : State) (k : Nat) : State :=
  let y := s.sys
  let other := 1 - y.runSlot
  if !y.fellBack && (y.slot other).st == .committed then
    let trial := (y.slot y.runSlot).st == .trial
    let y1 := if trial then y.rollback else y
    let s1 : State := { s with sys := { y1 with fellBack := true, runSlot := other } }
    (s1.raise EV_BOOT_FALLBACK).raiseIf trial EV_UPD_ROLLBACK
  else s.faultHalt 1 k

/-- SLOT_VERIFY_DONE: 0 the slot verifies; k + 1 the component of KIND k fails, the header for k = 0 (R469, R475). A header whose SEC_VER is below the
OTP level fails, and so does a slot older than a format in the MRAM (R475, R482). -/
def slotVerifyDone (code : Nat) (s : State) : State :=
  if s.sys.st != .verify then s
  else if code = 0 then
    let x := s.sys.slot s.sys.runSlot
    if x.secVer < s.sys.otpLevel || !s.sys.formatsOk x then s.slotFails 0 else s.setSt .load
  else s.slotFails (code - 1)

/-- LOAD_DONE: 0 components loaded, journal replayed, safety images handed over; 8 the settled marker cannot be read; 9 the migration failed, its
region left open (R469, R471, R472, R479, R488). -/
def loadDone (code : Nat) (s : State) : State :=
  if s.sys.st != .load || s.sys.loadDone then s
  else if code = 9 then s.useFree.faultHalt 9 (s.freeVal % 7)
  else if code ≠ 0 then s.faultHalt 8 0
  else
    let s1 := s.replay
    ({ s1 with sys := { s1.sys with loadDone := true, formats := (s1.sys.slot s1.sys.runSlot).formats }, safe := { s1.safe with loaded := s1.sys.variantS } }).tryReady

/-- HOLDUP_CHARGED: the store holds 2.5 J (R471, R499). -/
def holdupCharged (s : State) : State := ({ s with sys := { s.sys with holdupOk := true } }).tryReady

/-- HOLDUP_CHARGE_TIMEOUT: not charged 10 s after regulation; the energy is left open, below 2,500 mJ (R471, R472). -/
def holdupChargeTimeout (s : State) : State :=
  if s.sys.st == .load && !s.sys.holdupOk && decide (s.sys.bootAt + 10000000000 ≤ s.lmt) then s.useFree.faultHalt 0xE (s.freeVal % 2500) else s

/-! Faults of the module (R11, R13, R472). -/

/-- A fault of R472 acts in LOAD, READY and RUNNING (R469). -/
def State.mayFault (s : State) : Bool := s.sys.st == .load || s.sys.st == .ready || s.sys.st == .running

/-- A module fault of the list. -/
def State.fault (s : State) (code detail : Nat) : State := if s.mayFault then s.faultHalt code (detail % 65536) else s

/-- FAULT_HALT_ENTRY: a code of R472 with its detail. -/
def faultHaltEntry (code detail : Nat) (s : State) : State :=
  if (1 ≤ code ∧ code ≤ 0xB) ∨ code = 0xE then s.fault code detail else s

/-- A corrected error counts in its memory's counter (R11, R476). -/
def State.eccCorrected (s : State) (array : Nat) : State :=
  ({ s with sys := { s.sys with ecc := s.sys.ecc.set array (s.sys.ecc.getD array 0 + 1) } }).raise EV_ECC_CORRECTED 0 [array]

/-- A record of a DRAM area has a double-bit error: a capture record, closed or being filled, is CORRUPT, a spilled Tailrace record is lost (R11, R254, R271). -/
def State.dramCorrupt (s : State) (unit item : Nat) : State :=
  let s1 := if unit / 4096 = 6 then
      let c := s.cap (unit % 4096)
      s.setCap (unit % 4096) { c with corrupt := c.corrupt || (item == c.next && (c.st == .armed || c.st == .filling)), recs := c.recs.map (fun r => if r.num == item then { r with corrupt := true } else r) }
    else
      let ch := s.chan unit
      match ch.spill.find? (fun r => r.seq.toNat == item) with
      | none => s
      | some r =>
        let ch1 := { ch with spill := ch.spill.filter (fun x => x.seq != r.seq), spillBytes := ch.spillBytes - r.len }
        s.setChan unit (ch1.lose r 1)
  s1.raise EV_DRAM_CORRUPT unit [item]

/-- ECC_ERROR: array 0 image SRAM, 1 MRAM, 2 DRAM, 3 engine program memory; for DRAM, `unit` is a capture unit's identifier or a Tailrace channel and
`item` the record (R11, R472). -/
def eccError (array : Nat) (double : Bool) (unit item : Nat) (s : State) : State :=
  if 3 < array then s
  else if !double then s.eccCorrected array
  else match array with
  | 0 => s.fault 2 unit
  | 1 => s.fault 3 unit
  | 2 => s.dramCorrupt unit item
  | _ => s.fault 4 unit

/-- FABRIC_FAULT: an image access beyond 25 ns; the engine is left open (R13, R472). -/
def fabricFault (s : State) : State := s.useFree.fault 5 (s.freeVal % 65536)

/-- RUNTIME_WATCHDOG: SC0 to SC3 silent for 100 ms; the core is left open (R472). -/
def runtimeWatchdog (s : State) : State := s.useFree.fault 0xA (s.freeVal % 4)

/-- BASEPLATE_OVERTEMP: above +90 C for 1,000 ms; the temperature is left open, above 90 (R472, R535). -/
def baseplateOvertemp (s : State) : State := s.useFree.fault 0xB (91 + s.freeVal % 166)

/-! Power fail (R480) and RESET# (R518). -/

/-- The pair's half of step 1: a paired ACTIVE module stops committing and sends HEALTH 2 on both paths (R384, R480). -/
def State.pairFails (s : State) : State :=
  if s.red.role == .active then
    (({ s with red := { s.red with health := 2 } }).sendHeartbeat 0).sendHeartbeat 1
  else s

/-- Step 1 of a power fail (R377, R480). -/
def State.powerFailStart (s : State) : State :=
  let s1 : State := { s with
    sys := { s.sys with pfail := .sealing, pfailAt := s.lmt, powerFails := s.sys.powerFails + 1 }
    safe := s.safe.lost }
  ((s1.safeRequest (axesWanted s1.safeFns s1.safe.a s1.safe.b)).pairFails).raise EV_POWER_FAIL

/-- POWER_FAIL: LOGIC below 16.5 V for 50 us (R480). -/
def powerFail (mv : Nat) (s : State) : State :=
  if s.sys.pfail != .ok || 16500 ≤ mv then s
  else ({ s with sys := { s.sys with powered := false, logicMv := mv } }).powerFailStart

/-- RESET_PIN: RESET# low for 10 us starts the same sequence and holds the module (R518). -/
def resetPin (s : State) : State :=
  if s.sys.resetLow then s
  else
    let s1 : State := { s with sys := { s.sys with resetLow := true, bootNext := none } }
    if s.sys.pfail != .ok then s1 else s1.powerFailStart

/-- The final commit of the unit state, where commits are made at all (R472, R480). -/
def State.finalCommit (s : State) : State :=
  if s.sys.st != .faultHalt && s.cfg.admitted && s.cfg.inForce then s.writeThrough 0 [] [] else s

/-- Every entry written gets its seal (R480 step 5). -/
def State.sealAll (s : State) : State := { s with journal := s.journal.map (fun e => { e with sealed := true }) }

/-- Local outputs, drive links and CAN stop; the front end goes on alone (R480 step 4, R521). -/
def State.stopOutputs (s : State) : State :=
  { s with
    fos := s.fos.mapV (fun _ f => { f with hiZ := true, pending := [] })
    mot := { s.mot with links := s.mot.links.mapV (fun _ l => { l with frame := [] }) }
    ana := { s.ana with
      pwms := s.ana.pwms.mapV (fun _ p => { p with live := false, on := 0 })
      dios := s.ana.dios.mapV (fun _ d => { d with on := false }) }
    cans := s.cans.mapV (fun _ c => { c with st := .off, onBus := none }) }

/-- Step 6: MRAM is write-protected, the clocks stop, the transmitters and WAKE# go off (R480, R521). Without LOGIC the store no longer counts as charged
(log 252). -/
def State.stopClocks (s : State) : State :=
  { s with
    sys := { s.sys with pfail := .stopped, mramWp := true, clocksOn := false, charging := false, holdupOk := s.sys.holdupOk && s.sys.powered }
    host := { s.host with wakeOut := false }
    net := { s.net with ports := s.net.ports.mapV (fun _ p => { p with txdis := true, link := false }) } }

/-- POWER_FAIL_FINAL_COMMIT: from 1,000 us after the declaration, steps 4 to 6 (R480). -/
def powerFailFinalCommit (s : State) : State :=
  if s.sys.pfail == .sealing && decide (s.sys.pfailAt + 1000000 ≤ s.lmt) then
    let l : EvLog := { s.log with recs := s.log.recs.map (fun r => if r.ev.code == EV_POWER_FAIL then { r with durable := true } else r) }
    let s1 := ((((s.setLog l).finalCommit).sealAll).stopOutputs).stopClocks
    match s1.sys.bootNext with
    | some (strapMode, strapPair) => s1.boot s1.lmt strapMode strapPair false
    | none => s1
  else s

/-- POWER_RESTORED: LOGIC in regulation for 100 ms after a power fail; LMT begins at 0 again (R61, R480). -/
def powerRestored (strapMode : Nat) (strapPair : Bool) (s : State) : State :=
  if s.sys.pfail == .stopped && !s.sys.clocksOn then
    if s.sys.resetLow then { s with lmt := 0, sys := { s.sys with powered := true } } else s.boot 0 strapMode strapPair false
  else s

/-- RESET_RELEASE: RESET# high again; the module enters BOOT, or goes on with the sequence that is under way (R518). -/
def resetRelease (t strapMode : Nat) (strapPair : Bool) (s : State) : State :=
  if !s.sys.resetLow then s
  else if s.sys.pfail == .stopped && s.sys.powered then s.boot t strapMode strapPair false
  else if s.sys.pfail == .sealing && s.sys.powered then { s with sys := { s.sys with resetLow := false, bootNext := some (strapMode, strapPair) } }
  else { s with sys := { s.sys with resetLow := false } }

/-! Maintenance ports (R516, R519). -/

/-- MAINT_LINK_CHANGE: M1 (0) or M2 (1) gains or loses its link. -/
def maintLinkChange (port : Nat) (up : Bool) (s : State) : State :=
  if port < 2 then { s with sys := { s.sys with mLink := s.sys.mLink.set port up } } else s

end Sys2Proof.Machine
end

