-- ==== Sys2Proof/Machine/ExtCalls.lean ====
section
/-! DEFINITION. Environment calls of extension tasks (R463). -/

namespace Sys2Proof.Machine

/-- A call's status goes to a0 of its core; its value, where it returns one, stands beside it (R463). -/
def State.extRet (s : State) (core status : Nat) (v : Option Nat) : State :=
  s.setCore core (fun c => { c with a0 := status, result := v.getD c.result })

/-- A call runs only for the task that executes on the core (R451, R463). -/
def State.extCall (s : State) (core : Nat) (f : State → State) : State :=
  if (s.hop.onCore.get? core).isSome then f s else s

/-- EXT_CALL_POINT_READ: as POINT_READ of one point (R429, R463). -/
def extPointRead (core addr : Nat) (s : State) : State :=
  s.extCall core (fun s => if s.pointTarget addr then s.extRet core ST_OK (some (s.readPoint addr)) else s.extRet core ST_INVALID none)

/-- The status a POINT_WRITE of this value would get at its fetch (R35, R36, R92). -/
def State.writeStatus (s : State) (a : Nat) (v : W64) : Nat :=
  match s.pointOf a with
  | none => ST_INVALID
  | some p =>
    let seg := bits a 27 24
    if !s.addrOk a || p.addr != a || seg == 9 || (seg == 0 && bits a 23 14 == 3) || !valueOk p.typ v.toNat then ST_INVALID
    else match s.nozzleOf a with
      | some (set, _, f, _) => if f == 3 || (s.pset set).sealed then ST_REFUSED else ST_OK
      | none => if p.writer = 3 then ST_OK else ST_REFUSED

/-- The value goes where the command's would: the back buffer, the bank, or the DRAM journal (R35, R36, R92). -/
def State.extWrite (s : State) (a : Nat) (v : W64) : State :=
  match s.pointOf a with
  | none => s
  | some p =>
    match s.nozzleOf a with
    | some (set, k, fld, n) =>
      let x := s.pset set
      let key := k * 4096 + n
      s.setPset set (x.putBg key (nozzleSet (x.bg.getD key {}) fld v.toNat))
    | none =>
      if p.cyclic then (if typeSlots p.typ = 2 then s.wr64 a v.toNat else s.wr a (BitVec.ofNat 32 v.toNat))
      else { s with img := { s.img with pagedJournal := s.img.pagedJournal ++ p.slots.map (fun x => (x, slotHalf p x v)) } }

/-- EXT_CALL_POINT_WRITE: as POINT_WRITE, only to points whose writer is the host (R35, R36, R463). -/
def extPointWrite (core addr : Nat) (v : W64) (s : State) : State :=
  s.extCall core (fun s =>
    let st := s.writeStatus addr v
    (if st = ST_OK then s.extWrite addr v else s).extRet core st none)

/-- EXT_CALL_FLAG_SET: as HOP_FLAG, taken by the next deal (R449, R463, R466). -/
def extFlagSet (core task : Nat) (flags : W32) (s : State) : State :=
  s.extCall core (fun s =>
    if (decide (task < 128) || (decide (task ≤ 1023) && (s.hopCfg? task).isSome)) && flags != 0 then (s.hopAsk (.flags task flags)).extRet core ST_OK none
    else s.extRet core ST_INVALID none)

/-- EXT_CALL_RAISE: a source of 448 to 479 becomes pending (R459, R463). -/
def extRaise (core src : Nat) (s : State) : State :=
  s.extCall core (fun s => if 448 ≤ src ∧ src ≤ 479 then (ecLatch src s).extRet core ST_OK none else s.extRet core ST_INVALID none)

/-- EXT_CALL_LMT (R463). -/
def extLmt (core : Nat) (s : State) : State := s.extCall core (fun s => s.extRet core ST_OK (some s.lmt))

end Sys2Proof.Machine
end

