-- ==== Sys2Proof/Machine/SpinDone.lean ====
section
/-! DEFINITION. Windows of the spindle engines from offer to verdict: the Ethernet classifier, and what each place does with a verdict (R310 to R322). -/

namespace Sys2Proof.Machine

/-! Ethernet frames (R106, R107, R318). -/

/-- Destination of a received Oczon frame (R57, R107). -/
def State.frameDst (s : State) (port : Nat) (p : Bytes) : Nat :=
  match be p 0 1 with
  | 0x08 => 0x030000724200
  | 0x20 => raceDst (s.segRec port) (be p 4 1 % 8)
  | 0x30 => 0x030000724300
  | _ => s.portMac port

/-- PCP a node sends a frame type with (R106); a module frame carries its queue's number. -/
def framePcp (ftype : Nat) : Nat :=
  if ftype = 0x02 then 6 else if ftype = 0x08 ∨ ftype = 0x0A then 4 else if ftype = 0x11 then 3 else 7

/-- The frame as received, without FCS: addresses, any VLAN tag, ETHERTYPE, payload padded to the Ethernet minimum (R106, R318). -/
def State.frameBytes (s : State) (port src : Nat) (p : Bytes) : Bytes :=
  let b := s.segRec port
  let vid := le b 4 2 % 4096
  let tag := if vid = 0 then [] else toBe 0x8100 2 ++ toBe (8192 * framePcp (be p 0 1) + vid) 2
  toBe (s.frameDst port p) 6 ++ toBe src 6 ++ tag ++ toBe (le b 2 2) 2 ++ ethPad (vid != 0) p

/-- Payload and source of a frame held as a window. -/
def frameParts (w : Bytes) : Nat × Bytes := (be w 6 6, if be w 12 2 = 0x8100 then w.drop 18 else w.drop 14)

/-- Normal handling of an Oczon frame by its type (R106, R107). -/
def State.ethHandle (s : State) (port src : Nat) (p : Bytes) : State :=
  if oczBad p then oczonInvalidFrame port src p s
  else match be p 0 1 with
    | 0x02 => inputFrameReceive port src p s
    | 0x08 => helloReceive port src p s
    | 0x0A => bindAckReceive port src p s
    | 0x11 => pageRspReceive port src p s
    | 0x20 => remoteSegmentReceive p s
    | 0x30 => if port = 1 then pairHeartbeatReceive src p s else s
    | _ => s

/-- Normal handling of a PTP or LLDP message that arrived at `rx` (R63, R65, R114). -/
def State.ethMessage (s : State) (port rx : Nat) : EthMsg → State
  | .oczon => s
  | .ptpSync domain offset pathDelay gm => ptpSyncReceive port domain offset pathDelay gm s
  | .ptp domain mtype data => ptpMessageAt rx port domain mtype data s
  | .lldp chassisSub chassis portSub portId => lldpReceive port chassisSub chassis portSub portId s

/-- A frame's bytes are offered to a port's classifier; where none runs, or its queue is full, the frame goes on at once (R310, R322). -/
def State.ethOffer (s : State) (port : Nat) (fb : Bytes) (msg : EthMsg) (direct : State → State) : State :=
  match s.spinOffer (3 + port) { bytes := fb, lmt := s.lmt, size := fb.length, msg := msg } with
  | some s1 => s1
  | none => direct (s.spinBacklog (3 + port))

/-- An Oczon frame with a good FCS reaches a field port: through the classifier where it runs a program, else `direct` (R310, R318, R322). -/
def State.ethIn (s : State) (port src : Nat) (p : Bytes) (direct : State → State) : State :=
  s.ethOffer port (s.frameBytes port src p) .oczon direct

/-- A PTP or LLDP frame with a good FCS reaches a field port: its bytes from the destination address on are the classifier's window (R318, log 236). -/
def State.ethOther (s : State) (port : Nat) (frame : Bytes) (msg : EthMsg) : State := s.ethOffer port frame msg (fun s => s.ethMessage port s.lmt msg)

/-! Verdicts (R317 to R321). -/

/-- The classifier's verdict on a frame: 0 PASS, 1 DROP, discarded and counted (R318). -/
def State.ethVerdict (s : State) (port : Nat) (w : SpinWin) (v : Nat) : State :=
  if v = 1 then s.setPort port { s.port port with filtered := (s.port port).filtered + 1 }
  else if w.msg = .oczon then
    let x := frameParts w.bytes
    s.ethHandle port x.1 x.2
  else s.ethMessage port w.lmt w.msg

/-- The qualifier's verdict on a sample: 1 fires the unit with T the sample's instant (R250, R319). -/
def State.qualVerdict (s : State) (u : Nat) (w : SpinWin) (v : Nat) : State :=
  if v = 1 then s.capTrigger u { at' := w.lmt, src := 2, unit := u } else s

/-- The entry whose verdict a channel waits for next, kept or dropped. -/
def settleFirst (keep : Bool) : List TraceWait → List TraceWait
  | [] => []
  | w :: r => match w.places with
    | [] => w :: settleFirst keep r
    | e :: es => { w with left := w.left - 1, places := es, kept := if keep then insEntry e w.kept else w.kept } :: r

/-- The reduction's verdict on a loop-trace entry: 0 keep, 1 drop; a record is written when its last verdict is known (R320). -/
def State.reduceVerdict (s : State) (c : Nat) (v : Nat) : State :=
  let ch := s.chan c
  (s.setChan c { ch with wait := settleFirst (v != 1) ch.wait }).traceSettle c (ch.wait.length + 1)

/-- A verdict takes effect at its place; one the place does not define counts and gives the default (R310, R321). -/
def State.spinVerdict (s : State) (n : Nat) (w : SpinWin) (v : W32) : State :=
  if spinPlace n = 0 then s.canVerdict n w v
  else
    let bad := decide (1 < v.toNat)
    let s1 := if bad then s.spinBad n else s
    let x := if bad then 0 else v.toNat
    if spinPlace n = 1 then s1.ethVerdict (n - 3) w x
    else if spinPlace n = 2 then s1.qualVerdict (n - 8) w x
    else s1.reduceVerdict (n - 24) x

/-- Windows queued at a program that is disabled or gone get the default verdict (R310, R325). -/
def State.spinDefaults (s : State) (n : Nat) : State :=
  if s.spinRuns n then s
  else
    let q := (s.spin n).queue
    q.foldl (fun s w => if spinPlace n = 0 then s.canDeliver n w.dflt.toNat w.bytes else s.spinVerdict n w 0) (s.setSpin n { s.spin n with queue := [] })

/-- The window's program exits: its verdict takes effect, a waiting UNIT_DISABLE completes, a sealed bank may swap (R311, R312, R324, R325). -/
def State.spinExit (s : State) (n : Nat) : State :=
  let x := s.spinEnd n
  match x.2 with
  | none => s
  | some (w, v) =>
    let s1 := x.1.spinVerdict n w v
    let s2 := match (s1.flightsOn 0x0206 (uSpin n)).head? with
      | some f => s1.spinOff n f
      | none => s1
    (s2.spinGap n).spinDefaults n

/-- SPINDLE_WINDOW_RUN: at a gap the next queued window starts, under whichever bank is then in the foreground (R311, R324). -/
def spindleWindowRun (n : Nat) (s : State) : State :=
  let s1 := (s.spinGap n).spinDefaults n
  if s1.spinRuns n then s1.spinStart n else s1

/-! Instructions (R312 to R315). -/

/-- One instruction on the window in progress: its effect, the next address, and the exit at LENGTH (R312). -/
def State.spinStep (s : State) (n op opnd : Nat) (f : SpinWin → Spin → Spin) (next : Spin → Nat) : State :=
  if !s.spinAt n op opnd then s
  else
    let s1 := s.spinExec n f next
    if spinLen (s1.spin n).prog.fg ≤ (s1.spin n).pc then s1.spinExit n else s1

/-- An instruction that writes its register D. -/
def State.spinD (s : State) (n op opnd : Nat) (g : SpinWin → Spin → W32) : State :=
  s.spinStep n op opnd (fun w p => p.setW (fD opnd) (g w p)) (fun p => p.pc + 1)

/-- Format A: D = A op B. -/
def State.spinA (s : State) (n op opnd : Nat) (g : W32 → W32 → W32) : State :=
  s.spinD n op opnd (fun _ p => g (p.w (fA opnd)) (p.w (fB opnd)))

/-- Format I: D = A op IMM18, as `g` reads it. -/
def State.spinI (s : State) (n op opnd : Nat) (g : W32 → W32) : State := s.spinD n op opnd (fun _ p => g (p.w (fA opnd)))

/-- A load at byte index A + sext(IMM18) (R313). -/
def State.spinLoad (s : State) (n op opnd : Nat) (g : SpinWin → Int → W32) : State :=
  s.spinD n op opnd (fun w p => g w (p.w (fA opnd) + sImm18 opnd).toInt)

/-- Format B: to this address + OFS where the comparison holds. -/
def State.spinBr (s : State) (n op opnd : Nat) (c : Spin → Bool) : State :=
  s.spinStep n op opnd (fun _ p => p) (fun p => if c p then p.pc + fOfs opnd else p.pc + 1)

/-- A comparison of A with B. -/
def State.spinBrR (s : State) (n op opnd : Nat) (c : W32 → W32 → Bool) : State :=
  s.spinBr n op opnd (fun p => c (p.w (fA opnd)) (p.w (fB opnd)))

/-- A comparison of A with sext(IMM10), signed. -/
def State.spinBrI (s : State) (n op opnd : Nat) (c : Int → Int → Bool) : State :=
  s.spinBr n op opnd (fun p => c (p.w (fA opnd)).toInt (sgn 10 (fImm10 opnd)))

end Sys2Proof.Machine
end

