-- ==== Sys2Proof/Machine/Start.lean ====
section
/-! DEFINITION. What follows every command: rings deleted, ABORTs that came late, commands held by FENCE, spindle gaps; and the frame of every row
(R324, R410, R418, R430, R432, R472, R480). -/

namespace Sys2Proof.Machine

/-- A command's rule by its opcode (R410, R429). -/
def cmdRule (op : Nat) (h : CmdHdr) (s : State) : State :=
  match op with
  | 0x0100 => runNop h s
  | 0x0101 => runRingCreate h s
  | 0x0102 => runRingModify h s
  | 0x0103 => runRingDelete h s
  | 0x0104 => runAbort h s
  | 0x0105 => runSysInfo h s
  | 0x0201 => runCfgLoad h s
  | 0x0202 => runCfgCheck h s
  | 0x0203 => runCfgAdmit h s
  | 0x0204 => runCfgRecord h s
  | 0x0205 => runCfgRead h s
  | 0x0206 => runUnitDisable h s
  | 0x0207 => runUnitEnable h s
  | 0x0208 => runSluiceRead h s
  | 0x0301 => runRaceVmSet h s
  | 0x0302 => runRaceTimeSet h s
  | 0x0303 => runRaceReference h s
  | 0x0304 => runRacePreset h s
  | 0x0305 => runRaceConfirm h s
  | 0x0401 => runCogArm h s
  | 0x0402 => runCogDisarm h s
  | 0x0403 => runPlaceRead h s
  | 0x0404 => runPlaceWrite h s
  | 0x0405 => runPlaceSeal h s
  | 0x0501 => runPointRead h s
  | 0x0502 => runPointWrite h s
  | 0x0503 => runPointMeta h s
  | 0x0504 => runNodeRead h s
  | 0x0601 => runLoopMode h s
  | 0x0602 => runLoopTrim h s
  | 0x0603 => runLoopCoefWrite h s
  | 0x0604 => runLoopCoefSeal h s
  | 0x0605 => runLoopReadState h s
  | 0x0701 => runFtStart h s
  | 0x0702 => runFtStop h s
  | 0x0703 => runFtTune h s
  | 0x0704 => runFtAccept h s
  | 0x0705 => runFtPlaceErr h s
  | 0x0706 => runFtStatus h s
  | 0x0801 => runAxisEnable h s
  | 0x0802 => runAxisDisable h s
  | 0x0803 => runAxisGoto h s
  | 0x0804 => runAxisQueue h s
  | 0x0805 => runAxisStop h s
  | 0x0806 => runAxisHome h s
  | 0x0807 => runAxisSetPos h s
  | 0x0808 => runAxisLimits h s
  | 0x0809 => runAxisClearFault h s
  | 0x080A => runAxisTableWrite h s
  | 0x080B => runAxisTableSeal h s
  | 0x0901 => runAdcStart h s
  | 0x0902 => runAnaVref h s
  | 0x0903 => runClZeroSpan h s
  | 0x0904 => runClCalCapture h s
  | 0x0905 => runDioReset h s
  | 0x0A01 => runCapArm h s
  | 0x0A02 => runCapDisarm h s
  | 0x0A03 => runCapTrigger h s
  | 0x0A04 => runCapRead h s
  | 0x0A05 => runCapRelease h s
  | 0x0A06 => runTrStart h s
  | 0x0A07 => runTrStop h s
  | 0x0A08 => runTrFlush h s
  | 0x0A09 => runLogRead h s
  | 0x0A0A => runLogClear h s
  | 0x0A0B => runLogCatalogue h s
  | 0x0A0C => runRecFreeze h s
  | 0x0A0D => runRecThaw h s
  | 0x0B01 => runLogicLoad h s
  | 0x0B02 => runLogicSeal h s
  | 0x0B03 => runLogicMode h s
  | 0x0B04 => runLogicStep h s
  | 0x0B05 => runLogicBreak h s
  | 0x0B06 => runLogicForce h s
  | 0x0B07 => runLogicUnforce h s
  | 0x0B08 => runLogicForceClear h s
  | 0x0B09 => runLogicForceList h s
  | 0x0B0A => runLogicReadState h s
  | 0x0C01 => runSpinLoad h s
  | 0x0C02 => runSpinSeal h s
  | 0x0C03 => runSpinReadState h s
  | 0x0D01 => runCanSend h s
  | 0x0D02 => runCanRecover h s
  | 0x0D03 => runCanRateDetect h s
  | 0x0D04 => runCanRingRead h s
  | 0x0E01 => runSafeStatus h s
  | 0x0E02 => runSafeDiagRead h s
  | 0x0E03 => runSafeConfigStage h s
  | 0x0E04 => runSafeConfigAccept h s
  | 0x0E05 => runSafeConnRestart h s
  | 0x0F01 => runRedStatus h s
  | 0x0F02 => runRedSwitch h s
  | 0x0F03 => runRedRevertInhibit h s
  | 0x1101 => runHopFlag h s
  | 0x1102 => runHopCancel h s
  | 0x1103 => runHopTraceRead h s
  | 0x1104 => runExtLoad h s
  | 0x1105 => runExtStart h s
  | 0x1106 => runExtStop h s
  | 0x1107 => runHopReadState h s
  | 0x1001 => runUpdStage h s
  | 0x1002 => runUpdArm h s
  | 0x1003 => runUpdCancel h s
  | 0x1004 => runUpdCommit h s
  | 0x1005 => runUpdStatus h s
  | _ => runUnlisted op h s

/-- The admitted configuration defines the points and units, with their retained values, while it is not applied (R22, R470; DEDUCED, log 71). -/
def State.shownHome (s : State) : State :=
  let h := s.home
  let v : State := { s with cfg := { s.cfg with inForce := true } }
  { v with img := { v.img with
    front := keepPoints v h.front, frontQ := keepPoints v h.frontQ, back := [], paged := keepPoints v h.paged, pqual := keepPoints v h.pqual } }

/-- Values written stand as committed ones. -/
def State.plain (s : State) : State :=
  { s with img := { s.img with front := s.img.back.foldl (fun (x : SMap W32) e => SMap.put 0 x e.1 e.2) s.img.front, back := [] } }

/-- The same with the module's own status. -/
def State.shown (s : State) : State := s.shownHome.localPoints.plain

/-- A command acts on the configuration in force; in test mode and recovery start it finds the retained one, which nothing it does applies (R470). -/
def runShown (run : CmdHdr → State → State) (h : CmdHdr) (s : State) : State :=
  if s.sys.startMode != 0 && s.cfg.admitted && !s.cfg.inForce then
    let r := run h s.shown
    { r with cfg := { r.cfg with inForce := false }, img := { s.img with forces := r.img.forces } }
  else run h s

/-- A command starts by its opcode. -/
def startCmd (op : Nat) (h : CmdHdr) (s : State) : State := runShown (cmdRule op) h s

/-- A flight takes its place again before those fetched after it. -/
def reinsert (f : Flight) (post : List Flight) : List Flight → List Flight
  | [] => [f]
  | g :: gs => if post.any (fun x => x.is g.h.ring g.h.tag && x.orphan == g.orphan) then f :: g :: gs else g :: reinsert f post gs

/-- The first command held by FENCE that no earlier command of its ring in flight holds any more: what stands before it, itself, what stands after (R410). -/
def heldReady (pre : List Flight) : List Flight → Option (List Flight × Flight × List Flight)
  | [] => none
  | f :: fs =>
    if f.held && !pre.any (fun g => g.h.ring == f.h.ring && !g.orphan) then some (pre, f, fs)
    else heldReady (pre ++ [f]) fs

/-- A UNIT_DISABLE whose unit another one has disabled meanwhile completes ST_OK (R432). -/
def State.disablesDone (s : State) : State :=
  (s.flightsOf (fun f => f.op == 0x0206 && s.isDis f.unit && (s.flightsOn 0x0207 f.unit).isEmpty)).foldl (fun s f => s.ok f) s

/-- Gaps between the windows of every spindle program, and windows left to the default verdict (R322, R324, R325). -/
def State.spinGaps (s : State) : State := (s.spins.keys.foldl (fun s n => (s.spinGap n).spinDefaults n) s).swapSpins

/-- What every effect leaves to be done: window gaps, disables already done, ring deletions whose last command has completed, ABORTs that came late. -/
def State.settle (s : State) : State := (((s.spinGaps).disablesDone).ringDeletes).abortsLate

/-- Commands held by FENCE start in their order, each followed by what it leaves to be done. `n` bounds how many. -/
def State.startHeld (s : State) : Nat → State
  | 0 => s
  | n + 1 => match heldReady [] s.flights with
    | none => s
    | some (pre, f, post) =>
      let s1 := startCmd f.op f.h { s with flights := pre ++ post, host := { s.host with cplNow := f.cpl } }
      let s2 := match s1.flights.find? (fun g => g.is f.h.ring f.h.tag && !g.orphan) with
        | none => s1
        | some g => { s1 with flights := reinsert g post (s1.flights.filter (fun x => !(x.is f.h.ring f.h.tag && !x.orphan))) }
      State.startHeld s2.settle n

/-- What follows every command and every event. -/
def State.afterStep (s : State) : State :=
  let s1 := s.settle
  s1.startHeld s1.flights.length

/-- An event or instant of the module: it acts while the clocks run, and what follows it follows. -/
def eventRow (s : State) (t : Nat) (f : State → State) : Host.Outcome State Fault Refusal :=
  live s t (fun s => ((f s).roleChange s).afterStep)

/-- An instant of an engine or of a unit that drives the field: nothing happens in FAULT_HALT (R472). -/
def engineRow (s : State) (t : Nat) (f : State → State) : Host.Outcome State Fault Refusal :=
  eventRow s t (fun s => if s.sys.st == .faultHalt then s else f s)

/-- A host command: where its descriptor can be fetched, it is taken, and what follows it follows (R408, R426, R427). -/
def commandRow (op : Nat) (h : CmdHdr) (run : CmdHdr → State → State) (s : State) : Host.Outcome State Fault Refusal :=
  if s.canTake h then .next (((hostRow op h (runShown run) s).roleChange s).afterStep) else .next s

end Sys2Proof.Machine
end

