-- ==== Sys2Proof/Machine/CmdAdmin.lean ====
section
/-! DEFINITION. Meanings of the rows of the admin commands. -/

namespace Sys2Proof.Machine

/-- NOP: Admin command NOP completes ST_OK at fetch. (R429) -/
def execNop (h : CmdHdr) (s : State) : Host.Outcome State Fault Refusal :=
  commandRow 0x0100 h runNop s

/-- RING_CREATE: Creates a command, completion, event or Tailrace buffer ring at the next sweep. (R417) -/
def execRingCreate (h : CmdHdr) (s : State) : Host.Outcome State Fault Refusal :=
  commandRow 0x0101 h runRingCreate s

/-- RING_MODIFY: Changes a ring's modifiable fields at the next sweep. (R417) -/
def execRingModify (h : CmdHdr) (s : State) : Host.Outcome State Fault Refusal :=
  commandRow 0x0102 h runRingModify s

/-- RING_DELETE: Stops and deletes a ring at the next sweep. (R418) -/
def execRingDelete (h : CmdHdr) (s : State) : Host.Outcome State Fault Refusal :=
  commandRow 0x0103 h runRingDelete s

/-- ABORT: Withdraws a command in flight that has not reached its commit point. (R430) -/
def execAbort (h : CmdHdr) (s : State) : Host.Outcome State Fault Refusal :=
  commandRow 0x0104 h runAbort s

/-- SYS_INFO: Returns identity, BOOT_ID, HSTAT, LMT and domain times at one instant. (R429) -/
def execSysInfo (h : CmdHdr) (s : State) : Host.Outcome State Fault Refusal :=
  commandRow 0x0105 h runSysInfo s

end Sys2Proof.Machine
end

