-- ==== Sys2Proof/Machine/CmdAnalogue.lean ====
section
/-! DEFINITION. Meanings of the rows of the analogue commands. -/

namespace Sys2Proof.Machine

/-- ADC_START: Starts a host-triggered converter sequence. (R219) -/
def execAdcStart (h : CmdHdr) (s : State) : Host.Outcome State Fault Refusal :=
  commandRow 0x0901 h runAdcStart s

/-- ANA_VREF: Switches VREFBUF off or on. (R222) -/
def execAnaVref (h : CmdHdr) (s : State) : Host.Outcome State Fault Refusal :=
  commandRow 0x0902 h runAnaVref s

/-- CL_ZERO_SPAN: Sets zero and span of a current-loop channel. (R236) -/
def execClZeroSpan (h : CmdHdr) (s : State) : Host.Outcome State Fault Refusal :=
  commandRow 0x0903 h runClZeroSpan s

/-- CL_CAL_CAPTURE: Captures zero or span of a channel from averaged RAW. (R236) -/
def execClCalCapture (h : CmdHdr) (s : State) : Host.Outcome State Fault Refusal :=
  commandRow 0x0904 h runClCalCapture s

/-- DIO_RESET: Restarts a DIO output latched in overload. (R239) -/
def execDioReset (h : CmdHdr) (s : State) : Host.Outcome State Fault Refusal :=
  commandRow 0x0905 h runDioReset s

end Sys2Proof.Machine
end

