-- ==== Sys2Proof/Machine/CmdCanSafe.lean ====
section
/-! DEFINITION. Meanings of the rows of the CAN and safety commands. -/

namespace Sys2Proof.Machine

/-- CAN_SEND: Makes a TRIGGER 1 send object pending with given data. (R336) -/
def execCanSend (h : CmdHdr) (s : State) : Host.Outcome State Fault Refusal :=
  commandRow 0x0D01 h runCanSend s

/-- CAN_RECOVER: Starts bus-off recovery of a CAN port. (R341) -/
def execCanRecover (h : CmdHdr) (s : State) : Host.Outcome State Fault Refusal :=
  commandRow 0x0D02 h runCanRecover s

/-- CAN_RATE_DETECT: Detects nominal and data rates in listen-only mode. (R339) -/
def execCanRateDetect (h : CmdHdr) (s : State) : Host.Outcome State Fault Refusal :=
  commandRow 0x0D03 h runCanRateDetect s

/-- CAN_RING_READ: Moves receive ring entries into a host buffer. (R337) -/
def execCanRingRead (h : CmdHdr) (s : State) : Host.Outcome State Fault Refusal :=
  commandRow 0x0D04 h runCanRingRead s

/-- SAFE_STATUS: Returns the safety layer state, CONFIG_CRC and function states. (R374) -/
def execSafeStatus (h : CmdHdr) (s : State) : Host.Outcome State Fault Refusal :=
  commandRow 0x0E01 h runSafeStatus s

/-- SAFE_DIAG_READ: Returns safety diagnostic counters and self-test results. (R374) -/
def execSafeDiagRead (h : CmdHdr) (s : State) : Host.Outcome State Fault Refusal :=
  commandRow 0x0E02 h runSafeDiagRead s

/-- SAFE_CONFIG_STAGE: Stages a safety section after both channels check it. (R373) -/
def execSafeConfigStage (h : CmdHdr) (s : State) : Host.Outcome State Fault Refusal :=
  commandRow 0x0E03 h runSafeConfigStage s

/-- SAFE_CONFIG_ACCEPT: Accepts the staged safety configuration with its CRC as key. (R373) -/
def execSafeConfigAccept (h : CmdHdr) (s : State) : Host.Outcome State Fault Refusal :=
  commandRow 0x0E04 h runSafeConfigAccept s

/-- SAFE_CONN_RESTART: Restarts a Nalat connection in FAULT to STARTING. (R374) -/
def execSafeConnRestart (h : CmdHdr) (s : State) : Host.Outcome State Fault Refusal :=
  commandRow 0x0E05 h runSafeConnRestart s

end Sys2Proof.Machine
end

