-- ==== Sys2Proof/Machine/CmdConfig.lean ====
section
/-! DEFINITION. Meanings of the rows of the configuration and unit commands. -/

namespace Sys2Proof.Machine

/-- CFG_LOAD: Checks and stages an Alaqua package in MRAM. (R439) -/
def execCfgLoad (h : CmdHdr) (s : State) : Host.Outcome State Fault Refusal :=
  commandRow 0x0201 h runCfgLoad s

/-- CFG_CHECK: Runs Sluice on the staged package and writes the report. (R439) -/
def execCfgCheck (h : CmdHdr) (s : State) : Host.Outcome State Fault Refusal :=
  commandRow 0x0202 h runCfgCheck s

/-- CFG_ADMIT: Checks and applies the staged package at the next commit of local group 0. (R439) -/
def execCfgAdmit (h : CmdHdr) (s : State) : Host.Outcome State Fault Refusal :=
  commandRow 0x0203 h runCfgAdmit s

/-- CFG_RECORD: Applies records as a delta after a Sluice check. (R439) -/
def execCfgRecord (h : CmdHdr) (s : State) : Host.Outcome State Fault Refusal :=
  commandRow 0x0204 h runCfgRecord s

/-- CFG_READ: Returns the admitted configuration as an unsigned full package. (R429) -/
def execCfgRead (h : CmdHdr) (s : State) : Host.Outcome State Fault Refusal :=
  commandRow 0x0205 h runCfgRead s

/-- UNIT_DISABLE: Disables a unit at the instant its rule names. (R432) -/
def execUnitDisable (h : CmdHdr) (s : State) : Host.Outcome State Fault Refusal :=
  commandRow 0x0206 h runUnitDisable s

/-- UNIT_ENABLE: Returns a disabled unit to service under its admitted record. (R433) -/
def execUnitEnable (h : CmdHdr) (s : State) : Host.Outcome State Fault Refusal :=
  commandRow 0x0207 h runUnitEnable s

/-- SLUICE_READ: Returns the load part of the Sluice report for the admitted configuration. (R444) -/
def execSluiceRead (h : CmdHdr) (s : State) : Host.Outcome State Fault Refusal :=
  commandRow 0x0208 h runSluiceRead s

end Sys2Proof.Machine
end

