-- ==== Sys2Proof/Machine/CmdControl.lean ====
section
/-! DEFINITION. Meanings of the rows of the loop and Fantail commands. -/

namespace Sys2Proof.Machine

/-- LOOP_MODE: Sets a loop's mode at its next sample. (R149) -/
def execLoopMode (h : CmdHdr) (s : State) : Host.Outcome State Fault Refusal :=
  commandRow 0x0601 h runLoopMode s

/-- LOOP_TRIM: Sets or clears a loop's TRIM at its next sample. (R141) -/
def execLoopTrim (h : CmdHdr) (s : State) : Host.Outcome State Fault Refusal :=
  commandRow 0x0602 h runLoopTrim s

/-- LOOP_COEF_WRITE: Writes a loop's coefficient set into its background bank. (R155) -/
def execLoopCoefWrite (h : CmdHdr) (s : State) : Host.Outcome State Fault Refusal :=
  commandRow 0x0603 h runLoopCoefWrite s

/-- LOOP_COEF_SEAL: Seals a loop's coefficient bank for a swap at its next sample. (R155) -/
def execLoopCoefSeal (h : CmdHdr) (s : State) : Host.Outcome State Fault Refusal :=
  commandRow 0x0604 h runLoopCoefSeal s

/-- LOOP_READ_STATE: Returns a loop's mode, integrator, spl, TRIM, dq and bank. (R429) -/
def execLoopReadState (h : CmdHdr) (s : State) : Host.Outcome State Fault Refusal :=
  commandRow 0x0605 h runLoopReadState s

/-- FT_START: Starts an IDLE Fantail task in advise or apply mode. (R164) -/
def execFtStart (h : CmdHdr) (s : State) : Host.Outcome State Fault Refusal :=
  commandRow 0x0701 h runFtStart s

/-- FT_STOP: Stops a Fantail task, ending any relay test as an ABORT. (R164) -/
def execFtStop (h : CmdHdr) (s : State) : Host.Outcome State Fault Refusal :=
  commandRow 0x0702 h runFtStop s

/-- FT_TUNE: Starts a relay test on a kind 1 task's loop. (R168) -/
def execFtTune (h : CmdHdr) (s : State) : Host.Outcome State Fault Refusal :=
  commandRow 0x0703 h runFtTune s

/-- FT_ACCEPT: Writes a task's latest advised result. (R163) -/
def execFtAccept (h : CmdHdr) (s : State) : Host.Outcome State Fault Refusal :=
  commandRow 0x0704 h runFtAccept s

/-- FT_PLACE_ERR: Hands a buffer of placement measurements to a placement task. (R175) -/
def execFtPlaceErr (h : CmdHdr) (s : State) : Host.Outcome State Fault Refusal :=
  commandRow 0x0705 h runFtPlaceErr s

/-- FT_STATUS: Returns a Fantail task's status. (R429) -/
def execFtStatus (h : CmdHdr) (s : State) : Host.Outcome State Fault Refusal :=
  commandRow 0x0706 h runFtStatus s

end Sys2Proof.Machine
end

