-- ==== Sys2Proof/Machine/CmdMotion.lean ====
section
/-! DEFINITION. Meanings of the rows of the axis commands. -/

namespace Sys2Proof.Machine

/-- AXIS_ENABLE: Enables a DISABLED axis to STANDSTILL. (R206) -/
def execAxisEnable (h : CmdHdr) (s : State) : Host.Outcome State Fault Refusal :=
  commandRow 0x0801 h runAxisEnable s

/-- AXIS_DISABLE: Stops an axis on its normal ramp and then disables it. (R206) -/
def execAxisDisable (h : CmdHdr) (s : State) : Host.Outcome State Fault Refusal :=
  commandRow 0x0802 h runAxisDisable s

/-- AXIS_GOTO: Steers an axis to a target, replanning and flushing its queue. (R194) -/
def execAxisGoto (h : CmdHdr) (s : State) : Host.Outcome State Fault Refusal :=
  commandRow 0x0803 h runAxisGoto s

/-- AXIS_QUEUE: Appends a move to an axis queue. (R199) -/
def execAxisQueue (h : CmdHdr) (s : State) : Host.Outcome State Fault Refusal :=
  commandRow 0x0804 h runAxisQueue s

/-- AXIS_STOP: Stops an axis on its normal or quick ramp. (R201) -/
def execAxisStop (h : CmdHdr) (s : State) : Host.Outcome State Fault Refusal :=
  commandRow 0x0805 h runAxisStop s

/-- AXIS_HOME: Homes a standing axis against a hard stop. (R202) -/
def execAxisHome (h : CmdHdr) (s : State) : Host.Outcome State Fault Refusal :=
  commandRow 0x0806 h runAxisHome s

/-- AXIS_SET_POS: Redefines the position of a STANDSTILL axis. (R202) -/
def execAxisSetPos (h : CmdHdr) (s : State) : Host.Outcome State Fault Refusal :=
  commandRow 0x0807 h runAxisSetPos s

/-- AXIS_LIMITS: Sets new axis maxima from the next update. (R196) -/
def execAxisLimits (h : CmdHdr) (s : State) : Host.Outcome State Fault Refusal :=
  commandRow 0x0808 h runAxisLimits s

/-- AXIS_CLEAR_FAULT: Clears a latched axis fault whose cause has ended. (R205) -/
def execAxisClearFault (h : CmdHdr) (s : State) : Host.Outcome State Fault Refusal :=
  commandRow 0x0809 h runAxisClearFault s

/-- AXIS_TABLE_WRITE: Writes microstep entries into the background bank. (R191) -/
def execAxisTableWrite (h : CmdHdr) (s : State) : Host.Outcome State Fault Refusal :=
  commandRow 0x080A h runAxisTableWrite s

/-- AXIS_TABLE_SEAL: Seals the microstep bank and transfers it to the stage for a swap. (R191) -/
def execAxisTableSeal (h : CmdHdr) (s : State) : Host.Outcome State Fault Refusal :=
  commandRow 0x080B h runAxisTableSeal s

end Sys2Proof.Machine
end

