-- ==== Sys2Proof/Machine/CmdPoints.lean ====
section
/-! DEFINITION. Meanings of the rows of the point and node commands. -/

namespace Sys2Proof.Machine

/-- POINT_READ: Returns a point's value and quality, or a run of slots into a buffer. (R25) -/
def execPointRead (h : CmdHdr) (s : State) : Host.Outcome State Fault Refusal :=
  commandRow 0x0501 h runPointRead s

/-- POINT_WRITE: Writes a host-owned cyclic or paged point, completing when durable. (R35) -/
def execPointWrite (h : CmdHdr) (s : State) : Host.Outcome State Fault Refusal :=
  commandRow 0x0502 h runPointWrite s

/-- POINT_META: Returns a point's metadata record. (R27) -/
def execPointMeta (h : CmdHdr) (s : State) : Host.Outcome State Fault Refusal :=
  commandRow 0x0503 h runPointMeta s

/-- NODE_READ: Returns a node's state, BIND_ID, HELLO body and last status block. (R429) -/
def execNodeRead (h : CmdHdr) (s : State) : Host.Outcome State Fault Refusal :=
  commandRow 0x0504 h runNodeRead s

end Sys2Proof.Machine
end

