-- ==== Sys2Proof/Machine/CmdPrograms.lean ====
section
/-! DEFINITION. Meanings of the rows of the logic and spindle commands. -/

namespace Sys2Proof.Machine

/-- LOGIC_LOAD: Writes a program image into an engine's background bank. (R304) -/
def execLogicLoad (h : CmdHdr) (s : State) : Host.Outcome State Fault Refusal :=
  commandRow 0x0B01 h runLogicLoad s

/-- LOGIC_SEAL: Submits the background program to Sluice and seals it for a swap at the engine's boundary. (R304) -/
def execLogicSeal (h : CmdHdr) (s : State) : Host.Outcome State Fault Refusal :=
  commandRow 0x0B02 h runLogicSeal s

/-- LOGIC_MODE: Changes a logic engine's mode at its next instruction boundary. (R297) -/
def execLogicMode (h : CmdHdr) (s : State) : Host.Outcome State Fault Refusal :=
  commandRow 0x0B03 h runLogicMode s

/-- LOGIC_STEP: Executes instructions of the open run of a held engine. (R298) -/
def execLogicStep (h : CmdHdr) (s : State) : Host.Outcome State Fault Refusal :=
  commandRow 0x0B04 h runLogicStep s

/-- LOGIC_BREAK: Sets or clears a breakpoint. (R298) -/
def execLogicBreak (h : CmdHdr) (s : State) : Host.Outcome State Fault Refusal :=
  commandRow 0x0B05 h runLogicBreak s

/-- LOGIC_FORCE: Forces a point at the next commit of its owner group. (R301) -/
def execLogicForce (h : CmdHdr) (s : State) : Host.Outcome State Fault Refusal :=
  commandRow 0x0B06 h runLogicForce s

/-- LOGIC_UNFORCE: Removes a point's force at the next commit of its owner group. (R301) -/
def execLogicUnforce (h : CmdHdr) (s : State) : Host.Outcome State Fault Refusal :=
  commandRow 0x0B07 h runLogicUnforce s

/-- LOGIC_FORCE_CLEAR: Removes every force, each at its owner group's commit. (R301) -/
def execLogicForceClear (h : CmdHdr) (s : State) : Host.Outcome State Fault Refusal :=
  commandRow 0x0B08 h runLogicForceClear s

/-- LOGIC_FORCE_LIST: Returns the force table with values and shadows. (R429) -/
def execLogicForceList (h : CmdHdr) (s : State) : Host.Outcome State Fault Refusal :=
  commandRow 0x0B09 h runLogicForceList s

/-- LOGIC_READ_STATE: Returns engine or task state and figures. (R307) -/
def execLogicReadState (h : CmdHdr) (s : State) : Host.Outcome State Fault Refusal :=
  commandRow 0x0B0A h runLogicReadState s

/-- SPIN_LOAD: Writes a spindle program image into its background bank. (R324) -/
def execSpinLoad (h : CmdHdr) (s : State) : Host.Outcome State Fault Refusal :=
  commandRow 0x0C01 h runSpinLoad s

/-- SPIN_SEAL: Submits and seals a spindle program for a swap at the next window gap. (R324) -/
def execSpinSeal (h : CmdHdr) (s : State) : Host.Outcome State Fault Refusal :=
  commandRow 0x0C02 h runSpinSeal s

/-- SPIN_READ_STATE: Returns a spindle program's state and counters. (R325) -/
def execSpinReadState (h : CmdHdr) (s : State) : Host.Outcome State Fault Refusal :=
  commandRow 0x0C03 h runSpinReadState s

end Sys2Proof.Machine
end

