-- ==== Sys2Proof/Machine/CmdRecording.lean ====
section
/-! DEFINITION. Meanings of the rows of the capture, Tailrace, log and recorder commands. -/

namespace Sys2Proof.Machine

/-- CAP_ARM: Arms a capture unit or group. (R253) -/
def execCapArm (h : CmdHdr) (s : State) : Host.Outcome State Fault Refusal :=
  commandRow 0x0A01 h runCapArm s

/-- CAP_DISARM: Disarms a capture unit. (R253) -/
def execCapDisarm (h : CmdHdr) (s : State) : Host.Outcome State Fault Refusal :=
  commandRow 0x0A02 h runCapDisarm s

/-- CAP_TRIGGER: Triggers an armed capture unit. (R253) -/
def execCapTrigger (h : CmdHdr) (s : State) : Host.Outcome State Fault Refusal :=
  commandRow 0x0A03 h runCapTrigger s

/-- CAP_READ: Writes a held capture record into a host buffer. (R254) -/
def execCapRead (h : CmdHdr) (s : State) : Host.Outcome State Fault Refusal :=
  commandRow 0x0A04 h runCapRead s

/-- CAP_RELEASE: Releases a held capture record. (R253) -/
def execCapRelease (h : CmdHdr) (s : State) : Host.Outcome State Fault Refusal :=
  commandRow 0x0A05 h runCapRelease s

/-- TR_START: Starts production on a Tailrace channel. (R270) -/
def execTrStart (h : CmdHdr) (s : State) : Host.Outcome State Fault Refusal :=
  commandRow 0x0A06 h runTrStart s

/-- TR_STOP: Stops a Tailrace channel and returns its partial buffer. (R270) -/
def execTrStop (h : CmdHdr) (s : State) : Host.Outcome State Fault Refusal :=
  commandRow 0x0A07 h runTrStop s

/-- TR_FLUSH: Returns a Tailrace channel's current buffer early. (R270) -/
def execTrFlush (h : CmdHdr) (s : State) : Host.Outcome State Fault Refusal :=
  commandRow 0x0A08 h runTrFlush s

/-- LOG_READ: Writes held log records from a sequence into a host buffer. (R264) -/
def execLogRead (h : CmdHdr) (s : State) : Host.Outcome State Fault Refusal :=
  commandRow 0x0A09 h runLogRead s

/-- LOG_CLEAR: Removes every log record and writes EV_LOG_CLEARED. (R264) -/
def execLogClear (h : CmdHdr) (s : State) : Host.Outcome State Fault Refusal :=
  commandRow 0x0A0A h runLogClear s

/-- LOG_CATALOGUE: Writes the event catalogue entries. (R259) -/
def execLogCatalogue (h : CmdHdr) (s : State) : Host.Outcome State Fault Refusal :=
  commandRow 0x0A0B h runLogCatalogue s

/-- REC_FREEZE: Freezes the event log. (R265) -/
def execRecFreeze (h : CmdHdr) (s : State) : Host.Outcome State Fault Refusal :=
  commandRow 0x0A0C h runRecFreeze s

/-- REC_THAW: Thaws the event log, writing EV_LOG_THAWED and the reserve. (R265) -/
def execRecThaw (h : CmdHdr) (s : State) : Host.Outcome State Fault Refusal :=
  commandRow 0x0A0D h runRecThaw s

end Sys2Proof.Machine
end

