-- ==== Sys2Proof/Machine/CmdSystem.lean ====
section
/-! DEFINITION. Meanings of the rows of the redundancy, update and Hopper commands. -/

namespace Sys2Proof.Machine

/-- RED_STATUS: Returns both roles, sync, paths, epoch and last switch-over. (R394) -/
def execRedStatus (h : CmdHdr) (s : State) : Host.Outcome State Fault Refusal :=
  commandRow 0x0F01 h runRedStatus s

/-- RED_SWITCH: Starts a planned switch of the active role. (R392) -/
def execRedSwitch (h : CmdHdr) (s : State) : Host.Outcome State Fault Refusal :=
  commandRow 0x0F02 h runRedSwitch s

/-- RED_REVERT_INHIBIT: Sets or clears the revert inhibit. (R394) -/
def execRedRevertInhibit (h : CmdHdr) (s : State) : Host.Outcome State Fault Refusal :=
  commandRow 0x0F03 h runRedRevertInhibit s

/-- HOP_FLAG: Sets flags of a Hopper task at the next deal. (R449) -/
def execHopFlag (h : CmdHdr) (s : State) : Host.Outcome State Fault Refusal :=
  commandRow 0x1101 h runHopFlag s

/-- HOP_CANCEL: Withdraws a task's release at the next deal. (R453) -/
def execHopCancel (h : CmdHdr) (s : State) : Host.Outcome State Fault Refusal :=
  commandRow 0x1102 h runHopCancel s

/-- HOP_TRACE_READ: Writes deal records from a sequence into a host buffer. (R454) -/
def execHopTraceRead (h : CmdHdr) (s : State) : Host.Outcome State Fault Refusal :=
  commandRow 0x1103 h runHopTraceRead s

/-- EXT_LOAD: Writes an extension image into the partition and MRAM. (R462) -/
def execExtLoad (h : CmdHdr) (s : State) : Host.Outcome State Fault Refusal :=
  commandRow 0x1104 h runExtLoad s

/-- EXT_START: Starts a DORMANT or FAULTED extension task. (R464) -/
def execExtStart (h : CmdHdr) (s : State) : Host.Outcome State Fault Refusal :=
  commandRow 0x1105 h runExtStart s

/-- EXT_STOP: Ends an extension task's run and makes it DORMANT. (R464) -/
def execExtStop (h : CmdHdr) (s : State) : Host.Outcome State Fault Refusal :=
  commandRow 0x1106 h runExtStop s

/-- HOP_READ_STATE: Returns a Hopper task's state and counts. (R466) -/
def execHopReadState (h : CmdHdr) (s : State) : Host.Outcome State Fault Refusal :=
  commandRow 0x1107 h runHopReadState s

/-- UPD_STAGE: Verifies and stages a firmware or key image in the non-running slot. (R484) -/
def execUpdStage (h : CmdHdr) (s : State) : Host.Outcome State Fault Refusal :=
  commandRow 0x1001 h runUpdStage s

/-- UPD_ARM: Preloads the staged image and sets the activation instant. (R484) -/
def execUpdArm (h : CmdHdr) (s : State) : Host.Outcome State Fault Refusal :=
  commandRow 0x1002 h runUpdArm s

/-- UPD_CANCEL: Discards, unarms or arms a reverse activation depending on update state. (R484) -/
def execUpdCancel (h : CmdHdr) (s : State) : Host.Outcome State Fault Refusal :=
  commandRow 0x1003 h runUpdCancel s

/-- UPD_COMMIT: Commits the trial slot and raises the OTP level. (R489) -/
def execUpdCommit (h : CmdHdr) (s : State) : Host.Outcome State Fault Refusal :=
  commandRow 0x1004 h runUpdCommit s

/-- UPD_STATUS: Returns update state, slot headers and migration progress. (R484) -/
def execUpdStatus (h : CmdHdr) (s : State) : Host.Outcome State Fault Refusal :=
  commandRow 0x1005 h runUpdStatus s

end Sys2Proof.Machine
end

