-- ==== Sys2Proof/Machine/CmdTime.lean ====
section
/-! DEFINITION. Meanings of the rows of the race, cog and placement commands. -/

namespace Sys2Proof.Machine

/-- RACE_VM_SET: Changes a virtual master race's profile from the first unfitted segment. (R45) -/
def execRaceVmSet (h : CmdHdr) (s : State) : Host.Outcome State Fault Refusal :=
  commandRow 0x0301 h runRaceVmSet s

/-- RACE_TIME_SET: Changes a time race's rate from the first unfitted segment. (R45) -/
def execRaceTimeSet (h : CmdHdr) (s : State) : Host.Outcome State Fault Refusal :=
  commandRow 0x0302 h runRaceTimeSet s

/-- RACE_REFERENCE: Arms a capture of the race at the next index edge. (R52) -/
def execRaceReference (h : CmdHdr) (s : State) : Host.Outcome State Fault Refusal :=
  commandRow 0x0303 h runRaceReference s

/-- RACE_PRESET: Sets the race position at the next segment start with DISCONTINUITY. (R52) -/
def execRacePreset (h : CmdHdr) (s : State) : Host.Outcome State Fault Refusal :=
  commandRow 0x0304 h runRacePreset s

/-- RACE_CONFIRM: Clears UNREFERENCED at fetch. (R51) -/
def execRaceConfirm (h : CmdHdr) (s : State) : Host.Outcome State Fault Refusal :=
  commandRow 0x0305 h runRaceConfirm s

/-- COG_ARM: Arms a cog with an absolute or relative target from the first unfitted segment. (R80) -/
def execCogArm (h : CmdHdr) (s : State) : Host.Outcome State Fault Refusal :=
  commandRow 0x0401 h runCogArm s

/-- COG_DISARM: Disarms a cog from the first unfitted segment. (R80) -/
def execCogDisarm (h : CmdHdr) (s : State) : Host.Outcome State Fault Refusal :=
  commandRow 0x0402 h runCogDisarm s

/-- PLACE_READ: Returns a head node's foreground or background bank. (R429) -/
def execPlaceRead (h : CmdHdr) (s : State) : Host.Outcome State Fault Refusal :=
  commandRow 0x0403 h runPlaceRead s

/-- PLACE_WRITE: Writes nozzle records into a placement set's background bank. (R95) -/
def execPlaceWrite (h : CmdHdr) (s : State) : Host.Outcome State Fault Refusal :=
  commandRow 0x0404 h runPlaceWrite s

/-- PLACE_SEAL: Seals a placement bank set for a swap at its next BANK_SWAP boundary. (R92) -/
def execPlaceSeal (h : CmdHdr) (s : State) : Host.Outcome State Fault Refusal :=
  commandRow 0x0405 h runPlaceSeal s

end Sys2Proof.Machine
end

