-- ==== Sys2Proof/Machine/ExecAnalogue.lean ====
section
/-! DEFINITION. Meanings of the rows of the analogue and current-loop channels and digital I/O. -/

namespace Sys2Proof.Machine

/-- ADC_ENTRY_END: A sequence entry's conversions end, replacing its result register and writing its point. (R221) -/
def execAdcEntryEnd (t : Nat) (seq : Nat) (codes : List Int) (s : State) : Host.Outcome State Fault Refusal :=
  eventRow s t (fun s => adcEntryEnd seq codes s)

/-- VREF_CHECK: Once per millisecond the reference check conversion is made and a failure reports EV_VREF_FAULT. (R222) -/
def execVrefCheck (t : Nat) (code : Int) (s : State) : Host.Outcome State Fault Refusal :=
  eventRow s t (fun s => vrefCheck code s)

/-- VREF_SETTLED: 5,000 µs after VREFBUF switches on, conversions stop carrying REF_UNSETTLED. (R222) -/
def execVrefSettled (t : Nat) (s : State) : Host.Outcome State Fault Refusal :=
  eventRow s t (fun s => vrefSettled s)

/-- CL_UPDATE: Every 50 µs a current-loop channel measures, classifies, regulates, and evaluates shortfall and thermal state. (R226) -/
def execClUpdate (t : Nat) (ch : Nat) (raw : Int) (vterm : Int) (vsup : Int) (temp : Int) (s : State) : Host.Outcome State Fault Refusal :=
  engineRow s t (fun s => clUpdate ch raw vterm vsup temp s)

/-- CL_FAULT_CLASS: FAULT_N consecutive updates in a fault range enter or leave a fault class with EV_CL_FAULT. (R228) -/
def execClFaultClass (t : Nat) (ch : Nat) (s : State) : Host.Outcome State Fault Refusal :=
  engineRow s t (fun s => clFaultClass ch s)

/-- CL_COMPLIANCE_DETECT: 40 updates of shortfall set COMPLIANCE_SHORT or OPEN, and 200 clean updates clear it. (R231) -/
def execClComplianceDetect (t : Nat) (ch : Nat) (s : State) : Host.Outcome State Fault Refusal :=
  engineRow s t (fun s => clComplianceDetect ch s)

/-- CL_CMD_TIMEOUT: CMD not written for CMD_TIMEOUT drives the alarm current. (R232) -/
def execClCmdTimeout (t : Nat) (ch : Nat) (s : State) : Host.Outcome State Fault Refusal :=
  engineRow s t (fun s => clCmdTimeout ch s)

/-- CL_FRONTEND_WATCHDOG: No update from the main die for 1,000 µs makes the front end drive its alarm or 0 µA. (R232) -/
def execClFrontendWatchdog (t : Nat) (s : State) : Host.Outcome State Fault Refusal :=
  .next (clWatchdog (s.tick t))

/-- ALMSEL_SAMPLE: Every 1,000 µs ALMSEL is sampled and alarm direction follows. (R232) -/
def execAlmselSample (t : Nat) (high : Bool) (s : State) : Host.Outcome State Fault Refusal :=
  eventRow s t (fun s => almselSample high s)

/-- CL_MODE_CHANGE_DONE: The 10 ms off period of a mode change ends and the channel starts in its new mode. (R237) -/
def execClModeChangeDone (t : Nat) (ch : Nat) (s : State) : Host.Outcome State Fault Refusal :=
  engineRow s t (fun s => clModeChangeDone ch s)

/-- CAL_BUTTON_HELD: CALZ or CALS held for 2 s after debounce selects CAL_SEL's channel for averaging, or is refused. (R235) -/
def execCalButtonHeld (t : Nat) (zero : Bool) (span : Bool) (s : State) : Host.Outcome State Fault Refusal :=
  engineRow s t (fun s => calButtonHeld zero span s)

/-- CAL_AVERAGING_DONE: 256 updates of averaging end and the new zero or span applies with EV_CL_CAL. (R235) -/
def execCalAveragingDone (t : Nat) (ch : Nat) (s : State) : Host.Outcome State Fault Refusal :=
  engineRow s t (fun s => calAveragingDone ch s)

/-- DIO_SAMPLE: Every 10 µs digital inputs are sampled, filtered, counted and their edges latched for the concentrator. (R238) -/
def execDioSample (t : Nat) (levels : Nat) (s : State) : Host.Outcome State Fault Refusal :=
  eventRow s t (fun s => dioSample levels s)

/-- DIO_OVERLOAD: An output carries more than 1.2 A for 100 µs or reaches thermal shutdown and switches off, latched. (R239) -/
def execDioOverload (t : Nat) (ch : Nat) (s : State) : Host.Outcome State Fault Refusal :=
  eventRow s t (fun s => dioOverload ch s)

/-- DIO_AUTO_RESTART: 1 s after an overload an output with automatic restart switches on again. (R239) -/
def execDioAutoRestart (t : Nat) (ch : Nat) (s : State) : Host.Outcome State Fault Refusal :=
  engineRow s t (fun s => dioAutoRestart ch s)

/-- FIELD_LOW: FIELD below 18.0 V for 1,000 µs turns off FIELD outputs, sets FIELD_LOW and takes safety outputs off. (R240) -/
def execFieldLow (t : Nat) (s : State) : Host.Outcome State Fault Refusal :=
  eventRow s t (fun s => fieldLowEvent s)

/-- FIELD_RESTORED: FIELD stays above 19.2 V for 10 ms and FIELD_LOW clears. (R240) -/
def execFieldRestored (t : Nat) (s : State) : Host.Outcome State Fault Refusal :=
  eventRow s t (fun s => fieldRestored s)

end Sys2Proof.Machine
end

