-- ==== Sys2Proof/Machine/ExecCan.lean ====
section
/-! DEFINITION. Meanings of the rows of CAN. -/

namespace Sys2Proof.Machine

/-- CAN_FRAME_RECEIVE: A frame received without error on a CAN port is stamped and queued to its receive program or default verdict. (R333) -/
def execCanFrameReceive (t : Nat) (port : Nat) (sof : Nat) (frame : CanFrame) (s : State) : Host.Outcome State Fault Refusal :=
  eventRow s t (fun s => canFrameReceive port sof frame s)

/-- CAN_FRAME_ACKNOWLEDGED: A sent CAN frame is acknowledged, its points become GOOD and the next pending object arbitrates. (R335) -/
def execCanFrameAcknowledged (t : Nat) (port : Nat) (sof : Nat) (s : State) : Host.Outcome State Fault Refusal :=
  eventRow s t (fun s => canFrameAcknowledged port sof s)

/-- CAN_ARBITRATION_LOST: A CAN object loses arbitration and stays pending for the next attempt. (R335) -/
def execCanArbitrationLost (t : Nat) (port : Nat) (s : State) : Host.Outcome State Fault Refusal :=
  eventRow s t (fun s => canArbitrationLost port s)

/-- CAN_TX_ERROR: A transmission fails, raising TEC towards ERROR_PASSIVE or BUS_OFF, or counting an acknowledge error towards ALONE. (R340) -/
def execCanTxError (t : Nat) (port : Nat) (ackError : Bool) (s : State) : Host.Outcome State Fault Refusal :=
  eventRow s t (fun s => canTxError port ackError s)

/-- CAN_RECOVERY_COMPLETE: 128 occurrences of 11 recessive bits end recovery and the port is ERROR_ACTIVE. (R340) -/
def execCanRecoveryComplete (t : Nat) (port : Nat) (s : State) : Host.Outcome State Fault Refusal :=
  eventRow s t (fun s => canRecoveryComplete port s)

/-- CAN_RATE_DETECT_DWELL: DETECT_MS passes without a rate found and rate detection tries the next rate or times out. (R339) -/
def execCanRateDetectDwell (t : Nat) (port : Nat) (s : State) : Host.Outcome State Fault Refusal :=
  eventRow s t (fun s => canRateDetectDwell port s)

/-- CAN_RECEIVE_ERROR: An error is detected while receiving, or an error frame is seen from another node; REC rises towards ERROR_PASSIVE and other traffic is counted for ALONE. (R340) -/
def execCanReceiveError (t : Nat) (port : Nat) (e : CanRxError) (s : State) : Host.Outcome State Fault Refusal :=
  eventRow s t (fun s => canReceiveError port e.heavy e.res s)

/-- CAN_BUS_INTEGRATION: A port completes bus integration and enters ERROR_ACTIVE or normal mode, after a start, at takeover or after a res-bit protocol exception. (R345) -/
def execCanBusIntegration (t : Nat) (port : Nat) (s : State) : Host.Outcome State Fault Refusal :=
  eventRow s t (fun s => canBusIntegration port s)

end Sys2Proof.Machine
end

