-- ==== Sys2Proof/Machine/ExecControl.lean ====
section
/-! DEFINITION. Meanings of the rows of loops, Fantail, motion, timers and PWM. -/

namespace Sys2Proof.Machine

/-- LOOP_FRAME: At each 20 µs frame start the due loops take inputs and each lane evaluates them, writes destinations and decides override groups. (R131) -/
def execLoopFrame (t : Nat) (late : List Nat) (s : State) : Host.Outcome State Fault Refusal :=
  engineRow s t (fun s => (loopFrame late s).swapEngines (fun e => decide (0x300 ≤ e ∧ e < 0x310)))

/-- FANTAIL_RESULT_DUE: UPDATE_MIN passes and a task computes a result that is written, advised, held or found invalid. (R171) -/
def execFantailResultDue (t : Nat) (task : Nat) (s : State) : Host.Outcome State Fault Refusal :=
  engineRow s t (fun s => (fantailResultDue task s).swapEngines (fun e => decide (0xC00 ≤ e ∧ e < 0xC04)))

/-- FANTAIL_EQ_UPDATE: Every 1 ms a kind 4 task fits an ellipse to the samples of its encoder `enc` and writes bounded encoder corrections. (R178) -/
def execFantailEqUpdate (t : Nat) (task : Nat) (enc : Nat) (s : State) : Host.Outcome State Fault Refusal :=
  engineRow s t (fun s => (if ftTarget (s.ftRec task) = enc then fantailEqUpdate task s else s).swapEngines (fun e => decide (0xC00 ≤ e ∧ e < 0xC04)))

/-- FANTAIL_HEADROOM_UPDATE: A kind 5 task raises the headroom setpoint after a shortfall or lowers it after QUIET. (R179) -/
def execFantailHeadroomUpdate (t : Nat) (task : Nat) (s : State) : Host.Outcome State Fault Refusal :=
  engineRow s t (fun s => (fantailHeadroomUpdate task s).swapEngines (fun e => decide (0xC00 ≤ e ∧ e < 0xC04)))

/-- FANTAIL_PLACE_RECORD: One placement measurement record is processed at PLACE_RATE, adjusting FIRE_TRIM, DRIVE_TRIM and outlier history. (R176) -/
def execFantailPlaceRecord (t : Nat) (task : Nat) (s : State) : Host.Outcome State Fault Refusal :=
  engineRow s t (fun s => (fantailPlaceRecord task s).swapEngines (fun e => decide (0xC00 ≤ e ∧ e < 0xC04)))

/-- EV_FT_FROZEN: A task has been FROZEN for 60 s without a break. (R164) -/
def execEvFtFrozen (t : Nat) (task : Nat) (s : State) : Host.Outcome State Fault Refusal :=
  engineRow s t (fun s => fantailFrozen task s)

/-- MOTION_UPDATE: Every 20 µs each motion engine plans and integrates every axis, checks deviation and stall, and sends the downstream frame. (R183) -/
def execMotionUpdate (t : Nat) (late : List Nat) (s : State) : Host.Outcome State Fault Refusal :=
  engineRow s t (fun s => (motionUpdate late s).swapEngines (fun e => decide (0x500 ≤ e ∧ e < 0x508)))

/-- DRIVE_LINK_UPSTREAM: An upstream frame from a stage delivers load, fault and management results, or counts a link error leading to the LINK fault. (R188) -/
def execDriveLinkUpstream (t : Nat) (link : Nat) (framed : Bool) (frame : Bytes) (s : State) : Host.Outcome State Fault Refusal :=
  engineRow s t (fun s => driveLinkUpstream link framed frame s)

/-- AXIS_HOLD_DELAY_EXPIRY: HOLD_DELAY passes at standstill and SCALE drops to HOLD_SCALE. (R204) -/
def execAxisHoldDelayExpiry (t : Nat) (axis : Nat) (s : State) : Host.Outcome State Fault Refusal :=
  engineRow s t (fun s => axisHoldDelay axis s)

/-- AXIS_QUICK_STOP_REQUEST: A safety function's quick-stop request reaches an axis and is taken as AXIS_STOP with the quick ramp. (R208) -/
def execAxisQuickStopRequest (t : Nat) (axis : Nat) (s : State) : Host.Outcome State Fault Refusal :=
  engineRow s t (fun s => axisQuickStopRequest axis s)

/-- TIMER_TICK: A timer ticks and starts the converter sequences and PWM periods synchronised to it. (R223) -/
def execTimerTick (t : Nat) (timer : Nat) (s : State) : Host.Outcome State Fault Refusal :=
  engineRow s t (fun s => timerTick timer s)

/-- PWM_PERIOD_START: A PWM period starts, applying the latest duty and optionally starting a sequence after DELAY. (R225) -/
def execPwmPeriodStart (t : Nat) (pwm : Nat) (s : State) : Host.Outcome State Fault Refusal :=
  engineRow s t (fun s => pwmPeriodStart pwm s)

end Sys2Proof.Machine
end

