-- ==== Sys2Proof/Machine/ExecHopper.lean ====
section
/-! DEFINITION. Meanings of the rows of logic runs, the Hopper and the extension cores. -/

namespace Sys2Proof.Machine

/-- LOGIC_RUN_START: A free logic engine starts the ready run of highest priority. (R280) -/
def execLogicRunStart (t : Nat) (engine : Nat) (s : State) : Host.Outcome State Fault Refusal :=
  engineRow s t (fun s => logicRunStart engine s)

/-- HOPPER_DEAL: Every 100 ns Hopper takes flags, ticks, cancels and run ends together and decides readiness, aging, dispatch and preemption. (R448) -/
def execHopperDeal (t : Nat) (s : State) : Host.Outcome State Fault Refusal :=
  engineRow s t (fun s => hopperDeal t s)

/-- EXT_RUN_END: An extension task returns from its entry and its run ends. (R447) -/
def execExtRunEnd (t : Nat) (core : Nat) (s : State) : Host.Outcome State Fault Refusal :=
  engineRow s t (fun s => extRunEnd core s)

/-- EXT_BUDGET_OVERRUN: A run reaches BUDGET of core time and is ended with EV_EXT_OVERRUN. (R455) -/
def execExtBudgetOverrun (t : Nat) (core : Nat) (s : State) : Host.Outcome State Fault Refusal :=
  engineRow s t (fun s => extBudgetOverrun core s)

/-- EXT_FAULT: An access outside the partition, illegal or misaligned instruction ends the run and the task enters FAULTED. (R464) -/
def execExtFault (t : Nat) (core : Nat) (cause : Nat) (addr : Nat) (s : State) : Host.Outcome State Fault Refusal :=
  engineRow s t (fun s => extFault core cause addr s)

/-- EXT_CALL_POINT_READ: An extension environment call reads a point. (R463) -/
def execExtCallPointRead (t : Nat) (core : Nat) (addr : Nat) (s : State) : Host.Outcome State Fault Refusal :=
  engineRow s t (fun s => extPointRead core addr s)

/-- EXT_CALL_POINT_WRITE: An extension environment call writes a host-owned point. (R463) -/
def execExtCallPointWrite (t : Nat) (core : Nat) (addr : Nat) (value : W64) (s : State) : Host.Outcome State Fault Refusal :=
  engineRow s t (fun s => extPointWrite core addr value s)

/-- EXT_CALL_FLAG_SET: An extension environment call sets flags of a task. (R463) -/
def execExtCallFlagSet (t : Nat) (core : Nat) (task : Nat) (flags : W32) (s : State) : Host.Outcome State Fault Refusal :=
  engineRow s t (fun s => extFlagSet core task flags s)

/-- EXT_CALL_RAISE: An extension environment call sets a source 448–479 pending. (R463) -/
def execExtCallRaise (t : Nat) (core : Nat) (src : Nat) (s : State) : Host.Outcome State Fault Refusal :=
  engineRow s t (fun s => extRaise core src s)

/-- EXT_CALL_LMT: An extension environment call returns LMT. (R463) -/
def execExtCallLmt (t : Nat) (core : Nat) (s : State) : Host.Outcome State Fault Refusal :=
  engineRow s t (fun s => extLmt core s)

/-- EC_CLAIM: A core reads CLAIM and claims the highest-priority pending source targeted at it. (R460) -/
def execEcClaim (t : Nat) (core : Nat) (s : State) : Host.Outcome State Fault Refusal :=
  engineRow s t (fun s => ecClaim core s)

/-- EC_COMPLETE: A core writes COMPLETE, ending handling and re-pending a level or newly latched source. (R460) -/
def execEcComplete (t : Nat) (core : Nat) (src : Nat) (s : State) : Host.Outcome State Fault Refusal :=
  engineRow s t (fun s => ecComplete core src s)

/-- EC_RAISE: A core writes RAISE to set a source 448–479 pending. (R459) -/
def execEcRaise (t : Nat) (core : Nat) (w : EcWrite) (s : State) : Host.Outcome State Fault Refusal :=
  engineRow s t (fun s => ecRaise core w.ofs w.val s)

/-- EC_OVERRUNS_READ: A core reads OVERRUNS, which then clears. (R459) -/
def execEcOverrunsRead (t : Nat) (r : EcRead) (s : State) : Host.Outcome State Fault Refusal :=
  engineRow s t (fun s => ecOverrunsRead r.core r.ofs s)

/-- EC_SOURCE_EDGE: An edge source latches an event, merging into a latched edge with an overrun count. (R461) -/
def execEcSourceEdge (t : Nat) (inp : EcInput) (s : State) : Host.Outcome State Fault Refusal :=
  if s.sys.clocksOn then eventRow s t (fun s => ecEdge inp.src inp.up s) else .next (ecHold inp.src inp.up s)

end Sys2Proof.Machine
end

