-- ==== Sys2Proof/Machine/ExecHost.lean ====
section
/-! DEFINITION. Meanings of the rows of the host function, its registers and rings. -/

namespace Sys2Proof.Machine

/-- SWEEP: At each SWEEP µs the module reads the doorbell block and fetches descriptors by ring priority. (R408) -/
def execSweep (t : Nat) (block : Bytes) (descs : List (Nat × Bytes)) (ok : Bool) (s : State) : Host.Outcome State Fault Refusal :=
  eventRow s t (fun s => sweepEvent block descs ok s)

/-- DESCRIPTOR_FETCH: A descriptor read completes, reserving a completion slot and starting its command. (R408) -/
def execDescriptorFetch (t : Nat) (ring : Nat) (desc : Bytes) (ok : Bool) (s : State) : Host.Outcome State Fault Refusal :=
  eventRow s t (fun s => descriptorFetch t ring desc ok s)

/-- HOST_HEARTBEAT_TIMEOUT: Word 152 is unchanged for HBCFG ms and HB_LOST is set with EV_HOST_HB_LOST. (R411) -/
def execHostHeartbeatTimeout (t : Nat) (s : State) : Host.Outcome State Fault Refusal :=
  eventRow s t (fun s => hostHeartbeatTimeout s)

/-- MSIX_MODERATION_TIMEOUT: The oldest unsignalled entry waits MOD_TIME and the vector's message is sent. (R419) -/
def execMsixModerationTimeout (t : Nat) (vec : Nat) (s : State) : Host.Outcome State Fault Refusal :=
  eventRow s t (fun s => msixModerationTimeout vec s)

/-- MSIX_UNMASK: A vector or function mask is cleared and the pending message is sent. (R419) -/
def execMsixUnmask (t : Nat) (vec : Option Nat) (s : State) : Host.Outcome State Fault Refusal :=
  eventRow s t (fun s => msixUnmask vec s)

/-- FUNCTION_RESET: FLR, PERST#, hot or link-down reset resets registers and rings and holds completions as orphans. (R422) -/
def execFunctionReset (t : Nat) (cause : Nat) (s : State) : Host.Outcome State Fault Refusal :=
  eventRow s t (fun s => functionResetEvent cause s)

/-- POWER_STATE_CHANGE: The function enters or leaves D0, D3hot or D3cold, holding or flushing entries with EV_HOST_POWER. (R420) -/
def execPowerStateChange (t : Nat) (pst : Nat) (pmeEn : Bool) (pmeClr : Bool) (s : State) : Host.Outcome State Fault Refusal :=
  eventRow s t (fun s => powerStateChange pst pmeEn pmeClr s)

/-- BUS_MASTER_ENABLE_CHANGE: Bus Master Enable changes and DMA, sweeps and held entries stop or resume. (R420) -/
def execBusMasterEnableChange (t : Nat) (on : Bool) (s : State) : Host.Outcome State Fault Refusal :=
  eventRow s t (fun s => busMasterEnableChange on s)

/-- PME_REPEAT: While PME_Status stays set in D3hot, PM_PME is repeated every 100 ms. (R420) -/
def execPmeRepeat (t : Nat) (s : State) : Host.Outcome State Fault Refusal :=
  eventRow s t (fun s => pmeRepeat s)

/-- HOST_LINK_TRAINED: The PCIe link trains and a rate or width below the guaranteed one reports EV_HOST_LINK_DEGRADED. (R401) -/
def execHostLinkTrained (t : Nat) (rate : Nat) (width : Nat) (s : State) : Host.Outcome State Fault Refusal :=
  eventRow s t (fun s => hostLinkTrained rate width s)

/-- LMT_LO_READ: A read of LMT_LO returns LMT [31:0] and latches LMT [63:32] into LMT_HI. (R402) -/
def execLmtLoRead (t : Nat) (s : State) : Host.Outcome State Fault Refusal :=
  eventRow s t (fun s => lmtLoRead s)

/-- ADMIN_EN_SET: Setting HCTL.ADMIN_EN checks the set-up registers and starts rings 0 and the sweep or sets SETUP_ERR. (R405) -/
def execAdminEnSet (t : Nat) (s : State) : Host.Outcome State Fault Refusal :=
  eventRow s t (fun s => adminEnSet s)

/-- ADMIN_EN_CLEAR: Clearing HCTL.ADMIN_EN stops the rings as a function reset. (R422) -/
def execAdminEnClear (t : Nat) (s : State) : Host.Outcome State Fault Refusal :=
  eventRow s t (fun s => adminEnClear s)

/-- QUIESCE: Writing HCTL.QUIESCE stops or resumes fetching, with QUIESCED set once nothing is in flight. (R404) -/
def execQuiesce (t : Nat) (on : Bool) (s : State) : Host.Outcome State Fault Refusal :=
  eventRow s t (fun s => quiesceWrite on s)

/-- SULOCK_LOCK: Writing 1 to SULOCK.LOCK locks every RWL field until the next function reset. (R402) -/
def execSulockLock (t : Nat) (s : State) : Host.Outcome State Fault Refusal :=
  eventRow s t (fun s => sulockLock s)

/-- REGISTER_WRITE: A write to another set-up register sets, ignores or defers its value. (R402) -/
def execRegisterWrite (t : Nat) (ofs : Nat) (w : RegWrite) (s : State) : Host.Outcome State Fault Refusal :=
  eventRow s t (fun s => registerWrite ofs w.size w.val s)

/-- PERST_DEASSERTION: PERST# is deasserted: WAKE# is released, the link may train and the function must answer configuration requests within 100 ms. (R502) -/
def execPerstDeassertion (t : Nat) (s : State) : Host.Outcome State Fault Refusal :=
  eventRow s t (fun s => perstDeassertion s)

end Sys2Proof.Machine
end

