-- ==== Sys2Proof/Machine/ExecLogic.lean ====
section
/-! DEFINITION. Meanings of the logic instruction rows: one instruction word on an engine's open run (R283 to R290). -/

namespace Sys2Proof.Machine

/-- LE_NOP: No effect (R285). -/
def execLeNop (engine opnd : Nat) (s : State) : Host.Outcome State Fault Refusal :=
  engineRow s s.lmt (fun s => s.leRunOp engine 0x00 opnd (fun r => r))

/-- LE_LD: BA = op (R285). -/
def execLeLd (engine opnd : Nat) (s : State) : Host.Outcome State Fault Refusal :=
  engineRow s s.lmt (fun s => s.leBitOp engine 0x01 opnd (fun _ x => x))

/-- LE_LDN: BA = !op (R285). -/
def execLeLdn (engine opnd : Nat) (s : State) : Host.Outcome State Fault Refusal :=
  engineRow s s.lmt (fun s => s.leBitOp engine 0x02 opnd (fun _ x => !x))

/-- LE_AND: BA = BA & op (R285). -/
def execLeAnd (engine opnd : Nat) (s : State) : Host.Outcome State Fault Refusal :=
  engineRow s s.lmt (fun s => s.leBitOp engine 0x03 opnd (fun a x => a && x))

/-- LE_ANDN: BA = BA & !op (R285). -/
def execLeAndn (engine opnd : Nat) (s : State) : Host.Outcome State Fault Refusal :=
  engineRow s s.lmt (fun s => s.leBitOp engine 0x04 opnd (fun a x => a && !x))

/-- LE_OR: BA = BA | op (R285). -/
def execLeOr (engine opnd : Nat) (s : State) : Host.Outcome State Fault Refusal :=
  engineRow s s.lmt (fun s => s.leBitOp engine 0x05 opnd (fun a x => a || x))

/-- LE_ORN: BA = BA | !op (R285). -/
def execLeOrn (engine opnd : Nat) (s : State) : Host.Outcome State Fault Refusal :=
  engineRow s s.lmt (fun s => s.leBitOp engine 0x06 opnd (fun a x => a || !x))

/-- LE_XOR: BA = BA ^ op (R285). -/
def execLeXor (engine opnd : Nat) (s : State) : Host.Outcome State Fault Refusal :=
  engineRow s s.lmt (fun s => s.leBitOp engine 0x07 opnd (fun a x => Bool.xor a x))

/-- LE_XORN: BA = BA ^ !op (R285). -/
def execLeXorn (engine opnd : Nat) (s : State) : Host.Outcome State Fault Refusal :=
  engineRow s s.lmt (fun s => s.leBitOp engine 0x08 opnd (fun a x => Bool.xor a (!x)))

/-- LE_NOT: BA = !BA (R285). -/
def execLeNot (engine opnd : Nat) (s : State) : Host.Outcome State Fault Refusal :=
  engineRow s s.lmt (fun s => s.leRunOp engine 0x09 opnd (fun r => { r with ba := !r.ba }))

/-- LE_LDT: BA = 1 (R285). -/
def execLeLdt (engine opnd : Nat) (s : State) : Host.Outcome State Fault Refusal :=
  engineRow s s.lmt (fun s => s.leRunOp engine 0x0A opnd (fun r => { r with ba := true }))

/-- LE_PSHA: Push (BA, AND) (R285). -/
def execLePsha (engine opnd : Nat) (s : State) : Host.Outcome State Fault Refusal :=
  engineRow s s.lmt (fun s => s.leRunOp engine 0x0B opnd (fun r => r.push .and))

/-- LE_PSHO: Push (BA, OR) (R285). -/
def execLePsho (engine opnd : Nat) (s : State) : Host.Outcome State Fault Refusal :=
  engineRow s s.lmt (fun s => s.leRunOp engine 0x0C opnd (fun r => r.push .or))

/-- LE_PSHX: Push (BA, XOR) (R285). -/
def execLePshx (engine opnd : Nat) (s : State) : Host.Outcome State Fault Refusal :=
  engineRow s s.lmt (fun s => s.leRunOp engine 0x0D opnd (fun r => r.push .xor))

/-- LE_POP: Pop (s, f); BA = s f BA (R285). -/
def execLePop (engine opnd : Nat) (s : State) : Host.Outcome State Fault Refusal :=
  engineRow s s.lmt (fun s => s.leRunOp engine 0x0E opnd (Run.pop))

/-- LE_ST: op = BA (R285). -/
def execLeSt (engine opnd : Nat) (s : State) : Host.Outcome State Fault Refusal :=
  engineRow s s.lmt (fun s => s.leBitStore engine 0x10 opnd (fun r => some r.ba))

/-- LE_STN: op = !BA (R285). -/
def execLeStn (engine opnd : Nat) (s : State) : Host.Outcome State Fault Refusal :=
  engineRow s s.lmt (fun s => s.leBitStore engine 0x11 opnd (fun r => some (!r.ba)))

/-- LE_SET: If BA, op = 1 (R285). -/
def execLeSet (engine opnd : Nat) (s : State) : Host.Outcome State Fault Refusal :=
  engineRow s s.lmt (fun s => s.leBitStore engine 0x12 opnd (fun r => if r.ba then some true else none))

/-- LE_RST: If BA, op = 0 (R285). -/
def execLeRst (engine opnd : Nat) (s : State) : Host.Outcome State Fault Refusal :=
  engineRow s s.lmt (fun s => s.leBitStore engine 0x13 opnd (fun r => if r.ba then some false else none))

/-- LE_FP: m = op; op = BA; BA = BA & !m (R285). -/
def execLeFp (engine opnd : Nat) (s : State) : Host.Outcome State Fault Refusal :=
  engineRow s s.lmt (fun s => s.leEdge engine 0x14 opnd (fun ba m => ba && !m))

/-- LE_FN: m = op; op = BA; BA = !BA & m (R285). -/
def execLeFn (engine opnd : Nat) (s : State) : Host.Outcome State Fault Refusal :=
  engineRow s s.lmt (fun s => s.leEdge engine 0x15 opnd (fun ba m => !ba && m))

/-- LE_TON: On-delay with IN = BA; then BA = Q (R287). -/
def execLeTon (engine opnd : Nat) (s : State) : Host.Outcome State Fault Refusal :=
  engineRow s s.lmt (fun s => s.leTimer engine 0x20 opnd true (fun x r => x.ton r.ba r.tRun))

/-- LE_TOF: Off-delay with IN = BA; then BA = Q (R287). -/
def execLeTof (engine opnd : Nat) (s : State) : Host.Outcome State Fault Refusal :=
  engineRow s s.lmt (fun s => s.leTimer engine 0x21 opnd true (fun x r => x.tof r.ba r.tRun))

/-- LE_TP: Pulse with IN = BA; then BA = Q (R287). -/
def execLeTp (engine opnd : Nat) (s : State) : Host.Outcome State Fault Refusal :=
  engineRow s s.lmt (fun s => s.leTimer engine 0x22 opnd true (fun x r => x.tp r.ba r.tRun))

/-- LE_TPT: PT = WA (R287). -/
def execLeTpt (engine opnd : Nat) (s : State) : Host.Outcome State Fault Refusal :=
  engineRow s s.lmt (fun s => s.leTimer engine 0x23 opnd false (fun x r => { x with pt := r.wa }))

/-- LE_TRST: If BA: ET = 0, Q = 0, all timer state cleared (R287). -/
def execLeTrst (engine opnd : Nat) (s : State) : Host.Outcome State Fault Refusal :=
  engineRow s s.lmt (fun s => s.leTimer engine 0x24 opnd false (fun x r => if r.ba then { pt := x.pt, base := x.base, typ := x.typ } else x))

/-- LE_CTU: On a rising BA CV + 1; then BA = Q = (CV >= PV) (R287). -/
def execLeCtu (engine opnd : Nat) (s : State) : Host.Outcome State Fault Refusal :=
  engineRow s s.lmt (fun s => s.leCounter engine 0x28 opnd true (fun x r => let y := x.count r.ba 1; { y with q := decide (y.pv.toInt ≤ y.cv.toInt) }))

/-- LE_CTD: On a rising BA CV - 1; then BA = Q = (CV <= 0) (R287). -/
def execLeCtd (engine opnd : Nat) (s : State) : Host.Outcome State Fault Refusal :=
  engineRow s s.lmt (fun s => s.leCounter engine 0x29 opnd true (fun x r => let y := x.count r.ba (-1); { y with q := decide (y.cv.toInt ≤ 0) }))

/-- LE_CRES: If BA: CV = 0 (R287). -/
def execLeCres (engine opnd : Nat) (s : State) : Host.Outcome State Fault Refusal :=
  engineRow s s.lmt (fun s => s.leCounter engine 0x2A opnd false (fun x r => if r.ba then { x with cv := 0 } else x))

/-- LE_CLD: If BA: CV = PV (R287). -/
def execLeCld (engine opnd : Nat) (s : State) : Host.Outcome State Fault Refusal :=
  engineRow s s.lmt (fun s => s.leCounter engine 0x2B opnd false (fun x r => if r.ba then { x with cv := x.pv } else x))

/-- LE_CPV: PV = WA (R287). -/
def execLeCpv (engine opnd : Nat) (s : State) : Host.Outcome State Fault Refusal :=
  engineRow s s.lmt (fun s => s.leCounter engine 0x2C opnd false (fun x r => { x with pv := r.wa }))

/-- LE_L: WA = op (R284, R288). -/
def execLeL (engine opnd : Nat) (s : State) : Host.Outcome State Fault Refusal :=
  engineRow s s.lmt (fun s => s.leWordOp engine 0x30 opnd (fun r x => { r with wa := x }))

/-- LE_T: op = WA (R284, R288). -/
def execLeT (engine opnd : Nat) (s : State) : Host.Outcome State Fault Refusal :=
  engineRow s s.lmt (fun s => s.leStep engine 0x31 opnd (fun m e r => (e, leStore m engine r opnd)))

/-- LE_TC: If BA, op = WA (R288). -/
def execLeTc (engine opnd : Nat) (s : State) : Host.Outcome State Fault Refusal :=
  engineRow s s.lmt (fun s => s.leStep engine 0x32 opnd (fun m e r => (e, if r.ba then leStore m engine r opnd else r)))

/-- LE_LI: WA = sign-extended [15:0] (R288). -/
def execLeLi (engine opnd : Nat) (s : State) : Host.Outcome State Fault Refusal :=
  engineRow s s.lmt (fun s => s.leRunOp engine 0x33 opnd (fun r => { r with wa := w32 (sgn 16 (opnd % 65536)) }))

/-- LE_LIH: WA[31:16] = [15:0] (R288). -/
def execLeLih (engine opnd : Nat) (s : State) : Host.Outcome State Fault Refusal :=
  engineRow s s.lmt (fun s => s.leRunOp engine 0x34 opnd (fun r => { r with wa := BitVec.ofNat 32 (r.wa.toNat % 65536 + 65536 * (opnd % 65536)) }))

/-- LE_ADD: WA = WA + operand (R288). -/
def execLeAdd (engine opnd : Nat) (s : State) : Host.Outcome State Fault Refusal :=
  engineRow s s.lmt (fun s => s.leWordOp engine 0x38 opnd (fun r x => r.arith (r.wa.toInt + x.toInt)))

/-- LE_SUB: WA = WA - operand (R288). -/
def execLeSub (engine opnd : Nat) (s : State) : Host.Outcome State Fault Refusal :=
  engineRow s s.lmt (fun s => s.leWordOp engine 0x39 opnd (fun r x => r.arith (r.wa.toInt - x.toInt)))

/-- LE_MUL: WA = WA * operand (R288). -/
def execLeMul (engine opnd : Nat) (s : State) : Host.Outcome State Fault Refusal :=
  engineRow s s.lmt (fun s => s.leWordOp engine 0x3A opnd (fun r x => r.arith (r.wa.toInt * x.toInt)))

/-- LE_DIV: Quotient, truncating toward zero (R288). -/
def execLeDiv (engine opnd : Nat) (s : State) : Host.Outcome State Fault Refusal :=
  engineRow s s.lmt (fun s => s.leWordOp engine 0x3B opnd (Run.div))

/-- LE_MOD: Remainder with the sign of WA (R288). -/
def execLeMod (engine opnd : Nat) (s : State) : Host.Outcome State Fault Refusal :=
  engineRow s s.lmt (fun s => s.leWordOp engine 0x3C opnd (Run.mod))

/-- LE_NEG: WA = -WA (R288). -/
def execLeNeg (engine opnd : Nat) (s : State) : Host.Outcome State Fault Refusal :=
  engineRow s s.lmt (fun s => s.leRunOp engine 0x3D opnd (fun r => r.arith (-r.wa.toInt)))

/-- LE_ABS: WA = |WA| (R288). -/
def execLeAbs (engine opnd : Nat) (s : State) : Host.Outcome State Fault Refusal :=
  engineRow s s.lmt (fun s => s.leRunOp engine 0x3E opnd (fun r => r.arith (r.wa.toInt.natAbs)))

/-- LE_WAND: Bitwise and (R288). -/
def execLeWand (engine opnd : Nat) (s : State) : Host.Outcome State Fault Refusal :=
  engineRow s s.lmt (fun s => s.leWordOp engine 0x40 opnd (fun r x => { r with wa := r.wa &&& x }))

/-- LE_WOR: Bitwise or (R288). -/
def execLeWor (engine opnd : Nat) (s : State) : Host.Outcome State Fault Refusal :=
  engineRow s s.lmt (fun s => s.leWordOp engine 0x41 opnd (fun r x => { r with wa := r.wa ||| x }))

/-- LE_WXOR: Bitwise exclusive or (R288). -/
def execLeWxor (engine opnd : Nat) (s : State) : Host.Outcome State Fault Refusal :=
  engineRow s s.lmt (fun s => s.leWordOp engine 0x42 opnd (fun r x => { r with wa := r.wa ^^^ x }))

/-- LE_SHL: Shift left by operand & 31 (R288). -/
def execLeShl (engine opnd : Nat) (s : State) : Host.Outcome State Fault Refusal :=
  engineRow s s.lmt (fun s => s.leWordOp engine 0x43 opnd (fun r x => { r with wa := r.wa <<< (x.toNat % 32) }))

/-- LE_SHR: Logical shift right by operand & 31 (R288). -/
def execLeShr (engine opnd : Nat) (s : State) : Host.Outcome State Fault Refusal :=
  engineRow s s.lmt (fun s => s.leWordOp engine 0x44 opnd (fun r x => { r with wa := r.wa >>> (x.toNat % 32) }))

/-- LE_ASR: Arithmetic shift right by operand & 31 (R288). -/
def execLeAsr (engine opnd : Nat) (s : State) : Host.Outcome State Fault Refusal :=
  engineRow s s.lmt (fun s => s.leWordOp engine 0x45 opnd (fun r x => { r with wa := r.wa.sshiftRight (x.toNat % 32) }))

/-- LE_CEQ: BA = BA & (WA cmp operand), signed (R288). -/
def execLeCeq (engine opnd : Nat) (s : State) : Host.Outcome State Fault Refusal :=
  engineRow s s.lmt (fun s => s.leWordOp engine 0x48 opnd (fun r x => { r with ba := r.ba && r.wa == x }))

/-- LE_CNE: BA = BA & (WA cmp operand), signed (R288). -/
def execLeCne (engine opnd : Nat) (s : State) : Host.Outcome State Fault Refusal :=
  engineRow s s.lmt (fun s => s.leWordOp engine 0x49 opnd (fun r x => { r with ba := r.ba && r.wa != x }))

/-- LE_CGT: BA = BA & (WA cmp operand), signed (R288). -/
def execLeCgt (engine opnd : Nat) (s : State) : Host.Outcome State Fault Refusal :=
  engineRow s s.lmt (fun s => s.leWordOp engine 0x4A opnd (fun r x => { r with ba := r.ba && decide (x.toInt < r.wa.toInt) }))

/-- LE_CGE: BA = BA & (WA cmp operand), signed (R288). -/
def execLeCge (engine opnd : Nat) (s : State) : Host.Outcome State Fault Refusal :=
  engineRow s s.lmt (fun s => s.leWordOp engine 0x4B opnd (fun r x => { r with ba := r.ba && decide (x.toInt ≤ r.wa.toInt) }))

/-- LE_CLT: BA = BA & (WA cmp operand), signed (R288). -/
def execLeClt (engine opnd : Nat) (s : State) : Host.Outcome State Fault Refusal :=
  engineRow s s.lmt (fun s => s.leWordOp engine 0x4C opnd (fun r x => { r with ba := r.ba && decide (r.wa.toInt < x.toInt) }))

/-- LE_CLE: BA = BA & (WA cmp operand), signed (R288). -/
def execLeCle (engine opnd : Nat) (s : State) : Host.Outcome State Fault Refusal :=
  engineRow s s.lmt (fun s => s.leWordOp engine 0x4D opnd (fun r x => { r with ba := r.ba && decide (r.wa.toInt ≤ x.toInt) }))

/-- LE_FADD: binary32, round to nearest even (R288). -/
def execLeFadd (engine opnd : Nat) (s : State) : Host.Outcome State Fault Refusal :=
  engineRow s s.lmt (fun s => s.leWordOp engine 0x50 opnd (fun r x => { r with wa := f32Add r.wa x }))

/-- LE_FSUB: binary32, round to nearest even (R288). -/
def execLeFsub (engine opnd : Nat) (s : State) : Host.Outcome State Fault Refusal :=
  engineRow s s.lmt (fun s => s.leWordOp engine 0x51 opnd (fun r x => { r with wa := f32Sub r.wa x }))

/-- LE_FMUL: binary32, round to nearest even (R288). -/
def execLeFmul (engine opnd : Nat) (s : State) : Host.Outcome State Fault Refusal :=
  engineRow s s.lmt (fun s => s.leWordOp engine 0x52 opnd (fun r x => { r with wa := f32Mul r.wa x }))

/-- LE_FDIV: binary32, round to nearest even (R288). -/
def execLeFdiv (engine opnd : Nat) (s : State) : Host.Outcome State Fault Refusal :=
  engineRow s s.lmt (fun s => s.leWordOp engine 0x53 opnd (fun r x => { r with wa := f32Div r.wa x }))

/-- LE_ITOF: WA = (float)WA (R288). -/
def execLeItof (engine opnd : Nat) (s : State) : Host.Outcome State Fault Refusal :=
  engineRow s s.lmt (fun s => s.leRunOp engine 0x54 opnd (fun r => { r with wa := f32OfInt r.wa.toInt }))

/-- LE_FTOI: Round to nearest even (R288). -/
def execLeFtoi (engine opnd : Nat) (s : State) : Host.Outcome State Fault Refusal :=
  engineRow s s.lmt (fun s => s.leRunOp engine 0x55 opnd (Run.ftoi))

/-- LE_FCLT: BA = BA & (WA < operand) as binary32; false if either is NaN (R288). -/
def execLeFclt (engine opnd : Nat) (s : State) : Host.Outcome State Fault Refusal :=
  engineRow s s.lmt (fun s => s.leWordOp engine 0x56 opnd (fun r x => { r with ba := r.ba && f32Lt r.wa x }))

/-- LE_FCGT: BA = BA & (WA > operand) as binary32; false if either is NaN (R288). -/
def execLeFcgt (engine opnd : Nat) (s : State) : Host.Outcome State Fault Refusal :=
  engineRow s s.lmt (fun s => s.leWordOp engine 0x57 opnd (fun r x => { r with ba := r.ba && f32Lt x r.wa }))

/-- LE_JMP: Jump forward (R289). -/
def execLeJmp (engine opnd : Nat) (s : State) : Host.Outcome State Fault Refusal :=
  engineRow s s.lmt (fun s => s.leRunOp engine 0x60 opnd (fun r => r.jump opnd))

/-- LE_JC: Jump if BA = 1 (R289). -/
def execLeJc (engine opnd : Nat) (s : State) : Host.Outcome State Fault Refusal :=
  engineRow s s.lmt (fun s => s.leRunOp engine 0x61 opnd (fun r => if r.ba then r.jump opnd else r))

/-- LE_JNC: Jump if BA = 0 (R289). -/
def execLeJnc (engine opnd : Nat) (s : State) : Host.Outcome State Fault Refusal :=
  engineRow s s.lmt (fun s => s.leRunOp engine 0x62 opnd (fun r => if r.ba then r else r.jump opnd))

/-- LE_CALL: Call of a block (R289). -/
def execLeCall (engine opnd : Nat) (s : State) : Host.Outcome State Fault Refusal :=
  engineRow s s.lmt (fun s => s.leRunOp engine 0x63 opnd (fun r => { r with calls := r.pc :: r.calls, pc := leBlock r.code (opnd % 65536) }))

/-- LE_RET: End of a called block (R289). -/
def execLeRet (engine opnd : Nat) (s : State) : Host.Outcome State Fault Refusal :=
  engineRow s s.lmt (fun s => s.leRunOp engine 0x64 opnd (fun r => match r.calls with
    | a :: c => { r with pc := a, calls := c }
    | [] => r))

/-- LE_END: End of the entry block: hand-in (R281, R289). -/
def execLeEnd (engine opnd : Nat) (s : State) : Host.Outcome State Fault Refusal :=
  engineRow s s.lmt (fun s => s.leRunOp engine 0x65 opnd (fun r => { r with ended := true }))

/-- LE_HFLAG: If BA: a Hopper flag at hand-in (R289). -/
def execLeHflag (engine opnd : Nat) (s : State) : Host.Outcome State Fault Refusal :=
  engineRow s s.lmt (fun s => s.leRunOp engine 0x66 opnd (fun r => if r.ba then { r with flags := r.flags ++ [(bits opnd 15 6, opnd % 32)] } else r))

/-- LE_EVT: If BA: EV_LOGIC_USER at hand-in (R289). -/
def execLeEvt (engine opnd : Nat) (s : State) : Host.Outcome State Fault Refusal :=
  engineRow s s.lmt (fun s => s.leRunOp engine 0x67 opnd (fun r => if r.ba then { r with evts := r.evts ++ [(opnd % 65536, r.wa.toNat)] } else r))

end Sys2Proof.Machine
end

