-- ==== Sys2Proof/Machine/ExecNet.lean ====
section
/-! DEFINITION. Meanings of the rows of field ports, nodes and the redundant pair. -/

namespace Sys2Proof.Machine

/-- INPUT_FRAME_RECEIVE: An INPUT frame from a node is stored for the next snapshot, moves a DROPPED node to PREOP, or draws a RELEASE from an unbound MAC. (R112) -/
def execInputFrameReceive (t : Nat) (port : Nat) (src : Nat) (payload : Bytes) (s : State) : Host.Outcome State Fault Refusal :=
  eventRow s t (fun s => if be payload 0 1 = 0x02 && !oczBad payload then s.ethIn port src payload (fun s => inputFrameReceive port src payload s) else s)

/-- HELLO_RECEIVE: A HELLO is matched against the port's node records and binds, rebinds, conflicts or is reported unknown or mismatched. (R116) -/
def execHelloReceive (t : Nat) (port : Nat) (src : Nat) (payload : Bytes) (s : State) : Host.Outcome State Fault Refusal :=
  eventRow s t (fun s => if be payload 0 1 = 0x08 && !oczBad payload then s.ethIn port src payload (fun s => helloReceive port src payload s) else s)

/-- BIND_ACK_RECEIVE: A BIND_ACK with the current BIND_ID moves the node to PREOP or, with RESULT nonzero, to ABSENT. (R118) -/
def execBindAckReceive (t : Nat) (port : Nat) (src : Nat) (payload : Bytes) (s : State) : Host.Outcome State Fault Refusal :=
  eventRow s t (fun s => if be payload 0 1 = 0x0A && !oczBad payload then s.ethIn port src payload (fun s => bindAckReceive port src payload s) else s)

/-- PAGE_RSP_RECEIVE: A PAGE_RSP confirms a paged write or delivers read values that are committed and set GOOD. (R120) -/
def execPageRspReceive (t : Nat) (port : Nat) (src : Nat) (payload : Bytes) (s : State) : Host.Outcome State Fault Refusal :=
  eventRow s t (fun s => if be payload 0 1 = 0x11 && !oczBad payload then s.ethIn port src payload (fun s => pageRspReceive port src payload s) else s)

/-- REMOTE_SEGMENT_RECEIVE: A segment frame of another module is received for a remote race and republished under the own race number. (R46) -/
def execRemoteSegmentReceive (t : Nat) (port : Nat) (rx : RxFrame) (s : State) : Host.Outcome State Fault Refusal :=
  eventRow s t (fun s =>
    if be rx.payload 0 1 = 0x20 && !oczBad rx.payload then s.ethIn port rx.src rx.payload (fun s => remoteSegmentReceive rx.payload s) else s)

/-- PAIR_HEARTBEAT_RECEIVE: A partner's pair heartbeat on port A updates path state, role and health, and may declare failure or dual activity. (R383) -/
def execPairHeartbeatReceive (t : Nat) (src : Nat) (payload : Bytes) (s : State) : Host.Outcome State Fault Refusal :=
  eventRow s t (fun s => if be payload 0 1 = 0x30 && !oczBad payload then s.ethIn 1 src payload (fun s => pairHeartbeatReceive src payload s) else s)

/-- OCZON_INVALID_FRAME: A received Oczon frame with wrong FVER, FLEN, FTYPE or type is discarded and counted. (R106) -/
def execOczonInvalidFrame (t : Nat) (port : Nat) (src : Nat) (payload : Bytes) (s : State) : Host.Outcome State Fault Refusal :=
  eventRow s t (fun s => if oczBad payload then s.ethIn port src payload (fun s => oczonInvalidFrame port src payload s) else s)

/-- NODE_DROP: DROP_CYCLES consecutive home-group snapshots without a complete set move the node to DROPPED with EV_NODE_DROPPED. (R118) -/
def execNodeDrop (t : Nat) (seg : Nat) (node : Nat) (s : State) : Host.Outcome State Fault Refusal :=
  eventRow s t (fun s => nodeDrop seg node s)

/-- BIND_RETRY: 10 ms without BIND_ACK repeats BIND, and after 3 unanswered BINDs the node returns to ABSENT. (R115) -/
def execBindRetry (t : Nat) (seg : Nat) (node : Nat) (s : State) : Host.Outcome State Fault Refusal :=
  engineRow s t (fun s => bindRetry seg node s)

/-- PAGE_REQ_RETRY: An unanswered PAGE_REQ is repeated after 2 ms, twice, then left for the next sweep. (R120) -/
def execPageReqRetry (t : Nat) (seg : Nat) (node : Nat) (s : State) : Host.Outcome State Fault Refusal :=
  engineRow s t (fun s => pageReqRetry seg node s)

/-- PAGED_SWEEP: Once per SWEEP_PERIOD the segment writes durable paged outputs and reads every paged input of bound nodes. (R101) -/
def execPagedSweep (t : Nat) (seg : Nat) (s : State) : Host.Outcome State Fault Refusal :=
  engineRow s t (fun s => pagedSweep seg s)

/-- NODE_RELEASE_TIMEOUT: RELEASE_TIME expires for a DROPPED node, which becomes ABSENT with RELEASE sent and EV_NODE_LEFT. (R118) -/
def execNodeReleaseTimeout (t : Nat) (seg : Nat) (node : Nat) (s : State) : Host.Outcome State Fault Refusal :=
  eventRow s t (fun s => nodeReleaseTimeout seg node s)

/-- PORT_LINK_LOSS: A field port loses its link (or LOS rises) and its bound nodes are DROPPED. (R118) -/
def execPortLinkLoss (t : Nat) (port : Nat) (s : State) : Host.Outcome State Fault Refusal :=
  eventRow s t (fun s => portLinkLoss port s)

/-- OPTICS_PRESENCE_CHANGE: A port's ABS# pin changes and TXDIS and optics identification follow. (R504) -/
def execOpticsPresenceChange (t : Nat) (port : Nat) (absent : Bool) (identified : Bool) (s : State) : Host.Outcome State Fault Refusal :=
  eventRow s t (fun s => opticsPresenceChange port absent identified s)

/-- FIELD_PORT_LINK_UP: A field port's link comes up again (LOS falls), with clause 37 auto-negotiation in 1000BASE-X mode. (R504) -/
def execFieldPortLinkUp (t : Nat) (port : Nat) (s : State) : Host.Outcome State Fault Refusal :=
  eventRow s t (fun s => fieldPortLinkUp port s)

/-- LLDP_SEND: Every LLDP_INTERVAL the module sends an LLDPDU on each field port. (R114) -/
def execLldpSend (t : Nat) (port : Nat) (s : State) : Host.Outcome State Fault Refusal :=
  engineRow s t (fun s => lldpSend port s)

/-- LLDP_RECEIVE: An LLDPDU from a link partner is taken for neighbour reporting. (R114) -/
def execLldpReceive (t : Nat) (port : Nat) (chassis : LldpChassis) (portId : LldpPort) (s : State) : Host.Outcome State Fault Refusal :=
  eventRow s t (fun s => s.ethOther port portId.frame (.lldp chassis.sub chassis.num portId.sub portId.text))

/-- PAIR_HEARTBEAT_SEND: Every 250 µs a paired module sends a pair heartbeat on port A. (R122) -/
def execPairHeartbeatSend (t : Nat) (s : State) : Host.Outcome State Fault Refusal :=
  eventRow s t (fun s => s.sendHeartbeat 1)

/-- RED_LINK_HEARTBEAT_SEND: Every 50 µs a paired module sends a heartbeat on the redundancy link. (R383) -/
def execRedLinkHeartbeatSend (t : Nat) (s : State) : Host.Outcome State Fault Refusal :=
  eventRow s t (fun s => s.sendHeartbeat 0)

/-- RED_LINK_HEARTBEAT_RECEIVE: A partner heartbeat on the link updates path state, and HEALTH 2 makes the standby declare failure. (R383) -/
def execRedLinkHeartbeatReceive (t : Nat) (hb : Heartbeat) (s : State) : Host.Outcome State Fault Refusal :=
  eventRow s t (fun s => redLinkHeartbeatReceive hb s)

/-- RED_PATH_SILENCE: A heartbeat path has been silent for 3 intervals, raising EV_RED_PATH_LOST or, with both silent, a failure declaration. (R383) -/
def execRedPathSilence (t : Nat) (path : Nat) (s : State) : Host.Outcome State Fault Refusal :=
  eventRow s t (fun s => redPathSilence path s)

/-- PAIR_WAIT_EXPIRY: No partner is heard within PAIR_WAIT at start and the module becomes ACTIVE alone. (R381) -/
def execPairWaitExpiry (t : Nat) (s : State) : Host.Outcome State Fault Refusal :=
  eventRow s t (fun s => pairWaitExpiry s)

/-- RED_DELTA_RECEIVE: The standby receives a snapshot, commit, unit or bulk delta block and applies or has it resent. (R385) -/
def execRedDeltaReceive (t : Nat) (kind : Nat) (key : Nat) (cycle : Nat) (ok : Bool) (last : Bool) (data : DeltaData) (s : State) : Host.Outcome State Fault Refusal :=
  eventRow s t (fun s => (redDeltaReceive kind key cycle ok last data.words data.units s).mirrorConfigs kind ok data.units)

/-- RED_FULL_COPY_DONE: A SYNCING module has received the full copy and its deltas and becomes STANDBY. (R386) -/
def execRedFullCopyDone (t : Nat) (s : State) : Host.Outcome State Fault Refusal :=
  eventRow s t (fun s => redFullCopyDone s)

/-- RED_PLANNED_SWITCH_INSTANT: The planned-switch instant S arrives and the active role moves between the modules. (R392) -/
def execRedPlannedSwitchInstant (t : Nat) (s : State) : Host.Outcome State Fault Refusal :=
  eventRow s t (fun s => redPlannedSwitchInstant s)

/-- RED_REVERT_HOLD_EXPIRY: The preferred unit has been STANDBY and healthy for REVERT_HOLD and asks for a planned switch. (R393) -/
def execRedRevertHoldExpiry (t : Nat) (s : State) : Host.Outcome State Fault Refusal :=
  eventRow s t (fun s => redRevertHoldExpiry s)

end Sys2Proof.Machine
end

