-- ==== Sys2Proof/Machine/ExecRecording.lean ====
section
/-! DEFINITION. Meanings of the rows of captures, spindle windows, Tailrace and the event log. -/

namespace Sys2Proof.Machine

/-- CAPTURE_SAMPLE: A capture unit takes a sample, writes its streams, runs its qualifier and closes its record after POST samples. (R248) -/
def execCaptureSample (t : Nat) (unit : Nat) (s : State) : Host.Outcome State Fault Refusal :=
  eventRow s t (fun s => capSample unit s)

/-- CAPTURE_GROUP_TRIGGER: A member's trigger reaches every armed unit of the capture group within 2 µs. (R251) -/
def execCaptureGroupTrigger (t : Nat) (unit : Nat) (s : State) : Host.Outcome State Fault Refusal :=
  eventRow s t (fun s => capGroupTrigger unit s)

/-- SPINDLE_WINDOW_RUN: A spindle engine starts a queued input window and runs its program to a verdict. (R311) -/
def execSpindleWindowRun (t : Nat) (prog : Nat) (s : State) : Host.Outcome State Fault Refusal :=
  engineRow s t (fun s => spindleWindowRun prog s)

/-- TAILRACE_FLUSH_TIMEOUT: A buffer's oldest record is FLUSH_US old and the buffer is returned early. (R270) -/
def execTailraceFlushTimeout (t : Nat) (ch : Nat) (s : State) : Host.Outcome State Fault Refusal :=
  eventRow s t (fun s => trFlushTimeout ch s)

/-- TAILRACE_SPILL: A channel finds no free host buffer or the link out of D0 and starts spilling with EV_TR_SPILL. (R271) -/
def execTailraceSpill (t : Nat) (ch : Nat) (s : State) : Host.Outcome State Fault Refusal :=
  eventRow s t (fun s => trSpillStart ch s)

/-- TAILRACE_DRAIN_DONE: A DRAINING channel empties its spill and returns to RUNNING with EV_TR_DRAINED. (R271) -/
def execTailraceDrainDone (t : Nat) (ch : Nat) (s : State) : Host.Outcome State Fault Refusal :=
  eventRow s t (fun s => trDrainDone ch s)

/-- LOG_RECORD_DURABLE: A logged record becomes durable in MRAM within 200 µs of being raised. (R264) -/
def execLogRecordDurable (t : Nat) (s : State) : Host.Outcome State Fault Refusal :=
  eventRow s t (fun s => logRecordDurable s)

/-- LOG_FREEZE_EXPIRY: FREEZE_MAX expires and the log thaws, writing EV_LOG_THAWED and the reserve. (R265) -/
def execLogFreezeExpiry (t : Nat) (s : State) : Host.Outcome State Fault Refusal :=
  eventRow s t (fun s => logFreezeExpiry s)

/-- LOG_RATE_SECOND: A whole second of LMT ends and the log's count of 65,536 records restarts. (R261) -/
def execLogRateSecond (t : Nat) (s : State) : Host.Outcome State Fault Refusal :=
  eventRow s t (fun s => logRateSecond s)

end Sys2Proof.Machine
end

