-- ==== Sys2Proof/Machine/ExecSafety.lean ====
section
/-! DEFINITION. Meanings of the rows of the safety layer. -/

namespace Sys2Proof.Machine

/-- SAFETY_CYCLE: Every 250 µs each safety channel samples inputs, evaluates functions, commands outputs and exchanges data over the cross-link. (R349) -/
def execSafetyCycle (t : Nat) (inp : SafeIn) (s : State) : Host.Outcome State Fault Refusal :=
  eventRow s t (fun s => safetyCycle inp s)

/-- SAFETY_DISCREPANCY_COUNT: A pair's disagreement count reaches N_d and a DISC_FAULT latches with EV_SAFE_DISCREPANCY. (R355) -/
def execSafetyDiscrepancyCount (t : Nat) (pair : Nat) (s : State) : Host.Outcome State Fault Refusal :=
  eventRow s t (fun s => safetyDiscrepancyCount pair s)

/-- EV_SAFE_RESET_LONG: A reset source stays closed for 3 s and gives no edge. (R363) -/
def execEvSafeResetLong (t : Nat) (src : Nat) (s : State) : Host.Outcome State Fault Refusal :=
  eventRow s t (fun s => safeResetLong src s)

/-- SAFETY_STOP_DELAY_EXPIRY: STOP_DELAY or STOP_MAX passes and an SS1 function removes torque and enters SAFE. (R361) -/
def execSafetyStopDelayExpiry (t : Nat) (fn : Nat) (s : State) : Host.Outcome State Fault Refusal :=
  eventRow s t (fun s => safetyStopDelayExpiry fn s)

/-- NALAT_WATCHDOG_EXPIRY: No frame is accepted for WD and the connection enters TIMEOUT with EV_NALAT_TIMEOUT. (R369) -/
def execNalatWatchdogExpiry (t : Nat) (conn : Nat) (s : State) : Host.Outcome State Fault Refusal :=
  eventRow s t (fun s => nalatWatchdogExpiry conn s)

/-- SAFETY_SELF_TEST_DONE: A safety channel completes its start self-test and the layer may start running. (R351) -/
def execSafetySelfTestDone (t : Nat) (channel : Nat) (ok : Bool) (s : State) : Host.Outcome State Fault Refusal :=
  eventRow s t (fun s => safetySelfTestDone channel ok s)

/-- SI_STANDARD_SAMPLE: On the -N variant, the main die samples SI0–SI23 every 250 µs into the BOOL points of local node 3. (R376) -/
def execSiStandardSample (t : Nat) (levels : Nat) (s : State) : Host.Outcome State Fault Refusal :=
  eventRow s t (fun s => siStandardSample levels s)

end Sys2Proof.Machine
end

