-- ==== Sys2Proof/Machine/ExecSpin.lean ====
section
/-! DEFINITION. Meanings of the rows of the spindle instructions. -/

namespace Sys2Proof.Machine

/-- SPIN_NOP: Spindle instruction NOP has no effect. (R315) -/
def execSpinNop (prog : Nat) (opnd : Nat) (s : State) : Host.Outcome State Fault Refusal :=
  engineRow s s.lmt (fun s => s.spinStep prog 0x00 opnd (fun _ p => p) (fun p => p.pc + 1))

/-- SPIN_ADD: Spindle instruction ADD adds two registers. (R315) -/
def execSpinAdd (prog : Nat) (opnd : Nat) (s : State) : Host.Outcome State Fault Refusal :=
  engineRow s s.lmt (fun s => s.spinA prog 0x01 opnd (fun a b => a + b))

/-- SPIN_SUB: Spindle instruction SUB subtracts two registers. (R315) -/
def execSpinSub (prog : Nat) (opnd : Nat) (s : State) : Host.Outcome State Fault Refusal :=
  engineRow s s.lmt (fun s => s.spinA prog 0x02 opnd (fun a b => a - b))

/-- SPIN_AND: Spindle instruction AND ands two registers. (R315) -/
def execSpinAnd (prog : Nat) (opnd : Nat) (s : State) : Host.Outcome State Fault Refusal :=
  engineRow s s.lmt (fun s => s.spinA prog 0x03 opnd (fun a b => a &&& b))

/-- SPIN_OR: Spindle instruction OR ors two registers. (R315) -/
def execSpinOr (prog : Nat) (opnd : Nat) (s : State) : Host.Outcome State Fault Refusal :=
  engineRow s s.lmt (fun s => s.spinA prog 0x04 opnd (fun a b => a ||| b))

/-- SPIN_XOR: Spindle instruction XOR exclusive-ors two registers. (R315) -/
def execSpinXor (prog : Nat) (opnd : Nat) (s : State) : Host.Outcome State Fault Refusal :=
  engineRow s s.lmt (fun s => s.spinA prog 0x05 opnd (fun a b => a ^^^ b))

/-- SPIN_SHL: Spindle instruction SHL shifts left by a register. (R315) -/
def execSpinShl (prog : Nat) (opnd : Nat) (s : State) : Host.Outcome State Fault Refusal :=
  engineRow s s.lmt (fun s => s.spinA prog 0x06 opnd (fun a b => a <<< (b.toNat % 32)))

/-- SPIN_SHR: Spindle instruction SHR shifts right logically by a register. (R315) -/
def execSpinShr (prog : Nat) (opnd : Nat) (s : State) : Host.Outcome State Fault Refusal :=
  engineRow s s.lmt (fun s => s.spinA prog 0x07 opnd (fun a b => a >>> (b.toNat % 32)))

/-- SPIN_ASR: Spindle instruction ASR shifts right arithmetically by a register. (R315) -/
def execSpinAsr (prog : Nat) (opnd : Nat) (s : State) : Host.Outcome State Fault Refusal :=
  engineRow s s.lmt (fun s => s.spinA prog 0x08 opnd (fun a b => a.sshiftRight (b.toNat % 32)))

/-- SPIN_MUL: Spindle instruction MUL multiplies two registers. (R315) -/
def execSpinMul (prog : Nat) (opnd : Nat) (s : State) : Host.Outcome State Fault Refusal :=
  engineRow s s.lmt (fun s => s.spinA prog 0x09 opnd (fun a b => a * b))

/-- SPIN_MIN: Spindle instruction MIN takes the signed minimum. (R315) -/
def execSpinMin (prog : Nat) (opnd : Nat) (s : State) : Host.Outcome State Fault Refusal :=
  engineRow s s.lmt (fun s => s.spinA prog 0x0A opnd (fun a b => if a.slt b then a else b))

/-- SPIN_MAX: Spindle instruction MAX takes the signed maximum. (R315) -/
def execSpinMax (prog : Nat) (opnd : Nat) (s : State) : Host.Outcome State Fault Refusal :=
  engineRow s s.lmt (fun s => s.spinA prog 0x0B opnd (fun a b => if a.slt b then b else a))

/-- SPIN_MINU: Spindle instruction MINU takes the unsigned minimum. (R315) -/
def execSpinMinu (prog : Nat) (opnd : Nat) (s : State) : Host.Outcome State Fault Refusal :=
  engineRow s s.lmt (fun s => s.spinA prog 0x0C opnd (fun a b => if a.ult b then a else b))

/-- SPIN_MAXU: Spindle instruction MAXU takes the unsigned maximum. (R315) -/
def execSpinMaxu (prog : Nat) (opnd : Nat) (s : State) : Host.Outcome State Fault Refusal :=
  engineRow s s.lmt (fun s => s.spinA prog 0x0D opnd (fun a b => if a.ult b then b else a))

/-- SPIN_ABS: Spindle instruction ABS takes an absolute value. (R315) -/
def execSpinAbs (prog : Nat) (opnd : Nat) (s : State) : Host.Outcome State Fault Refusal :=
  engineRow s s.lmt (fun s => s.spinD prog 0x0E opnd (fun _ p => if (p.w (fA opnd)).msb then 0 - p.w (fA opnd) else p.w (fA opnd)))

/-- SPIN_ADDI: Spindle instruction ADDI adds a signed immediate. (R315) -/
def execSpinAddi (prog : Nat) (opnd : Nat) (s : State) : Host.Outcome State Fault Refusal :=
  engineRow s s.lmt (fun s => s.spinI prog 0x10 opnd (fun a => a + sImm18 opnd))

/-- SPIN_ANDI: Spindle instruction ANDI ands an immediate. (R315) -/
def execSpinAndi (prog : Nat) (opnd : Nat) (s : State) : Host.Outcome State Fault Refusal :=
  engineRow s s.lmt (fun s => s.spinI prog 0x11 opnd (fun a => a &&& zImm18 opnd))

/-- SPIN_ORI: Spindle instruction ORI ors an immediate. (R315) -/
def execSpinOri (prog : Nat) (opnd : Nat) (s : State) : Host.Outcome State Fault Refusal :=
  engineRow s s.lmt (fun s => s.spinI prog 0x12 opnd (fun a => a ||| zImm18 opnd))

/-- SPIN_XORI: Spindle instruction XORI exclusive-ors an immediate. (R315) -/
def execSpinXori (prog : Nat) (opnd : Nat) (s : State) : Host.Outcome State Fault Refusal :=
  engineRow s s.lmt (fun s => s.spinI prog 0x13 opnd (fun a => a ^^^ zImm18 opnd))

/-- SPIN_SHLI: Spindle instruction SHLI shifts left by an immediate. (R315) -/
def execSpinShli (prog : Nat) (opnd : Nat) (s : State) : Host.Outcome State Fault Refusal :=
  engineRow s s.lmt (fun s => s.spinI prog 0x14 opnd (fun a => a <<< (fImm18 opnd % 32)))

/-- SPIN_SHRI: Spindle instruction SHRI shifts right logically by an immediate. (R315) -/
def execSpinShri (prog : Nat) (opnd : Nat) (s : State) : Host.Outcome State Fault Refusal :=
  engineRow s s.lmt (fun s => s.spinI prog 0x15 opnd (fun a => a >>> (fImm18 opnd % 32)))

/-- SPIN_ASRI: Spindle instruction ASRI shifts right arithmetically by an immediate. (R315) -/
def execSpinAsri (prog : Nat) (opnd : Nat) (s : State) : Host.Outcome State Fault Refusal :=
  engineRow s s.lmt (fun s => s.spinI prog 0x16 opnd (fun a => a.sshiftRight (fImm18 opnd % 32)))

/-- SPIN_LI: Spindle instruction LI loads a sign-extended immediate. (R315) -/
def execSpinLi (prog : Nat) (opnd : Nat) (s : State) : Host.Outcome State Fault Refusal :=
  engineRow s s.lmt (fun s => s.spinD prog 0x17 opnd (fun _ _ => sImm18 opnd))

/-- SPIN_LUI: Spindle instruction LUI loads an upper immediate. (R315) -/
def execSpinLui (prog : Nat) (opnd : Nat) (s : State) : Host.Outcome State Fault Refusal :=
  engineRow s s.lmt (fun s => s.spinD prog 0x18 opnd (fun _ _ => zImm18 opnd <<< 14))

/-- SPIN_LDB: Spindle instruction LDB loads a window byte. (R315) -/
def execSpinLdb (prog : Nat) (opnd : Nat) (s : State) : Host.Outcome State Fault Refusal :=
  engineRow s s.lmt (fun s => s.spinLoad prog 0x20 opnd (fun w i => BitVec.ofNat 32 (spinByte prog w i)))

/-- SPIN_LDH: Spindle instruction LDH loads 2 window bytes big-endian. (R315) -/
def execSpinLdh (prog : Nat) (opnd : Nat) (s : State) : Host.Outcome State Fault Refusal :=
  engineRow s s.lmt (fun s => s.spinLoad prog 0x21 opnd (fun w i => BitVec.ofNat 32 (spinBe prog w i 2)))

/-- SPIN_LDW: Spindle instruction LDW loads 4 window bytes big-endian. (R315) -/
def execSpinLdw (prog : Nat) (opnd : Nat) (s : State) : Host.Outcome State Fault Refusal :=
  engineRow s s.lmt (fun s => s.spinLoad prog 0x22 opnd (fun w i => BitVec.ofNat 32 (spinBe prog w i 4)))

/-- SPIN_LDHL: Spindle instruction LDHL loads 2 window bytes little-endian. (R315) -/
def execSpinLdhl (prog : Nat) (opnd : Nat) (s : State) : Host.Outcome State Fault Refusal :=
  engineRow s s.lmt (fun s => s.spinLoad prog 0x23 opnd (fun w i => BitVec.ofNat 32 (spinLe prog w i 2)))

/-- SPIN_LDWL: Spindle instruction LDWL loads 4 window bytes little-endian. (R315) -/
def execSpinLdwl (prog : Nat) (opnd : Nat) (s : State) : Host.Outcome State Fault Refusal :=
  engineRow s s.lmt (fun s => s.spinLoad prog 0x24 opnd (fun w i => BitVec.ofNat 32 (spinLe prog w i 4)))

/-- SPIN_LDHLS: Spindle instruction LDHLS loads 2 window bytes little-endian, sign-extended. (R315) -/
def execSpinLdhls (prog : Nat) (opnd : Nat) (s : State) : Host.Outcome State Fault Refusal :=
  engineRow s s.lmt (fun s => s.spinLoad prog 0x25 opnd (fun w i => BitVec.ofInt 32 (sgn 16 (spinLe prog w i 2))))

/-- SPIN_BEQ: Spindle instruction BEQ branches forward if equal. (R315) -/
def execSpinBeq (prog : Nat) (opnd : Nat) (s : State) : Host.Outcome State Fault Refusal :=
  engineRow s s.lmt (fun s => s.spinBrR prog 0x30 opnd (fun a b => a == b))

/-- SPIN_BNE: Spindle instruction BNE branches forward if not equal. (R315) -/
def execSpinBne (prog : Nat) (opnd : Nat) (s : State) : Host.Outcome State Fault Refusal :=
  engineRow s s.lmt (fun s => s.spinBrR prog 0x31 opnd (fun a b => a != b))

/-- SPIN_BLT: Spindle instruction BLT branches forward if signed less. (R315) -/
def execSpinBlt (prog : Nat) (opnd : Nat) (s : State) : Host.Outcome State Fault Refusal :=
  engineRow s s.lmt (fun s => s.spinBrR prog 0x32 opnd (fun a b => a.slt b))

/-- SPIN_BGE: Spindle instruction BGE branches forward if signed greater or equal. (R315) -/
def execSpinBge (prog : Nat) (opnd : Nat) (s : State) : Host.Outcome State Fault Refusal :=
  engineRow s s.lmt (fun s => s.spinBrR prog 0x33 opnd (fun a b => !a.slt b))

/-- SPIN_BLTU: Spindle instruction BLTU branches forward if unsigned less. (R315) -/
def execSpinBltu (prog : Nat) (opnd : Nat) (s : State) : Host.Outcome State Fault Refusal :=
  engineRow s s.lmt (fun s => s.spinBrR prog 0x34 opnd (fun a b => a.ult b))

/-- SPIN_BGEU: Spindle instruction BGEU branches forward if unsigned greater or equal. (R315) -/
def execSpinBgeu (prog : Nat) (opnd : Nat) (s : State) : Host.Outcome State Fault Refusal :=
  engineRow s s.lmt (fun s => s.spinBrR prog 0x35 opnd (fun a b => !a.ult b))

/-- SPIN_BEQI: Spindle instruction BEQI branches forward if equal to an immediate. (R315) -/
def execSpinBeqi (prog : Nat) (opnd : Nat) (s : State) : Host.Outcome State Fault Refusal :=
  engineRow s s.lmt (fun s => s.spinBrI prog 0x36 opnd (fun a b => a == b))

/-- SPIN_BNEI: Spindle instruction BNEI branches forward if not equal to an immediate. (R315) -/
def execSpinBnei (prog : Nat) (opnd : Nat) (s : State) : Host.Outcome State Fault Refusal :=
  engineRow s s.lmt (fun s => s.spinBrI prog 0x37 opnd (fun a b => a != b))

/-- SPIN_BLTI: Spindle instruction BLTI branches forward if less than an immediate. (R315) -/
def execSpinBlti (prog : Nat) (opnd : Nat) (s : State) : Host.Outcome State Fault Refusal :=
  engineRow s s.lmt (fun s => s.spinBrI prog 0x38 opnd (fun a b => decide (a < b)))

/-- SPIN_BGEI: Spindle instruction BGEI branches forward if greater or equal to an immediate. (R315) -/
def execSpinBgei (prog : Nat) (opnd : Nat) (s : State) : Host.Outcome State Fault Refusal :=
  engineRow s s.lmt (fun s => s.spinBrI prog 0x39 opnd (fun a b => decide (b ≤ a)))

/-- SPIN_CNT: Spindle instruction CNT increments a counter. (R315) -/
def execSpinCnt (prog : Nat) (opnd : Nat) (s : State) : Host.Outcome State Fault Refusal :=
  engineRow s s.lmt (fun s => s.spinStep prog 0x3C opnd (fun _ p => p.count (opnd % 8)) (fun p => p.pc + 1))

/-- SPIN_EXIT: Spindle instruction EXIT ends the window with verdict W0, applied by the place. (R315) -/
def execSpinExit (prog : Nat) (opnd : Nat) (s : State) : Host.Outcome State Fault Refusal :=
  engineRow s s.lmt (fun s => s.spinStep prog 0x3E opnd (fun _ p => p) (fun p => spinLen p.prog.fg))

end Sys2Proof.Machine
end

