-- ==== Sys2Proof/Machine/ExecSys.lean ====
section
/-! DEFINITION. Meanings of the rows of supplies, resets, module faults, start and update. -/

namespace Sys2Proof.Machine

/-- LOGIC_REGULATION_REACHED: LOGIC reaches regulation and the module enters BOOT, sampling straps and starting the holdup charge. (R469) -/
def execLogicRegulationReached (_ : Nat) (strapMode : Nat) (strapPair : Bool) (s : State) : Host.Outcome State Fault Refusal :=
  .next (logicRegulationReached strapMode strapPair s)

/-- BOOT_ROM_DONE: SC0 finishes its boot ROM, finds a firmware slot and HSTAT moves to VERIFY. (R469) -/
def execBootRomDone (b : BootRom) (s : State) : Host.Outcome State Fault Refusal :=
  eventRow s b.t (fun s => bootRomDone b.warmAt s)

/-- SLOT_VERIFY_DONE: Verification of the chosen firmware slot ends; the module moves to LOAD, falls back to the other slot, or enters FAULT_HALT. (R475) -/
def execSlotVerifyDone (t : Nat) (code : Nat) (s : State) : Host.Outcome State Fault Refusal :=
  eventRow s t (fun s => slotVerifyDone code s)

/-- LOAD_DONE: Components are loaded, the journal is replayed from the settled point and safety images are handed to both channels. (R479) -/
def execLoadDone (t : Nat) (code : Nat) (s : State) : Host.Outcome State Fault Refusal :=
  eventRow s t (fun s => loadDone code s)

/-- HOLDUP_CHARGED: The holdup store reaches 2.5 J after LOAD and HSTAT becomes READY. (R471) -/
def execHoldupCharged (t : Nat) (s : State) : Host.Outcome State Fault Refusal :=
  eventRow s t (fun s => holdupCharged s)

/-- HOLDUP_CHARGE_TIMEOUT: The holdup store has not reached 2.5 J by 10 s and the module enters FAULT_HALT with code 0x000E. (R471) -/
def execHoldupChargeTimeout (t : Nat) (s : State) : Host.Outcome State Fault Refusal :=
  eventRow s t (fun s => holdupChargeTimeout s)

/-- FAULT_HALT_ENTRY: A module fault writes HFAULT, raises EV_FAULT_HALT, stops commits and puts every output in its FAULT_HALT state. (R472) -/
def execFaultHaltEntry (t : Nat) (code : Nat) (detail : Nat) (s : State) : Host.Outcome State Fault Refusal :=
  eventRow s t (fun s => faultHaltEntry code detail s)

/-- ECC_ERROR: A memory array reports a single-bit error, which is corrected and counted, or a double-bit error, which faults the module or marks a DRAM record corrupt. (R11) -/
def execEccError (t : Nat) (array : Nat) (double : Bool) (unit : Nat) (item : Nat) (s : State) : Host.Outcome State Fault Refusal :=
  eventRow s t (fun s => eccError array double unit item s)

/-- FABRIC_FAULT: An image access takes longer than 25 ns and is handled as a module fault. (R13) -/
def execFabricFault (t : Nat) (s : State) : Host.Outcome State Fault Refusal :=
  eventRow s t (fun s => fabricFault s)

/-- RUNTIME_WATCHDOG: SC0–SC3 are silent for 100 ms and the module enters FAULT_HALT with code 0x000A. (R472) -/
def execRuntimeWatchdog (t : Nat) (s : State) : Host.Outcome State Fault Refusal :=
  eventRow s t (fun s => runtimeWatchdog s)

/-- BASEPLATE_OVERTEMP: The baseplate stays above +90 °C for 1,000 ms and the module enters FAULT_HALT with code 0x000B. (R535) -/
def execBaseplateOvertemp (t : Nat) (s : State) : Host.Outcome State Fault Refusal :=
  eventRow s t (fun s => baseplateOvertemp s)

/-- POWER_FAIL: LOGIC stays below 16.5 V for 50 µs: EV_POWER_FAIL is raised, safety outputs open, fetch stops and commits due within 1,000 µs are sealed. (R480) -/
def execPowerFail (t : Nat) (mv : Nat) (s : State) : Host.Outcome State Fault Refusal :=
  eventRow s t (fun s => powerFail mv s)

/-- POWER_FAIL_FINAL_COMMIT: 1,000 µs after the declaration the final unit-state commit is made, outputs stop, and MRAM is then write-protected and the clocks stopped. (R480) -/
def execPowerFailFinalCommit (t : Nat) (s : State) : Host.Outcome State Fault Refusal :=
  eventRow s t (fun s => powerFailFinalCommit s)

/-- POWER_RESTORED: LOGIC has stayed in regulation for 100 ms after a power fail and the module restarts through BOOT. (R480) -/
def execPowerRestored (_ : Nat) (strapMode : Nat) (strapPair : Bool) (s : State) : Host.Outcome State Fault Refusal :=
  .next (powerRestored strapMode strapPair s)

/-- RESET_PIN: RESET# low for 10 µs or more starts the power-fail sequence and holds reset until release, then BOOT. (R518) -/
def execResetPin (t : Nat) (s : State) : Host.Outcome State Fault Refusal :=
  if s.sys.clocksOn then eventRow s t (fun s => resetPin s) else .next { s with sys := { s.sys with resetLow := true } }

/-- RESET_RELEASE: RESET# returns high after a reset and the module enters BOOT. (R518) -/
def execResetRelease (t : Nat) (strapMode : Nat) (strapPair : Bool) (s : State) : Host.Outcome State Fault Refusal :=
  .next (resetRelease t strapMode strapPair (if s.sys.clocksOn then s.tick t else s))

/-- MAINT_LINK_CHANGE: Maintenance port M1 or M2 gains or loses its 1000BASE-T link and its LED pin follows. (R519) -/
def execMaintLinkChange (t : Nat) (port : Nat) (up : Bool) (s : State) : Host.Outcome State Fault Refusal :=
  eventRow s t (fun s => maintLinkChange port up s)

/-- UPD_STAGE_DURABLE: A staged image has been verified and written to NOR, the update enters STAGED and UPD_STAGE completes. (R484) -/
def execUpdStageDurable (t : Nat) (ok : Bool) (s : State) : Host.Outcome State Fault Refusal :=
  eventRow s t (fun s => updStageDurable ok s)

/-- UPD_PRELOAD_DONE: The microcode preload of UPD_ARM completes, the update enters ARMED and UPD_ARM completes. (R484) -/
def execUpdPreloadDone (t : Nat) (s : State) : Host.Outcome State Fault Refusal :=
  eventRow s t (fun s => updPreloadDone s)

/-- UPD_ACTIVATION: At instant A fetch stops, engines swap microcode and the runtime restarts, or the activation is skipped or done cold. (R486) -/
def execUpdActivation (t : Nat) (s : State) : Host.Outcome State Fault Refusal :=
  eventRow s t (fun s => updActivation s)

/-- UPD_RESTART_DONE: The runtime restart and migration end, fetching resumes and the update is in TRIAL. (R486) -/
def execUpdRestartDone (t : Nat) (s : State) : Host.Outcome State Fault Refusal :=
  eventRow s t (fun s => updRestartDone s)

end Sys2Proof.Machine
end

