-- ==== Sys2Proof/Machine/ExecTime.lean ====
section
/-! DEFINITION. Meanings of the rows of cycle groups, encoders, races, cogs and PTP. -/

namespace Sys2Proof.Machine

/-- Groups of lower segment, or of the segment and lower number, whose commit falls due at the same instant as a group's, ascending (R34). -/
def State.commitsBefore (s : State) (seg grp : Nat) : List (Nat × Nat) :=
  let at' := fun (b : Bytes) => (s.group (gKey (byteAt b 0) (byteAt b 1))).startAt + gCommitAt b
  match s.grpRec? seg grp with
  | none => []
  | some b => ((List.range (gKey seg grp)).map (fun k => (k / 8, k % 8))).filter (fun x =>
      (s.grpRec? x.1 x.2).any (fun c => s.commitDue c && at' c == at' b))

/-- A group's commit with what it does to the logic programs at their boundary (R304). -/
def commitOne (s : State) (x : Nat × Nat) : State := (groupCommit x.1 x.2 s).swapLogic (gKey x.1 x.2)

/-- GROUP_COMMIT: commits due at one instant are made by ascending segment, then group; each is complete before the next (R34). -/
def groupCommits (seg grp : Nat) (s : State) : State :=
  (if (s.grpRec? seg grp).any s.commitDue then s.commitsBefore seg grp ++ [(seg, grp)] else [(seg, grp)]).foldl commitOne s

/-- GROUP_CYCLE_START: A cycle group's cycle starts: the snapshot latches inputs and foreign committed values, applies forces, and releases cyclic logic tasks. (R29) -/
def execGroupCycleStart (t : Nat) (seg : Nat) (grp : Nat) (s : State) : Host.Outcome State Fault Refusal :=
  engineRow s t (fun s => groupCycleStart seg grp s)

/-- GROUP_COMMIT: At COMMIT_AT the back buffer becomes the front buffer with forces applied, and changes feed write-through, Tailrace and the delta copy. (R29) -/
def execGroupCommit (t : Nat) (seg : Nat) (grp : Nat) (s : State) : Host.Outcome State Fault Refusal :=
  engineRow s t (fun s => groupCommits seg grp s)

/-- GROUP_OUTPUT_LAUNCH: At OUTPUT_AT the OUTPUT frames of the cycle are launched back to back on queue 6, and point-driven outputs, DIO, PWM duties and CAN send objects take their values. (R111) -/
def execGroupOutputLaunch (t : Nat) (seg : Nat) (grp : Nat) (s : State) : Host.Outcome State Fault Refusal :=
  engineRow s t (fun s => groupOutputLaunch seg grp s)

/-- GROUP_PACING_TIMEOUT: No action instant comes within 16 periods and a cog-paced group starts at the previous start plus 16 periods. (R85) -/
def execGroupPacingTimeout (t : Nat) (seg : Nat) (grp : Nat) (s : State) : Host.Outcome State Fault Refusal :=
  engineRow s t (fun s => groupPacingTimeout seg grp s)

/-- WRITE_THROUGH_DURABLE: A commit's journal entry and seal become durable in MRAM, completing host writes that waited for durability. (R477) -/
def execWriteThroughDurable (t : Nat) (s : State) : Host.Outcome State Fault Refusal :=
  eventRow s t (fun s => (writeThroughDurable s).updCommits)

/-- JOURNAL_SETTLE: Every 10 ms, or when more than 16 MiB is unsettled, changed locations are written home and the settled marker advances. (R478) -/
def execJournalSettle (t : Nat) (s : State) : Host.Outcome State Fault Refusal :=
  eventRow s t (fun s => journalSettle s)

/-- BANK_CATCHUP_DONE: The catch-up copy of the new foreground into the background bank completes. (R94) -/
def execBankCatchupDone (t : Nat) (kind : Nat) (unit : Nat) (s : State) : Host.Outcome State Fault Refusal :=
  eventRow s t (fun s => bankCatchupDone kind unit s)

/-- ENCODER_SAMPLE: An encoder input delivers a position sample to its counter in its mode. (R38) -/
def execEncoderSample (t : Nat) (enc : Nat) (sn : Int) (cs : Int) (illegal : Bool) (s : State) : Host.Outcome State Fault Refusal :=
  eventRow s t (fun s => encoderSample enc sn cs illegal s)

/-- SSI_READ: Once per SSI_PERIOD the SSI word is read and the counter advances by the signed difference from the previous word. (R541) -/
def execSsiRead (t : Nat) (enc : Nat) (word : Nat) (checkOk : Bool) (s : State) : Host.Outcome State Fault Refusal :=
  eventRow s t (fun s => ssiRead enc word checkOk s)

/-- INDEX_CAPTURE: An index edge with RACE_REFERENCE armed writes REF_POS and clears UNREFERENCED. (R52) -/
def execIndexCapture (t : Nat) (race : Nat) (count : W64) (s : State) : Host.Outcome State Fault Refusal :=
  eventRow s t (fun s => indexCapture race count s)

/-- RACE_HOLDOVER_EXPIRY: HOLDOVER_MAX expires and the race enters LOST with EV_RACE_LOST, cancelling later cog actions. (R50) -/
def execRaceHoldoverExpiry (t : Nat) (race : Nat) (s : State) : Host.Outcome State Fault Refusal :=
  eventRow s t (fun s => raceHoldoverExpiry race s)

/-- SEGMENT_FIT: Every SEG_PERIOD the module fits a race segment, searches cog crossings, decides bank swaps and queues the frame with its launch time. (R53) -/
def execSegmentFit (t : Nat) (race : Nat) (ts : Nat) (s : State) : Host.Outcome State Fault Refusal :=
  eventRow s t (fun s => (updSearch race ts (segmentFit race ts s)).swapEngines (fun e => decide (e = 0x100 ∨ (0x901 ≤ e ∧ e ≤ 0x904))))

/-- SEGMENT_FRAME_LAUNCH: A launch-time frame on queue 7 starts onto the wire at its launch time, or is discarded if more than 1 µs late with EV_SEG_LATE. (R69) -/
def execSegmentFrameLaunch (t : Nat) (port : Nat) (s : State) : Host.Outcome State Fault Refusal :=
  engineRow s t (fun s => segmentFrameLaunch port s)

/-- COG_ACTION: At a cog's action instant its action is performed: fast-output edge, ADC start, capture trigger, Hopper flag, setpoint step or group start. (R74) -/
def execCogAction (t : Nat) (cog : Nat) (s : State) : Host.Outcome State Fault Refusal :=
  engineRow s t (fun s => cogActionAt cog s)

/-- PTP_SYNC_RECEIVE: A Sync message updates the domain servo and its state towards ACQUIRING or LOCKED, slewing or stepping the domain. (R65) -/
def execPtpSyncReceive (t : Nat) (port : Nat) (domain : Nat) (offset : Int) (pathDelay : Int) (gm : PtpRx) (s : State) : Host.Outcome State Fault Refusal :=
  eventRow s t (fun s => s.ethOther port gm.frame (.ptpSync domain offset pathDelay gm.values))

/-- PTP_MESSAGE_RECEIVE: Another PTP message (Announce, delay, management) is handled by the domain's role, BMCA or counted if management. (R63) -/
def execPtpMessageReceive (t : Nat) (port : Nat) (domain : Nat) (mtype : Nat) (data : PtpRx) (s : State) : Host.Outcome State Fault Refusal :=
  eventRow s t (fun s => s.ethOther port data.frame (.ptp domain mtype data.values))

/-- PTP_SYNC_TIMEOUT: A LOCKED domain receives no Sync for 3 intervals and enters HOLDOVER. (R65) -/
def execPtpSyncTimeout (t : Nat) (domain : Nat) (s : State) : Host.Outcome State Fault Refusal :=
  eventRow s t (fun s => ptpSyncTimeout domain s)

/-- PTP_SYNC_SEND: A grandmaster or boundary-clock domain sends Sync at its logSyncInterval. (R63) -/
def execPtpSyncSend (t : Nat) (port : Nat) (domain : Nat) (s : State) : Host.Outcome State Fault Refusal :=
  engineRow s t (fun s => ptpSyncSend port domain s)

/-- PTP_DELAY_REQUEST_SEND: A domain sends its path-delay request: Delay_Req end-to-end, or Pdelay_Req peer-to-peer. (R63) -/
def execPtpDelayRequestSend (t : Nat) (port : Nat) (domain : Nat) (s : State) : Host.Outcome State Fault Refusal :=
  engineRow s t (fun s => ptpDelayRequestSend port domain s)

end Sys2Proof.Machine
end

