-- ==== Sys2Proof/Machine/Dispatch.lean ====
section
/-! DEFINITION. Dispatch: one arm per command of the table, each a direct call of its meaning. -/

namespace Sys2Proof.Machine

/-- The effect of one command on everything but the queue of waiting commands. -/
def exec (i : Instr) (s : State) : Host.Outcome State Fault Refusal :=
  match i with
  | .logicRegulationReached t strapMode strapPair => Sys2Proof.Machine.execLogicRegulationReached t strapMode strapPair s
  | .bootRomDone b => Sys2Proof.Machine.execBootRomDone b s
  | .slotVerifyDone t code => Sys2Proof.Machine.execSlotVerifyDone t code s
  | .loadDone t code => Sys2Proof.Machine.execLoadDone t code s
  | .holdupCharged t => Sys2Proof.Machine.execHoldupCharged t s
  | .holdupChargeTimeout t => Sys2Proof.Machine.execHoldupChargeTimeout t s
  | .faultHaltEntry t code detail => Sys2Proof.Machine.execFaultHaltEntry t code detail s
  | .eccError t array double unit item => Sys2Proof.Machine.execEccError t array double unit item s
  | .fabricFault t => Sys2Proof.Machine.execFabricFault t s
  | .runtimeWatchdog t => Sys2Proof.Machine.execRuntimeWatchdog t s
  | .baseplateOvertemp t => Sys2Proof.Machine.execBaseplateOvertemp t s
  | .powerFail t mv => Sys2Proof.Machine.execPowerFail t mv s
  | .powerFailFinalCommit t => Sys2Proof.Machine.execPowerFailFinalCommit t s
  | .powerRestored t strapMode strapPair => Sys2Proof.Machine.execPowerRestored t strapMode strapPair s
  | .resetPin t => Sys2Proof.Machine.execResetPin t s
  | .groupCycleStart t seg grp => Sys2Proof.Machine.execGroupCycleStart t seg grp s
  | .nodeDrop t seg node => Sys2Proof.Machine.execNodeDrop t seg node s
  | .groupCommit t seg grp => Sys2Proof.Machine.execGroupCommit t seg grp s
  | .groupOutputLaunch t seg grp => Sys2Proof.Machine.execGroupOutputLaunch t seg grp s
  | .writeThroughDurable t => Sys2Proof.Machine.execWriteThroughDurable t s
  | .journalSettle t => Sys2Proof.Machine.execJournalSettle t s
  | .encoderSample t enc sn cs illegal => Sys2Proof.Machine.execEncoderSample t enc sn cs illegal s
  | .ssiRead t enc word checkOk => Sys2Proof.Machine.execSsiRead t enc word checkOk s
  | .indexCapture t race count => Sys2Proof.Machine.execIndexCapture t race count s
  | .raceHoldoverExpiry t race => Sys2Proof.Machine.execRaceHoldoverExpiry t race s
  | .segmentFit t race ts => Sys2Proof.Machine.execSegmentFit t race ts s
  | .segmentFrameLaunch t port => Sys2Proof.Machine.execSegmentFrameLaunch t port s
  | .remoteSegmentReceive t port rx => Sys2Proof.Machine.execRemoteSegmentReceive t port rx s
  | .cogAction t cog => Sys2Proof.Machine.execCogAction t cog s
  | .groupPacingTimeout t seg grp => Sys2Proof.Machine.execGroupPacingTimeout t seg grp s
  | .bankCatchupDone t kind unit => Sys2Proof.Machine.execBankCatchupDone t kind unit s
  | .ptpSyncReceive t port domain offset pathDelay gm => Sys2Proof.Machine.execPtpSyncReceive t port domain offset pathDelay gm s
  | .ptpMessageReceive t port domain mtype data => Sys2Proof.Machine.execPtpMessageReceive t port domain mtype data s
  | .ptpSyncTimeout t domain => Sys2Proof.Machine.execPtpSyncTimeout t domain s
  | .ptpSyncSend t port domain => Sys2Proof.Machine.execPtpSyncSend t port domain s
  | .inputFrameReceive t port src payload => Sys2Proof.Machine.execInputFrameReceive t port src payload s
  | .helloReceive t port src payload => Sys2Proof.Machine.execHelloReceive t port src payload s
  | .bindAckReceive t port src payload => Sys2Proof.Machine.execBindAckReceive t port src payload s
  | .bindRetry t seg node => Sys2Proof.Machine.execBindRetry t seg node s
  | .pageRspReceive t port src payload => Sys2Proof.Machine.execPageRspReceive t port src payload s
  | .pageReqRetry t seg node => Sys2Proof.Machine.execPageReqRetry t seg node s
  | .pagedSweep t seg => Sys2Proof.Machine.execPagedSweep t seg s
  | .nodeReleaseTimeout t seg node => Sys2Proof.Machine.execNodeReleaseTimeout t seg node s
  | .portLinkLoss t port => Sys2Proof.Machine.execPortLinkLoss t port s
  | .opticsPresenceChange t port absent identified => Sys2Proof.Machine.execOpticsPresenceChange t port absent identified s
  | .oczonInvalidFrame t port src payload => Sys2Proof.Machine.execOczonInvalidFrame t port src payload s
  | .lldpSend t port => Sys2Proof.Machine.execLldpSend t port s
  | .lldpReceive t port chassis portId => Sys2Proof.Machine.execLldpReceive t port chassis portId s
  | .pairHeartbeatSend t => Sys2Proof.Machine.execPairHeartbeatSend t s
  | .pairHeartbeatReceive t src payload => Sys2Proof.Machine.execPairHeartbeatReceive t src payload s
  | .redLinkHeartbeatSend t => Sys2Proof.Machine.execRedLinkHeartbeatSend t s
  | .redLinkHeartbeatReceive t hb => Sys2Proof.Machine.execRedLinkHeartbeatReceive t hb s
  | .redPathSilence t path => Sys2Proof.Machine.execRedPathSilence t path s
  | .pairWaitExpiry t => Sys2Proof.Machine.execPairWaitExpiry t s
  | .redDeltaReceive t kind key cycle ok last data => Sys2Proof.Machine.execRedDeltaReceive t kind key cycle ok last data s
  | .redFullCopyDone t => Sys2Proof.Machine.execRedFullCopyDone t s
  | .redPlannedSwitchInstant t => Sys2Proof.Machine.execRedPlannedSwitchInstant t s
  | .redRevertHoldExpiry t => Sys2Proof.Machine.execRedRevertHoldExpiry t s
  | .loopFrame t late => Sys2Proof.Machine.execLoopFrame t late s
  | .fantailResultDue t task => Sys2Proof.Machine.execFantailResultDue t task s
  | .fantailEqUpdate t task enc => Sys2Proof.Machine.execFantailEqUpdate t task enc s
  | .fantailHeadroomUpdate t task => Sys2Proof.Machine.execFantailHeadroomUpdate t task s
  | .fantailPlaceRecord t task => Sys2Proof.Machine.execFantailPlaceRecord t task s
  | .evFtFrozen t task => Sys2Proof.Machine.execEvFtFrozen t task s
  | .motionUpdate t late => Sys2Proof.Machine.execMotionUpdate t late s
  | .driveLinkUpstream t link framed frame => Sys2Proof.Machine.execDriveLinkUpstream t link framed frame s
  | .axisHoldDelayExpiry t axis => Sys2Proof.Machine.execAxisHoldDelayExpiry t axis s
  | .axisQuickStopRequest t axis => Sys2Proof.Machine.execAxisQuickStopRequest t axis s
  | .timerTick t timer => Sys2Proof.Machine.execTimerTick t timer s
  | .pwmPeriodStart t pwm => Sys2Proof.Machine.execPwmPeriodStart t pwm s
  | .adcEntryEnd t seq codes => Sys2Proof.Machine.execAdcEntryEnd t seq codes s
  | .vrefCheck t code => Sys2Proof.Machine.execVrefCheck t code s
  | .vrefSettled t => Sys2Proof.Machine.execVrefSettled t s
  | .clUpdate t ch raw vterm vsup temp => Sys2Proof.Machine.execClUpdate t ch raw vterm vsup temp s
  | .clFaultClass t ch => Sys2Proof.Machine.execClFaultClass t ch s
  | .clComplianceDetect t ch => Sys2Proof.Machine.execClComplianceDetect t ch s
  | .clCmdTimeout t ch => Sys2Proof.Machine.execClCmdTimeout t ch s
  | .clFrontendWatchdog t => Sys2Proof.Machine.execClFrontendWatchdog t s
  | .almselSample t high => Sys2Proof.Machine.execAlmselSample t high s
  | .clModeChangeDone t ch => Sys2Proof.Machine.execClModeChangeDone t ch s
  | .calButtonHeld t zero span => Sys2Proof.Machine.execCalButtonHeld t zero span s
  | .calAveragingDone t ch => Sys2Proof.Machine.execCalAveragingDone t ch s
  | .dioSample t levels => Sys2Proof.Machine.execDioSample t levels s
  | .dioOverload t ch => Sys2Proof.Machine.execDioOverload t ch s
  | .dioAutoRestart t ch => Sys2Proof.Machine.execDioAutoRestart t ch s
  | .fieldLow t => Sys2Proof.Machine.execFieldLow t s
  | .fieldRestored t => Sys2Proof.Machine.execFieldRestored t s
  | .captureSample t unit => Sys2Proof.Machine.execCaptureSample t unit s
  | .captureGroupTrigger t unit => Sys2Proof.Machine.execCaptureGroupTrigger t unit s
  | .spindleWindowRun t prog => Sys2Proof.Machine.execSpindleWindowRun t prog s
  | .tailraceFlushTimeout t ch => Sys2Proof.Machine.execTailraceFlushTimeout t ch s
  | .tailraceSpill t ch => Sys2Proof.Machine.execTailraceSpill t ch s
  | .tailraceDrainDone t ch => Sys2Proof.Machine.execTailraceDrainDone t ch s
  | .logRecordDurable t => Sys2Proof.Machine.execLogRecordDurable t s
  | .logFreezeExpiry t => Sys2Proof.Machine.execLogFreezeExpiry t s
  | .logRateSecond t => Sys2Proof.Machine.execLogRateSecond t s
  | .logicRunStart t engine => Sys2Proof.Machine.execLogicRunStart t engine s
  | .leNop engine opnd => Sys2Proof.Machine.execLeNop engine opnd s
  | .leLd engine opnd => Sys2Proof.Machine.execLeLd engine opnd s
  | .leLdn engine opnd => Sys2Proof.Machine.execLeLdn engine opnd s
  | .leAnd engine opnd => Sys2Proof.Machine.execLeAnd engine opnd s
  | .leAndn engine opnd => Sys2Proof.Machine.execLeAndn engine opnd s
  | .leOr engine opnd => Sys2Proof.Machine.execLeOr engine opnd s
  | .leOrn engine opnd => Sys2Proof.Machine.execLeOrn engine opnd s
  | .leXor engine opnd => Sys2Proof.Machine.execLeXor engine opnd s
  | .leXorn engine opnd => Sys2Proof.Machine.execLeXorn engine opnd s
  | .leNot engine opnd => Sys2Proof.Machine.execLeNot engine opnd s
  | .leLdt engine opnd => Sys2Proof.Machine.execLeLdt engine opnd s
  | .lePsha engine opnd => Sys2Proof.Machine.execLePsha engine opnd s
  | .lePsho engine opnd => Sys2Proof.Machine.execLePsho engine opnd s
  | .lePshx engine opnd => Sys2Proof.Machine.execLePshx engine opnd s
  | .lePop engine opnd => Sys2Proof.Machine.execLePop engine opnd s
  | .leSt engine opnd => Sys2Proof.Machine.execLeSt engine opnd s
  | .leStn engine opnd => Sys2Proof.Machine.execLeStn engine opnd s
  | .leSet engine opnd => Sys2Proof.Machine.execLeSet engine opnd s
  | .leRst engine opnd => Sys2Proof.Machine.execLeRst engine opnd s
  | .leFp engine opnd => Sys2Proof.Machine.execLeFp engine opnd s
  | .leFn engine opnd => Sys2Proof.Machine.execLeFn engine opnd s
  | .leTon engine opnd => Sys2Proof.Machine.execLeTon engine opnd s
  | .leTof engine opnd => Sys2Proof.Machine.execLeTof engine opnd s
  | .leTp engine opnd => Sys2Proof.Machine.execLeTp engine opnd s
  | .leTpt engine opnd => Sys2Proof.Machine.execLeTpt engine opnd s
  | .leTrst engine opnd => Sys2Proof.Machine.execLeTrst engine opnd s
  | .leCtu engine opnd => Sys2Proof.Machine.execLeCtu engine opnd s
  | .leCtd engine opnd => Sys2Proof.Machine.execLeCtd engine opnd s
  | .leCres engine opnd => Sys2Proof.Machine.execLeCres engine opnd s
  | .leCld engine opnd => Sys2Proof.Machine.execLeCld engine opnd s
  | .leCpv engine opnd => Sys2Proof.Machine.execLeCpv engine opnd s
  | .leL engine opnd => Sys2Proof.Machine.execLeL engine opnd s
  | .leT engine opnd => Sys2Proof.Machine.execLeT engine opnd s
  | .leTc engine opnd => Sys2Proof.Machine.execLeTc engine opnd s
  | .leLi engine opnd => Sys2Proof.Machine.execLeLi engine opnd s
  | .leLih engine opnd => Sys2Proof.Machine.execLeLih engine opnd s
  | .leAdd engine opnd => Sys2Proof.Machine.execLeAdd engine opnd s
  | .leSub engine opnd => Sys2Proof.Machine.execLeSub engine opnd s
  | .leMul engine opnd => Sys2Proof.Machine.execLeMul engine opnd s
  | .leDiv engine opnd => Sys2Proof.Machine.execLeDiv engine opnd s
  | .leMod engine opnd => Sys2Proof.Machine.execLeMod engine opnd s
  | .leNeg engine opnd => Sys2Proof.Machine.execLeNeg engine opnd s
  | .leAbs engine opnd => Sys2Proof.Machine.execLeAbs engine opnd s
  | .leWand engine opnd => Sys2Proof.Machine.execLeWand engine opnd s
  | .leWor engine opnd => Sys2Proof.Machine.execLeWor engine opnd s
  | .leWxor engine opnd => Sys2Proof.Machine.execLeWxor engine opnd s
  | .leShl engine opnd => Sys2Proof.Machine.execLeShl engine opnd s
  | .leShr engine opnd => Sys2Proof.Machine.execLeShr engine opnd s
  | .leAsr engine opnd => Sys2Proof.Machine.execLeAsr engine opnd s
  | .leCeq engine opnd => Sys2Proof.Machine.execLeCeq engine opnd s
  | .leCne engine opnd => Sys2Proof.Machine.execLeCne engine opnd s
  | .leCgt engine opnd => Sys2Proof.Machine.execLeCgt engine opnd s
  | .leCge engine opnd => Sys2Proof.Machine.execLeCge engine opnd s
  | .leClt engine opnd => Sys2Proof.Machine.execLeClt engine opnd s
  | .leCle engine opnd => Sys2Proof.Machine.execLeCle engine opnd s
  | .leFadd engine opnd => Sys2Proof.Machine.execLeFadd engine opnd s
  | .leFsub engine opnd => Sys2Proof.Machine.execLeFsub engine opnd s
  | .leFmul engine opnd => Sys2Proof.Machine.execLeFmul engine opnd s
  | .leFdiv engine opnd => Sys2Proof.Machine.execLeFdiv engine opnd s
  | .leItof engine opnd => Sys2Proof.Machine.execLeItof engine opnd s
  | .leFtoi engine opnd => Sys2Proof.Machine.execLeFtoi engine opnd s
  | .leFclt engine opnd => Sys2Proof.Machine.execLeFclt engine opnd s
  | .leFcgt engine opnd => Sys2Proof.Machine.execLeFcgt engine opnd s
  | .leJmp engine opnd => Sys2Proof.Machine.execLeJmp engine opnd s
  | .leJc engine opnd => Sys2Proof.Machine.execLeJc engine opnd s
  | .leJnc engine opnd => Sys2Proof.Machine.execLeJnc engine opnd s
  | .leCall engine opnd => Sys2Proof.Machine.execLeCall engine opnd s
  | .leRet engine opnd => Sys2Proof.Machine.execLeRet engine opnd s
  | .leEnd engine opnd => Sys2Proof.Machine.execLeEnd engine opnd s
  | .leHflag engine opnd => Sys2Proof.Machine.execLeHflag engine opnd s
  | .leEvt engine opnd => Sys2Proof.Machine.execLeEvt engine opnd s
  | .spinNop prog opnd => Sys2Proof.Machine.execSpinNop prog opnd s
  | .spinAdd prog opnd => Sys2Proof.Machine.execSpinAdd prog opnd s
  | .spinSub prog opnd => Sys2Proof.Machine.execSpinSub prog opnd s
  | .spinAnd prog opnd => Sys2Proof.Machine.execSpinAnd prog opnd s
  | .spinOr prog opnd => Sys2Proof.Machine.execSpinOr prog opnd s
  | .spinXor prog opnd => Sys2Proof.Machine.execSpinXor prog opnd s
  | .spinShl prog opnd => Sys2Proof.Machine.execSpinShl prog opnd s
  | .spinShr prog opnd => Sys2Proof.Machine.execSpinShr prog opnd s
  | .spinAsr prog opnd => Sys2Proof.Machine.execSpinAsr prog opnd s
  | .spinMul prog opnd => Sys2Proof.Machine.execSpinMul prog opnd s
  | .spinMin prog opnd => Sys2Proof.Machine.execSpinMin prog opnd s
  | .spinMax prog opnd => Sys2Proof.Machine.execSpinMax prog opnd s
  | .spinMinu prog opnd => Sys2Proof.Machine.execSpinMinu prog opnd s
  | .spinMaxu prog opnd => Sys2Proof.Machine.execSpinMaxu prog opnd s
  | .spinAbs prog opnd => Sys2Proof.Machine.execSpinAbs prog opnd s
  | .spinAddi prog opnd => Sys2Proof.Machine.execSpinAddi prog opnd s
  | .spinAndi prog opnd => Sys2Proof.Machine.execSpinAndi prog opnd s
  | .spinOri prog opnd => Sys2Proof.Machine.execSpinOri prog opnd s
  | .spinXori prog opnd => Sys2Proof.Machine.execSpinXori prog opnd s
  | .spinShli prog opnd => Sys2Proof.Machine.execSpinShli prog opnd s
  | .spinShri prog opnd => Sys2Proof.Machine.execSpinShri prog opnd s
  | .spinAsri prog opnd => Sys2Proof.Machine.execSpinAsri prog opnd s
  | .spinLi prog opnd => Sys2Proof.Machine.execSpinLi prog opnd s
  | .spinLui prog opnd => Sys2Proof.Machine.execSpinLui prog opnd s
  | .spinLdb prog opnd => Sys2Proof.Machine.execSpinLdb prog opnd s
  | .spinLdh prog opnd => Sys2Proof.Machine.execSpinLdh prog opnd s
  | .spinLdw prog opnd => Sys2Proof.Machine.execSpinLdw prog opnd s
  | .spinLdhl prog opnd => Sys2Proof.Machine.execSpinLdhl prog opnd s
  | .spinLdwl prog opnd => Sys2Proof.Machine.execSpinLdwl prog opnd s
  | .spinLdhls prog opnd => Sys2Proof.Machine.execSpinLdhls prog opnd s
  | .spinBeq prog opnd => Sys2Proof.Machine.execSpinBeq prog opnd s
  | .spinBne prog opnd => Sys2Proof.Machine.execSpinBne prog opnd s
  | .spinBlt prog opnd => Sys2Proof.Machine.execSpinBlt prog opnd s
  | .spinBge prog opnd => Sys2Proof.Machine.execSpinBge prog opnd s
  | .spinBltu prog opnd => Sys2Proof.Machine.execSpinBltu prog opnd s
  | .spinBgeu prog opnd => Sys2Proof.Machine.execSpinBgeu prog opnd s
  | .spinBeqi prog opnd => Sys2Proof.Machine.execSpinBeqi prog opnd s
  | .spinBnei prog opnd => Sys2Proof.Machine.execSpinBnei prog opnd s
  | .spinBlti prog opnd => Sys2Proof.Machine.execSpinBlti prog opnd s
  | .spinBgei prog opnd => Sys2Proof.Machine.execSpinBgei prog opnd s
  | .spinCnt prog opnd => Sys2Proof.Machine.execSpinCnt prog opnd s
  | .spinExit prog opnd => Sys2Proof.Machine.execSpinExit prog opnd s
  | .canFrameReceive t port sof frame => Sys2Proof.Machine.execCanFrameReceive t port sof frame s
  | .canFrameAcknowledged t port sof => Sys2Proof.Machine.execCanFrameAcknowledged t port sof s
  | .canArbitrationLost t port => Sys2Proof.Machine.execCanArbitrationLost t port s
  | .canTxError t port ackError => Sys2Proof.Machine.execCanTxError t port ackError s
  | .canRecoveryComplete t port => Sys2Proof.Machine.execCanRecoveryComplete t port s
  | .canRateDetectDwell t port => Sys2Proof.Machine.execCanRateDetectDwell t port s
  | .safetyCycle t inp => Sys2Proof.Machine.execSafetyCycle t inp s
  | .safetyDiscrepancyCount t pair => Sys2Proof.Machine.execSafetyDiscrepancyCount t pair s
  | .evSafeResetLong t src => Sys2Proof.Machine.execEvSafeResetLong t src s
  | .safetyStopDelayExpiry t fn => Sys2Proof.Machine.execSafetyStopDelayExpiry t fn s
  | .nalatWatchdogExpiry t conn => Sys2Proof.Machine.execNalatWatchdogExpiry t conn s
  | .safetySelfTestDone t channel ok => Sys2Proof.Machine.execSafetySelfTestDone t channel ok s
  | .hopperDeal t => Sys2Proof.Machine.execHopperDeal t s
  | .extRunEnd t core => Sys2Proof.Machine.execExtRunEnd t core s
  | .extBudgetOverrun t core => Sys2Proof.Machine.execExtBudgetOverrun t core s
  | .extFault t core cause addr => Sys2Proof.Machine.execExtFault t core cause addr s
  | .extCallPointRead t core addr => Sys2Proof.Machine.execExtCallPointRead t core addr s
  | .extCallPointWrite t core addr value => Sys2Proof.Machine.execExtCallPointWrite t core addr value s
  | .extCallFlagSet t core task flags => Sys2Proof.Machine.execExtCallFlagSet t core task flags s
  | .extCallRaise t core src => Sys2Proof.Machine.execExtCallRaise t core src s
  | .extCallLmt t core => Sys2Proof.Machine.execExtCallLmt t core s
  | .ecClaim t core => Sys2Proof.Machine.execEcClaim t core s
  | .ecComplete t core src => Sys2Proof.Machine.execEcComplete t core src s
  | .ecRaise t core w => Sys2Proof.Machine.execEcRaise t core w s
  | .ecOverrunsRead t r => Sys2Proof.Machine.execEcOverrunsRead t r s
  | .ecSourceEdge t inp => Sys2Proof.Machine.execEcSourceEdge t inp s
  | .sweep t block descs ok => Sys2Proof.Machine.execSweep t block descs ok s
  | .descriptorFetch t ring desc ok => Sys2Proof.Machine.execDescriptorFetch t ring desc ok s
  | .hostHeartbeatTimeout t => Sys2Proof.Machine.execHostHeartbeatTimeout t s
  | .msixModerationTimeout t vec => Sys2Proof.Machine.execMsixModerationTimeout t vec s
  | .msixUnmask t vec => Sys2Proof.Machine.execMsixUnmask t vec s
  | .functionReset t cause => Sys2Proof.Machine.execFunctionReset t cause s
  | .powerStateChange t pst pmeEn pmeClr => Sys2Proof.Machine.execPowerStateChange t pst pmeEn pmeClr s
  | .busMasterEnableChange t on => Sys2Proof.Machine.execBusMasterEnableChange t on s
  | .pmeRepeat t => Sys2Proof.Machine.execPmeRepeat t s
  | .hostLinkTrained t rate width => Sys2Proof.Machine.execHostLinkTrained t rate width s
  | .lmtLoRead t => Sys2Proof.Machine.execLmtLoRead t s
  | .adminEnSet t => Sys2Proof.Machine.execAdminEnSet t s
  | .adminEnClear t => Sys2Proof.Machine.execAdminEnClear t s
  | .quiesce t on => Sys2Proof.Machine.execQuiesce t on s
  | .sulockLock t => Sys2Proof.Machine.execSulockLock t s
  | .registerWrite t ofs w => Sys2Proof.Machine.execRegisterWrite t ofs w s
  | .nop h => Sys2Proof.Machine.execNop h s
  | .ringCreate h => Sys2Proof.Machine.execRingCreate h s
  | .ringModify h => Sys2Proof.Machine.execRingModify h s
  | .ringDelete h => Sys2Proof.Machine.execRingDelete h s
  | .abort h => Sys2Proof.Machine.execAbort h s
  | .sysInfo h => Sys2Proof.Machine.execSysInfo h s
  | .cfgLoad h => Sys2Proof.Machine.execCfgLoad h s
  | .cfgCheck h => Sys2Proof.Machine.execCfgCheck h s
  | .cfgAdmit h => Sys2Proof.Machine.execCfgAdmit h s
  | .cfgRecord h => Sys2Proof.Machine.execCfgRecord h s
  | .cfgRead h => Sys2Proof.Machine.execCfgRead h s
  | .unitDisable h => Sys2Proof.Machine.execUnitDisable h s
  | .unitEnable h => Sys2Proof.Machine.execUnitEnable h s
  | .sluiceRead h => Sys2Proof.Machine.execSluiceRead h s
  | .raceVmSet h => Sys2Proof.Machine.execRaceVmSet h s
  | .raceTimeSet h => Sys2Proof.Machine.execRaceTimeSet h s
  | .raceReference h => Sys2Proof.Machine.execRaceReference h s
  | .racePreset h => Sys2Proof.Machine.execRacePreset h s
  | .raceConfirm h => Sys2Proof.Machine.execRaceConfirm h s
  | .cogArm h => Sys2Proof.Machine.execCogArm h s
  | .cogDisarm h => Sys2Proof.Machine.execCogDisarm h s
  | .placeRead h => Sys2Proof.Machine.execPlaceRead h s
  | .placeWrite h => Sys2Proof.Machine.execPlaceWrite h s
  | .placeSeal h => Sys2Proof.Machine.execPlaceSeal h s
  | .pointRead h => Sys2Proof.Machine.execPointRead h s
  | .pointWrite h => Sys2Proof.Machine.execPointWrite h s
  | .pointMeta h => Sys2Proof.Machine.execPointMeta h s
  | .nodeRead h => Sys2Proof.Machine.execNodeRead h s
  | .loopMode h => Sys2Proof.Machine.execLoopMode h s
  | .loopTrim h => Sys2Proof.Machine.execLoopTrim h s
  | .loopCoefWrite h => Sys2Proof.Machine.execLoopCoefWrite h s
  | .loopCoefSeal h => Sys2Proof.Machine.execLoopCoefSeal h s
  | .loopReadState h => Sys2Proof.Machine.execLoopReadState h s
  | .ftStart h => Sys2Proof.Machine.execFtStart h s
  | .ftStop h => Sys2Proof.Machine.execFtStop h s
  | .ftTune h => Sys2Proof.Machine.execFtTune h s
  | .ftAccept h => Sys2Proof.Machine.execFtAccept h s
  | .ftPlaceErr h => Sys2Proof.Machine.execFtPlaceErr h s
  | .ftStatus h => Sys2Proof.Machine.execFtStatus h s
  | .axisEnable h => Sys2Proof.Machine.execAxisEnable h s
  | .axisDisable h => Sys2Proof.Machine.execAxisDisable h s
  | .axisGoto h => Sys2Proof.Machine.execAxisGoto h s
  | .axisQueue h => Sys2Proof.Machine.execAxisQueue h s
  | .axisStop h => Sys2Proof.Machine.execAxisStop h s
  | .axisHome h => Sys2Proof.Machine.execAxisHome h s
  | .axisSetPos h => Sys2Proof.Machine.execAxisSetPos h s
  | .axisLimits h => Sys2Proof.Machine.execAxisLimits h s
  | .axisClearFault h => Sys2Proof.Machine.execAxisClearFault h s
  | .axisTableWrite h => Sys2Proof.Machine.execAxisTableWrite h s
  | .axisTableSeal h => Sys2Proof.Machine.execAxisTableSeal h s
  | .adcStart h => Sys2Proof.Machine.execAdcStart h s
  | .anaVref h => Sys2Proof.Machine.execAnaVref h s
  | .clZeroSpan h => Sys2Proof.Machine.execClZeroSpan h s
  | .clCalCapture h => Sys2Proof.Machine.execClCalCapture h s
  | .dioReset h => Sys2Proof.Machine.execDioReset h s
  | .capArm h => Sys2Proof.Machine.execCapArm h s
  | .capDisarm h => Sys2Proof.Machine.execCapDisarm h s
  | .capTrigger h => Sys2Proof.Machine.execCapTrigger h s
  | .capRead h => Sys2Proof.Machine.execCapRead h s
  | .capRelease h => Sys2Proof.Machine.execCapRelease h s
  | .trStart h => Sys2Proof.Machine.execTrStart h s
  | .trStop h => Sys2Proof.Machine.execTrStop h s
  | .trFlush h => Sys2Proof.Machine.execTrFlush h s
  | .logRead h => Sys2Proof.Machine.execLogRead h s
  | .logClear h => Sys2Proof.Machine.execLogClear h s
  | .logCatalogue h => Sys2Proof.Machine.execLogCatalogue h s
  | .recFreeze h => Sys2Proof.Machine.execRecFreeze h s
  | .recThaw h => Sys2Proof.Machine.execRecThaw h s
  | .logicLoad h => Sys2Proof.Machine.execLogicLoad h s
  | .logicSeal h => Sys2Proof.Machine.execLogicSeal h s
  | .logicMode h => Sys2Proof.Machine.execLogicMode h s
  | .logicStep h => Sys2Proof.Machine.execLogicStep h s
  | .logicBreak h => Sys2Proof.Machine.execLogicBreak h s
  | .logicForce h => Sys2Proof.Machine.execLogicForce h s
  | .logicUnforce h => Sys2Proof.Machine.execLogicUnforce h s
  | .logicForceClear h => Sys2Proof.Machine.execLogicForceClear h s
  | .logicForceList h => Sys2Proof.Machine.execLogicForceList h s
  | .logicReadState h => Sys2Proof.Machine.execLogicReadState h s
  | .spinLoad h => Sys2Proof.Machine.execSpinLoad h s
  | .spinSeal h => Sys2Proof.Machine.execSpinSeal h s
  | .spinReadState h => Sys2Proof.Machine.execSpinReadState h s
  | .canSend h => Sys2Proof.Machine.execCanSend h s
  | .canRecover h => Sys2Proof.Machine.execCanRecover h s
  | .canRateDetect h => Sys2Proof.Machine.execCanRateDetect h s
  | .canRingRead h => Sys2Proof.Machine.execCanRingRead h s
  | .safeStatus h => Sys2Proof.Machine.execSafeStatus h s
  | .safeDiagRead h => Sys2Proof.Machine.execSafeDiagRead h s
  | .safeConfigStage h => Sys2Proof.Machine.execSafeConfigStage h s
  | .safeConfigAccept h => Sys2Proof.Machine.execSafeConfigAccept h s
  | .safeConnRestart h => Sys2Proof.Machine.execSafeConnRestart h s
  | .redStatus h => Sys2Proof.Machine.execRedStatus h s
  | .redSwitch h => Sys2Proof.Machine.execRedSwitch h s
  | .redRevertInhibit h => Sys2Proof.Machine.execRedRevertInhibit h s
  | .updStage h => Sys2Proof.Machine.execUpdStage h s
  | .updArm h => Sys2Proof.Machine.execUpdArm h s
  | .updCancel h => Sys2Proof.Machine.execUpdCancel h s
  | .updCommit h => Sys2Proof.Machine.execUpdCommit h s
  | .updStatus h => Sys2Proof.Machine.execUpdStatus h s
  | .updActivation t => Sys2Proof.Machine.execUpdActivation t s
  | .updRestartDone t => Sys2Proof.Machine.execUpdRestartDone t s
  | .hopFlag h => Sys2Proof.Machine.execHopFlag h s
  | .hopCancel h => Sys2Proof.Machine.execHopCancel h s
  | .hopTraceRead h => Sys2Proof.Machine.execHopTraceRead h s
  | .extLoad h => Sys2Proof.Machine.execExtLoad h s
  | .extStart h => Sys2Proof.Machine.execExtStart h s
  | .extStop h => Sys2Proof.Machine.execExtStop h s
  | .hopReadState h => Sys2Proof.Machine.execHopReadState h s
  | .resetRelease t strapMode strapPair => Sys2Proof.Machine.execResetRelease t strapMode strapPair s
  | .perstDeassertion t => Sys2Proof.Machine.execPerstDeassertion t s
  | .fieldPortLinkUp t port => Sys2Proof.Machine.execFieldPortLinkUp t port s
  | .canReceiveError t port e => Sys2Proof.Machine.execCanReceiveError t port e s
  | .canBusIntegration t port => Sys2Proof.Machine.execCanBusIntegration t port s
  | .updStageDurable t ok => Sys2Proof.Machine.execUpdStageDurable t ok s
  | .updPreloadDone t => Sys2Proof.Machine.execUpdPreloadDone t s
  | .ptpDelayRequestSend t port domain => Sys2Proof.Machine.execPtpDelayRequestSend t port domain s
  | .siStandardSample t levels => Sys2Proof.Machine.execSiStandardSample t levels s
  | .maintLinkChange t port up => Sys2Proof.Machine.execMaintLinkChange t port up s

end Sys2Proof.Machine
end

