-- ==== Sys2Proof/Machine/Outputs.lean ====
section
/-! DEFINITION. What the connectors and indicators show of a state: supply and LED pins, the five indicators, terminal states (R499, R516, R519 to R521). -/

namespace Sys2Proof.Machine

/-- PWR_OK: LOGIC in regulation and no power fail declared (R499). -/
def State.pwrOk (s : State) : Bool := s.sys.powered && s.sys.pfail == .ok

/-- HOLDUP_RDY: the store holds 2.5 J or more (R499). -/
def State.holdupRdy (s : State) : Bool := s.sys.holdupOk

/-- M1_LED and M2_LED: high while the port has link (R516). -/
def State.maintLed (s : State) (port : Nat) : Bool := s.sys.clocksOn && s.sys.mLink.getD port false

/-- LED_FORCE: high while the force table is not empty (R516). -/
def State.ledForce (s : State) : Bool := s.sys.clocksOn && !s.img.forces.isEmpty

/-- LED_FAULT: high in FAULT_HALT and in SAFETY_HALT (R516). -/
def State.ledFault (s : State) : Bool := s.sys.clocksOn && (s.sys.st == .faultHalt || s.safe.layer == .halt)

/-- LED_ACTIVE: high while the module is single or ACTIVE and HSTAT is RUNNING (R516). -/
def State.ledActive (s : State) : Bool := s.sys.clocksOn && s.drives && s.sys.st == .running

/-- Colour of an indicator; blinking is at 2 Hz (R520). -/
inductive Lamp where
  | off | green | amber | amberBlink | red
  deriving DecidableEq, Repr

def State.lampPwr (s : State) : Lamp := if s.pwrOk then .green else if s.sys.clocksOn then .amber else .off

/-- STAT: RUNNING, start, test mode or recovery start, FAULT_HALT. -/
def State.lampStat (s : State) : Lamp :=
  if !s.sys.clocksOn then .off
  else if s.sys.st == .faultHalt then .red
  else if s.sys.startMode != 0 then .amber
  else if s.sys.st == .running then .green
  else .amberBlink

def State.lampForce (s : State) : Lamp := if s.ledForce then .amber else .off

/-- SAFE: every configured function in RUN on both channels. -/
def State.lampSafe (s : State) : Lamp :=
  if !s.sys.variantS || !s.sys.clocksOn then .off
  else if s.safe.layer == .halt then .red
  else if s.safe.layer == .running && (s.safe.a.fns ++ s.safe.b.fns).all (fun e => e.2.st == FnState.run) then .green
  else .amber

/-- PAIR; a module that waits for its partner shows SYNCING, as its PAIR point reads (log 244). -/
def State.lampPair (s : State) : Lamp := if !s.sys.clocksOn then .off else match s.red.role with
  | .single => .off
  | .active => .green
  | .standby => .amber
  | .syncing => .amberBlink
  | .blocked => .red
  | .starting => .amberBlink

/-- The field outputs are driven: admitted and in force, running or about to, not in FAULT_HALT nor past step 4 of a power fail, and not a standby's. -/
def State.fieldOn (s : State) : Bool :=
  s.sys.clocksOn && s.cfg.inForce && s.sys.st != .faultHalt && s.sys.pfail != .stopped && s.drives

/-- A fast output's terminal: none is high-impedance (R521). -/
def State.foTerminal (s : State) (o : Nat) : Option Bool := if s.fieldOn && !(s.fo o).hiZ then some (s.fo o).level else none

/-- What a terminal of a current-loop channel does: nothing, its transmitter supply in mV, the loop current in or out in uA, or the return at AGND (R508). -/
inductive LoopPin where
  | hiZ | supply (mV : Int) | loopIn | loopOut (uA : Int) | atAgnd
  deriving DecidableEq, Repr

/-- Terminals S, P and M of a current-loop channel by its MODE (R508, R521). -/
def State.clTerminals (s : State) (n : Nat) : LoopPin × LoopPin × LoopPin :=
  let c := s.cl n
  if !s.sys.powered && !s.sys.clocksOn then (.hiZ, .hiZ, .hiZ)
  else if c.mode = 1 then (.hiZ, .loopIn, .atAgnd)
  else if c.mode = 2 then (.supply c.supply, .loopIn, .atAgnd)
  else if c.mode = 3 then (.hiZ, .loopOut c.drive, .atAgnd)
  else (.hiZ, .hiZ, .hiZ)

/-- A digital output's terminal (R521). -/
def State.dioTerminal (s : State) (n : Nat) : Bool := s.fieldOn && (s.dio n).on

/-- Level of a PWM generator at count `c` of its period: high for the first `on` counts, or for `on` counts about the middle (R225). -/
def pwmLevel (mode period on c : Nat) : Bool :=
  let from' := if mode = 2 then (period - on) / 2 else 0
  decide (from' ≤ c ∧ c < from' + on)

/-- A PWM output's terminal: none is high-impedance, LOGIC being absent; IDLE_LEVEL while off; low where the field is not driven (R224, R225, R521). -/
def State.pwmTerminal (s : State) (n : Nat) : Option Bool :=
  let b := s.pwmRec n
  let p := s.pwm n
  if !s.sys.clocksOn then none
  else some (s.fieldOn && !s.ana.fieldLow && (s.rec? 0x11 n).isSome
    && (if byteAt b 1 = 0 then byteAt b 2 == 1 else p.live && pwmLevel (byteAt b 1) (le b 8 4) p.on ((s.lmt - p.startAt) / 10)))

/-- What a CAN port does on its bus: recessive, listen-only, or normal (R345, R521). -/
inductive CanLine where
  | recessive | listen | normal
  deriving DecidableEq, Repr

/-- A CAN port's line. -/
def State.canLine (s : State) (port : Nat) : CanLine :=
  let c := s.can port
  if !s.sys.clocksOn || !s.cfg.inForce || s.sys.st == .faultHalt || s.sys.pfail == .stopped || c.st == .off then .recessive
  else if c.listen then .listen else .normal

/-- The CAN termination of a port: FLAGS[5], in a pair on unit 0 only (R329, R524). -/
def State.canTerminated (s : State) (port : Nat) : Bool :=
  (s.rec? 0x18 port).isSome && canFlag (s.canRec port) 5 && (!s.paired || s.sys.pairUnit == 0)

/-- The 120 ohm termination of the encoder inputs: on for unit 0 and for an unpaired module (R514). -/
def State.encTerminated (s : State) : Bool := !s.paired || s.sys.pairUnit == 0

/-- The module drives the SSI clock of an input: ACTIVE or single, its configuration in force (R514, R521, R523). -/
def State.ssiClockOut (s : State) (e : Nat) : Bool := s.fieldOn && (s.rec? 0x01 e).isSome && encMode (s.encRec e) == 3

/-- ENC_5V: on from BOOT until the clocks stop (R514). -/
def State.enc5v (s : State) : Bool := s.sys.clocksOn

/-- A test-pulse output's terminal in the present safety cycle: high where it is enabled and not in its pulse; a -N module holds it de-energised (R2,
R354, R521). FIELD feeds it. -/
def State.tpTerminal (s : State) (n : Nat) : Bool :=
  s.sys.variantS && s.sys.clocksOn && s.cfg.inForce && s.sys.st != .faultHalt && s.sys.pfail == .ok && s.safe.layer == .running && !s.ana.fieldLow
    && (tpPhase s.safe.recs (s.safe.cyc - 1) n).any (fun k => decide (2 ≤ k))

/-- A safety output is energised only if both channels command it on; a -N module holds it de-energised (R2, R357, R521). -/
def State.soTerminal (s : State) (o : Nat) : Bool :=
  let x := s.safe.outs.getD o {}
  s.sys.variantS && s.sys.clocksOn && s.sys.st != .faultHalt && s.sys.pfail == .ok && x.aOn && x.bOn

/-- Downstream line of a drive link (R521). -/
inductive DriveLine where
  | hiZ | idle | frames (active : Bool)
  deriving DecidableEq, Repr

def State.driveLine (s : State) : DriveLine :=
  if !s.sys.clocksOn then .hiZ
  else if s.cfg.inForce && s.sys.st != .faultHalt && s.sys.pfail != .stopped then .frames s.drives
  else .idle

/-- TXDIS of a field port (R504, R521). -/
def State.txdisPin (s : State) (port : Nat) : Bool := !s.sys.clocksOn || (s.port port).txdis

/-- WAKE# (R420, R521): asserted only before step 6 of a power fail. -/
def State.wakePin (s : State) : Bool := s.sys.clocksOn && s.host.wakeOut

end Sys2Proof.Machine
end

