-- ==== Sys2Proof/WellFormed.lean ====
section
/-! DEFINITION. Well-formed commands: every operand names a unit, port, segment or field value the spec has, and fits its width. -/

namespace Sys2Proof

/-- A descriptor: its ring exists (R402), at most 48 parameter bytes (R410), a tag of its own, and buffer contents only where BUF names a buffer (R410). -/
def CmdHdr.wf (h : CmdHdr) : Bool := decide (h.ring < 64) && decide (h.params.length ≤ 48) && (h.buf || h.data.isEmpty)

/-- Data lengths of a frame: up to 8 bytes, or an FD length (R328, R333). -/
def canLengths (fd : Bool) (n : Nat) : Bool := decide (n ≤ 8) || (fd && [12, 16, 20, 24, 32, 48, 64].contains n)

/-- A CAN frame: identifier within its width, no remote FD frame, BRS and ESI only in FD (R328, R333). -/
def CanFrame.wf (f : CanFrame) : Bool :=
  decide (f.id < if f.ext then 2 ^ 29 else 2 ^ 11) && !(f.fd && f.rtr) && (f.fd || (!f.brs && !f.esi)) && canLengths f.fd f.data.length && (!f.rtr || f.data.isEmpty)

/-- A heartbeat: role and health codes of R383, an epoch of 8 bits, unit 0 or 1, a MAC of 48 bits. -/
def Heartbeat.wf (h : Heartbeat) : Bool :=
  decide (h.role ≤ 4) && decide (h.health ≤ 2) && decide (h.epoch < 256) && decide (h.unit < 2) && decide (h.upd ≤ 4) && decide (h.mac < 2 ^ 48)

/-- Safety samples: SI0 to SI23, TP0 to TP3, SO0 to SO7 (R349) and encoder inputs that exist. -/
def SafeIn.wf (x : SafeIn) : Bool :=
  decide (x.siA < 2 ^ 24) && decide (x.siB < 2 ^ 24) && x.encA.all (fun e => decide (e.1 < 20)) && x.encB.all (fun e => decide (e.1 < 20))
  && decide (x.tpA < 16) && decide (x.tpB < 16) && decide (x.soA < 65536) && decide (x.soB < 65536)

/-- Every operand of the command is one the spec has. -/
def Instr.wf (i : Instr) : Bool :=
  match i with
  | .logicRegulationReached _ strapMode _ => decide (strapMode < 3)
  | .bootRomDone b => decide (b.warmAt ≤ b.t)
  | .slotVerifyDone _ code => decide (code ≤ 8)
  | .loadDone _ code => decide (code = 0 ∨ code = 8 ∨ code = 9)
  | .holdupCharged _ => true
  | .holdupChargeTimeout _ => true
  | .faultHaltEntry _ code detail => decide (code < 65536) && decide (detail < 65536)
  | .eccError _ array _ unit _ => decide (array < 7) && decide (unit < 65536)
  | .fabricFault _ => true
  | .runtimeWatchdog _ => true
  | .baseplateOvertemp _ => true
  | .powerFail _ mv => decide (mv < 65536)
  | .powerFailFinalCommit _ => true
  | .powerRestored _ strapMode _ => decide (strapMode < 3)
  | .resetPin _ => true
  | .groupCycleStart _ seg grp => decide (seg ≤ 8) && decide (grp < 8)
  | .nodeDrop _ seg node => decide (1 ≤ seg ∧ seg ≤ 4) && decide (node < 1024)
  | .groupCommit _ seg grp => decide (seg ≤ 8) && decide (grp < 8)
  | .groupOutputLaunch _ seg grp => decide (seg ≤ 8) && decide (grp < 8)
  | .writeThroughDurable _ => true
  | .journalSettle _ => true
  | .encoderSample _ enc sn cs _ => decide (enc < 20) && decide (-32768 ≤ sn ∧ sn ≤ 32767) && decide (-32768 ≤ cs ∧ cs ≤ 32767)
  | .ssiRead _ enc word _ => decide (enc < 20) && decide (word < 2 ^ 40)
  | .indexCapture _ race _ => decide (race < 8)
  | .raceHoldoverExpiry _ race => decide (race < 8)
  | .segmentFit _ race _ => decide (race < 8)
  | .segmentFrameLaunch _ port => decide (1 ≤ port ∧ port ≤ 4)
  | .remoteSegmentReceive _ port rx => decide (1 ≤ port ∧ port ≤ 4) && decide (rx.src < 2 ^ 48) && decide (rx.payload.length ≤ 1500)
  | .cogAction _ cog => decide (cog < 4096)
  | .groupPacingTimeout _ seg grp => decide (seg ≤ 8) && decide (grp < 8)
  | .bankCatchupDone _ kind unit => decide (kind ≤ 4) && decide (unit < 16)
  | .ptpSyncReceive _ port domain _ _ gm => decide (1 ≤ port ∧ port ≤ 4) && decide (domain < 4) && decide (gm.frame.length ≤ 1518)
  | .ptpMessageReceive _ port domain mtype data =>
    decide (1 ≤ port ∧ port ≤ 4) && decide (domain < 4) && decide (mtype < 16) && decide (data.frame.length ≤ 1518)
  | .ptpSyncTimeout _ domain => decide (domain < 4)
  | .ptpSyncSend _ port domain => decide (1 ≤ port ∧ port ≤ 4) && decide (domain < 4)
  | .inputFrameReceive _ port src payload => decide (1 ≤ port ∧ port ≤ 4) && decide (src < 2 ^ 48) && decide (payload.length ≤ 1500)
  | .helloReceive _ port src payload => decide (1 ≤ port ∧ port ≤ 4) && decide (src < 2 ^ 48) && decide (payload.length ≤ 1500)
  | .bindAckReceive _ port src payload => decide (1 ≤ port ∧ port ≤ 4) && decide (src < 2 ^ 48) && decide (payload.length ≤ 1500)
  | .bindRetry _ seg node => decide (1 ≤ seg ∧ seg ≤ 4) && decide (node < 1024)
  | .pageRspReceive _ port src payload => decide (1 ≤ port ∧ port ≤ 4) && decide (src < 2 ^ 48) && decide (payload.length ≤ 1500)
  | .pageReqRetry _ seg node => decide (1 ≤ seg ∧ seg ≤ 4) && decide (node < 1024)
  | .pagedSweep _ seg => decide (1 ≤ seg ∧ seg ≤ 4)
  | .nodeReleaseTimeout _ seg node => decide (1 ≤ seg ∧ seg ≤ 4) && decide (node < 1024)
  | .portLinkLoss _ port => decide (1 ≤ port ∧ port ≤ 4)
  | .opticsPresenceChange _ port _ _ => decide (1 ≤ port ∧ port ≤ 4)
  | .oczonInvalidFrame _ port src payload => decide (1 ≤ port ∧ port ≤ 4) && decide (src < 2 ^ 48) && decide (payload.length ≤ 1500)
  | .lldpSend _ port => decide (1 ≤ port ∧ port ≤ 4)
  | .lldpReceive _ port chassis portId => decide (portId.frame.length ≤ 1518) &&
    decide (1 ≤ port ∧ port ≤ 4) && decide (chassis.sub < 256) && decide (chassis.num < 2 ^ 48) && decide (portId.sub < 256) && decide (portId.text.length ≤ 255)
  | .pairHeartbeatSend _ => true
  | .pairHeartbeatReceive _ src payload => decide (src < 2 ^ 48) && decide (payload.length ≤ 1500)
  | .redLinkHeartbeatSend _ => true
  | .redLinkHeartbeatReceive _ hb => hb.wf
  | .redPathSilence _ path => decide (path < 2)
  | .pairWaitExpiry _ => true
  | .redDeltaReceive _ kind _ _ _ _ data => decide (kind ≤ 4) && data.units.all (fun u => decide (u.1 < 65536))
  | .redFullCopyDone _ => true
  | .redPlannedSwitchInstant _ => true
  | .redRevertHoldExpiry _ => true
  | .loopFrame _ _ => true
  | .fantailResultDue _ task => decide (task < 3072)
  | .fantailEqUpdate _ task enc => decide (task < 3072) && decide (enc < 4)
  | .fantailHeadroomUpdate _ task => decide (task < 3072)
  | .fantailPlaceRecord _ task => decide (task < 3072)
  | .evFtFrozen _ task => decide (task < 3072)
  | .motionUpdate _ _ => true
  | .driveLinkUpstream _ link _ frame => decide (link < 8) && decide (frame.length ≤ 256)
  | .axisHoldDelayExpiry _ axis => decide (axis < 64)
  | .axisQuickStopRequest _ axis => decide (axis < 64)
  | .timerTick _ timer => decide (timer < 8)
  | .pwmPeriodStart _ pwm => decide (pwm < 16)
  | .adcEntryEnd _ seq _ => decide (seq < 4)
  | .vrefCheck _ _ => true
  | .vrefSettled _ => true
  | .clUpdate _ ch raw _ _ _ => decide (ch < 32) && decide (-2147483648 ≤ raw ∧ raw ≤ 2147483647)
  | .clFaultClass _ ch => decide (ch < 32)
  | .clComplianceDetect _ ch => decide (ch < 32)
  | .clCmdTimeout _ ch => decide (ch < 32)
  | .clFrontendWatchdog _ => true
  | .almselSample _ _ => true
  | .clModeChangeDone _ ch => decide (ch < 32)
  | .calButtonHeld _ _ _ => true
  | .calAveragingDone _ ch => decide (ch < 32)
  | .dioSample _ levels => decide (levels < 2 ^ 64)
  | .dioOverload _ ch => decide (ch < 64)
  | .dioAutoRestart _ ch => decide (ch < 64)
  | .fieldLow _ => true
  | .fieldRestored _ => true
  | .captureSample _ unit => decide (unit < 16)
  | .captureGroupTrigger _ unit => decide (unit < 16)
  | .spindleWindowRun _ prog => decide (prog < 40)
  | .tailraceFlushTimeout _ ch => decide (ch < 16)
  | .tailraceSpill _ ch => decide (ch < 16)
  | .tailraceDrainDone _ ch => decide (ch < 16)
  | .logRecordDurable _ => true
  | .logFreezeExpiry _ => true
  | .logRateSecond _ => true
  | .logicRunStart _ engine => decide (engine < 8)
  | .leNop engine opnd => decide (engine < 8) && decide (opnd < 16777216)
  | .leLd engine opnd => decide (engine < 8) && decide (opnd < 16777216)
  | .leLdn engine opnd => decide (engine < 8) && decide (opnd < 16777216)
  | .leAnd engine opnd => decide (engine < 8) && decide (opnd < 16777216)
  | .leAndn engine opnd => decide (engine < 8) && decide (opnd < 16777216)
  | .leOr engine opnd => decide (engine < 8) && decide (opnd < 16777216)
  | .leOrn engine opnd => decide (engine < 8) && decide (opnd < 16777216)
  | .leXor engine opnd => decide (engine < 8) && decide (opnd < 16777216)
  | .leXorn engine opnd => decide (engine < 8) && decide (opnd < 16777216)
  | .leNot engine opnd => decide (engine < 8) && decide (opnd < 16777216)
  | .leLdt engine opnd => decide (engine < 8) && decide (opnd < 16777216)
  | .lePsha engine opnd => decide (engine < 8) && decide (opnd < 16777216)
  | .lePsho engine opnd => decide (engine < 8) && decide (opnd < 16777216)
  | .lePshx engine opnd => decide (engine < 8) && decide (opnd < 16777216)
  | .lePop engine opnd => decide (engine < 8) && decide (opnd < 16777216)
  | .leSt engine opnd => decide (engine < 8) && decide (opnd < 16777216)
  | .leStn engine opnd => decide (engine < 8) && decide (opnd < 16777216)
  | .leSet engine opnd => decide (engine < 8) && decide (opnd < 16777216)
  | .leRst engine opnd => decide (engine < 8) && decide (opnd < 16777216)
  | .leFp engine opnd => decide (engine < 8) && decide (opnd < 16777216)
  | .leFn engine opnd => decide (engine < 8) && decide (opnd < 16777216)
  | .leTon engine opnd => decide (engine < 8) && decide (opnd < 16777216)
  | .leTof engine opnd => decide (engine < 8) && decide (opnd < 16777216)
  | .leTp engine opnd => decide (engine < 8) && decide (opnd < 16777216)
  | .leTpt engine opnd => decide (engine < 8) && decide (opnd < 16777216)
  | .leTrst engine opnd => decide (engine < 8) && decide (opnd < 16777216)
  | .leCtu engine opnd => decide (engine < 8) && decide (opnd < 16777216)
  | .leCtd engine opnd => decide (engine < 8) && decide (opnd < 16777216)
  | .leCres engine opnd => decide (engine < 8) && decide (opnd < 16777216)
  | .leCld engine opnd => decide (engine < 8) && decide (opnd < 16777216)
  | .leCpv engine opnd => decide (engine < 8) && decide (opnd < 16777216)
  | .leL engine opnd => decide (engine < 8) && decide (opnd < 16777216)
  | .leT engine opnd => decide (engine < 8) && decide (opnd < 16777216)
  | .leTc engine opnd => decide (engine < 8) && decide (opnd < 16777216)
  | .leLi engine opnd => decide (engine < 8) && decide (opnd < 16777216)
  | .leLih engine opnd => decide (engine < 8) && decide (opnd < 16777216)
  | .leAdd engine opnd => decide (engine < 8) && decide (opnd < 16777216)
  | .leSub engine opnd => decide (engine < 8) && decide (opnd < 16777216)
  | .leMul engine opnd => decide (engine < 8) && decide (opnd < 16777216)
  | .leDiv engine opnd => decide (engine < 8) && decide (opnd < 16777216)
  | .leMod engine opnd => decide (engine < 8) && decide (opnd < 16777216)
  | .leNeg engine opnd => decide (engine < 8) && decide (opnd < 16777216)
  | .leAbs engine opnd => decide (engine < 8) && decide (opnd < 16777216)
  | .leWand engine opnd => decide (engine < 8) && decide (opnd < 16777216)
  | .leWor engine opnd => decide (engine < 8) && decide (opnd < 16777216)
  | .leWxor engine opnd => decide (engine < 8) && decide (opnd < 16777216)
  | .leShl engine opnd => decide (engine < 8) && decide (opnd < 16777216)
  | .leShr engine opnd => decide (engine < 8) && decide (opnd < 16777216)
  | .leAsr engine opnd => decide (engine < 8) && decide (opnd < 16777216)
  | .leCeq engine opnd => decide (engine < 8) && decide (opnd < 16777216)
  | .leCne engine opnd => decide (engine < 8) && decide (opnd < 16777216)
  | .leCgt engine opnd => decide (engine < 8) && decide (opnd < 16777216)
  | .leCge engine opnd => decide (engine < 8) && decide (opnd < 16777216)
  | .leClt engine opnd => decide (engine < 8) && decide (opnd < 16777216)
  | .leCle engine opnd => decide (engine < 8) && decide (opnd < 16777216)
  | .leFadd engine opnd => decide (engine < 8) && decide (opnd < 16777216)
  | .leFsub engine opnd => decide (engine < 8) && decide (opnd < 16777216)
  | .leFmul engine opnd => decide (engine < 8) && decide (opnd < 16777216)
  | .leFdiv engine opnd => decide (engine < 8) && decide (opnd < 16777216)
  | .leItof engine opnd => decide (engine < 8) && decide (opnd < 16777216)
  | .leFtoi engine opnd => decide (engine < 8) && decide (opnd < 16777216)
  | .leFclt engine opnd => decide (engine < 8) && decide (opnd < 16777216)
  | .leFcgt engine opnd => decide (engine < 8) && decide (opnd < 16777216)
  | .leJmp engine opnd => decide (engine < 8) && decide (opnd < 16777216)
  | .leJc engine opnd => decide (engine < 8) && decide (opnd < 16777216)
  | .leJnc engine opnd => decide (engine < 8) && decide (opnd < 16777216)
  | .leCall engine opnd => decide (engine < 8) && decide (opnd < 16777216)
  | .leRet engine opnd => decide (engine < 8) && decide (opnd < 16777216)
  | .leEnd engine opnd => decide (engine < 8) && decide (opnd < 16777216)
  | .leHflag engine opnd => decide (engine < 8) && decide (opnd < 16777216)
  | .leEvt engine opnd => decide (engine < 8) && decide (opnd < 16777216)
  | .spinNop prog opnd => decide (prog < 40) && decide (opnd < 67108864)
  | .spinAdd prog opnd => decide (prog < 40) && decide (opnd < 67108864)
  | .spinSub prog opnd => decide (prog < 40) && decide (opnd < 67108864)
  | .spinAnd prog opnd => decide (prog < 40) && decide (opnd < 67108864)
  | .spinOr prog opnd => decide (prog < 40) && decide (opnd < 67108864)
  | .spinXor prog opnd => decide (prog < 40) && decide (opnd < 67108864)
  | .spinShl prog opnd => decide (prog < 40) && decide (opnd < 67108864)
  | .spinShr prog opnd => decide (prog < 40) && decide (opnd < 67108864)
  | .spinAsr prog opnd => decide (prog < 40) && decide (opnd < 67108864)
  | .spinMul prog opnd => decide (prog < 40) && decide (opnd < 67108864)
  | .spinMin prog opnd => decide (prog < 40) && decide (opnd < 67108864)
  | .spinMax prog opnd => decide (prog < 40) && decide (opnd < 67108864)
  | .spinMinu prog opnd => decide (prog < 40) && decide (opnd < 67108864)
  | .spinMaxu prog opnd => decide (prog < 40) && decide (opnd < 67108864)
  | .spinAbs prog opnd => decide (prog < 40) && decide (opnd < 67108864)
  | .spinAddi prog opnd => decide (prog < 40) && decide (opnd < 67108864)
  | .spinAndi prog opnd => decide (prog < 40) && decide (opnd < 67108864)
  | .spinOri prog opnd => decide (prog < 40) && decide (opnd < 67108864)
  | .spinXori prog opnd => decide (prog < 40) && decide (opnd < 67108864)
  | .spinShli prog opnd => decide (prog < 40) && decide (opnd < 67108864)
  | .spinShri prog opnd => decide (prog < 40) && decide (opnd < 67108864)
  | .spinAsri prog opnd => decide (prog < 40) && decide (opnd < 67108864)
  | .spinLi prog opnd => decide (prog < 40) && decide (opnd < 67108864)
  | .spinLui prog opnd => decide (prog < 40) && decide (opnd < 67108864)
  | .spinLdb prog opnd => decide (prog < 40) && decide (opnd < 67108864)
  | .spinLdh prog opnd => decide (prog < 40) && decide (opnd < 67108864)
  | .spinLdw prog opnd => decide (prog < 40) && decide (opnd < 67108864)
  | .spinLdhl prog opnd => decide (prog < 40) && decide (opnd < 67108864)
  | .spinLdwl prog opnd => decide (prog < 40) && decide (opnd < 67108864)
  | .spinLdhls prog opnd => decide (prog < 40) && decide (opnd < 67108864)
  | .spinBeq prog opnd => decide (prog < 40) && decide (opnd < 67108864)
  | .spinBne prog opnd => decide (prog < 40) && decide (opnd < 67108864)
  | .spinBlt prog opnd => decide (prog < 40) && decide (opnd < 67108864)
  | .spinBge prog opnd => decide (prog < 40) && decide (opnd < 67108864)
  | .spinBltu prog opnd => decide (prog < 40) && decide (opnd < 67108864)
  | .spinBgeu prog opnd => decide (prog < 40) && decide (opnd < 67108864)
  | .spinBeqi prog opnd => decide (prog < 40) && decide (opnd < 67108864)
  | .spinBnei prog opnd => decide (prog < 40) && decide (opnd < 67108864)
  | .spinBlti prog opnd => decide (prog < 40) && decide (opnd < 67108864)
  | .spinBgei prog opnd => decide (prog < 40) && decide (opnd < 67108864)
  | .spinCnt prog opnd => decide (prog < 40) && decide (opnd < 67108864)
  | .spinExit prog opnd => decide (prog < 40) && decide (opnd < 67108864)
  | .canFrameReceive _ port _ frame => decide (port < 4) && frame.wf
  | .canFrameAcknowledged _ port _ => decide (port < 4)
  | .canArbitrationLost _ port => decide (port < 4)
  | .canTxError _ port _ => decide (port < 4)
  | .canRecoveryComplete _ port => decide (port < 4)
  | .canRateDetectDwell _ port => decide (port < 4)
  | .safetyCycle _ inp => inp.wf
  | .safetyDiscrepancyCount _ pair => decide (pair < 12)
  | .evSafeResetLong _ src => decide (src < 32)
  | .safetyStopDelayExpiry _ fn => decide (fn < 128)
  | .nalatWatchdogExpiry _ conn => decide (conn < 256)
  | .safetySelfTestDone _ channel _ => decide (channel < 2)
  | .hopperDeal t => t % 100 == 0
  | .extRunEnd _ core => decide (4 ≤ core ∧ core ≤ 7)
  | .extBudgetOverrun _ core => decide (4 ≤ core ∧ core ≤ 7)
  | .extFault _ core cause addr => decide (4 ≤ core ∧ core ≤ 7) && decide (cause < 4294967296) && decide (addr < 4294967296)
  | .extCallPointRead _ core addr => decide (4 ≤ core ∧ core ≤ 7) && decide (addr < 4294967296)
  | .extCallPointWrite _ core addr _ => decide (4 ≤ core ∧ core ≤ 7) && decide (addr < 4294967296)
  | .extCallFlagSet _ core task _ => decide (4 ≤ core ∧ core ≤ 7) && decide (task < 1024)
  | .extCallRaise _ core src => decide (4 ≤ core ∧ core ≤ 7) && decide (src < 512)
  | .extCallLmt _ core => decide (4 ≤ core ∧ core ≤ 7)
  | .ecClaim _ core => decide (core < 8)
  | .ecComplete _ core src => decide (core < 8) && decide (1 ≤ src ∧ src ≤ 511)
  | .ecRaise _ core w => decide (core < 8) && (w.ofs == 0 || w.ofs == 0x0C) && decide (w.val < 2 ^ 32)
  | .ecOverrunsRead _ r => decide (r.core < 8) && (r.ofs == 0 || r.ofs == 0x08 || r.ofs == 0x0C || r.ofs == 0x10)
  | .ecSourceEdge _ inp => decide (1 ≤ inp.src ∧ inp.src ≤ 511)
  | .sweep _ block descs _ => decide (block.length ≤ 640) && descs.all (fun d => decide (d.1 < 16 ∧ d.2.length ≤ 32))
  | .descriptorFetch _ ring desc _ => decide (ring < 64) && decide (desc.length ≤ 64)
  | .hostHeartbeatTimeout _ => true
  | .msixModerationTimeout _ vec => decide (vec < 128)
  | .msixUnmask _ vec => vec.all (fun v => decide (v < 128))
  | .functionReset _ cause => decide (cause < 4294967296)
  | .powerStateChange _ pst _ _ => decide (pst < 3)
  | .busMasterEnableChange _ _ => true
  | .pmeRepeat _ => true
  | .hostLinkTrained _ _ _ => true
  | .lmtLoRead _ => true
  | .adminEnSet _ => true
  | .adminEnClear _ => true
  | .quiesce _ _ => true
  | .sulockLock _ => true
  | .registerWrite _ ofs w => decide (ofs < 65536) && decide (w.size = 1 ∨ w.size = 2 ∨ w.size = 4 ∨ w.size = 8)
  | .nop h => h.wf
  | .ringCreate h => h.wf
  | .ringModify h => h.wf
  | .ringDelete h => h.wf
  | .abort h => h.wf
  | .sysInfo h => h.wf
  | .cfgLoad h => h.wf
  | .cfgCheck h => h.wf
  | .cfgAdmit h => h.wf
  | .cfgRecord h => h.wf
  | .cfgRead h => h.wf
  | .unitDisable h => h.wf
  | .unitEnable h => h.wf
  | .sluiceRead h => h.wf
  | .raceVmSet h => h.wf
  | .raceTimeSet h => h.wf
  | .raceReference h => h.wf
  | .racePreset h => h.wf
  | .raceConfirm h => h.wf
  | .cogArm h => h.wf
  | .cogDisarm h => h.wf
  | .placeRead h => h.wf
  | .placeWrite h => h.wf
  | .placeSeal h => h.wf
  | .pointRead h => h.wf
  | .pointWrite h => h.wf
  | .pointMeta h => h.wf
  | .nodeRead h => h.wf
  | .loopMode h => h.wf
  | .loopTrim h => h.wf
  | .loopCoefWrite h => h.wf
  | .loopCoefSeal h => h.wf
  | .loopReadState h => h.wf
  | .ftStart h => h.wf
  | .ftStop h => h.wf
  | .ftTune h => h.wf
  | .ftAccept h => h.wf
  | .ftPlaceErr h => h.wf
  | .ftStatus h => h.wf
  | .axisEnable h => h.wf
  | .axisDisable h => h.wf
  | .axisGoto h => h.wf
  | .axisQueue h => h.wf
  | .axisStop h => h.wf
  | .axisHome h => h.wf
  | .axisSetPos h => h.wf
  | .axisLimits h => h.wf
  | .axisClearFault h => h.wf
  | .axisTableWrite h => h.wf
  | .axisTableSeal h => h.wf
  | .adcStart h => h.wf
  | .anaVref h => h.wf
  | .clZeroSpan h => h.wf
  | .clCalCapture h => h.wf
  | .dioReset h => h.wf
  | .capArm h => h.wf
  | .capDisarm h => h.wf
  | .capTrigger h => h.wf
  | .capRead h => h.wf
  | .capRelease h => h.wf
  | .trStart h => h.wf
  | .trStop h => h.wf
  | .trFlush h => h.wf
  | .logRead h => h.wf
  | .logClear h => h.wf
  | .logCatalogue h => h.wf
  | .recFreeze h => h.wf
  | .recThaw h => h.wf
  | .logicLoad h => h.wf
  | .logicSeal h => h.wf
  | .logicMode h => h.wf
  | .logicStep h => h.wf
  | .logicBreak h => h.wf
  | .logicForce h => h.wf
  | .logicUnforce h => h.wf
  | .logicForceClear h => h.wf
  | .logicForceList h => h.wf
  | .logicReadState h => h.wf
  | .spinLoad h => h.wf
  | .spinSeal h => h.wf
  | .spinReadState h => h.wf
  | .canSend h => h.wf
  | .canRecover h => h.wf
  | .canRateDetect h => h.wf
  | .canRingRead h => h.wf
  | .safeStatus h => h.wf
  | .safeDiagRead h => h.wf
  | .safeConfigStage h => h.wf
  | .safeConfigAccept h => h.wf
  | .safeConnRestart h => h.wf
  | .redStatus h => h.wf
  | .redSwitch h => h.wf
  | .redRevertInhibit h => h.wf
  | .updStage h => h.wf
  | .updArm h => h.wf
  | .updCancel h => h.wf
  | .updCommit h => h.wf
  | .updStatus h => h.wf
  | .updActivation _ => true
  | .updRestartDone _ => true
  | .hopFlag h => h.wf
  | .hopCancel h => h.wf
  | .hopTraceRead h => h.wf
  | .extLoad h => h.wf
  | .extStart h => h.wf
  | .extStop h => h.wf
  | .hopReadState h => h.wf
  | .resetRelease _ strapMode _ => decide (strapMode < 3)
  | .perstDeassertion _ => true
  | .fieldPortLinkUp _ port => decide (1 ≤ port ∧ port ≤ 4)
  | .canReceiveError _ port _ => decide (port < 4)
  | .canBusIntegration _ port => decide (port < 4)
  | .updStageDurable _ _ => true
  | .updPreloadDone _ => true
  | .ptpDelayRequestSend _ port domain => decide (1 ≤ port ∧ port ≤ 4) && decide (domain < 4)
  | .siStandardSample _ levels => decide (levels < 2 ^ 24)
  | .maintLinkChange _ port _ => decide (port < 2)

end Sys2Proof
end

