-- ==== Sys2Proof/Safety.lean ====
section
/-! DEFINITION. What a sound state and a sound run are, in the terms claims use. -/

namespace Sys2Proof.Machine

/-- The point image's memories are in canonical form: slot values, paged values and paged qualities (R14, R27, R36). -/
def Memory.wf (s : State) : Bool :=
  SMap.sorted s.img.front && SMap.sorted s.img.back && SMap.wf (0 : W32) s.img.paged && SMap.wf 4 s.img.pqual

/-- Moves of HSTAT.STATE that the table of R469 lists, and staying where it is. -/
def HState.mayMove (x y : HState) : Bool :=
  x == y || y == .boot || (x == .boot && y == .verify) || (x == .verify && (y == .load || y == .faultHalt)) || (x == .load && (y == .ready || y == .faultHalt))
  || (x == .ready && (y == .running || y == .faultHalt)) || (x == .running && y == .faultHalt)

/-- In FAULT_HALT a module of a pair is BLOCKED (R384, R472). -/
def State.haltBlocked (s : State) : Bool := s.sys.st != .faultHalt || s.red.role == .single || s.red.role == .blocked

/-- A source that a core's CLAIM may return: pending, unclaimed, targeted at the core, above its threshold (R459, R460). -/
def State.delivers (s : State) (core n : Nat) : Prop :=
  ∃ x, (n, x) ∈ s.hop.sources ∧ x.pending = true ∧ x.claimed = none ∧ s.srcTarget n core = true ∧ (s.hop.cores.getD core {}).threshold < s.srcPrio n

/-- What follows the effect `u` of every row on a state `s`: units follow a change of role (R391), then windows, disables, ring deletions and commands held
by FENCE that have come due (R324, R410, R418, R432). -/
def State.follow (s u : State) : State := (u.roleChange s).afterStep

/-- Nothing waits to follow an effect: nothing is in flight, no spindle program is loaded, no engine has still to swap. -/
def State.still (s : State) : Bool := s.flights.isEmpty && s.spins.isEmpty && s.sys.swapLeft.isEmpty

/-- The open run of engine `n` is `r`, its next instruction word is `op` with operand bits `opnd`, and it executes: no hold, no step count, no breakpoint
(R283, R297, R298). -/
def State.opens (s : State) (n op opnd : Nat) (r : Run) : Prop :=
  s.sys.clocksOn = true ∧ s.sys.st ≠ .faultHalt ∧ (s.eng n).run = some r ∧ opnd < 16777216 ∧ leWord r.code r.pc = op * 16777216 + opnd
  ∧ (s.eng n).mode ≠ .hold ∧ (s.eng n).stepLeft = 0 ∧ (s.eng n).breaks = [] ∧ (s.eng n).resume = false ∧ r.ended = false

/-- The run has stored the point slot that the operand names (R291). -/
def Run.stored (r : Run) (m n opnd : Nat) : Bool := match lePoint m n r.code opnd with
  | some (a, _) => (r.writes.get? a).isSome
  | none => false

/-- The run at its next instruction, with the engine cycles of the one at hand (R289, R291). -/
def Run.moved (r : Run) (m n op opnd : Nat) : Run := { r with pc := r.pc + 1, cycles := r.cycles + leCost op opnd (r.stored m n opnd) }

/-- Engine `n` with its run at `r`. -/
def State.putRun (s : State) (n : Nat) (e : Engine) (r : Run) : State := s.setEng n { e with run := some r }

/-- Program `n` has window `w` in progress and its next instruction word is `op` with the low bits `opnd` (R312, R314). -/
def State.executes (s : State) (n op opnd : Nat) (w : SpinWin) : Prop :=
  s.sys.clocksOn = true ∧ s.sys.st ≠ .faultHalt ∧ (s.spin n).window = some w ∧ s.spinAt n op opnd = true

/-- Program `n` goes on at `pc` with state `p`, one instruction further (R312, R325). -/
def State.goesOn (s : State) (n : Nat) (p : Spin) (pc : Nat) : State := s.setSpin n { p with pc := pc, steps := (s.spin n).steps + 1 }

/-- The bit and the word that an operand names for engine `n` in a run (R284). -/
def State.bitAt (s : State) (n : Nat) (m : Run) (opnd : Nat) : Bool := leBit s.sys.modNo n (s.eng n) m opnd
def State.wordAt (s : State) (n : Nat) (m : Run) (opnd : Nat) : W32 := leLoad s.sys.modNo n (s.eng n) m opnd

/-- The timer that an operand names, made ready for the run's time (R287, R306), and the counter. -/
def State.timerAt (s : State) (n : Nat) (m : Run) (opnd : Nat) : Timer := ((s.eng n).timers.getD (oIndex opnd) {}).ready m.tRun
def State.counterAt (s : State) (n opnd : Nat) : Counter := (s.eng n).counters.getD (oIndex opnd) {}

/-- Engine `n` with the timer or counter that an operand names at `x`. -/
def State.withTimer (s : State) (n opnd : Nat) (x : Timer) : Engine := { s.eng n with timers := (s.eng n).timers.set (oIndex opnd) x }
def State.withCounter (s : State) (n opnd : Nat) (x : Counter) : Engine := { s.eng n with counters := (s.eng n).counters.set (oIndex opnd) x }

/-- Row `i` of opcode `op` makes `e` of the engine and the run, the run's next address and cycles counted: it completes on every engine whose open run
stands at its word. -/
def LeDoes (i : Nat → Nat → Instr) (op : Nat) (e : State → Nat → Nat → Run → Engine × Run) : Prop :=
  ∀ n opnd s r, s.opens n op opnd r →
    let x := e s n opnd (r.moved s.sys.modNo n op opnd)
    exec (i n opnd) s = .next (s.follow (s.putRun n x.1 x.2))

/-- Row `i` of opcode `op` makes `f` of the program's registers and goes on at `next`, or exits at LENGTH: it completes on every program that has a window in
progress and stands at its word. -/
def SpinDoes (i : Nat → Nat → Instr) (op : Nat) (f : Nat → Nat → SpinWin → Spin → Spin) (next : Nat → Spin → Nat) : Prop :=
  ∀ n opnd s w, s.executes n op opnd w →
    let u := s.goesOn n (f n opnd w (s.spin n)) (next opnd (s.spin n))
    exec (i n opnd) s = .next (s.follow (if spinLen (s.spin n).prog.fg ≤ next opnd (s.spin n) then u.spinExit n else u))

/-- The command of a descriptor can start: it can be fetched (R404, R408, R409), no command in flight has its TAG (R411), no FENCE holds it (R410), its
reserved fields are zero (R410, R426), an admin command comes on ring 0 (R410), and neither FAULT_HALT nor the module's mode nor its role refuses its
subsystem (R394, R411, R470). -/
def State.accepts (s : State) (op : Nat) (h : CmdHdr) : Bool :=
  let s1 := s.take h
  s.canTake h && !s1.flights.any (fun f => f.is h.ring h.tag && !f.orphan) && !s1.fenced h && (s1.sys.st != .faultHalt || okInFaultHalt op) && !h.rsv && !h.rsv12
  && (op / 256 != 1 || h.ring == 0) && !s1.modeRefuses op && s1.sys.startMode == 0

/-- R427's checks of one command find nothing: no field is invalid, its unit is not disabled unless the command is exempt, and its own rule does not refuse. -/
def Gate.passes (g : Gate) : Bool := g.invalid.isNone && (!g.disabled || g.exempt) && !g.refused

/-- The command of a descriptor as it joins the commands in flight of a state that has taken it (R430). -/
def State.joins (u : State) (op : Nat) (g : Gate) (h : CmdHdr) : Flight :=
  { h := h, op := op, unit := g.unit, orphan := (u.host.rings.get? (ringKey 0 h.ring)).isNone, cpl := u.host.cplNow }

/-- The state as a command's own rule finds it: taken, and in flight. -/
def State.begun (u : State) (op : Nat) (g : Gate) (h : CmdHdr) : State := { u with flights := u.flights ++ [u.joins op g h] }

/-- What a command's own rule `go` makes of a state `u` that has taken it, and what follows a state `s`. -/
def State.runs (u s : State) (op : Nat) (g : Gate) (go : Flight → State → State) (h : CmdHdr) : State :=
  s.follow (go (u.joins op g h) (u.begun op g h))

/-- Row `i` of opcode `op` completes wherever its command can start and its checks find nothing: what `go` makes of it, and what follows. The command
carries its fetch instant. -/
def CmdDoes (i : CmdHdr → Instr) (op : Nat) (gate : CmdHdr → State → Gate) (go : Flight → State → State) : Prop :=
  ∀ h s, s.accepts op h = true → (gate (s.asFetched h) (s.take h)).passes = true →
    exec (i h) s = .next ((s.take h).runs s op (gate (s.asFetched h) (s.take h)) go (s.asFetched h))

/-- An event row acts wherever the clocks run: `e` of the state at its instant, and what follows. -/
def RowDoes (i : Instr) (s : State) (t : Nat) (e : State → State) : Prop :=
  s.sys.clocksOn = true → exec i s = .next ((s.tick t).follow (e (s.tick t)))

/-- An engine's row acts wherever the clocks run and the module is not in FAULT_HALT. -/
def EngineDoes (i : Instr) (s : State) (t : Nat) (e : State → State) : Prop :=
  s.sys.clocksOn = true → s.sys.st ≠ .faultHalt → exec i s = .next ((s.tick t).follow (e (s.tick t)))

end Sys2Proof.Machine
end

