-- ==== Sys2Proof/Certificates/Slice0/Obligations.lean ====
section
/-! DEFINITION. The statements for the provers. -/

open Sys2Proof Sys2Proof.Machine

/-- For every state s whose queue is the command c followed by cs, step s is exec of c on s with the queue cs. -/
def Obligations.StepRunsFront : Prop :=
  ∀ (s : State) (c : Instr) (cs : List Instr), s.pending = c :: cs → step s = exec c { s with pending := cs }

/-- For every state with no command waiting, step answers that state. The spec's time-driven effects are rows of the table; that an empty queue changes nothing is the model's choice (log 4). -/
def Obligations.EmptyQueueIdles : Prop :=
  ∀ s : State, s.pending = [] → step s = .next s

/-- Where the effect leaves no command in flight, no spindle program and no engine still to swap, and keeps the role, what follows it is the effect alone; so the rows below answer exactly the state they give. -/
def Obligations.NothingFollows : Prop :=
  ∀ s u : State, u.still = true → u.red.role = s.red.role → s.follow u = u

/-- Each of these rows answers a next state: where the module's clocks run (and, for an instant of an engine, outside FAULT_HALT) it is the effect that the row's rule gives, at the row's instant, and what follows it. Rows: LOGIC_REGULATION_REACHED, BOOT_ROM_DONE, SLOT_VERIFY_DONE, LOAD_DONE, HOLDUP_CHARGED, HOLDUP_CHARGE_TIMEOUT, FAULT_HALT_ENTRY, ECC_ERROR, FABRIC_FAULT, RUNTIME_WATCHDOG, BASEPLATE_OVERTEMP, POWER_FAIL, POWER_FAIL_FINAL_COMMIT, POWER_RESTORED, RESET_PIN, RESET_RELEASE, MAINT_LINK_CHANGE, UPD_STAGE_DURABLE, UPD_PRELOAD_DONE, UPD_ACTIVATION, UPD_RESTART_DONE. -/
def Obligations.SystemRows : Prop :=
  (∀ t strapMode strapPair s, exec (.logicRegulationReached t strapMode strapPair) s = .next (logicRegulationReached strapMode strapPair s)) ∧
  (∀ b s, RowDoes (.bootRomDone b) s b.t (fun s => bootRomDone b.warmAt s)) ∧
  (∀ t code s, RowDoes (.slotVerifyDone t code) s t (fun s => slotVerifyDone code s)) ∧
  (∀ t code s, RowDoes (.loadDone t code) s t (fun s => loadDone code s)) ∧
  (∀ t s, RowDoes (.holdupCharged t) s t (fun s => holdupCharged s)) ∧
  (∀ t s, RowDoes (.holdupChargeTimeout t) s t (fun s => holdupChargeTimeout s)) ∧
  (∀ t code detail s, RowDoes (.faultHaltEntry t code detail) s t (fun s => faultHaltEntry code detail s)) ∧
  (∀ t array double unit item s, RowDoes (.eccError t array double unit item) s t (fun s => eccError array double unit item s)) ∧
  (∀ t s, RowDoes (.fabricFault t) s t (fun s => fabricFault s)) ∧
  (∀ t s, RowDoes (.runtimeWatchdog t) s t (fun s => runtimeWatchdog s)) ∧
  (∀ t s, RowDoes (.baseplateOvertemp t) s t (fun s => baseplateOvertemp s)) ∧
  (∀ t mv s, RowDoes (.powerFail t mv) s t (fun s => powerFail mv s)) ∧
  (∀ t s, RowDoes (.powerFailFinalCommit t) s t (fun s => powerFailFinalCommit s)) ∧
  (∀ t strapMode strapPair s, exec (.powerRestored t strapMode strapPair) s = .next (powerRestored strapMode strapPair s)) ∧
  (∀ t s, RowDoes (.resetPin t) s t (fun s => resetPin s)) ∧
  (∀ t strapMode strapPair s, s.sys.clocksOn = false → exec (.resetRelease t strapMode strapPair) s = .next (resetRelease t strapMode strapPair s)) ∧
  (∀ t port up s, RowDoes (.maintLinkChange t port up) s t (fun s => maintLinkChange port up s)) ∧
  (∀ t ok s, RowDoes (.updStageDurable t ok) s t (fun s => updStageDurable ok s)) ∧
  (∀ t s, RowDoes (.updPreloadDone t) s t (fun s => updPreloadDone s)) ∧
  (∀ t s, RowDoes (.updActivation t) s t (fun s => updActivation s)) ∧
  (∀ t s, RowDoes (.updRestartDone t) s t (fun s => updRestartDone s))

/-- Each of these rows answers a next state: where the module's clocks run (and, for an instant of an engine, outside FAULT_HALT) it is the effect that the row's rule gives, at the row's instant, and what follows it. Rows: GROUP_CYCLE_START, GROUP_COMMIT, GROUP_OUTPUT_LAUNCH, GROUP_PACING_TIMEOUT, WRITE_THROUGH_DURABLE, JOURNAL_SETTLE, BANK_CATCHUP_DONE, ENCODER_SAMPLE, SSI_READ, INDEX_CAPTURE, RACE_HOLDOVER_EXPIRY, SEGMENT_FIT, SEGMENT_FRAME_LAUNCH, COG_ACTION, PTP_SYNC_RECEIVE, PTP_MESSAGE_RECEIVE, PTP_SYNC_TIMEOUT, PTP_SYNC_SEND, PTP_DELAY_REQUEST_SEND. -/
def Obligations.TimeRows : Prop :=
  (∀ t seg grp s, EngineDoes (.groupCycleStart t seg grp) s t (fun s => groupCycleStart seg grp s)) ∧
  (∀ t seg grp s, EngineDoes (.groupCommit t seg grp) s t (fun s => groupCommits seg grp s)) ∧
  (∀ t seg grp s, EngineDoes (.groupOutputLaunch t seg grp) s t (fun s => groupOutputLaunch seg grp s)) ∧
  (∀ t seg grp s, EngineDoes (.groupPacingTimeout t seg grp) s t (fun s => groupPacingTimeout seg grp s)) ∧
  (∀ t s, RowDoes (.writeThroughDurable t) s t (fun s => (writeThroughDurable s).updCommits)) ∧
  (∀ t s, RowDoes (.journalSettle t) s t (fun s => journalSettle s)) ∧
  (∀ t kind unit s, RowDoes (.bankCatchupDone t kind unit) s t (fun s => bankCatchupDone kind unit s)) ∧
  (∀ t enc sn cs illegal s, RowDoes (.encoderSample t enc sn cs illegal) s t (fun s => encoderSample enc sn cs illegal s)) ∧
  (∀ t enc word checkOk s, RowDoes (.ssiRead t enc word checkOk) s t (fun s => ssiRead enc word checkOk s)) ∧
  (∀ t race count s, RowDoes (.indexCapture t race count) s t (fun s => indexCapture race count s)) ∧
  (∀ t race s, RowDoes (.raceHoldoverExpiry t race) s t (fun s => raceHoldoverExpiry race s)) ∧
  (∀ t race ts s, RowDoes (.segmentFit t race ts) s t (fun s => (updSearch race ts (segmentFit race ts s)).swapEngines (fun e => decide (e = 0x100 ∨ (0x901 ≤ e ∧ e ≤ 0x904))))) ∧
  (∀ t port s, EngineDoes (.segmentFrameLaunch t port) s t (fun s => segmentFrameLaunch port s)) ∧
  (∀ t cog s, EngineDoes (.cogAction t cog) s t (fun s => cogActionAt cog s)) ∧
  (∀ t port domain offset pathDelay gm s, RowDoes (.ptpSyncReceive t port domain offset pathDelay gm) s t (fun s => s.ethOther port gm.frame (.ptpSync domain offset pathDelay gm.values))) ∧
  (∀ t port domain mtype data s, RowDoes (.ptpMessageReceive t port domain mtype data) s t (fun s => s.ethOther port data.frame (.ptp domain mtype data.values))) ∧
  (∀ t domain s, RowDoes (.ptpSyncTimeout t domain) s t (fun s => ptpSyncTimeout domain s)) ∧
  (∀ t port domain s, EngineDoes (.ptpSyncSend t port domain) s t (fun s => ptpSyncSend port domain s)) ∧
  (∀ t port domain s, EngineDoes (.ptpDelayRequestSend t port domain) s t (fun s => ptpDelayRequestSend port domain s))

/-- Each of these rows answers a next state: where the module's clocks run (and, for an instant of an engine, outside FAULT_HALT) it is the effect that the row's rule gives, at the row's instant, and what follows it. Rows: INPUT_FRAME_RECEIVE, HELLO_RECEIVE, BIND_ACK_RECEIVE, PAGE_RSP_RECEIVE, REMOTE_SEGMENT_RECEIVE, PAIR_HEARTBEAT_RECEIVE, OCZON_INVALID_FRAME, NODE_DROP, BIND_RETRY, PAGE_REQ_RETRY, PAGED_SWEEP, NODE_RELEASE_TIMEOUT, PORT_LINK_LOSS, OPTICS_PRESENCE_CHANGE, FIELD_PORT_LINK_UP, LLDP_SEND, LLDP_RECEIVE, PAIR_HEARTBEAT_SEND, RED_LINK_HEARTBEAT_SEND, RED_LINK_HEARTBEAT_RECEIVE, RED_PATH_SILENCE, PAIR_WAIT_EXPIRY, RED_DELTA_RECEIVE, RED_FULL_COPY_DONE, RED_PLANNED_SWITCH_INSTANT, RED_REVERT_HOLD_EXPIRY. -/
def Obligations.NetworkRows : Prop :=
  (∀ t port src payload s, RowDoes (.inputFrameReceive t port src payload) s t (fun s => if be payload 0 1 = 0x02 && !oczBad payload then s.ethIn port src payload (fun s => inputFrameReceive port src payload s) else s)) ∧
  (∀ t port src payload s, RowDoes (.helloReceive t port src payload) s t (fun s => if be payload 0 1 = 0x08 && !oczBad payload then s.ethIn port src payload (fun s => helloReceive port src payload s) else s)) ∧
  (∀ t port src payload s, RowDoes (.bindAckReceive t port src payload) s t (fun s => if be payload 0 1 = 0x0A && !oczBad payload then s.ethIn port src payload (fun s => bindAckReceive port src payload s) else s)) ∧
  (∀ t port src payload s, RowDoes (.pageRspReceive t port src payload) s t (fun s => if be payload 0 1 = 0x11 && !oczBad payload then s.ethIn port src payload (fun s => pageRspReceive port src payload s) else s)) ∧
  (∀ t port rx s, RowDoes (.remoteSegmentReceive t port rx) s t (fun s => if be rx.payload 0 1 = 0x20 && !oczBad rx.payload then s.ethIn port rx.src rx.payload (fun s => remoteSegmentReceive rx.payload s) else s)) ∧
  (∀ t src payload s, RowDoes (.pairHeartbeatReceive t src payload) s t (fun s => if be payload 0 1 = 0x30 && !oczBad payload then s.ethIn 1 src payload (fun s => pairHeartbeatReceive src payload s) else s)) ∧
  (∀ t port src payload s, RowDoes (.oczonInvalidFrame t port src payload) s t (fun s => if oczBad payload then s.ethIn port src payload (fun s => oczonInvalidFrame port src payload s) else s)) ∧
  (∀ t seg node s, RowDoes (.nodeDrop t seg node) s t (fun s => nodeDrop seg node s)) ∧
  (∀ t seg node s, EngineDoes (.bindRetry t seg node) s t (fun s => bindRetry seg node s)) ∧
  (∀ t seg node s, EngineDoes (.pageReqRetry t seg node) s t (fun s => pageReqRetry seg node s)) ∧
  (∀ t seg s, EngineDoes (.pagedSweep t seg) s t (fun s => pagedSweep seg s)) ∧
  (∀ t seg node s, RowDoes (.nodeReleaseTimeout t seg node) s t (fun s => nodeReleaseTimeout seg node s)) ∧
  (∀ t port s, RowDoes (.portLinkLoss t port) s t (fun s => portLinkLoss port s)) ∧
  (∀ t port absent identified s, RowDoes (.opticsPresenceChange t port absent identified) s t (fun s => opticsPresenceChange port absent identified s)) ∧
  (∀ t port s, RowDoes (.fieldPortLinkUp t port) s t (fun s => fieldPortLinkUp port s)) ∧
  (∀ t port s, EngineDoes (.lldpSend t port) s t (fun s => lldpSend port s)) ∧
  (∀ t port chassis portId s, RowDoes (.lldpReceive t port chassis portId) s t (fun s => s.ethOther port portId.frame (.lldp chassis.sub chassis.num portId.sub portId.text))) ∧
  (∀ t s, RowDoes (.pairHeartbeatSend t) s t (fun s => s.sendHeartbeat 1)) ∧
  (∀ t s, RowDoes (.redLinkHeartbeatSend t) s t (fun s => s.sendHeartbeat 0)) ∧
  (∀ t hb s, RowDoes (.redLinkHeartbeatReceive t hb) s t (fun s => redLinkHeartbeatReceive hb s)) ∧
  (∀ t path s, RowDoes (.redPathSilence t path) s t (fun s => redPathSilence path s)) ∧
  (∀ t s, RowDoes (.pairWaitExpiry t) s t (fun s => pairWaitExpiry s)) ∧
  (∀ t kind key cycle ok last data s, RowDoes (.redDeltaReceive t kind key cycle ok last data) s t (fun s => (redDeltaReceive kind key cycle ok last data.words data.units s).mirrorConfigs kind ok data.units)) ∧
  (∀ t s, RowDoes (.redFullCopyDone t) s t (fun s => redFullCopyDone s)) ∧
  (∀ t s, RowDoes (.redPlannedSwitchInstant t) s t (fun s => redPlannedSwitchInstant s)) ∧
  (∀ t s, RowDoes (.redRevertHoldExpiry t) s t (fun s => redRevertHoldExpiry s))

/-- Each of these rows answers a next state: where the module's clocks run (and, for an instant of an engine, outside FAULT_HALT) it is the effect that the row's rule gives, at the row's instant, and what follows it. Rows: LOOP_FRAME, FANTAIL_RESULT_DUE, FANTAIL_EQ_UPDATE, FANTAIL_HEADROOM_UPDATE, FANTAIL_PLACE_RECORD, EV_FT_FROZEN, MOTION_UPDATE, DRIVE_LINK_UPSTREAM, AXIS_HOLD_DELAY_EXPIRY, AXIS_QUICK_STOP_REQUEST, TIMER_TICK, PWM_PERIOD_START. -/
def Obligations.ControlRows : Prop :=
  (∀ t late s, EngineDoes (.loopFrame t late) s t (fun s => (loopFrame late s).swapEngines (fun e => decide (0x300 ≤ e ∧ e < 0x310)))) ∧
  (∀ t task s, EngineDoes (.fantailResultDue t task) s t (fun s => (fantailResultDue task s).swapEngines (fun e => decide (0xC00 ≤ e ∧ e < 0xC04)))) ∧
  (∀ t task enc s, EngineDoes (.fantailEqUpdate t task enc) s t (fun s => (if ftTarget (s.ftRec task) = enc then fantailEqUpdate task s else s).swapEngines (fun e => decide (0xC00 ≤ e ∧ e < 0xC04)))) ∧
  (∀ t task s, EngineDoes (.fantailHeadroomUpdate t task) s t (fun s => (fantailHeadroomUpdate task s).swapEngines (fun e => decide (0xC00 ≤ e ∧ e < 0xC04)))) ∧
  (∀ t task s, EngineDoes (.fantailPlaceRecord t task) s t (fun s => (fantailPlaceRecord task s).swapEngines (fun e => decide (0xC00 ≤ e ∧ e < 0xC04)))) ∧
  (∀ t task s, EngineDoes (.evFtFrozen t task) s t (fun s => fantailFrozen task s)) ∧
  (∀ t late s, EngineDoes (.motionUpdate t late) s t (fun s => (motionUpdate late s).swapEngines (fun e => decide (0x500 ≤ e ∧ e < 0x508)))) ∧
  (∀ t link framed frame s, EngineDoes (.driveLinkUpstream t link framed frame) s t (fun s => driveLinkUpstream link framed frame s)) ∧
  (∀ t axis s, EngineDoes (.axisHoldDelayExpiry t axis) s t (fun s => axisHoldDelay axis s)) ∧
  (∀ t axis s, EngineDoes (.axisQuickStopRequest t axis) s t (fun s => axisQuickStopRequest axis s)) ∧
  (∀ t timer s, EngineDoes (.timerTick t timer) s t (fun s => timerTick timer s)) ∧
  (∀ t pwm s, EngineDoes (.pwmPeriodStart t pwm) s t (fun s => pwmPeriodStart pwm s))

/-- Each of these rows answers a next state: where the module's clocks run (and, for an instant of an engine, outside FAULT_HALT) it is the effect that the row's rule gives, at the row's instant, and what follows it. Rows: ADC_ENTRY_END, VREF_CHECK, VREF_SETTLED, CL_UPDATE, CL_FAULT_CLASS, CL_COMPLIANCE_DETECT, CL_CMD_TIMEOUT, CL_FRONTEND_WATCHDOG, ALMSEL_SAMPLE, CL_MODE_CHANGE_DONE, CAL_BUTTON_HELD, CAL_AVERAGING_DONE, DIO_SAMPLE, DIO_OVERLOAD, DIO_AUTO_RESTART, FIELD_LOW, FIELD_RESTORED. -/
def Obligations.AnalogueRows : Prop :=
  (∀ t seq codes s, RowDoes (.adcEntryEnd t seq codes) s t (fun s => adcEntryEnd seq codes s)) ∧
  (∀ t code s, RowDoes (.vrefCheck t code) s t (fun s => vrefCheck code s)) ∧
  (∀ t s, RowDoes (.vrefSettled t) s t (fun s => vrefSettled s)) ∧
  (∀ t ch raw vterm vsup temp s, EngineDoes (.clUpdate t ch raw vterm vsup temp) s t (fun s => clUpdate ch raw vterm vsup temp s)) ∧
  (∀ t ch s, EngineDoes (.clFaultClass t ch) s t (fun s => clFaultClass ch s)) ∧
  (∀ t ch s, EngineDoes (.clComplianceDetect t ch) s t (fun s => clComplianceDetect ch s)) ∧
  (∀ t ch s, EngineDoes (.clCmdTimeout t ch) s t (fun s => clCmdTimeout ch s)) ∧
  (∀ t s, exec (.clFrontendWatchdog t) s = .next (clWatchdog (s.tick t))) ∧
  (∀ t high s, RowDoes (.almselSample t high) s t (fun s => almselSample high s)) ∧
  (∀ t ch s, EngineDoes (.clModeChangeDone t ch) s t (fun s => clModeChangeDone ch s)) ∧
  (∀ t zero span s, EngineDoes (.calButtonHeld t zero span) s t (fun s => calButtonHeld zero span s)) ∧
  (∀ t ch s, EngineDoes (.calAveragingDone t ch) s t (fun s => calAveragingDone ch s)) ∧
  (∀ t levels s, RowDoes (.dioSample t levels) s t (fun s => dioSample levels s)) ∧
  (∀ t ch s, RowDoes (.dioOverload t ch) s t (fun s => dioOverload ch s)) ∧
  (∀ t ch s, EngineDoes (.dioAutoRestart t ch) s t (fun s => dioAutoRestart ch s)) ∧
  (∀ t s, RowDoes (.fieldLow t) s t (fun s => fieldLowEvent s)) ∧
  (∀ t s, RowDoes (.fieldRestored t) s t (fun s => fieldRestored s))

/-- Each of these rows answers a next state: where the module's clocks run (and, for an instant of an engine, outside FAULT_HALT) it is the effect that the row's rule gives, at the row's instant, and what follows it. Rows: CAPTURE_SAMPLE, CAPTURE_GROUP_TRIGGER, SPINDLE_WINDOW_RUN, TAILRACE_FLUSH_TIMEOUT, TAILRACE_SPILL, TAILRACE_DRAIN_DONE, LOG_RECORD_DURABLE, LOG_FREEZE_EXPIRY, LOG_RATE_SECOND. -/
def Obligations.RecordingRows : Prop :=
  (∀ t unit s, RowDoes (.captureSample t unit) s t (fun s => capSample unit s)) ∧
  (∀ t unit s, RowDoes (.captureGroupTrigger t unit) s t (fun s => capGroupTrigger unit s)) ∧
  (∀ t prog s, EngineDoes (.spindleWindowRun t prog) s t (fun s => spindleWindowRun prog s)) ∧
  (∀ t ch s, RowDoes (.tailraceFlushTimeout t ch) s t (fun s => trFlushTimeout ch s)) ∧
  (∀ t ch s, RowDoes (.tailraceSpill t ch) s t (fun s => trSpillStart ch s)) ∧
  (∀ t ch s, RowDoes (.tailraceDrainDone t ch) s t (fun s => trDrainDone ch s)) ∧
  (∀ t s, RowDoes (.logRecordDurable t) s t (fun s => logRecordDurable s)) ∧
  (∀ t s, RowDoes (.logFreezeExpiry t) s t (fun s => logFreezeExpiry s)) ∧
  (∀ t s, RowDoes (.logRateSecond t) s t (fun s => logRateSecond s))

/-- Each of these rows answers a next state: where the module's clocks run (and, for an instant of an engine, outside FAULT_HALT) it is the effect that the row's rule gives, at the row's instant, and what follows it. Rows: CAN_FRAME_RECEIVE, CAN_FRAME_ACKNOWLEDGED, CAN_ARBITRATION_LOST, CAN_TX_ERROR, CAN_RECOVERY_COMPLETE, CAN_RATE_DETECT_DWELL, CAN_RECEIVE_ERROR, CAN_BUS_INTEGRATION. -/
def Obligations.CanRows : Prop :=
  (∀ t port sof frame s, RowDoes (.canFrameReceive t port sof frame) s t (fun s => canFrameReceive port sof frame s)) ∧
  (∀ t port sof s, RowDoes (.canFrameAcknowledged t port sof) s t (fun s => canFrameAcknowledged port sof s)) ∧
  (∀ t port s, RowDoes (.canArbitrationLost t port) s t (fun s => canArbitrationLost port s)) ∧
  (∀ t port ackError s, RowDoes (.canTxError t port ackError) s t (fun s => canTxError port ackError s)) ∧
  (∀ t port s, RowDoes (.canRecoveryComplete t port) s t (fun s => canRecoveryComplete port s)) ∧
  (∀ t port s, RowDoes (.canRateDetectDwell t port) s t (fun s => canRateDetectDwell port s)) ∧
  (∀ t port e s, RowDoes (.canReceiveError t port e) s t (fun s => canReceiveError port e.heavy e.res s)) ∧
  (∀ t port s, RowDoes (.canBusIntegration t port) s t (fun s => canBusIntegration port s))

/-- Each of these rows answers a next state: where the module's clocks run (and, for an instant of an engine, outside FAULT_HALT) it is the effect that the row's rule gives, at the row's instant, and what follows it. Rows: SAFETY_CYCLE, SAFETY_DISCREPANCY_COUNT, EV_SAFE_RESET_LONG, SAFETY_STOP_DELAY_EXPIRY, NALAT_WATCHDOG_EXPIRY, SAFETY_SELF_TEST_DONE, SI_STANDARD_SAMPLE. -/
def Obligations.SafetyRows : Prop :=
  (∀ t inp s, RowDoes (.safetyCycle t inp) s t (fun s => safetyCycle inp s)) ∧
  (∀ t pair s, RowDoes (.safetyDiscrepancyCount t pair) s t (fun s => safetyDiscrepancyCount pair s)) ∧
  (∀ t src s, RowDoes (.evSafeResetLong t src) s t (fun s => safeResetLong src s)) ∧
  (∀ t fn s, RowDoes (.safetyStopDelayExpiry t fn) s t (fun s => safetyStopDelayExpiry fn s)) ∧
  (∀ t conn s, RowDoes (.nalatWatchdogExpiry t conn) s t (fun s => nalatWatchdogExpiry conn s)) ∧
  (∀ t channel ok s, RowDoes (.safetySelfTestDone t channel ok) s t (fun s => safetySelfTestDone channel ok s)) ∧
  (∀ t levels s, RowDoes (.siStandardSample t levels) s t (fun s => siStandardSample levels s))

/-- Each of these rows answers a next state: where the module's clocks run (and, for an instant of an engine, outside FAULT_HALT) it is the effect that the row's rule gives, at the row's instant, and what follows it. Rows: LOGIC_RUN_START, HOPPER_DEAL, EXT_RUN_END, EXT_BUDGET_OVERRUN, EXT_FAULT, EXT_CALL_POINT_READ, EXT_CALL_POINT_WRITE, EXT_CALL_FLAG_SET, EXT_CALL_RAISE, EXT_CALL_LMT, EC_CLAIM, EC_COMPLETE, EC_RAISE, EC_OVERRUNS_READ, EC_SOURCE_EDGE. -/
def Obligations.HopperRows : Prop :=
  (∀ t engine s, EngineDoes (.logicRunStart t engine) s t (fun s => logicRunStart engine s)) ∧
  (∀ t s, EngineDoes (.hopperDeal t) s t (fun s => hopperDeal t s)) ∧
  (∀ t core s, EngineDoes (.extRunEnd t core) s t (fun s => extRunEnd core s)) ∧
  (∀ t core s, EngineDoes (.extBudgetOverrun t core) s t (fun s => extBudgetOverrun core s)) ∧
  (∀ t core cause addr s, EngineDoes (.extFault t core cause addr) s t (fun s => extFault core cause addr s)) ∧
  (∀ t core addr s, EngineDoes (.extCallPointRead t core addr) s t (fun s => extPointRead core addr s)) ∧
  (∀ t core addr value s, EngineDoes (.extCallPointWrite t core addr value) s t (fun s => extPointWrite core addr value s)) ∧
  (∀ t core task flags s, EngineDoes (.extCallFlagSet t core task flags) s t (fun s => extFlagSet core task flags s)) ∧
  (∀ t core src s, EngineDoes (.extCallRaise t core src) s t (fun s => extRaise core src s)) ∧
  (∀ t core s, EngineDoes (.extCallLmt t core) s t (fun s => extLmt core s)) ∧
  (∀ t core s, EngineDoes (.ecClaim t core) s t (fun s => ecClaim core s)) ∧
  (∀ t core src s, EngineDoes (.ecComplete t core src) s t (fun s => ecComplete core src s)) ∧
  (∀ t core w s, EngineDoes (.ecRaise t core w) s t (fun s => ecRaise core w.ofs w.val s)) ∧
  (∀ t r s, EngineDoes (.ecOverrunsRead t r) s t (fun s => ecOverrunsRead r.core r.ofs s)) ∧
  (∀ t inp s, RowDoes (.ecSourceEdge t inp) s t (fun s => ecEdge inp.src inp.up s))

/-- Each of these rows answers a next state: where the module's clocks run (and, for an instant of an engine, outside FAULT_HALT) it is the effect that the row's rule gives, at the row's instant, and what follows it. Rows: SWEEP, DESCRIPTOR_FETCH, HOST_HEARTBEAT_TIMEOUT, MSIX_MODERATION_TIMEOUT, MSIX_UNMASK, FUNCTION_RESET, POWER_STATE_CHANGE, BUS_MASTER_ENABLE_CHANGE, PME_REPEAT, HOST_LINK_TRAINED, LMT_LO_READ, ADMIN_EN_SET, ADMIN_EN_CLEAR, QUIESCE, SULOCK_LOCK, REGISTER_WRITE, PERST_DEASSERTION. -/
def Obligations.HostRows : Prop :=
  (∀ t block descs ok s, RowDoes (.sweep t block descs ok) s t (fun s => sweepEvent block descs ok s)) ∧
  (∀ t ring desc ok s, RowDoes (.descriptorFetch t ring desc ok) s t (fun s => descriptorFetch t ring desc ok s)) ∧
  (∀ t s, RowDoes (.hostHeartbeatTimeout t) s t (fun s => hostHeartbeatTimeout s)) ∧
  (∀ t vec s, RowDoes (.msixModerationTimeout t vec) s t (fun s => msixModerationTimeout vec s)) ∧
  (∀ t vec s, RowDoes (.msixUnmask t vec) s t (fun s => msixUnmask vec s)) ∧
  (∀ t cause s, RowDoes (.functionReset t cause) s t (fun s => functionResetEvent cause s)) ∧
  (∀ t pst pmeEn pmeClr s, RowDoes (.powerStateChange t pst pmeEn pmeClr) s t (fun s => powerStateChange pst pmeEn pmeClr s)) ∧
  (∀ t on s, RowDoes (.busMasterEnableChange t on) s t (fun s => busMasterEnableChange on s)) ∧
  (∀ t s, RowDoes (.pmeRepeat t) s t (fun s => pmeRepeat s)) ∧
  (∀ t rate width s, RowDoes (.hostLinkTrained t rate width) s t (fun s => hostLinkTrained rate width s)) ∧
  (∀ t s, RowDoes (.lmtLoRead t) s t (fun s => lmtLoRead s)) ∧
  (∀ t s, RowDoes (.adminEnSet t) s t (fun s => adminEnSet s)) ∧
  (∀ t s, RowDoes (.adminEnClear t) s t (fun s => adminEnClear s)) ∧
  (∀ t on s, RowDoes (.quiesce t on) s t (fun s => quiesceWrite on s)) ∧
  (∀ t s, RowDoes (.sulockLock t) s t (fun s => sulockLock s)) ∧
  (∀ t ofs w s, RowDoes (.registerWrite t ofs w) s t (fun s => registerWrite ofs w.size w.val s)) ∧
  (∀ t s, RowDoes (.perstDeassertion t) s t (fun s => perstDeassertion s))

/-- On an engine whose open run stands at the row's word, with nothing holding it, the row completes: bit instructions load, combine, negate, push and pop BA. It moves on to the next instruction, counts its cycles, and changes nothing else of the state. Rows: LE_NOP, LE_LD, LE_LDN, LE_AND, LE_ANDN, LE_OR, LE_ORN, LE_XOR, LE_XORN, LE_NOT, LE_LDT, LE_PSHA, LE_PSHO, LE_PSHX, LE_POP. -/
def Obligations.LogicBits : Prop :=
  LeDoes .leNop 0x00 (fun s n _ m => (s.eng n, m)) ∧
  LeDoes .leLd 0x01 (fun s n o m => (s.eng n, { m with ba := (s.bitAt n m o) })) ∧
  LeDoes .leLdn 0x02 (fun s n o m => (s.eng n, { m with ba := !(s.bitAt n m o) })) ∧
  LeDoes .leAnd 0x03 (fun s n o m => (s.eng n, { m with ba := m.ba && (s.bitAt n m o) })) ∧
  LeDoes .leAndn 0x04 (fun s n o m => (s.eng n, { m with ba := m.ba && !(s.bitAt n m o) })) ∧
  LeDoes .leOr 0x05 (fun s n o m => (s.eng n, { m with ba := m.ba || (s.bitAt n m o) })) ∧
  LeDoes .leOrn 0x06 (fun s n o m => (s.eng n, { m with ba := m.ba || !(s.bitAt n m o) })) ∧
  LeDoes .leXor 0x07 (fun s n o m => (s.eng n, { m with ba := Bool.xor m.ba (s.bitAt n m o) })) ∧
  LeDoes .leXorn 0x08 (fun s n o m => (s.eng n, { m with ba := Bool.xor m.ba (!(s.bitAt n m o)) })) ∧
  LeDoes .leNot 0x09 (fun s n _ m => (s.eng n, { m with ba := !m.ba })) ∧
  LeDoes .leLdt 0x0A (fun s n _ m => (s.eng n, { m with ba := true })) ∧
  LeDoes .lePsha 0x0B (fun s n _ m => (s.eng n, m.push .and)) ∧
  LeDoes .lePsho 0x0C (fun s n _ m => (s.eng n, m.push .or)) ∧
  LeDoes .lePshx 0x0D (fun s n _ m => (s.eng n, m.push .xor)) ∧
  LeDoes .lePop 0x0E (fun s n _ m => (s.eng n, Run.pop m))

/-- On an engine whose open run stands at the row's word, with nothing holding it, the row completes: bit stores write the run's write set, and edges compare BA with their memory. It moves on to the next instruction, counts its cycles, and changes nothing else of the state. Rows: LE_ST, LE_STN, LE_SET, LE_RST, LE_FP, LE_FN. -/
def Obligations.LogicStores : Prop :=
  LeDoes .leSt 0x10 (fun s n o m => (s.eng n, leStoreBit s.sys.modNo n m o m.ba)) ∧
  LeDoes .leStn 0x11 (fun s n o m => (s.eng n, leStoreBit s.sys.modNo n m o (!m.ba))) ∧
  LeDoes .leSet 0x12 (fun s n o m => (s.eng n, if m.ba then leStoreBit s.sys.modNo n m o true else m)) ∧
  LeDoes .leRst 0x13 (fun s n o m => (s.eng n, if m.ba then leStoreBit s.sys.modNo n m o false else m)) ∧
  LeDoes .leFp 0x14 (fun s n o m => ({ s.eng n with edges := (s.eng n).edges.put false (oIndex o) m.ba }, { m with ba := m.ba && !((s.eng n).edges.getD (oIndex o) false) })) ∧
  LeDoes .leFn 0x15 (fun s n o m => ({ s.eng n with edges := (s.eng n).edges.put false (oIndex o) m.ba }, { m with ba := !m.ba && ((s.eng n).edges.getD (oIndex o) false) }))

/-- On an engine whose open run stands at the row's word, with nothing holding it, the row completes: timer and counter instructions work on the timer or counter they name, and some load its Q into BA. It moves on to the next instruction, counts its cycles, and changes nothing else of the state. Rows: LE_TON, LE_TOF, LE_TP, LE_TPT, LE_TRST, LE_CTU, LE_CTD, LE_CRES, LE_CLD, LE_CPV. -/
def Obligations.LogicTimersCounters : Prop :=
  LeDoes .leTon 0x20 (fun s n o m => let x := (s.timerAt n m o); let z : Timer := x.ton m.ba m.tRun; (s.withTimer n o z, { m with ba := z.q })) ∧
  LeDoes .leTof 0x21 (fun s n o m => let x := (s.timerAt n m o); let z : Timer := x.tof m.ba m.tRun; (s.withTimer n o z, { m with ba := z.q })) ∧
  LeDoes .leTp 0x22 (fun s n o m => let x := (s.timerAt n m o); let z : Timer := x.tp m.ba m.tRun; (s.withTimer n o z, { m with ba := z.q })) ∧
  LeDoes .leTpt 0x23 (fun s n o m => let x := (s.timerAt n m o); let z : Timer := { x with pt := m.wa }; (s.withTimer n o z, m)) ∧
  LeDoes .leTrst 0x24 (fun s n o m => let x := (s.timerAt n m o); let z : Timer := if m.ba then { pt := x.pt, base := x.base, typ := x.typ } else x; (s.withTimer n o z, m)) ∧
  LeDoes .leCtu 0x28 (fun s n o m => let x := (s.counterAt n o); let z : Counter := let y := x.count m.ba 1; { y with q := decide (y.pv.toInt ≤ y.cv.toInt) }; (s.withCounter n o z, { m with ba := z.q })) ∧
  LeDoes .leCtd 0x29 (fun s n o m => let x := (s.counterAt n o); let z : Counter := let y := x.count m.ba (-1); { y with q := decide (y.cv.toInt ≤ 0) }; (s.withCounter n o z, { m with ba := z.q })) ∧
  LeDoes .leCres 0x2A (fun s n o m => let x := (s.counterAt n o); let z : Counter := if m.ba then { x with cv := 0 } else x; (s.withCounter n o z, m)) ∧
  LeDoes .leCld 0x2B (fun s n o m => let x := (s.counterAt n o); let z : Counter := if m.ba then { x with cv := x.pv } else x; (s.withCounter n o z, m)) ∧
  LeDoes .leCpv 0x2C (fun s n o m => let x := (s.counterAt n o); let z : Counter := { x with pv := m.wa }; (s.withCounter n o z, m))

/-- On an engine whose open run stands at the row's word, with nothing holding it, the row completes: word loads, stores, arithmetic and shifts act on WA with OV and ERR. It moves on to the next instruction, counts its cycles, and changes nothing else of the state. Rows: LE_L, LE_T, LE_TC, LE_LI, LE_LIH, LE_ADD, LE_SUB, LE_MUL, LE_DIV, LE_MOD, LE_NEG, LE_ABS, LE_WAND, LE_WOR, LE_WXOR, LE_SHL, LE_SHR, LE_ASR. -/
def Obligations.LogicWords : Prop :=
  LeDoes .leL 0x30 (fun s n o m => (s.eng n, { m with wa := (s.wordAt n m o) })) ∧
  LeDoes .leT 0x31 (fun s n o m => (s.eng n, leStore s.sys.modNo n m o)) ∧
  LeDoes .leTc 0x32 (fun s n o m => (s.eng n, if m.ba then leStore s.sys.modNo n m o else m)) ∧
  LeDoes .leLi 0x33 (fun s n o m => (s.eng n, { m with wa := w32 (sgn 16 (o % 65536)) })) ∧
  LeDoes .leLih 0x34 (fun s n o m => (s.eng n, { m with wa := BitVec.ofNat 32 (m.wa.toNat % 65536 + 65536 * (o % 65536)) })) ∧
  LeDoes .leAdd 0x38 (fun s n o m => (s.eng n, m.arith (m.wa.toInt + (s.wordAt n m o).toInt))) ∧
  LeDoes .leSub 0x39 (fun s n o m => (s.eng n, m.arith (m.wa.toInt - (s.wordAt n m o).toInt))) ∧
  LeDoes .leMul 0x3A (fun s n o m => (s.eng n, m.arith (m.wa.toInt * (s.wordAt n m o).toInt))) ∧
  LeDoes .leDiv 0x3B (fun s n o m => (s.eng n, Run.div m (s.wordAt n m o))) ∧
  LeDoes .leMod 0x3C (fun s n o m => (s.eng n, Run.mod m (s.wordAt n m o))) ∧
  LeDoes .leNeg 0x3D (fun s n _ m => (s.eng n, m.arith (-m.wa.toInt))) ∧
  LeDoes .leAbs 0x3E (fun s n _ m => (s.eng n, m.arith (m.wa.toInt.natAbs))) ∧
  LeDoes .leWand 0x40 (fun s n o m => (s.eng n, { m with wa := m.wa &&& (s.wordAt n m o) })) ∧
  LeDoes .leWor 0x41 (fun s n o m => (s.eng n, { m with wa := m.wa ||| (s.wordAt n m o) })) ∧
  LeDoes .leWxor 0x42 (fun s n o m => (s.eng n, { m with wa := m.wa ^^^ (s.wordAt n m o) })) ∧
  LeDoes .leShl 0x43 (fun s n o m => (s.eng n, { m with wa := m.wa <<< ((s.wordAt n m o).toNat % 32) })) ∧
  LeDoes .leShr 0x44 (fun s n o m => (s.eng n, { m with wa := m.wa >>> ((s.wordAt n m o).toNat % 32) })) ∧
  LeDoes .leAsr 0x45 (fun s n o m => (s.eng n, { m with wa := m.wa.sshiftRight ((s.wordAt n m o).toNat % 32) }))

/-- On an engine whose open run stands at the row's word, with nothing holding it, the row completes: comparisons clear BA where they fail, and binary32 instructions act on WA. It moves on to the next instruction, counts its cycles, and changes nothing else of the state. Rows: LE_CEQ, LE_CNE, LE_CGT, LE_CGE, LE_CLT, LE_CLE, LE_FADD, LE_FSUB, LE_FMUL, LE_FDIV, LE_ITOF, LE_FTOI, LE_FCLT, LE_FCGT. -/
def Obligations.LogicComparesFloats : Prop :=
  LeDoes .leCeq 0x48 (fun s n o m => (s.eng n, { m with ba := m.ba && m.wa == (s.wordAt n m o) })) ∧
  LeDoes .leCne 0x49 (fun s n o m => (s.eng n, { m with ba := m.ba && m.wa != (s.wordAt n m o) })) ∧
  LeDoes .leCgt 0x4A (fun s n o m => (s.eng n, { m with ba := m.ba && decide ((s.wordAt n m o).toInt < m.wa.toInt) })) ∧
  LeDoes .leCge 0x4B (fun s n o m => (s.eng n, { m with ba := m.ba && decide ((s.wordAt n m o).toInt ≤ m.wa.toInt) })) ∧
  LeDoes .leClt 0x4C (fun s n o m => (s.eng n, { m with ba := m.ba && decide (m.wa.toInt < (s.wordAt n m o).toInt) })) ∧
  LeDoes .leCle 0x4D (fun s n o m => (s.eng n, { m with ba := m.ba && decide (m.wa.toInt ≤ (s.wordAt n m o).toInt) })) ∧
  LeDoes .leFadd 0x50 (fun s n o m => (s.eng n, { m with wa := f32Add m.wa (s.wordAt n m o) })) ∧
  LeDoes .leFsub 0x51 (fun s n o m => (s.eng n, { m with wa := f32Sub m.wa (s.wordAt n m o) })) ∧
  LeDoes .leFmul 0x52 (fun s n o m => (s.eng n, { m with wa := f32Mul m.wa (s.wordAt n m o) })) ∧
  LeDoes .leFdiv 0x53 (fun s n o m => (s.eng n, { m with wa := f32Div m.wa (s.wordAt n m o) })) ∧
  LeDoes .leItof 0x54 (fun s n _ m => (s.eng n, { m with wa := f32OfInt m.wa.toInt })) ∧
  LeDoes .leFtoi 0x55 (fun s n _ m => (s.eng n, Run.ftoi m)) ∧
  LeDoes .leFclt 0x56 (fun s n o m => (s.eng n, { m with ba := m.ba && f32Lt m.wa (s.wordAt n m o) })) ∧
  LeDoes .leFcgt 0x57 (fun s n o m => (s.eng n, { m with ba := m.ba && f32Lt (s.wordAt n m o) m.wa }))

/-- On an engine whose open run stands at the row's word, with nothing holding it, the row completes: jumps, calls and returns set the run's address; HFLAG and EVT note what the hand-in does. It moves on to the next instruction, counts its cycles, and changes nothing else of the state. Rows: LE_JMP, LE_JC, LE_JNC, LE_CALL, LE_RET, LE_HFLAG, LE_EVT. -/
def Obligations.LogicControl : Prop :=
  LeDoes .leJmp 0x60 (fun s n o m => (s.eng n, m.jump o)) ∧
  LeDoes .leJc 0x61 (fun s n o m => (s.eng n, if m.ba then m.jump o else m)) ∧
  LeDoes .leJnc 0x62 (fun s n o m => (s.eng n, if m.ba then m else m.jump o)) ∧
  LeDoes .leCall 0x63 (fun s n o m => (s.eng n, { m with calls := m.pc :: m.calls, pc := leBlock m.code (o % 65536) })) ∧
  LeDoes .leRet 0x64 (fun s n _ m => (s.eng n, match m.calls with | a :: c => { m with pc := a, calls := c } | [] => m)) ∧
  LeDoes .leHflag 0x66 (fun s n o m => (s.eng n, if m.ba then { m with flags := m.flags ++ [(bits o 15 6, o % 32)] } else m)) ∧
  LeDoes .leEvt 0x67 (fun s n o m => (s.eng n, if m.ba then { m with evts := m.evts ++ [(o % 65536, m.wa.toNat)] } else m))

/-- On an engine whose open run stands at an END word, with nothing holding it, LE_END completes: the run is over and its write set, flags and events are handed in. -/
def Obligations.LogicEnd : Prop :=
  ∀ n opnd s r, s.opens n 0x65 opnd r →
    let m : Run := { r.moved s.sys.modNo n 0x65 opnd with ended := true }
    exec (.leEnd n opnd) s = .next (s.follow ((s.putRun n (s.eng n) m).leHandIn n m))

/-- In a window of a spindle program that stands at the row's word, the row completes: register and immediate arithmetic writes register D. It goes on at the next address, or exits at LENGTH, and counts one instruction; nothing else changes but by the exit. Rows: SPIN_NOP, SPIN_ADD, SPIN_SUB, SPIN_AND, SPIN_OR, SPIN_XOR, SPIN_SHL, SPIN_SHR, SPIN_ASR, SPIN_MUL, SPIN_MIN, SPIN_MAX, SPIN_MINU, SPIN_MAXU, SPIN_ABS, SPIN_ADDI, SPIN_ANDI, SPIN_ORI, SPIN_XORI, SPIN_SHLI, SPIN_SHRI, SPIN_ASRI, SPIN_LI, SPIN_LUI. -/
def Obligations.SpindleArithmetic : Prop :=
  SpinDoes .spinNop 0x00 (fun _ _ _ p => p) (fun _ p => p.pc + 1) ∧
  SpinDoes .spinAdd 0x01 (fun _ o _ p => p.setW (fD o) ((p.w (fA o)) + (p.w (fB o)))) (fun _ p => p.pc + 1) ∧
  SpinDoes .spinSub 0x02 (fun _ o _ p => p.setW (fD o) ((p.w (fA o)) - (p.w (fB o)))) (fun _ p => p.pc + 1) ∧
  SpinDoes .spinAnd 0x03 (fun _ o _ p => p.setW (fD o) ((p.w (fA o)) &&& (p.w (fB o)))) (fun _ p => p.pc + 1) ∧
  SpinDoes .spinOr 0x04 (fun _ o _ p => p.setW (fD o) ((p.w (fA o)) ||| (p.w (fB o)))) (fun _ p => p.pc + 1) ∧
  SpinDoes .spinXor 0x05 (fun _ o _ p => p.setW (fD o) ((p.w (fA o)) ^^^ (p.w (fB o)))) (fun _ p => p.pc + 1) ∧
  SpinDoes .spinShl 0x06 (fun _ o _ p => p.setW (fD o) ((p.w (fA o)) <<< ((p.w (fB o)).toNat % 32))) (fun _ p => p.pc + 1) ∧
  SpinDoes .spinShr 0x07 (fun _ o _ p => p.setW (fD o) ((p.w (fA o)) >>> ((p.w (fB o)).toNat % 32))) (fun _ p => p.pc + 1) ∧
  SpinDoes .spinAsr 0x08 (fun _ o _ p => p.setW (fD o) ((p.w (fA o)).sshiftRight ((p.w (fB o)).toNat % 32))) (fun _ p => p.pc + 1) ∧
  SpinDoes .spinMul 0x09 (fun _ o _ p => p.setW (fD o) ((p.w (fA o)) * (p.w (fB o)))) (fun _ p => p.pc + 1) ∧
  SpinDoes .spinMin 0x0A (fun _ o _ p => p.setW (fD o) (if (p.w (fA o)).slt (p.w (fB o)) then (p.w (fA o)) else (p.w (fB o)))) (fun _ p => p.pc + 1) ∧
  SpinDoes .spinMax 0x0B (fun _ o _ p => p.setW (fD o) (if (p.w (fA o)).slt (p.w (fB o)) then (p.w (fB o)) else (p.w (fA o)))) (fun _ p => p.pc + 1) ∧
  SpinDoes .spinMinu 0x0C (fun _ o _ p => p.setW (fD o) (if (p.w (fA o)).ult (p.w (fB o)) then (p.w (fA o)) else (p.w (fB o)))) (fun _ p => p.pc + 1) ∧
  SpinDoes .spinMaxu 0x0D (fun _ o _ p => p.setW (fD o) (if (p.w (fA o)).ult (p.w (fB o)) then (p.w (fB o)) else (p.w (fA o)))) (fun _ p => p.pc + 1) ∧
  SpinDoes .spinAbs 0x0E (fun _ o _ p => p.setW (fD o) (if (p.w (fA o)).msb then 0 - p.w (fA o) else p.w (fA o))) (fun _ p => p.pc + 1) ∧
  SpinDoes .spinAddi 0x10 (fun _ o _ p => p.setW (fD o) ((p.w (fA o)) + sImm18 o)) (fun _ p => p.pc + 1) ∧
  SpinDoes .spinAndi 0x11 (fun _ o _ p => p.setW (fD o) ((p.w (fA o)) &&& zImm18 o)) (fun _ p => p.pc + 1) ∧
  SpinDoes .spinOri 0x12 (fun _ o _ p => p.setW (fD o) ((p.w (fA o)) ||| zImm18 o)) (fun _ p => p.pc + 1) ∧
  SpinDoes .spinXori 0x13 (fun _ o _ p => p.setW (fD o) ((p.w (fA o)) ^^^ zImm18 o)) (fun _ p => p.pc + 1) ∧
  SpinDoes .spinShli 0x14 (fun _ o _ p => p.setW (fD o) ((p.w (fA o)) <<< (fImm18 o % 32))) (fun _ p => p.pc + 1) ∧
  SpinDoes .spinShri 0x15 (fun _ o _ p => p.setW (fD o) ((p.w (fA o)) >>> (fImm18 o % 32))) (fun _ p => p.pc + 1) ∧
  SpinDoes .spinAsri 0x16 (fun _ o _ p => p.setW (fD o) ((p.w (fA o)).sshiftRight (fImm18 o % 32))) (fun _ p => p.pc + 1) ∧
  SpinDoes .spinLi 0x17 (fun _ o _ p => p.setW (fD o) (sImm18 o)) (fun _ p => p.pc + 1) ∧
  SpinDoes .spinLui 0x18 (fun _ o _ p => p.setW (fD o) (zImm18 o <<< 14)) (fun _ p => p.pc + 1)

/-- In a window of a spindle program that stands at the row's word, the row completes: loads read the window at A + sext(IMM18). It goes on at the next address, or exits at LENGTH, and counts one instruction; nothing else changes but by the exit. Rows: SPIN_LDB, SPIN_LDH, SPIN_LDW, SPIN_LDHL, SPIN_LDWL, SPIN_LDHLS. -/
def Obligations.SpindleLoads : Prop :=
  SpinDoes .spinLdb 0x20 (fun n o w p => p.setW (fD o) (BitVec.ofNat 32 (spinByte n w (p.w (fA o) + sImm18 o).toInt))) (fun _ p => p.pc + 1) ∧
  SpinDoes .spinLdh 0x21 (fun n o w p => p.setW (fD o) (BitVec.ofNat 32 (spinBe n w (p.w (fA o) + sImm18 o).toInt 2))) (fun _ p => p.pc + 1) ∧
  SpinDoes .spinLdw 0x22 (fun n o w p => p.setW (fD o) (BitVec.ofNat 32 (spinBe n w (p.w (fA o) + sImm18 o).toInt 4))) (fun _ p => p.pc + 1) ∧
  SpinDoes .spinLdhl 0x23 (fun n o w p => p.setW (fD o) (BitVec.ofNat 32 (spinLe n w (p.w (fA o) + sImm18 o).toInt 2))) (fun _ p => p.pc + 1) ∧
  SpinDoes .spinLdwl 0x24 (fun n o w p => p.setW (fD o) (BitVec.ofNat 32 (spinLe n w (p.w (fA o) + sImm18 o).toInt 4))) (fun _ p => p.pc + 1) ∧
  SpinDoes .spinLdhls 0x25 (fun n o w p => p.setW (fD o) (BitVec.ofInt 32 (sgn 16 (spinLe n w (p.w (fA o) + sImm18 o).toInt 2)))) (fun _ p => p.pc + 1)

/-- In a window of a spindle program that stands at the row's word, the row completes: branches go to their address + OFS where they hold; CNT counts and EXIT exits. It goes on at the next address, or exits at LENGTH, and counts one instruction; nothing else changes but by the exit. Rows: SPIN_BEQ, SPIN_BNE, SPIN_BLT, SPIN_BGE, SPIN_BLTU, SPIN_BGEU, SPIN_BEQI, SPIN_BNEI, SPIN_BLTI, SPIN_BGEI, SPIN_CNT, SPIN_EXIT. -/
def Obligations.SpindleBranches : Prop :=
  SpinDoes .spinBeq 0x30 (fun _ _ _ p => p) (fun o p => if (p.w (fA o)) == (p.w (fB o)) then p.pc + fOfs o else p.pc + 1) ∧
  SpinDoes .spinBne 0x31 (fun _ _ _ p => p) (fun o p => if (p.w (fA o)) != (p.w (fB o)) then p.pc + fOfs o else p.pc + 1) ∧
  SpinDoes .spinBlt 0x32 (fun _ _ _ p => p) (fun o p => if (p.w (fA o)).slt (p.w (fB o)) then p.pc + fOfs o else p.pc + 1) ∧
  SpinDoes .spinBge 0x33 (fun _ _ _ p => p) (fun o p => if !(p.w (fA o)).slt (p.w (fB o)) then p.pc + fOfs o else p.pc + 1) ∧
  SpinDoes .spinBltu 0x34 (fun _ _ _ p => p) (fun o p => if (p.w (fA o)).ult (p.w (fB o)) then p.pc + fOfs o else p.pc + 1) ∧
  SpinDoes .spinBgeu 0x35 (fun _ _ _ p => p) (fun o p => if !(p.w (fA o)).ult (p.w (fB o)) then p.pc + fOfs o else p.pc + 1) ∧
  SpinDoes .spinBeqi 0x36 (fun _ _ _ p => p) (fun o p => if (p.w (fA o)).toInt == (sgn 10 (fImm10 o)) then p.pc + fOfs o else p.pc + 1) ∧
  SpinDoes .spinBnei 0x37 (fun _ _ _ p => p) (fun o p => if (p.w (fA o)).toInt != (sgn 10 (fImm10 o)) then p.pc + fOfs o else p.pc + 1) ∧
  SpinDoes .spinBlti 0x38 (fun _ _ _ p => p) (fun o p => if decide ((p.w (fA o)).toInt < (sgn 10 (fImm10 o))) then p.pc + fOfs o else p.pc + 1) ∧
  SpinDoes .spinBgei 0x39 (fun _ _ _ p => p) (fun o p => if decide ((sgn 10 (fImm10 o)) ≤ (p.w (fA o)).toInt) then p.pc + fOfs o else p.pc + 1) ∧
  SpinDoes .spinCnt 0x3C (fun _ o _ p => p.count (o % 8)) (fun _ p => p.pc + 1) ∧
  SpinDoes .spinExit 0x3E (fun _ _ _ p => p) (fun _ p => spinLen p.prog.fg)

/-- Each of these commands completes its own rule wherever its descriptor can be fetched, nothing holds it, and R427's checks find nothing: the command joins those in flight and its effect is made, at once where its commit point is the fetch. Commands: NOP, RING_CREATE, RING_MODIFY, RING_DELETE, ABORT, SYS_INFO. -/
def Obligations.AdminCommands : Prop :=
  CmdDoes .nop 0x0100 gateNop (fun f s => s.ok f) ∧
  CmdDoes .ringCreate 0x0101 gateRingCreate (fun _ s => s) ∧
  CmdDoes .ringModify 0x0102 gateRingModify (fun _ s => s) ∧
  CmdDoes .ringDelete 0x0103 gateRingDelete (fun _ s => s) ∧
  CmdDoes .abort 0x0104 gateAbort goAbort ∧
  CmdDoes .sysInfo 0x0105 gateSysInfo (fun f s => s.okOut f ([identReg, s.capsReg, s.sys.serial, s.sys.bootId, s.hstat, s.lmt] ++ (List.range 4).map (fun d => domTime (s.dom d) s.lmt)))

/-- Each of these commands completes its own rule wherever its descriptor can be fetched, nothing holds it, and R427's checks find nothing: the command joins those in flight and its effect is made, at once where its commit point is the fetch. Commands: CFG_LOAD, CFG_CHECK, CFG_ADMIT, CFG_RECORD, CFG_READ, UNIT_DISABLE, UNIT_ENABLE, SLUICE_READ. -/
def Obligations.ConfigCommands : Prop :=
  CmdDoes .cfgLoad 0x0201 gateCfgLoad goCfgLoad ∧
  CmdDoes .cfgCheck 0x0202 gateCfgCheck goCfgCheck ∧
  CmdDoes .cfgAdmit 0x0203 gateCfgAdmit goCfgAdmit ∧
  CmdDoes .cfgRecord 0x0204 gateCfgRecord goCfgRecord ∧
  CmdDoes .cfgRead 0x0205 gateCfgRead goCfgRead ∧
  CmdDoes .unitDisable 0x0206 gateUnit goUnitDisable ∧
  CmdDoes .unitEnable 0x0207 gateUnit goUnitEnable ∧
  CmdDoes .sluiceRead 0x0208 gateSluiceRead goSluiceRead

/-- Each of these commands completes its own rule wherever its descriptor can be fetched, nothing holds it, and R427's checks find nothing: the command joins those in flight and its effect is made, at once where its commit point is the fetch. Commands: RACE_VM_SET, RACE_TIME_SET, RACE_REFERENCE, RACE_PRESET, RACE_CONFIRM, COG_ARM, COG_DISARM, PLACE_READ, PLACE_WRITE, PLACE_SEAL. -/
def Obligations.RaceCogCommands : Prop :=
  CmdDoes .raceVmSet 0x0301 gateRaceVmSet (fun f s => s.replaceOlder f) ∧
  CmdDoes .raceTimeSet 0x0302 gateRaceTimeSet (fun f s => s.replaceOlder f) ∧
  CmdDoes .raceReference 0x0303 gateRaceReference goRaceReference ∧
  CmdDoes .racePreset 0x0304 gateRacePreset (fun f s => s.replaceOlder f) ∧
  CmdDoes .raceConfirm 0x0305 gateRaceConfirm goRaceConfirm ∧
  CmdDoes .cogArm 0x0401 gateCogArm (fun _ s => s) ∧
  CmdDoes .cogDisarm 0x0402 gateCogDisarm goCogDisarm ∧
  CmdDoes .placeRead 0x0403 gatePlaceRead goPlaceRead ∧
  CmdDoes .placeWrite 0x0404 gatePlaceWrite goPlaceWrite ∧
  CmdDoes .placeSeal 0x0405 gatePlaceSeal goPlaceSeal

/-- Each of these commands completes its own rule wherever its descriptor can be fetched, nothing holds it, and R427's checks find nothing: the command joins those in flight and its effect is made, at once where its commit point is the fetch. Commands: POINT_READ, POINT_WRITE, POINT_META, NODE_READ. -/
def Obligations.PointCommands : Prop :=
  CmdDoes .pointRead 0x0501 gatePointRead goPointRead ∧
  CmdDoes .pointWrite 0x0502 gatePointWrite (fun _ s => s) ∧
  CmdDoes .pointMeta 0x0503 gatePointMeta goPointMeta ∧
  CmdDoes .nodeRead 0x0504 gateNodeRead goNodeRead

/-- Each of these commands completes its own rule wherever its descriptor can be fetched, nothing holds it, and R427's checks find nothing: the command joins those in flight and its effect is made, at once where its commit point is the fetch. Commands: LOOP_MODE, LOOP_TRIM, LOOP_COEF_WRITE, LOOP_COEF_SEAL, LOOP_READ_STATE, FT_START, FT_STOP, FT_TUNE, FT_ACCEPT, FT_PLACE_ERR, FT_STATUS. -/
def Obligations.LoopFantailCommands : Prop :=
  CmdDoes .loopMode 0x0601 gateLoopMode (fun _ s => s) ∧
  CmdDoes .loopTrim 0x0602 gateLoopTrim (fun _ s => s) ∧
  CmdDoes .loopCoefWrite 0x0603 gateLoopCoefWrite goLoopCoefWrite ∧
  CmdDoes .loopCoefSeal 0x0604 gateLoopCoefSeal goLoopCoefSeal ∧
  CmdDoes .loopReadState 0x0605 gateLoopReadState goLoopReadState ∧
  CmdDoes .ftStart 0x0701 gateFtStart goFtStart ∧
  CmdDoes .ftStop 0x0702 gateFtStop goFtStop ∧
  CmdDoes .ftTune 0x0703 gateFtTune (fun _ s => s) ∧
  CmdDoes .ftAccept 0x0704 gateFtAccept goFtAccept ∧
  CmdDoes .ftPlaceErr 0x0705 gateFtPlaceErr goFtPlaceErr ∧
  CmdDoes .ftStatus 0x0706 gateFtStatus goFtStatus

/-- Each of these commands completes its own rule wherever its descriptor can be fetched, nothing holds it, and R427's checks find nothing: the command joins those in flight and its effect is made, at once where its commit point is the fetch. Commands: AXIS_ENABLE, AXIS_DISABLE, AXIS_GOTO, AXIS_QUEUE, AXIS_STOP, AXIS_HOME, AXIS_SET_POS, AXIS_LIMITS, AXIS_CLEAR_FAULT, AXIS_TABLE_WRITE, AXIS_TABLE_SEAL. -/
def Obligations.MotionCommands : Prop :=
  CmdDoes .axisEnable 0x0801 gateAxisEnable (fun _ s => s) ∧
  CmdDoes .axisDisable 0x0802 gateAxisDisable (fun _ s => s) ∧
  CmdDoes .axisGoto 0x0803 gateAxisGoto (fun _ s => s) ∧
  CmdDoes .axisQueue 0x0804 gateAxisQueue (fun _ s => s) ∧
  CmdDoes .axisStop 0x0805 gateAxisStop (fun _ s => s) ∧
  CmdDoes .axisHome 0x0806 gateAxisHome (fun _ s => s) ∧
  CmdDoes .axisSetPos 0x0807 gateAxisSetPos goAxisSetPos ∧
  CmdDoes .axisLimits 0x0808 gateAxisLimits (fun _ s => s) ∧
  CmdDoes .axisClearFault 0x0809 gateAxisClearFault (fun _ s => s) ∧
  CmdDoes .axisTableWrite 0x080A gateAxisTableWrite goAxisTableWrite ∧
  CmdDoes .axisTableSeal 0x080B gateAxisTableSeal goAxisTableSeal

/-- Each of these commands completes its own rule wherever its descriptor can be fetched, nothing holds it, and R427's checks find nothing: the command joins those in flight and its effect is made, at once where its commit point is the fetch. Commands: ADC_START, ANA_VREF, CL_ZERO_SPAN, CL_CAL_CAPTURE, DIO_RESET. -/
def Obligations.AnalogueCommands : Prop :=
  CmdDoes .adcStart 0x0901 gateAdcStart goAdcStart ∧
  CmdDoes .anaVref 0x0902 gateAnaVref goAnaVref ∧
  CmdDoes .clZeroSpan 0x0903 gateClZeroSpan (fun _ s => s) ∧
  CmdDoes .clCalCapture 0x0904 gateClCalCapture goClCalCapture ∧
  CmdDoes .dioReset 0x0905 gateDioReset goDioReset

/-- Each of these commands completes its own rule wherever its descriptor can be fetched, nothing holds it, and R427's checks find nothing: the command joins those in flight and its effect is made, at once where its commit point is the fetch. Commands: CAP_ARM, CAP_DISARM, CAP_TRIGGER, CAP_READ, CAP_RELEASE, TR_START, TR_STOP, TR_FLUSH, LOG_READ, LOG_CLEAR, LOG_CATALOGUE, REC_FREEZE, REC_THAW. -/
def Obligations.RecordingCommands : Prop :=
  CmdDoes .capArm 0x0A01 gateCapArm goCapArm ∧
  CmdDoes .capDisarm 0x0A02 gateCapDisarm goCapDisarm ∧
  (∀ h s, s.accepts 0x0A03 h = true → (gateCapTrigger (s.asFetched h) (s.take h)).passes = true →
    exec (.capTrigger h) s = .next ((s.take h).runs s 0x0A03 (gateCapTrigger (s.asFetched h) (s.take h)) goCapTrigger (s.asFetched h))) ∧
  CmdDoes .capRead 0x0A04 gateCapRead goCapRead ∧
  CmdDoes .capRelease 0x0A05 gateCapRelease goCapRelease ∧
  CmdDoes .trStart 0x0A06 gateTrStart goTrStart ∧
  CmdDoes .trStop 0x0A07 gateTrStop goTrStop ∧
  CmdDoes .trFlush 0x0A08 gateTrFlush goTrFlush ∧
  CmdDoes .logRead 0x0A09 gateLogRead goLogRead ∧
  CmdDoes .logClear 0x0A0A gateLogClear (fun f s => ((s.setLog { s.log with recs := [] }).raiseReq [{ code := EV_LOG_CLEARED, sev := evSev EV_LOG_CLEARED, always := true }]).ok f) ∧
  CmdDoes .logCatalogue 0x0A0B gateLogCatalogue (fun f s => s.okOut f (evTable.flatMap (catEntry s))) ∧
  CmdDoes .recFreeze 0x0A0C gateRecFreeze (fun f s => (s.setLog { s.log with frozen := true, frozenAt := s.lmt }).ok f) ∧
  CmdDoes .recThaw 0x0A0D gateRecThaw (fun f s => s.thaw.ok f)

/-- Each of these commands completes its own rule wherever its descriptor can be fetched, nothing holds it, and R427's checks find nothing: the command joins those in flight and its effect is made, at once where its commit point is the fetch. Commands: LOGIC_LOAD, LOGIC_SEAL, LOGIC_MODE, LOGIC_STEP, LOGIC_BREAK, LOGIC_FORCE, LOGIC_UNFORCE, LOGIC_FORCE_CLEAR, LOGIC_FORCE_LIST, LOGIC_READ_STATE, SPIN_LOAD, SPIN_SEAL, SPIN_READ_STATE. -/
def Obligations.ProgramCommands : Prop :=
  CmdDoes .logicLoad 0x0B01 gateLogicLoad goLogicLoad ∧
  CmdDoes .logicSeal 0x0B02 gateLogicSeal goLogicSeal ∧
  CmdDoes .logicMode 0x0B03 gateLogicMode goLogicMode ∧
  CmdDoes .logicStep 0x0B04 gateLogicStep goLogicStep ∧
  CmdDoes .logicBreak 0x0B05 gateLogicBreak goLogicBreak ∧
  CmdDoes .logicForce 0x0B06 gateLogicForce (fun _ s => s) ∧
  CmdDoes .logicUnforce 0x0B07 gateLogicUnforce (fun _ s => s) ∧
  CmdDoes .logicForceClear 0x0B08 gateLogicForceClear goLogicForceClear ∧
  CmdDoes .logicForceList 0x0B09 gateLogicForceList goLogicForceList ∧
  CmdDoes .logicReadState 0x0B0A gateLogicReadState goLogicReadState ∧
  CmdDoes .spinLoad 0x0C01 gateSpinLoad goSpinLoad ∧
  CmdDoes .spinSeal 0x0C02 gateSpinSeal goSpinSeal ∧
  CmdDoes .spinReadState 0x0C03 gateSpinReadState goSpinReadState

/-- Each of these commands completes its own rule wherever its descriptor can be fetched, nothing holds it, and R427's checks find nothing: the command joins those in flight and its effect is made, at once where its commit point is the fetch. Commands: CAN_SEND, CAN_RECOVER, CAN_RATE_DETECT, CAN_RING_READ, SAFE_STATUS, SAFE_DIAG_READ, SAFE_CONFIG_STAGE, SAFE_CONFIG_ACCEPT, SAFE_CONN_RESTART. -/
def Obligations.CanSafetyCommands : Prop :=
  CmdDoes .canSend 0x0D01 gateCanSend goCanSend ∧
  CmdDoes .canRecover 0x0D02 gateCanRecover goCanRecover ∧
  CmdDoes .canRateDetect 0x0D03 gateCanRateDetect goCanRateDetect ∧
  CmdDoes .canRingRead 0x0D04 gateCanRingRead goCanRingRead ∧
  CmdDoes .safeStatus 0x0E01 gateSafeStatus goSafeStatus ∧
  CmdDoes .safeDiagRead 0x0E02 gateSafeDiagRead goSafeDiagRead ∧
  CmdDoes .safeConfigStage 0x0E03 gateSafeConfigStage goSafeConfigStage ∧
  CmdDoes .safeConfigAccept 0x0E04 gateSafeConfigAccept goSafeConfigAccept ∧
  CmdDoes .safeConnRestart 0x0E05 gateSafeConnRestart goSafeConnRestart

/-- Each of these commands completes its own rule wherever its descriptor can be fetched, nothing holds it, and R427's checks find nothing: the command joins those in flight and its effect is made, at once where its commit point is the fetch. Commands: RED_STATUS, RED_SWITCH, RED_REVERT_INHIBIT, HOP_FLAG, HOP_CANCEL, HOP_TRACE_READ, EXT_LOAD, EXT_START, EXT_STOP, HOP_READ_STATE, UPD_STAGE, UPD_ARM, UPD_CANCEL, UPD_COMMIT, UPD_STATUS. -/
def Obligations.SystemCommands : Prop :=
  CmdDoes .redStatus 0x0F01 gateRedStatus goRedStatus ∧
  CmdDoes .redSwitch 0x0F02 gateRedSwitch goRedSwitch ∧
  CmdDoes .redRevertInhibit 0x0F03 gateRedRevertInhibit (fun f s => ({ s with red := { s.red with inhibit := f.h.p 0 1 == 1 } }).ok f) ∧
  CmdDoes .hopFlag 0x1101 gateHopFlag (fun f s => s.setFlight { f with mark := (hopTarget f.h 0 s).getD 0 }) ∧
  CmdDoes .hopCancel 0x1102 gateHopCancel (fun f s => s.setFlight { f with mark := (hopTarget f.h 0 s).getD 0 }) ∧
  CmdDoes .hopTraceRead 0x1103 gateHopTraceRead goHopTraceRead ∧
  CmdDoes .extLoad 0x1104 gateExtLoad goExtLoad ∧
  CmdDoes .extStart 0x1105 gateExtStart (fun f s => s.setFlight { f with mark := f.h.p 0 2 }) ∧
  CmdDoes .extStop 0x1106 gateExtStop goExtStop ∧
  CmdDoes .hopReadState 0x1107 gateHopReadState goHopReadState ∧
  CmdDoes .updStage 0x1001 gateUpdStage (fun _ s => s) ∧
  CmdDoes .updArm 0x1002 gateUpdArm (fun _ s => s.useFree) ∧
  CmdDoes .updCancel 0x1003 gateUpdCancel goUpdCancel ∧
  CmdDoes .updCommit 0x1004 gateUpdCommit goUpdCommit ∧
  CmdDoes .updStatus 0x1005 gateUpdStatus goUpdStatus

/-- For every state s with c at the front of its queue and cs behind it, a step that answers a next state leaves exactly cs waiting: no row of the table touches the queue. -/
def Obligations.QueueKept : Prop :=
  ∀ (s t : State) (c : Instr) (cs : List Instr), s.pending = c :: cs → step s = .next t → t.pending = cs

/-- For every state s and every step to t: HSTAT.STATE stays, or moves BOOT to VERIFY, VERIFY to LOAD or FAULT_HALT, LOAD to READY or FAULT_HALT, READY to RUNNING or FAULT_HALT, RUNNING to FAULT_HALT, or from any state to BOOT. -/
def Obligations.HstatMoves : Prop :=
  ∀ s t : State, step s = .next t → s.sys.st.mayMove t.sys.st = true

/-- The invariant that in FAULT_HALT the module is single or BLOCKED is kept by every step from every state that has it. -/
def Obligations.HaltBlocked : Prop :=
  ∀ s t : State, s.haltBlocked = true → step s = .next t → t.haltBlocked = true

/-- The state after reset has no command waiting or in flight, is in BOOT, unpowered, with its point memories in canonical form, and has the invariant of HaltBlocked. -/
def Obligations.ResetBlocked : Prop :=
  State.reset.haltBlocked = true ∧ State.reset.pending = [] ∧ State.reset.flights = [] ∧ State.reset.sys.st = .boot ∧ State.reset.sys.clocksOn = false ∧
  Memory.wf State.reset = true

/-- Raising an event reports it at the severity of its code, and each event of the twelve tables has the severity, and where the table gives one the code, that the table lists. -/
def Obligations.EventSeverities : Prop :=
  (∀ (s : State) (code unit point : Nat) (ps : List Nat) (cl : Bool),
    s.raise code unit ps point cl = s.raiseReq [{ code := code, sev := evSev code, cleared := cl, unit := unit, point := point, params := ps }]) ∧
  (evSev EV_RACE_HOLDOVER = 5 ∧ evSev EV_RACE_LOST = 6 ∧ evSev EV_RACE_RECOVERED = 4 ∧ evSev EV_RACE_STEP_LIMIT = 4) ∧
  (evSev EV_SEG_LATE = 4 ∧ evSev EV_DOMAIN_SLEWING = 4 ∧ evSev EV_DOMAIN_STEP = 4 ∧ evSev EV_DOMAIN_LOCKED = 3) ∧
  (evSev EV_DOMAIN_HOLDOVER = 5 ∧ evSev EV_COG_MISSED = 4 ∧ evSev EV_FO_SPACING = 4 ∧ evSev EV_FO_OVERFLOW = 5) ∧
  (evSev EV_GROUP_PACED = 3 ∧ evSev EV_BANK_SWAPPED = 2 ∧ evSev EV_BANK_DEFERRED = 4 ∧ evSev EV_BANK_NODE_MISMATCH = 5) ∧
  (evSev EV_LOOP_MODE = 2 ∧ evSev EV_LOOP_OVERRIDE = 2 ∧ evSev EV_LOOP_PV_BAD = 5 ∧ evSev EV_LOOP_PV_GOOD = 3) ∧
  (evSev EV_LOOP_SP_BAD = 4 ∧ evSev EV_LOOP_OVERRUN = 6 ∧ evSev EV_FT_RESULT = 2 ∧ evSev EV_FT_FROZEN = 2) ∧
  (evSev EV_FT_REJECTED = 3 ∧ evSev EV_FT_MODEL_INVALID = 3 ∧ evSev EV_FT_CANDIDATE = 3 ∧ evSev EV_FT_TEST_ABORTED = 4) ∧
  (evSev EV_FT_HELD_FULL = 4 ∧ evSev EV_AXIS_OVERSHOOT = 4 ∧ evSev EV_AXIS_LIMIT = 5 ∧ evSev EV_AXIS_DEVIATION = 4) ∧
  (evSev EV_AXIS_LOST_STEPS = 5 ∧ evSev EV_AXIS_FAULT = 6 ∧ evSev EV_AXIS_HOMED = 2 ∧ evSev EV_AXIS_HOME_FAILED = 5) ∧
  (evSev EV_AXIS_OVERRUN = 6 ∧ evSev EV_AXIS_RESTART = 4 ∧ evSev EV_ADC_OVERLAP = 4 ∧ evSev EV_ADC_OVERRANGE = 3) ∧
  (evSev EV_VREF_FAULT = 6 ∧ evSev EV_CL_FAULT = 5 ∧ evSev EV_CL_COMPLIANCE = 4 ∧ evSev EV_CL_OPEN = 5) ∧
  (evSev EV_CL_THERMAL = 5 ∧ evSev EV_CL_ALARM = 5 ∧ evSev EV_CL_CAL = 3 ∧ evSev EV_CL_CAL_REFUSED = 3) ∧
  (evSev EV_DIO_OVERLOAD = 4 ∧ evSev EV_FIELD_LOW = 6 ∧ EV_CAP_CLOSED = 0x280 ∧ evSev EV_CAP_CLOSED = 2 ∧ EV_CAP_LOST = 0x281 ∧ evSev EV_CAP_LOST = 4) ∧
  (EV_TR_SPILL = 0x282 ∧ evSev EV_TR_SPILL = 4 ∧ EV_TR_DRAINED = 0x283 ∧ evSev EV_TR_DRAINED = 3 ∧ EV_TR_GAP = 0x284 ∧ evSev EV_TR_GAP = 5 ∧ EV_LOG_DROPPED = 0x285 ∧ evSev EV_LOG_DROPPED = 5) ∧
  (EV_LOG_OVERLOAD = 0x286 ∧ evSev EV_LOG_OVERLOAD = 5 ∧ EV_LOG_THAWED = 0x287 ∧ evSev EV_LOG_THAWED = 6 ∧ EV_LOG_CLEARED = 0x288 ∧ evSev EV_LOG_CLEARED = 6 ∧ EV_LOGIC_MODE = 0x2C0 ∧ evSev EV_LOGIC_MODE = 2) ∧
  (EV_LOGIC_BREAK = 0x2C1 ∧ evSev EV_LOGIC_BREAK = 3 ∧ EV_LOGIC_SWAPPED = 0x2C2 ∧ evSev EV_LOGIC_SWAPPED = 2 ∧ EV_LOGIC_STOPPED = 0x2C3 ∧ evSev EV_LOGIC_STOPPED = 5 ∧ EV_LOGIC_USER = 0x2C4 ∧ evSev EV_LOGIC_USER = 3) ∧
  (EV_FORCE_SET = 0x2C5 ∧ evSev EV_FORCE_SET = 3 ∧ EV_FORCE_REMOVED = 0x2C6 ∧ evSev EV_FORCE_REMOVED = 3 ∧ EV_FORCE_DROPPED = 0x2C7 ∧ evSev EV_FORCE_DROPPED = 4 ∧ EV_LOGIC_RESTART = 0x2C8 ∧ evSev EV_LOGIC_RESTART = 3) ∧
  (EV_SPIN_SWAPPED = 0x300 ∧ evSev EV_SPIN_SWAPPED = 2 ∧ EV_SPIN_BAD_VERDICT = 0x301 ∧ evSev EV_SPIN_BAD_VERDICT = 4 ∧ EV_SPIN_BACKLOG = 0x302 ∧ evSev EV_SPIN_BACKLOG = 4 ∧ EV_CAN_PASSIVE = 0x340 ∧ evSev EV_CAN_PASSIVE = 4) ∧
  (EV_CAN_BUSOFF = 0x341 ∧ evSev EV_CAN_BUSOFF = 6 ∧ EV_CAN_ALONE = 0x342 ∧ evSev EV_CAN_ALONE = 4 ∧ EV_CAN_RATE_FOUND = 0x343 ∧ evSev EV_CAN_RATE_FOUND = 2 ∧ EV_CAN_TX_LATE = 0x344 ∧ evSev EV_CAN_TX_LATE = 4) ∧
  (EV_CAN_RX_TIMEOUT = 0x345 ∧ evSev EV_CAN_RX_TIMEOUT = 5 ∧ EV_CAN_RING_FULL = 0x346 ∧ evSev EV_CAN_RING_FULL = 4 ∧ EV_RED_PAIRED = 0x3C0 ∧ evSev EV_RED_PAIRED = 2 ∧ EV_RED_SYNCED = 0x3C1 ∧ evSev EV_RED_SYNCED = 2) ∧
  (EV_RED_PATH_LOST = 0x3C2 ∧ evSev EV_RED_PATH_LOST = 4 ∧ EV_RED_PARTNER_LOST = 0x3C3 ∧ evSev EV_RED_PARTNER_LOST = 5 ∧ EV_RED_SWITCHOVER = 0x3C4 ∧ evSev EV_RED_SWITCHOVER = 6 ∧ EV_RED_TAKEOVER_REFUSED = 0x3C5 ∧ evSev EV_RED_TAKEOVER_REFUSED = 7) ∧
  (EV_RED_REVERT = 0x3C6 ∧ evSev EV_RED_REVERT = 3 ∧ EV_RED_DUAL_ACTIVE = 0x3C7 ∧ evSev EV_RED_DUAL_ACTIVE = 7 ∧ EV_RED_MISMATCH = 0x3C8 ∧ evSev EV_RED_MISMATCH = 6 ∧ EV_RED_COPY_LATE = 0x3C9 ∧ evSev EV_RED_COPY_LATE = 5) ∧
  (EV_HOST_RESET = 0x040 ∧ evSev EV_HOST_RESET = 4 ∧ EV_HOST_POWER = 0x041 ∧ evSev EV_HOST_POWER = 2 ∧ EV_HOST_HB_LOST = 0x042 ∧ evSev EV_HOST_HB_LOST = 5 ∧ EV_RING_ERROR = 0x043 ∧ evSev EV_RING_ERROR = 5) ∧
  (EV_EVQ_LOST = 0x044 ∧ evSev EV_EVQ_LOST = 3 ∧ EV_HOST_LINK_DEGRADED = 0x045 ∧ evSev EV_HOST_LINK_DEGRADED = 5 ∧ EV_HOST_LINK_ERROR = 0x046 ∧ evSev EV_HOST_LINK_ERROR = 5)

/-- With the clocks on: a read of LMT_LO returns LMT [31:0] and latches LMT [63:32]; SULOCK locks; a write that is not of 4 bytes is ignored; while locked a write changes no RWL field and HCTL only QUIESCE; unlocked, DBLK_LO keeps bits 31 to 12, SWEEP takes 1 to 64 and ignores other values, HBCFG ignores values out of range. Nothing else of the state changes but what follows every row. -/
def Obligations.RegisterAccess : Prop :=
  ∀ (t : Nat) (s : State), s.sys.clocksOn = true → let u := s.tick t
  exec (.lmtLoRead t) s = .next (u.follow { u with host := { u.host with readData := BitVec.ofNat 32 u.lmt, lmtHi := BitVec.ofNat 32 (u.lmt / 4294967296) } }) ∧
  exec (.sulockLock t) s = .next (u.follow { u with host := { u.host with locked := true } }) ∧
  (∀ ofs n val, n ≠ 4 → exec (.registerWrite t ofs { size := n, val := val }) s = .next (u.follow u)) ∧
  (s.host.locked = true →
    (∀ ofs val, ofs ≠ 0x0C → exec (.registerWrite t ofs { val := val }) s = .next (u.follow u)) ∧
    ∀ val, exec (.registerWrite t 0x0C { val := val }) s = .next (u.follow { u with host := { u.host with quiesce := val.getLsbD 1 } })) ∧
  (s.host.locked = false →
    (∀ val, exec (.registerWrite t 0x20 { val := val }) s = .next (u.follow { u with host := { u.host with dblkLo := val &&& 0xFFFFF000#32 } })) ∧
    (∀ val : W32, 1 ≤ val.toNat % 128 → val.toNat % 128 ≤ 64 →
      exec (.registerWrite t 0x28 { val := val }) s = .next (u.follow { u with host := { u.host with sweep := val &&& 0x7F#32 } })) ∧
    (∀ val : W32, ¬ (1 ≤ val.toNat % 128 ∧ val.toNat % 128 ≤ 64) → exec (.registerWrite t 0x28 { val := val }) s = .next (u.follow u)) ∧
    ∀ val : W32, ¬ (val.toNat % 65536 = 0 ∨ (10 ≤ val.toNat % 65536 ∧ val.toNat % 65536 ≤ 60000)) →
      exec (.registerWrite t 0x2C { val := val }) s = .next (u.follow u))

/-- A cog without the repeat flag is DONE after one firing. A repeating cog with firings left has, after k of them, the target first set plus or minus k times REPEAT_DIST modulo 2^96, and k more used. Its last firing makes it DONE. -/
def Obligations.CogRepeats : Prop :=
  ∀ (b : Bytes) (c : Cog) (k : Nat), c.target < 2 ^ 96 →
    (cogRepeats b = false → c.advance b = { c with st := .done }) ∧
    (cogRepeats b = true → (cogCount b = 0 ∨ c.used + k < cogCount b) →
      (fun c => Cog.advance c b)^[k] c =
        { c with used := c.used + k, target := (((c.target : Int) + k * (if cogFwd b then (cogDist b : Int) else - (cogDist b : Int))) % 2 ^ 96).toNat }) ∧
    (cogRepeats b = true → cogCount b ≠ 0 → cogCount b = c.used + 1 → c.advance b = { c with st := .done, used := c.used + 1 })

/-- With the clocks on and no FAULT_HALT: if some source is pending, unclaimed, targeted at the core and above its threshold, a read of CLAIM answers the one of highest priority and lowest number, marks it claimed by the core and no longer pending, and leaves every other source and core; if none qualifies it reads 0. -/
def Obligations.ClaimTakesBest : Prop :=
  ∀ (t core : Nat) (s : State), s.sys.clocksOn = true → s.sys.st ≠ .faultHalt → SMap.sorted s.hop.sources = true → let u := s.tick t
  (∀ n, u.delivers core n → (∀ m, u.delivers core m → u.srcPrio m < u.srcPrio n ∨ (u.srcPrio m = u.srcPrio n ∧ n ≤ m)) →
    ∃ v, exec (.ecClaim t core) s = .next (u.follow v) ∧ (v.hop.cores.getD core {}).result = n ∧ (v.hop.sources.getD n {}).claimed = some core ∧
      (v.hop.sources.getD n {}).pending = false ∧ (∀ m, m ≠ n → v.hop.sources.getD m {} = u.hop.sources.getD m {}) ∧
      (∀ c, c ≠ core → v.hop.cores.getD c {} = u.hop.cores.getD c {}) ∧ v = { u with hop := { u.hop with cores := v.hop.cores, sources := v.hop.sources } }) ∧
  ((∀ n, ¬ u.delivers core n) → exec (.ecClaim t core) s = .next (u.follow (u.setCore core (fun c => { c with result := 0 }))))

/-- For a source 1 to 479 that is not a level: an edge (on a DIO source, one its record names) makes an idle source pending; at a pending one it merges; at a claimed one it latches, and a second merges into the claiming core's OVERRUNS, saturating. A level source follows its input. Sources 0 and above 479, and a DIO edge the record does not name, change nothing. COMPLETE ends the claim; a latched edge or a level that holds is pending again. RAISE of 448 to 479 is such an edge, of others nothing. -/
def Obligations.EdgesMerge : Prop :=
  ∀ (t n : Nat) (up : Bool) (s : State), s.sys.clocksOn = true → let u := s.tick t; let x := u.hop.sources.getD n {}
  let set := fun y : EcSource => ({ u with hop := { u.hop with sources := u.hop.sources.set n y } } : State)
  let row := exec (.ecSourceEdge t { src := n, up := up }) s
  let none' := n = 0 ∨ 479 < n ∨ (384 ≤ n ∧ n < 448 ∧ u.dioEdge n up = false)
  (none' → row = .next (u.follow u)) ∧
  (1 ≤ n → n < 384 → row = .next (u.follow (if srcLevel n then set { x with level := up, pending := up && x.claimed.isNone } else ecLatch n u))) ∧
  (384 ≤ n → ¬ none' → row = .next (u.follow (ecLatch n u))) ∧
  (x.claimed = none → x.pending = false → ecLatch n u = set { x with pending := true }) ∧
  (x.claimed = none → x.pending = true → ((ecLatch n u).hop.sources.getD n {}).pending = true ∧
    ((ecLatch n u).hop.sources.getD n {}).merged = x.merged + 1 ∧ (ecLatch n u).hop.cores = u.hop.cores) ∧
  (∀ c, x.claimed = some c → x.again = false → ecLatch n u = set { x with again := true }) ∧
  (∀ c, x.claimed = some c → x.again = true →
    ((ecLatch n u).hop.cores.getD c {}).overruns = min 4294967295 ((u.hop.cores.getD c {}).overruns + 1) ∧ ((ecLatch n u).hop.sources.getD n {}).again = true ∧
    ((ecLatch n u).hop.sources.getD n {}).claimed = some c ∧ ∀ m, m ≠ n → (ecLatch n u).hop.sources.getD m {} = u.hop.sources.getD m {}) ∧
  (s.sys.st ≠ .faultHalt →
    (∀ c core, x.claimed = some c →
      exec (.ecComplete t core n) s = .next (u.follow (set { x with claimed := none, pending := if srcLevel n then x.level else x.again, again := false }))) ∧
    (∀ core val, val % 512 = n → 448 ≤ n → n ≤ 479 → exec (.ecRaise t core { ofs := 0x0C, val := val }) s = row) ∧
    ∀ core val, val % 512 = n → n < 448 ∨ 479 < n → exec (.ecRaise t core { ofs := 0x0C, val := val }) s = .next (u.follow u))

/-- For every record, loop and input of a mode other than DISABLED: outside a bad PV in AUTO and a TRACK without a source the output is within OUT_MIN and OUT_MAX; a TRACK without a source holds the output; the integrator stays within its limits; u_acc fits 40 bits; TRIM stays a 17-bit value; a limited output is flagged high or low; a bad PV or a held channel holds the integrator, and a bad PV the output or DISABLE_OUT. -/
def Obligations.LoopRanges : Prop :=
  ∀ (b : Bytes) (p : Loop) (x : LoopIn), let o := loopRun b p x
  (lpOutMin b ≤ lpOutMax b → (x.mode = .auto → x.pvBad = false) → (x.mode = .track → x.keep = false) → x.mode ≠ .disabled → lpOutMin b ≤ o.lp.u ∧ o.lp.u ≤ lpOutMax b) ∧
  (x.mode = .track → x.keep = true → o.lp.u = p.u ∧ o.hi = false ∧ o.lo = false) ∧
  (lpQ b 70 ≤ lpQ b 72 → lpQ b 70 * 32768 ≤ p.i → p.i ≤ lpQ b 72 * 32768 → lpQ b 70 * 32768 ≤ o.lp.i ∧ o.lp.i ≤ lpQ b 72 * 32768) ∧
  (-2 ^ 39 ≤ o.lp.uAcc ∧ o.lp.uAcc ≤ 2 ^ 39 - 1) ∧
  (-65536 ≤ p.trim → p.trim ≤ 65535 → -65536 ≤ o.lp.trim ∧ o.lp.trim ≤ 65535) ∧
  (x.mode = .auto → x.pvBad = false → o.lp.u ≠ store o.lp.uAcc → o.hi = true ∨ o.lo = true) ∧
  (x.mode = .auto → x.pvBad = true → x.leaving = false → x.old = none → o.lp.i = p.i ∧ (o.lp.u = if lpFlag b 5 then lpDisOut b else p.u)) ∧
  (x.mode = .auto → x.pvBad = false → x.held = true → x.leaving = false → x.old = none → o.lp.i = p.i)

/-- For a target in Q15 and a limited setpoint of 32 bits: one sample moves by the distance where it is within the rate or the rate is 0, else by the rate; the result fits 32 bits, lies between the old value and the target, and k samples towards a fixed target move k times the rate, stopping at it. -/
def Obligations.SetpointRamp : Prop :=
  ∀ (spl tgt : Int) (up down : Nat), -32768 ≤ tgt → tgt ≤ 32767 → -2147483648 ≤ spl → spl ≤ 2147483647 → let d := tgt * 65536 - spl
  spLimit spl tgt up down = (if 0 < d then (if up = 0 ∨ d ≤ up then spl + d else spl + up) else (if down = 0 ∨ -d ≤ down then spl - -d else spl - down)) ∧
  (-2147483648 ≤ spLimit spl tgt up down ∧ spLimit spl tgt up down ≤ 2147483647) ∧
  (0 ≤ d → spl ≤ spLimit spl tgt up down ∧ spLimit spl tgt up down ≤ tgt * 65536) ∧
  (d ≤ 0 → tgt * 65536 ≤ spLimit spl tgt up down ∧ spLimit spl tgt up down ≤ spl) ∧
  (∀ k : Nat, 0 ≤ d → 0 < up → (fun x => spLimit x tgt up down)^[k] spl = min (tgt * 65536) (spl + k * up)) ∧
  (∀ k : Nat, d ≤ 0 → 0 < down → (fun x => spLimit x tgt up down)^[k] spl = max (tgt * 65536) (spl - k * down))

/-- VAL and the commanded current are the rule's formulas with floor division; with the defaults 12,000 uA reads 16,384 and CMD 16,384 commands 12,000 uA; an input in service takes VAL from RAW; a loop source of KIND 3 reads VAL and a destination of KIND 7 writes CMD. -/
def Obligations.CurrentScaling : Prop :=
  (∀ (b : Bytes) (c : ClChan) (raw : Int),
    (c.zero < c.span → clVal b c raw = max (-32768) (min 32767 (leS b 16 2 + (2 * (raw - c.zero) * (leS b 18 2 - leS b 16 2) + (c.span - c.zero)).fdiv (2 * (c.span - c.zero))))) ∧
    (leS b 16 2 < leS b 18 2 → clCmd b c = c.zero + (2 * (c.cmd - leS b 16 2) * (c.span - c.zero) + (leS b 18 2 - leS b 16 2)).fdiv (2 * (leS b 18 2 - leS b 16 2)))) ∧
  (∀ (b : Bytes) (c : ClChan), c.zero = 4000 → c.span = 20000 → leS b 16 2 = 0 → leS b 18 2 = 32767 →
    clVal b c 12000 = 16384 ∧ (c.cmd = 16384 → clCmd b c = 12000)) ∧
  (∀ (s : State) (n : Nat) (b : Bytes), (s.cl n).cls = .ok → (s.cl n).thermal = false → 3600 ≤ (s.cl n).raw → (s.cl n).raw ≤ 21000 →
    ((s.clInput n b).cl n).val = clVal b (s.cl n) (s.cl n).raw) ∧
  (∀ (s : State) (l o : Nat) (b : Bytes), selKind b o = 3 → (s.readSel l b o).v = (s.cl (selIndex b o)).val) ∧
  ∀ (s : State) (i : Nat) (u : Int), ((s.driveDest 7 i u).cl i).cmd = u

/-- One update of an output that drives, is enabled and not thermal: with NAMUR_CLAMP the current is 3,800 to 20,500 uA, without it 0 to 24,000 uA; timed out, it is 3,600 or 21,000 uA by ALARM_HIGH; no other channel changes. -/
def Obligations.CurrentLimits : Prop :=
  ∀ (s : State) (n : Nat) (b : Bytes), s.drives = true → s.isDis (uCl n) = false → (s.cl n).thermal = false → let c := (s.clOutput n b).cl n
  ((s.cl n).timedOut = false →
    (clFlag b 0 = true → 3800 ≤ c.drive ∧ c.drive ≤ 20500) ∧ (clFlag b 0 = false → 0 ≤ c.drive ∧ c.drive ≤ 24000) ∧ c.alarm = false) ∧
  ((s.cl n).timedOut = true → c.drive = (if clFlag b 1 then 21000 else 3600) ∧ c.alarm = true ∧ c.alarmDir = clFlag b 1) ∧
  (∀ m, m ≠ n → (s.clOutput n b).cl m = s.cl m)

/-- FIELD_LOW, once, sets the flag and turns every DIO and PWM output off, leaving the current loops' own state, the configuration and the net; DIO_OVERLOAD turns the one output off, latched at the instant, and no other; on an output that is off it does nothing. -/
def Obligations.FieldOutputsOff : Prop :=
  ∀ (t : Nat) (s : State), s.sys.clocksOn = true → let u := s.tick t
  (s.ana.fieldLow = false → ∃ v, exec (.fieldLow t) s = .next (u.follow v) ∧ v.ana.fieldLow = true ∧ (∀ n, (v.dio n).on = false) ∧ (∀ n, (v.pwm n).live = false) ∧
    (∀ n, v.cl n = u.cl n) ∧ v.cfg = u.cfg ∧ v.net = u.net) ∧
  (s.ana.fieldLow = true → exec (.fieldLow t) s = .next (u.follow u)) ∧
  ∀ n, ((s.dio n).on = true → ∃ v, exec (.dioOverload t n) s = .next (u.follow v) ∧ (v.dio n).on = false ∧ (v.dio n).latched = true ∧ (v.dio n).overAt = some u.lmt ∧
      (∀ m, m ≠ n → v.dio m = u.dio m) ∧ v.ana.pwms = u.ana.pwms ∧ v.ana.cls = u.ana.cls) ∧
    ((s.dio n).on = false → exec (.dioOverload t n) s = .next (u.follow u))

/-- On a port in bus traffic a receive error adds 1 or 8 to REC, up to 255 (the cap is the model's), leaves TEC, and leaves the port ERROR_PASSIVE exactly where TEC or REC is 128 or more; a res bit with PEX makes it integrate instead, its counters unchanged; integrating or in internal loopback nothing happens; recovery leaves it ERROR_ACTIVE with both 0; no other port changes. -/
def Obligations.CanErrorStates : Prop :=
  ∀ (t p : Nat) (e : CanRxError) (s : State), s.sys.clocksOn = true → let u := s.tick t; let c := u.can p
  (c.listen = u.canListen p → u.canOn p = true → byteAt (u.canRec p) 1 ≠ 3 → c.integrating = false → (c.st = .active ∨ c.st = .passive) →
    ∃ v, exec (.canReceiveError t p e) s = .next (u.follow v) ∧ (v.can p).tec = c.tec ∧ (∀ q, q ≠ p → v.can q = u.can q) ∧
      (e.res = true → canFlag (u.canRec p) 6 = true → (v.can p).integrating = true ∧ (v.can p).rec' = c.rec' ∧ (v.can p).errors = c.errors ∧ (v.can p).st = c.st) ∧
      (e.res = false ∨ canFlag (u.canRec p) 6 = false →
        (v.can p).rec' = (if u.canListen p then c.rec' else min 255 (c.rec' + (if e.heavy then 8 else 1))) ∧ (v.can p).errors = c.errors + 1 ∧
        ((v.can p).st = .passive ↔ 128 ≤ (v.can p).tec ∨ 128 ≤ (v.can p).rec') ∧ ((v.can p).st = .active ↔ (v.can p).tec < 128 ∧ (v.can p).rec' < 128))) ∧
  (c.listen = u.canListen p → byteAt (u.canRec p) 1 = 3 ∨ c.integrating = true → exec (.canReceiveError t p e) s = .next (u.follow u)) ∧
  (c.st ≠ .recovering → exec (.canRecoveryComplete t p) s = .next (u.follow u)) ∧
  (c.st = .recovering → ∃ v, exec (.canRecoveryComplete t p) s = .next (u.follow v) ∧ (v.can p).st = .active ∧ (v.can p).tec = 0 ∧ (v.can p).rec' = 0 ∧
      (∀ q, q ≠ p → v.can q = u.can q))

/-- In LOAD, READY or RUNNING a listed code moves HSTAT to FAULT_HALT, writes HFAULT, blocks a paired module with HEALTH 2, turns DIO and PWM outputs off and fast outputs high-impedance, and leaves image, journal, home and configuration; in other states the row does nothing. -/
def Obligations.FaultHaltEntered : Prop :=
  ∀ (t code detail : Nat) (s : State), s.sys.clocksOn = true → let u := s.tick t
  ((s.sys.st = .load ∨ s.sys.st = .ready ∨ s.sys.st = .running) → (1 ≤ code ∧ code ≤ 0xB) ∨ code = 0xE →
    ∃ v, exec (.faultHaltEntry t code detail) s = .next (u.follow v) ∧ v.sys.st = .faultHalt ∧ v.sys.hfault.toNat = code + 65536 * (detail % 65536) ∧
      (s.red.role = .single → v.red = u.red) ∧ (s.red.role ≠ .single → v.red.role = .blocked ∧ v.red.health = 2) ∧
      (∀ n, (v.dio n).on = false ∧ (v.pwm n).live = false ∧ (v.pwm n).on = 0) ∧ (∀ n f, SMap.get? v.fos n = some f → f.hiZ = true ∧ f.pending = []) ∧
      v.img = u.img ∧ v.journal = u.journal ∧ v.home = u.home ∧ v.cfg = u.cfg) ∧
  (s.sys.st = .faultHalt ∨ s.sys.st = .boot ∨ s.sys.st = .verify → exec (.faultHaltEntry t code detail) s = .next (u.follow u))

/-- RED_FULL_COPY_DONE makes a copying SYNCING module STANDBY and does nothing elsewhere. An ACTIVE module that hears its partner ACTIVE becomes SYNCING exactly where the partner's epoch is newer by 1 to 127 modulo 256, or equal and this module is not preferred; its CAN ports then only listen. -/
def Obligations.PairRoles : Prop :=
  (∀ (t : Nat) (s : State), s.sys.clocksOn = true → let u := s.tick t
    (s.red.role = .syncing → s.red.copying = true → ∃ v, exec (.redFullCopyDone t) s = .next (u.follow v) ∧ v.red.role = .standby ∧ v.red.syncPct = 100 ∧ v.red.copying = false ∧
      v.red.epoch = u.red.epoch ∧ v.img = u.img ∧ v.cfg = u.cfg) ∧
    (s.red.role ≠ .syncing ∨ s.red.copying = false → exec (.redFullCopyDone t) s = .next (u.follow u))) ∧
  ∀ (s : State) (p : Partner),
    ((s.red.role ≠ .active ∨ p.role ≠ .active) → s.dualActive p = s) ∧
    (s.red.role = .active → p.role = .active → (1 ≤ ((p.epoch : Int) - s.red.epoch) % 256 ∧ ((p.epoch : Int) - s.red.epoch) % 256 ≤ 127) ∨ (p.epoch = s.red.epoch ∧ s.preferred p.unit p.mac = false) →
      (s.dualActive p).red.role = .syncing ∧ (s.dualActive p).red.driveActive = false ∧ (s.dualActive p).img = s.img ∧
        ∀ n, ((s.dualActive p).can n).st ≠ .off → ((s.dualActive p).can n).listen = true) ∧
    (s.red.role = .active → p.role = .active → ¬ ((1 ≤ ((p.epoch : Int) - s.red.epoch) % 256 ∧ ((p.epoch : Int) - s.red.epoch) % 256 ≤ 127) ∨ (p.epoch = s.red.epoch ∧ s.preferred p.unit p.mac = false)) →
      s.dualActive p = s)

/-- For a recorded node: with DROP_CYCLES misses in PREOP or OPERATE it is DROPPED at the instant; with fewer nothing happens; DROPPED for RELEASE_TIME it is ABSENT; earlier or in another state nothing happens; no other node and no committed value changes. -/
def Obligations.NodeLeaves : Prop :=
  ∀ (t seg node : Nat) (s : State) (b : Bytes), s.sys.clocksOn = true → let u := s.tick t; let k := nodeRecKey b; let n := u.node k
  u.nodeRec? seg node = some b →
  ((n.st = .preop ∨ n.st = .operate) → byteAt (u.segRec seg) 6 ≤ n.misses → ∃ v, exec (.nodeDrop t seg node) s = .next (u.follow v) ∧ (v.node k).st = .dropped ∧
    (v.node k).droppedAt = u.lmt ∧ (∀ j, j ≠ k → v.node j = u.node j) ∧ v.img.front = u.img.front) ∧
  (n.misses < byteAt (u.segRec seg) 6 → exec (.nodeDrop t seg node) s = .next (u.follow u)) ∧
  (n.st = .dropped → n.droppedAt + le (u.segRec seg) 12 4 * 1000000 ≤ u.lmt → u.drives = true →
    ∃ v, exec (.nodeReleaseTimeout t seg node) s = .next (u.follow v) ∧ (v.node k).st = .absent ∧ (∀ j, j ≠ k → v.node j = u.node j) ∧ v.img.front = u.img.front) ∧
  (n.st ≠ .dropped ∨ u.lmt < n.droppedAt + le (u.segRec seg) 12 4 * 1000000 → exec (.nodeReleaseTimeout t seg node) s = .next (u.follow u))

/-- On an armed race an index edge writes REF_POS from the count (subtracted where inverted), disarms, and clears UNREFERENCED; every race keeps its state and position, other races their captures, and cogs and encoders are unchanged. Unarmed, nothing happens. -/
def Obligations.RaceReferenced : Prop :=
  ∀ (t n : Nat) (count : W64) (s : State), s.sys.clocksOn = true → let u := s.tick t; let r := u.race n
  (r.refArmed = false → exec (.indexCapture t n count) s = .next (u.follow u)) ∧
  (r.refArmed = true → ∃ v, exec (.indexCapture t n count) s = .next (u.follow v) ∧ (v.race n).refArmed = false ∧ (v.race n).unref = false ∧
    (v.race n).refPos = (if r.inv then r.base - count else r.base + count) ∧ (∀ m, (v.race m).st = (u.race m).st ∧ (v.race m).pos = (u.race m).pos) ∧
    (∀ m, m ≠ n → (v.race m).refArmed = (u.race m).refArmed ∧ (v.race m).refPos = (u.race m).refPos) ∧ v.cogs = u.cogs ∧ v.encs = u.encs)

/-- A LOCKED domain 3 intervals without Sync enters HOLDOVER at its last rate and its time as it stands; an axis at standstill for HOLD_DELAY takes HOLD_SCALE; an output whose CMD is unwritten for CMD_TIMEOUT times out. Before that, or in other states, the rows do nothing. -/
def Obligations.ExpiriesHold : Prop :=
  ∀ (t : Nat) (s : State), s.sys.clocksOn = true → let u := s.tick t
  (∀ d, s.sys.restarting = false → (u.dom d).st = .locked → (u.dom d).lastSync + 3 * syncInterval (u.domRec d) ≤ u.lmt →
    ∃ v, exec (.ptpSyncTimeout t d) s = .next (u.follow v) ∧ (v.dom d).st = .holdover ∧ (v.dom d).rate = (u.dom d).rate ∧ (v.dom d).offset = (u.dom d).offset ∧
      (v.dom d).now = domTime (u.dom d) u.lmt ∧ (v.dom d).lmtAt = u.lmt ∧
      ∀ e, e ≠ d → v.dom e = u.dom e) ∧
  (∀ d, (u.dom d).st ≠ .locked ∨ u.lmt < (u.dom d).lastSync + 3 * syncInterval (u.domRec d) → exec (.ptpSyncTimeout t d) s = .next (u.follow u)) ∧
  (s.sys.st ≠ .faultHalt → ∀ x b, u.rec? 0x0E x = some b → (u.axis x).st = .standstill → (u.axis x).restAt + le b 16 2 * 1000000 ≤ u.lmt →
    exec (.axisHoldDelayExpiry t x) s = .next (u.follow (u.setAxis x { u.axis x with hold := true }))) ∧
  (s.sys.st ≠ .faultHalt → ∀ x, (u.axis x).st ≠ .standstill → exec (.axisHoldDelayExpiry t x) s = .next (u.follow u)) ∧
  (s.sys.st ≠ .faultHalt → ∀ n, (u.cl n).mode = 3 → le (u.clRec n) 20 4 ≠ 0 → (u.cl n).cmdAt + le (u.clRec n) 20 4 * 1000 ≤ u.lmt →
    exec (.clCmdTimeout t n) s = .next (u.follow (u.setCl n { u.cl n with timedOut := true }))) ∧
  (s.sys.st ≠ .faultHalt → ∀ n, le (u.clRec n) 20 4 = 0 ∨ u.lmt < (u.cl n).cmdAt + le (u.clRec n) 20 4 * 1000 → exec (.clCmdTimeout t n) s = .next (u.follow u))

/-- TAILRACE_SPILL moves a RUNNING channel without free buffer or DMA to SPILLING with EV_TR_SPILL and does nothing otherwise; TAILRACE_DRAIN_DONE moves a DRAINING channel with an empty spill to RUNNING with EV_TR_DRAINED and does nothing to a channel that is not DRAINING. -/
def Obligations.TailraceSpills : Prop :=
  ∀ (t c : Nat) (s : State), s.sys.clocksOn = true → let u := s.tick t
  ((u.chan c).st = .running → (u.host.dma = false ∨ trFree (u.host.trBufs.getD c []) = 0) →
    exec (.tailraceSpill t c) s = .next (u.follow ((u.setChan c { u.chan c with st := .spilling }).raise EV_TR_SPILL 0 [c]))) ∧
  ((u.chan c).st ≠ .running ∨ (u.host.dma = true ∧ 0 < trFree (u.host.trBufs.getD c [])) → exec (.tailraceSpill t c) s = .next (u.follow u)) ∧
  ((u.chan c).st ≠ .draining → exec (.tailraceDrainDone t c) s = .next (u.follow u)) ∧
  ((u.chan c).st = .draining → (u.chan c).spill = [] →
    exec (.tailraceDrainDone t c) s = .next (u.follow ((u.setChan c { u.chan c with st := .running }).raise EV_TR_DRAINED 0 [c])))

/-- Raising any event on a frozen log leaves its records, its sequence and the freeze, and keeps the reserve within 256; LOG_FREEZE_EXPIRY thaws after FREEZE_MAX with the frozen duration, and before that, or on a log that is not frozen, does nothing. -/
def Obligations.LogFrozen : Prop :=
  (∀ (s : State) (code unit point : Nat) (ps : List Nat) (cl : Bool), s.log.frozen = true → let v := s.raise code unit ps point cl
    v.log.recs = s.log.recs ∧ v.log.frozen = true ∧ v.log.nextSeq = s.log.nextSeq ∧ (s.log.reserve.length ≤ 256 → v.log.reserve.length ≤ 256)) ∧
  ∀ (t : Nat) (s : State), s.sys.clocksOn = true → let u := s.tick t
    (s.log.frozen = true → u.log.frozenAt + u.freezeMax * 1000000000 ≤ u.lmt → exec (.logFreezeExpiry t) s = .next (u.follow (u.thawFor (u.lmt - u.log.frozenAt)))) ∧
    (s.log.frozen = false ∨ u.lmt < u.log.frozenAt + u.freezeMax * 1000000000 → exec (.logFreezeExpiry t) s = .next (u.follow u))

/-- In a running safety layer, for an equivalent or antivalent pair whose count has reached N_d in a channel: the latch is set in both, every function that names the pair is SAFE with reason 2 (or in START_TEST), other functions are unchanged, and no output turns on; with a count below N_d in both nothing happens. -/
def Obligations.DiscrepancyLatches : Prop :=
  ∀ (t p : Nat) (s : State), s.sys.clocksOn = true → s.safe.layer = .running → let u := s.tick t
  let b := (sfRec? s.safe.recs 0x20 p).getD []; let x := fun (c : SafeChan) => c.pairs.getD p {}
  (byteAt b 1 = 1 ∨ byteAt b 1 = 2) →
  (0 < pairNd b → (pairNd b ≤ (x s.safe.a).count ∧ (x s.safe.a).disc = false) ∨ (pairNd b ≤ (x s.safe.b).count ∧ (x s.safe.b).disc = false) →
    ∃ v, exec (.safetyDiscrepancyCount t p) s = .next (u.follow v) ∧ (x v.safe.a).disc = true ∧ (x v.safe.b).disc = true ∧
      (∀ n f, (∃ r ∈ s.safeFns, fnNo r = n ∧ fnHasPair r p = true) → (SMap.get? v.safe.a.fns n = some f ∨ SMap.get? v.safe.b.fns n = some f) →
        f.st = .startTest ∨ (f.st = .safe ∧ f.reason = 2 ∧ f.torqueOff = true)) ∧
      (∀ n f, (∀ r ∈ s.safeFns, fnNo r = n → fnHasPair r p = false) → SMap.get? s.safe.a.fns n = some f → SMap.get? v.safe.a.fns n = some f) ∧
      (∀ o y, SMap.get? s.safe.outs o = some y → ∃ z, SMap.get? v.safe.outs o = some z ∧ (z.aOn = true → y.aOn = true) ∧ (z.bOn = true → y.bOn = true)) ∧
      v.img = u.img ∧ v.ana = u.ana) ∧
  ((x s.safe.a).count < pairNd b → (x s.safe.b).count < pairNd b → exec (.safetyDiscrepancyCount t p) s = .next (u.follow u))

/-- LOGIC below 16.5 V declares a power fail; 1,000 us later, and not before, the final commit leaves every journal entry sealed and either stops clocks, outputs and CAN with MRAM protected and committed values kept, or, where RESET# was released meanwhile (model's choice, log 162), enters BOOT with BOOT_ID + 1. -/
def Obligations.PowerFailStops : Prop :=
  ∀ (t : Nat) (s : State), s.sys.clocksOn = true → let u := s.tick t
  (s.sys.pfail ≠ .sealing ∨ u.lmt < s.sys.pfailAt + 1000000 → exec (.powerFailFinalCommit t) s = .next (u.follow u)) ∧
  (s.sys.pfail = .sealing → s.sys.pfailAt + 1000000 ≤ u.lmt →
    (s.sys.bootNext = none → ∃ v, exec (.powerFailFinalCommit t) s = .next (u.follow v) ∧ v.sys.clocksOn = false ∧ v.sys.mramWp = true ∧ v.sys.pfail = .stopped ∧
      (∀ e ∈ v.journal, e.sealed = true) ∧ (∀ n, (v.dio n).on = false ∧ (v.pwm n).live = false) ∧ (∀ n, (v.can n).st = .off) ∧ v.img.front = u.img.front ∧ v.img.back = u.img.back ∧ v.home = u.home ∧ v.cfg = u.cfg) ∧
    (∀ m p, s.sys.bootNext = some (m, p) → ∃ v, exec (.powerFailFinalCommit t) s = .next (u.follow v) ∧ v.sys.st = .boot ∧ v.sys.clocksOn = true ∧ v.sys.pfail = .ok ∧
      v.sys.bootId = (s.sys.bootId + 1) % 4294967296 ∧ (∀ e ∈ v.journal, e.sealed = true) ∧ v.home = u.home)) ∧
  (∀ mv, 16500 ≤ mv → exec (.powerFail t mv) s = .next (u.follow u)) ∧
  (∀ mv, mv < 16500 → s.sys.pfail = .ok → ∃ v, exec (.powerFail t mv) s = .next (u.follow v) ∧ v.sys.pfail = .sealing ∧ v.sys.pfailAt = u.lmt ∧
    v.sys.clocksOn = true ∧ v.sys.powerFails = u.sys.powerFails + 1 ∧ v.img = u.img ∧ v.journal = u.journal)

/-- For every command and every state whose clocks are stopped, a next state is the same state, except for LOGIC_REGULATION_REACHED, POWER_RESTORED, RESET_RELEASE, RESET_PIN, CL_FRONTEND_WATCHDOG and EC_SOURCE_EDGE. -/
def Obligations.ClocksStopped : Prop :=
  ∀ (c : Instr) (s t : State), s.sys.clocksOn = false → exec c s = .next t →
    t = s ∨ (∃ x m p, c = .logicRegulationReached x m p ∨ c = .powerRestored x m p ∨ c = .resetRelease x m p) ∨ (∃ x, c = .resetPin x ∨ c = .clFrontendWatchdog x) ∨ ∃ x i, c = .ecSourceEdge x i
end

