-- ==== Sys2Proof/Laws/Map.lean ====
section
/-! SUPPORT. Laws of the numbered families: what reads back, and that every operation keeps the canonical form. -/

namespace Sys2Proof

variable {α : Type}

@[simp] theorem SMap.get?_nil (n : Nat) : SMap.get? ([] : SMap α) n = none := rfl

/-- What was listed at a number reads back. -/
@[simp] theorem SMap.get?_set_same (m : SMap α) (n : Nat) (v : α) : SMap.get? (SMap.set m n v) n = some v := by
  induction m with
  | nil => simp [SMap.set, SMap.get?]
  | cons e r ih =>
    obtain ⟨k, w⟩ := e
    rcases Nat.lt_trichotomy n k with h | h | h
    · simp [SMap.set, SMap.get?, h]
    · simp [SMap.set, SMap.get?, h]
    · simp [SMap.set, SMap.get?, ih, Nat.not_lt.mpr (Nat.le_of_lt h), Nat.ne_of_gt h]

/-- Listing one number leaves every other number's value. -/
theorem SMap.get?_set_other (m : SMap α) {j n : Nat} (h : j ≠ n) (v : α) : SMap.get? (SMap.set m n v) j = SMap.get? m j := by
  induction m with
  | nil => simp [SMap.set, SMap.get?, h]
  | cons e r ih =>
    obtain ⟨k, w⟩ := e
    rcases Nat.lt_trichotomy n k with hk | hk | hk
    · simp [SMap.set, SMap.get?, hk, h]
    · subst hk; simp [SMap.set, SMap.get?, h]
    · simp [SMap.set, SMap.get?, ih, Nat.not_lt.mpr (Nat.le_of_lt hk), Nat.ne_of_gt hk]

@[simp] theorem SMap.getD_set_same (m : SMap α) (n : Nat) (v d : α) : SMap.getD (SMap.set m n v) n d = v := by
  simp [SMap.getD]

theorem SMap.getD_set_other (m : SMap α) {j : Nat} (n : Nat) (h : j ≠ n) {v : α} (d : α) : SMap.getD (SMap.set m n v) j d = SMap.getD m j d := by
  simp [SMap.getD, SMap.get?_set_other m h]

/-- Erasing one number leaves every other number's value. -/
theorem SMap.get?_erase_other (m : SMap α) {j n : Nat} (h : j ≠ n) : SMap.get? (SMap.erase m n) j = SMap.get? m j := by
  induction m with
  | nil => rfl
  | cons e r ih =>
    obtain ⟨k, w⟩ := e
    by_cases hk : n = k
    · subst hk; simp [SMap.erase, SMap.get?, h]
    · simp [SMap.erase, SMap.get?, hk, ih]

/-- Numbers that rise from a bound rise from a lower one. -/
theorem SMap.risingFrom_mono {a b : Nat} (h : a ≤ b) (m : SMap α) : SMap.risingFrom b m = true → SMap.risingFrom a m = true := by
  cases m with
  | nil => simp [SMap.risingFrom]
  | cons e r => simp only [SMap.risingFrom, Bool.and_eq_true, decide_eq_true_eq]; exact fun x => ⟨Nat.le_trans h x.1, x.2⟩

/-- No number below the bound is listed. -/
theorem SMap.get?_below {b n : Nat} (m : SMap α) (hb : n < b) (h : SMap.risingFrom b m = true) : SMap.get? m n = none := by
  induction m generalizing b with
  | nil => rfl
  | cons e r ih =>
    obtain ⟨k, w⟩ := e
    simp only [SMap.risingFrom, Bool.and_eq_true, decide_eq_true_eq] at h
    have : n ≠ k := by omega
    simp [SMap.get?, this, ih (b := k + 1) (by omega) h.2]

theorem SMap.risingFrom_set {b n : Nat} (m : SMap α) (hn : b ≤ n) (v : α) (h : SMap.risingFrom b m = true) :
    SMap.risingFrom b (SMap.set m n v) = true := by
  induction m generalizing b with
  | nil => simp [SMap.set, SMap.risingFrom, hn]
  | cons e r ih =>
    obtain ⟨k, w⟩ := e
    simp only [SMap.risingFrom, Bool.and_eq_true, decide_eq_true_eq] at h
    rcases Nat.lt_trichotomy n k with hk | hk | hk
    · simp only [SMap.set, hk, if_true, SMap.risingFrom, Bool.and_eq_true, decide_eq_true_eq]
      exact ⟨hn, hk, h.2⟩
    · subst hk; simp [SMap.set, SMap.risingFrom, h]
    · have h1 : ¬ n < k := by omega
      have h2 : n ≠ k := by omega
      simp only [SMap.set, h1, h2, if_false, SMap.risingFrom, Bool.and_eq_true, decide_eq_true_eq]
      exact ⟨h.1, ih hk h.2⟩

theorem SMap.risingFrom_erase {b n : Nat} (m : SMap α) (h : SMap.risingFrom b m = true) : SMap.risingFrom b (SMap.erase m n) = true := by
  induction m generalizing b with
  | nil => rfl
  | cons e r ih =>
    obtain ⟨k, w⟩ := e
    simp only [SMap.risingFrom, Bool.and_eq_true, decide_eq_true_eq] at h
    by_cases hk : n = k
    · simp only [SMap.erase, hk, if_true]; exact SMap.risingFrom_mono (by omega) r h.2
    · simp only [SMap.erase, hk, if_false, SMap.risingFrom, Bool.and_eq_true, decide_eq_true_eq]; exact ⟨h.1, ih h.2⟩

/-- Listing a value keeps the numbers rising. -/
theorem SMap.sorted_set (m : SMap α) (n : Nat) (v : α) (h : SMap.sorted m = true) : SMap.sorted (SMap.set m n v) = true :=
  SMap.risingFrom_set m (Nat.zero_le n) v h

/-- Erasing keeps the numbers rising. -/
theorem SMap.sorted_erase (m : SMap α) (n : Nat) (h : SMap.sorted m = true) : SMap.sorted (SMap.erase m n) = true :=
  SMap.risingFrom_erase m h

/-- An erased number reads as unlisted. -/
theorem SMap.get?_erase_same {b : Nat} (m : SMap α) (n : Nat) (h : SMap.risingFrom b m = true) : SMap.get? (SMap.erase m n) n = none := by
  induction m generalizing b with
  | nil => rfl
  | cons e r ih =>
    obtain ⟨k, w⟩ := e
    simp only [SMap.risingFrom, Bool.and_eq_true, decide_eq_true_eq] at h
    by_cases hk : n = k
    · subst hk; simp only [SMap.erase, if_true]; exact SMap.get?_below r (Nat.lt_succ_self n) h.2
    · simp [SMap.erase, SMap.get?, hk, ih h.2]

theorem SMap.risingFrom_mapV (f : Nat → α → α) (b : Nat) (m : SMap α) : SMap.risingFrom b (SMap.mapV f m) = SMap.risingFrom b m := by
  induction m generalizing b with
  | nil => rfl
  | cons e r ih => obtain ⟨k, w⟩ := e; simp [SMap.mapV, SMap.risingFrom, ih]

/-- A function of every value keeps the numbers. -/
@[simp] theorem SMap.sorted_mapV (f : Nat → α → α) (m : SMap α) : SMap.sorted (SMap.mapV f m) = SMap.sorted m := SMap.risingFrom_mapV f 0 m

theorem SMap.get?_mapV (f : Nat → α → α) (m : SMap α) (n : Nat) : SMap.get? (SMap.mapV f m) n = (SMap.get? m n).map (f n) := by
  induction m with
  | nil => rfl
  | cons e r ih =>
    obtain ⟨k, w⟩ := e
    by_cases hk : n = k
    · subst hk; simp [SMap.mapV, SMap.get?]
    · simp [SMap.mapV, SMap.get?, hk, ih]

theorem SMap.mem_set {m : SMap α} {n : Nat} {v : α} {e : Nat × α} (h : e ∈ SMap.set m n v) : e = (n, v) ∨ e ∈ m := by
  induction m with
  | nil => simpa [SMap.set] using h
  | cons a r ih =>
    obtain ⟨k, w⟩ := a
    simp only [SMap.set] at h
    split at h
    · simpa using h
    · split at h
      · rcases List.mem_cons.mp h with h | h
        · exact .inl h
        · exact .inr (List.mem_cons_of_mem _ h)
      · rcases List.mem_cons.mp h with h | h
        · exact .inr (h ▸ List.mem_cons_self)
        · rcases ih h with h | h
          · exact .inl h
          · exact .inr (List.mem_cons_of_mem _ h)

theorem SMap.mem_erase {m : SMap α} {n : Nat} {e : Nat × α} (h : e ∈ SMap.erase m n) : e ∈ m := by
  induction m with
  | nil => exact h
  | cons a r ih =>
    obtain ⟨k, w⟩ := a
    simp only [SMap.erase] at h
    split at h
    · exact List.mem_cons_of_mem _ h
    · rcases List.mem_cons.mp h with h | h
      · exact h ▸ List.mem_cons_self
      · exact List.mem_cons_of_mem _ (ih h)

variable [DecidableEq α]

/-- A write keeps the canonical form of a memory: the value an unlisted number reads as is not listed. -/
theorem SMap.wf_put (d : α) (m : SMap α) (n : Nat) (v : α) (h : SMap.wf d m = true) : SMap.wf d (SMap.put d m n v) = true := by
  simp only [SMap.wf, Bool.and_eq_true, List.all_eq_true, Bool.not_eq_true', decide_eq_false_iff_not] at h ⊢
  obtain ⟨hs, ha⟩ := h
  unfold SMap.put
  split
  · exact ⟨SMap.sorted_erase m n hs, fun e he => ha e (SMap.mem_erase he)⟩
  · rename_i hv
    refine ⟨SMap.sorted_set m n v hs, fun e he => ?_⟩
    rcases SMap.mem_set he with h | h
    · subst h; exact hv
    · exact ha e h

/-- What a memory reads back after a write. -/
theorem SMap.getD_put_same (d : α) (m : SMap α) (n : Nat) (v : α) (h : SMap.sorted m = true) : SMap.getD (SMap.put d m n v) n d = v := by
  unfold SMap.put
  split
  · rename_i hv; simp [SMap.getD, SMap.get?_erase_same m n h, hv]
  · simp [SMap.getD]

/-- A write leaves every other number's value. -/
theorem SMap.getD_put_other (d : α) (m : SMap α) {j n : Nat} (hj : j ≠ n) (v : α) : SMap.getD (SMap.put d m n v) j d = SMap.getD m j d := by
  unfold SMap.put
  split
  · simp [SMap.getD, SMap.get?_erase_other m hj]
  · simp [SMap.getD, SMap.get?_set_other m hj]

end Sys2Proof
end

