-- ==== Sys2Proof/Laws/PerInstr.lean ====
section
/-! SUPPORT. One lemma for each constructor of Instr: spec/opcode_table.json gives its row no bits, so no word spells the command. -/

namespace Sys2Proof

/-- No word of any width spells the command. -/
def Laws.NoWord.Statement (i : Instr) : Prop := ∀ nbits w, decodeTableWord nbits w ≠ some i

theorem decodeTableWord_none (nbits w : Nat) : decodeTableWord nbits w = none := rfl

theorem Laws.NoWord.all (i : Instr) : Laws.NoWord.Statement i := fun nbits w h => by rw [decodeTableWord_none nbits w] at h; cases h

theorem Laws.NoWord.logicRegulationReached : ∀ a0 a1 a2, Laws.NoWord.Statement (.logicRegulationReached a0 a1 a2) := fun _ _ _ => Laws.NoWord.all _
theorem Laws.NoWord.bootRomDone : ∀ a0, Laws.NoWord.Statement (.bootRomDone a0) := fun _ => Laws.NoWord.all _
theorem Laws.NoWord.slotVerifyDone : ∀ a0 a1, Laws.NoWord.Statement (.slotVerifyDone a0 a1) := fun _ _ => Laws.NoWord.all _
theorem Laws.NoWord.loadDone : ∀ a0 a1, Laws.NoWord.Statement (.loadDone a0 a1) := fun _ _ => Laws.NoWord.all _
theorem Laws.NoWord.holdupCharged : ∀ a0, Laws.NoWord.Statement (.holdupCharged a0) := fun _ => Laws.NoWord.all _
theorem Laws.NoWord.holdupChargeTimeout : ∀ a0, Laws.NoWord.Statement (.holdupChargeTimeout a0) := fun _ => Laws.NoWord.all _
theorem Laws.NoWord.faultHaltEntry : ∀ a0 a1 a2, Laws.NoWord.Statement (.faultHaltEntry a0 a1 a2) := fun _ _ _ => Laws.NoWord.all _
theorem Laws.NoWord.eccError : ∀ a0 a1 a2 a3 a4, Laws.NoWord.Statement (.eccError a0 a1 a2 a3 a4) := fun _ _ _ _ _ => Laws.NoWord.all _
theorem Laws.NoWord.fabricFault : ∀ a0, Laws.NoWord.Statement (.fabricFault a0) := fun _ => Laws.NoWord.all _
theorem Laws.NoWord.runtimeWatchdog : ∀ a0, Laws.NoWord.Statement (.runtimeWatchdog a0) := fun _ => Laws.NoWord.all _
theorem Laws.NoWord.baseplateOvertemp : ∀ a0, Laws.NoWord.Statement (.baseplateOvertemp a0) := fun _ => Laws.NoWord.all _
theorem Laws.NoWord.powerFail : ∀ a0 a1, Laws.NoWord.Statement (.powerFail a0 a1) := fun _ _ => Laws.NoWord.all _
theorem Laws.NoWord.powerFailFinalCommit : ∀ a0, Laws.NoWord.Statement (.powerFailFinalCommit a0) := fun _ => Laws.NoWord.all _
theorem Laws.NoWord.powerRestored : ∀ a0 a1 a2, Laws.NoWord.Statement (.powerRestored a0 a1 a2) := fun _ _ _ => Laws.NoWord.all _
theorem Laws.NoWord.resetPin : ∀ a0, Laws.NoWord.Statement (.resetPin a0) := fun _ => Laws.NoWord.all _
theorem Laws.NoWord.groupCycleStart : ∀ a0 a1 a2, Laws.NoWord.Statement (.groupCycleStart a0 a1 a2) := fun _ _ _ => Laws.NoWord.all _
theorem Laws.NoWord.nodeDrop : ∀ a0 a1 a2, Laws.NoWord.Statement (.nodeDrop a0 a1 a2) := fun _ _ _ => Laws.NoWord.all _
theorem Laws.NoWord.groupCommit : ∀ a0 a1 a2, Laws.NoWord.Statement (.groupCommit a0 a1 a2) := fun _ _ _ => Laws.NoWord.all _
theorem Laws.NoWord.groupOutputLaunch : ∀ a0 a1 a2, Laws.NoWord.Statement (.groupOutputLaunch a0 a1 a2) := fun _ _ _ => Laws.NoWord.all _
theorem Laws.NoWord.writeThroughDurable : ∀ a0, Laws.NoWord.Statement (.writeThroughDurable a0) := fun _ => Laws.NoWord.all _
theorem Laws.NoWord.journalSettle : ∀ a0, Laws.NoWord.Statement (.journalSettle a0) := fun _ => Laws.NoWord.all _
theorem Laws.NoWord.encoderSample : ∀ a0 a1 a2 a3 a4, Laws.NoWord.Statement (.encoderSample a0 a1 a2 a3 a4) := fun _ _ _ _ _ => Laws.NoWord.all _
theorem Laws.NoWord.ssiRead : ∀ a0 a1 a2 a3, Laws.NoWord.Statement (.ssiRead a0 a1 a2 a3) := fun _ _ _ _ => Laws.NoWord.all _
theorem Laws.NoWord.indexCapture : ∀ a0 a1 a2, Laws.NoWord.Statement (.indexCapture a0 a1 a2) := fun _ _ _ => Laws.NoWord.all _
theorem Laws.NoWord.raceHoldoverExpiry : ∀ a0 a1, Laws.NoWord.Statement (.raceHoldoverExpiry a0 a1) := fun _ _ => Laws.NoWord.all _
theorem Laws.NoWord.segmentFit : ∀ a0 a1 a2, Laws.NoWord.Statement (.segmentFit a0 a1 a2) := fun _ _ _ => Laws.NoWord.all _
theorem Laws.NoWord.segmentFrameLaunch : ∀ a0 a1, Laws.NoWord.Statement (.segmentFrameLaunch a0 a1) := fun _ _ => Laws.NoWord.all _
theorem Laws.NoWord.remoteSegmentReceive : ∀ a0 a1 a2, Laws.NoWord.Statement (.remoteSegmentReceive a0 a1 a2) := fun _ _ _ => Laws.NoWord.all _
theorem Laws.NoWord.cogAction : ∀ a0 a1, Laws.NoWord.Statement (.cogAction a0 a1) := fun _ _ => Laws.NoWord.all _
theorem Laws.NoWord.groupPacingTimeout : ∀ a0 a1 a2, Laws.NoWord.Statement (.groupPacingTimeout a0 a1 a2) := fun _ _ _ => Laws.NoWord.all _
theorem Laws.NoWord.bankCatchupDone : ∀ a0 a1 a2, Laws.NoWord.Statement (.bankCatchupDone a0 a1 a2) := fun _ _ _ => Laws.NoWord.all _
theorem Laws.NoWord.ptpSyncReceive : ∀ a0 a1 a2 a3 a4 a5, Laws.NoWord.Statement (.ptpSyncReceive a0 a1 a2 a3 a4 a5) := fun _ _ _ _ _ _ => Laws.NoWord.all _
theorem Laws.NoWord.ptpMessageReceive : ∀ a0 a1 a2 a3 a4, Laws.NoWord.Statement (.ptpMessageReceive a0 a1 a2 a3 a4) := fun _ _ _ _ _ => Laws.NoWord.all _
theorem Laws.NoWord.ptpSyncTimeout : ∀ a0 a1, Laws.NoWord.Statement (.ptpSyncTimeout a0 a1) := fun _ _ => Laws.NoWord.all _
theorem Laws.NoWord.ptpSyncSend : ∀ a0 a1 a2, Laws.NoWord.Statement (.ptpSyncSend a0 a1 a2) := fun _ _ _ => Laws.NoWord.all _
theorem Laws.NoWord.inputFrameReceive : ∀ a0 a1 a2 a3, Laws.NoWord.Statement (.inputFrameReceive a0 a1 a2 a3) := fun _ _ _ _ => Laws.NoWord.all _
theorem Laws.NoWord.helloReceive : ∀ a0 a1 a2 a3, Laws.NoWord.Statement (.helloReceive a0 a1 a2 a3) := fun _ _ _ _ => Laws.NoWord.all _
theorem Laws.NoWord.bindAckReceive : ∀ a0 a1 a2 a3, Laws.NoWord.Statement (.bindAckReceive a0 a1 a2 a3) := fun _ _ _ _ => Laws.NoWord.all _
theorem Laws.NoWord.bindRetry : ∀ a0 a1 a2, Laws.NoWord.Statement (.bindRetry a0 a1 a2) := fun _ _ _ => Laws.NoWord.all _
theorem Laws.NoWord.pageRspReceive : ∀ a0 a1 a2 a3, Laws.NoWord.Statement (.pageRspReceive a0 a1 a2 a3) := fun _ _ _ _ => Laws.NoWord.all _
theorem Laws.NoWord.pageReqRetry : ∀ a0 a1 a2, Laws.NoWord.Statement (.pageReqRetry a0 a1 a2) := fun _ _ _ => Laws.NoWord.all _
theorem Laws.NoWord.pagedSweep : ∀ a0 a1, Laws.NoWord.Statement (.pagedSweep a0 a1) := fun _ _ => Laws.NoWord.all _
theorem Laws.NoWord.nodeReleaseTimeout : ∀ a0 a1 a2, Laws.NoWord.Statement (.nodeReleaseTimeout a0 a1 a2) := fun _ _ _ => Laws.NoWord.all _
theorem Laws.NoWord.portLinkLoss : ∀ a0 a1, Laws.NoWord.Statement (.portLinkLoss a0 a1) := fun _ _ => Laws.NoWord.all _
theorem Laws.NoWord.opticsPresenceChange : ∀ a0 a1 a2 a3, Laws.NoWord.Statement (.opticsPresenceChange a0 a1 a2 a3) := fun _ _ _ _ => Laws.NoWord.all _
theorem Laws.NoWord.oczonInvalidFrame : ∀ a0 a1 a2 a3, Laws.NoWord.Statement (.oczonInvalidFrame a0 a1 a2 a3) := fun _ _ _ _ => Laws.NoWord.all _
theorem Laws.NoWord.lldpSend : ∀ a0 a1, Laws.NoWord.Statement (.lldpSend a0 a1) := fun _ _ => Laws.NoWord.all _
theorem Laws.NoWord.lldpReceive : ∀ a0 a1 a2 a3, Laws.NoWord.Statement (.lldpReceive a0 a1 a2 a3) := fun _ _ _ _ => Laws.NoWord.all _
theorem Laws.NoWord.pairHeartbeatSend : ∀ a0, Laws.NoWord.Statement (.pairHeartbeatSend a0) := fun _ => Laws.NoWord.all _
theorem Laws.NoWord.pairHeartbeatReceive : ∀ a0 a1 a2, Laws.NoWord.Statement (.pairHeartbeatReceive a0 a1 a2) := fun _ _ _ => Laws.NoWord.all _
theorem Laws.NoWord.redLinkHeartbeatSend : ∀ a0, Laws.NoWord.Statement (.redLinkHeartbeatSend a0) := fun _ => Laws.NoWord.all _
theorem Laws.NoWord.redLinkHeartbeatReceive : ∀ a0 a1, Laws.NoWord.Statement (.redLinkHeartbeatReceive a0 a1) := fun _ _ => Laws.NoWord.all _
theorem Laws.NoWord.redPathSilence : ∀ a0 a1, Laws.NoWord.Statement (.redPathSilence a0 a1) := fun _ _ => Laws.NoWord.all _
theorem Laws.NoWord.pairWaitExpiry : ∀ a0, Laws.NoWord.Statement (.pairWaitExpiry a0) := fun _ => Laws.NoWord.all _
theorem Laws.NoWord.redDeltaReceive : ∀ a0 a1 a2 a3 a4 a5 a6, Laws.NoWord.Statement (.redDeltaReceive a0 a1 a2 a3 a4 a5 a6) := fun _ _ _ _ _ _ _ => Laws.NoWord.all _
theorem Laws.NoWord.redFullCopyDone : ∀ a0, Laws.NoWord.Statement (.redFullCopyDone a0) := fun _ => Laws.NoWord.all _
theorem Laws.NoWord.redPlannedSwitchInstant : ∀ a0, Laws.NoWord.Statement (.redPlannedSwitchInstant a0) := fun _ => Laws.NoWord.all _
theorem Laws.NoWord.redRevertHoldExpiry : ∀ a0, Laws.NoWord.Statement (.redRevertHoldExpiry a0) := fun _ => Laws.NoWord.all _
theorem Laws.NoWord.loopFrame : ∀ a0 a1, Laws.NoWord.Statement (.loopFrame a0 a1) := fun _ _ => Laws.NoWord.all _
theorem Laws.NoWord.fantailResultDue : ∀ a0 a1, Laws.NoWord.Statement (.fantailResultDue a0 a1) := fun _ _ => Laws.NoWord.all _
theorem Laws.NoWord.fantailEqUpdate : ∀ a0 a1 a2, Laws.NoWord.Statement (.fantailEqUpdate a0 a1 a2) := fun _ _ _ => Laws.NoWord.all _
theorem Laws.NoWord.fantailHeadroomUpdate : ∀ a0 a1, Laws.NoWord.Statement (.fantailHeadroomUpdate a0 a1) := fun _ _ => Laws.NoWord.all _
theorem Laws.NoWord.fantailPlaceRecord : ∀ a0 a1, Laws.NoWord.Statement (.fantailPlaceRecord a0 a1) := fun _ _ => Laws.NoWord.all _
theorem Laws.NoWord.evFtFrozen : ∀ a0 a1, Laws.NoWord.Statement (.evFtFrozen a0 a1) := fun _ _ => Laws.NoWord.all _
theorem Laws.NoWord.motionUpdate : ∀ a0 a1, Laws.NoWord.Statement (.motionUpdate a0 a1) := fun _ _ => Laws.NoWord.all _
theorem Laws.NoWord.driveLinkUpstream : ∀ a0 a1 a2 a3, Laws.NoWord.Statement (.driveLinkUpstream a0 a1 a2 a3) := fun _ _ _ _ => Laws.NoWord.all _
theorem Laws.NoWord.axisHoldDelayExpiry : ∀ a0 a1, Laws.NoWord.Statement (.axisHoldDelayExpiry a0 a1) := fun _ _ => Laws.NoWord.all _
theorem Laws.NoWord.axisQuickStopRequest : ∀ a0 a1, Laws.NoWord.Statement (.axisQuickStopRequest a0 a1) := fun _ _ => Laws.NoWord.all _
theorem Laws.NoWord.timerTick : ∀ a0 a1, Laws.NoWord.Statement (.timerTick a0 a1) := fun _ _ => Laws.NoWord.all _
theorem Laws.NoWord.pwmPeriodStart : ∀ a0 a1, Laws.NoWord.Statement (.pwmPeriodStart a0 a1) := fun _ _ => Laws.NoWord.all _
theorem Laws.NoWord.adcEntryEnd : ∀ a0 a1 a2, Laws.NoWord.Statement (.adcEntryEnd a0 a1 a2) := fun _ _ _ => Laws.NoWord.all _
theorem Laws.NoWord.vrefCheck : ∀ a0 a1, Laws.NoWord.Statement (.vrefCheck a0 a1) := fun _ _ => Laws.NoWord.all _
theorem Laws.NoWord.vrefSettled : ∀ a0, Laws.NoWord.Statement (.vrefSettled a0) := fun _ => Laws.NoWord.all _
theorem Laws.NoWord.clUpdate : ∀ a0 a1 a2 a3 a4 a5, Laws.NoWord.Statement (.clUpdate a0 a1 a2 a3 a4 a5) := fun _ _ _ _ _ _ => Laws.NoWord.all _
theorem Laws.NoWord.clFaultClass : ∀ a0 a1, Laws.NoWord.Statement (.clFaultClass a0 a1) := fun _ _ => Laws.NoWord.all _
theorem Laws.NoWord.clComplianceDetect : ∀ a0 a1, Laws.NoWord.Statement (.clComplianceDetect a0 a1) := fun _ _ => Laws.NoWord.all _
theorem Laws.NoWord.clCmdTimeout : ∀ a0 a1, Laws.NoWord.Statement (.clCmdTimeout a0 a1) := fun _ _ => Laws.NoWord.all _
theorem Laws.NoWord.clFrontendWatchdog : ∀ a0, Laws.NoWord.Statement (.clFrontendWatchdog a0) := fun _ => Laws.NoWord.all _
theorem Laws.NoWord.almselSample : ∀ a0 a1, Laws.NoWord.Statement (.almselSample a0 a1) := fun _ _ => Laws.NoWord.all _
theorem Laws.NoWord.clModeChangeDone : ∀ a0 a1, Laws.NoWord.Statement (.clModeChangeDone a0 a1) := fun _ _ => Laws.NoWord.all _
theorem Laws.NoWord.calButtonHeld : ∀ a0 a1 a2, Laws.NoWord.Statement (.calButtonHeld a0 a1 a2) := fun _ _ _ => Laws.NoWord.all _
theorem Laws.NoWord.calAveragingDone : ∀ a0 a1, Laws.NoWord.Statement (.calAveragingDone a0 a1) := fun _ _ => Laws.NoWord.all _
theorem Laws.NoWord.dioSample : ∀ a0 a1, Laws.NoWord.Statement (.dioSample a0 a1) := fun _ _ => Laws.NoWord.all _
theorem Laws.NoWord.dioOverload : ∀ a0 a1, Laws.NoWord.Statement (.dioOverload a0 a1) := fun _ _ => Laws.NoWord.all _
theorem Laws.NoWord.dioAutoRestart : ∀ a0 a1, Laws.NoWord.Statement (.dioAutoRestart a0 a1) := fun _ _ => Laws.NoWord.all _
theorem Laws.NoWord.fieldLow : ∀ a0, Laws.NoWord.Statement (.fieldLow a0) := fun _ => Laws.NoWord.all _
theorem Laws.NoWord.fieldRestored : ∀ a0, Laws.NoWord.Statement (.fieldRestored a0) := fun _ => Laws.NoWord.all _
theorem Laws.NoWord.captureSample : ∀ a0 a1, Laws.NoWord.Statement (.captureSample a0 a1) := fun _ _ => Laws.NoWord.all _
theorem Laws.NoWord.captureGroupTrigger : ∀ a0 a1, Laws.NoWord.Statement (.captureGroupTrigger a0 a1) := fun _ _ => Laws.NoWord.all _
theorem Laws.NoWord.spindleWindowRun : ∀ a0 a1, Laws.NoWord.Statement (.spindleWindowRun a0 a1) := fun _ _ => Laws.NoWord.all _
theorem Laws.NoWord.tailraceFlushTimeout : ∀ a0 a1, Laws.NoWord.Statement (.tailraceFlushTimeout a0 a1) := fun _ _ => Laws.NoWord.all _
theorem Laws.NoWord.tailraceSpill : ∀ a0 a1, Laws.NoWord.Statement (.tailraceSpill a0 a1) := fun _ _ => Laws.NoWord.all _
theorem Laws.NoWord.tailraceDrainDone : ∀ a0 a1, Laws.NoWord.Statement (.tailraceDrainDone a0 a1) := fun _ _ => Laws.NoWord.all _
theorem Laws.NoWord.logRecordDurable : ∀ a0, Laws.NoWord.Statement (.logRecordDurable a0) := fun _ => Laws.NoWord.all _
theorem Laws.NoWord.logFreezeExpiry : ∀ a0, Laws.NoWord.Statement (.logFreezeExpiry a0) := fun _ => Laws.NoWord.all _
theorem Laws.NoWord.logRateSecond : ∀ a0, Laws.NoWord.Statement (.logRateSecond a0) := fun _ => Laws.NoWord.all _
theorem Laws.NoWord.logicRunStart : ∀ a0 a1, Laws.NoWord.Statement (.logicRunStart a0 a1) := fun _ _ => Laws.NoWord.all _
theorem Laws.NoWord.leNop : ∀ a0 a1, Laws.NoWord.Statement (.leNop a0 a1) := fun _ _ => Laws.NoWord.all _
theorem Laws.NoWord.leLd : ∀ a0 a1, Laws.NoWord.Statement (.leLd a0 a1) := fun _ _ => Laws.NoWord.all _
theorem Laws.NoWord.leLdn : ∀ a0 a1, Laws.NoWord.Statement (.leLdn a0 a1) := fun _ _ => Laws.NoWord.all _
theorem Laws.NoWord.leAnd : ∀ a0 a1, Laws.NoWord.Statement (.leAnd a0 a1) := fun _ _ => Laws.NoWord.all _
theorem Laws.NoWord.leAndn : ∀ a0 a1, Laws.NoWord.Statement (.leAndn a0 a1) := fun _ _ => Laws.NoWord.all _
theorem Laws.NoWord.leOr : ∀ a0 a1, Laws.NoWord.Statement (.leOr a0 a1) := fun _ _ => Laws.NoWord.all _
theorem Laws.NoWord.leOrn : ∀ a0 a1, Laws.NoWord.Statement (.leOrn a0 a1) := fun _ _ => Laws.NoWord.all _
theorem Laws.NoWord.leXor : ∀ a0 a1, Laws.NoWord.Statement (.leXor a0 a1) := fun _ _ => Laws.NoWord.all _
theorem Laws.NoWord.leXorn : ∀ a0 a1, Laws.NoWord.Statement (.leXorn a0 a1) := fun _ _ => Laws.NoWord.all _
theorem Laws.NoWord.leNot : ∀ a0 a1, Laws.NoWord.Statement (.leNot a0 a1) := fun _ _ => Laws.NoWord.all _
theorem Laws.NoWord.leLdt : ∀ a0 a1, Laws.NoWord.Statement (.leLdt a0 a1) := fun _ _ => Laws.NoWord.all _
theorem Laws.NoWord.lePsha : ∀ a0 a1, Laws.NoWord.Statement (.lePsha a0 a1) := fun _ _ => Laws.NoWord.all _
theorem Laws.NoWord.lePsho : ∀ a0 a1, Laws.NoWord.Statement (.lePsho a0 a1) := fun _ _ => Laws.NoWord.all _
theorem Laws.NoWord.lePshx : ∀ a0 a1, Laws.NoWord.Statement (.lePshx a0 a1) := fun _ _ => Laws.NoWord.all _
theorem Laws.NoWord.lePop : ∀ a0 a1, Laws.NoWord.Statement (.lePop a0 a1) := fun _ _ => Laws.NoWord.all _
theorem Laws.NoWord.leSt : ∀ a0 a1, Laws.NoWord.Statement (.leSt a0 a1) := fun _ _ => Laws.NoWord.all _
theorem Laws.NoWord.leStn : ∀ a0 a1, Laws.NoWord.Statement (.leStn a0 a1) := fun _ _ => Laws.NoWord.all _
theorem Laws.NoWord.leSet : ∀ a0 a1, Laws.NoWord.Statement (.leSet a0 a1) := fun _ _ => Laws.NoWord.all _
theorem Laws.NoWord.leRst : ∀ a0 a1, Laws.NoWord.Statement (.leRst a0 a1) := fun _ _ => Laws.NoWord.all _
theorem Laws.NoWord.leFp : ∀ a0 a1, Laws.NoWord.Statement (.leFp a0 a1) := fun _ _ => Laws.NoWord.all _
theorem Laws.NoWord.leFn : ∀ a0 a1, Laws.NoWord.Statement (.leFn a0 a1) := fun _ _ => Laws.NoWord.all _
theorem Laws.NoWord.leTon : ∀ a0 a1, Laws.NoWord.Statement (.leTon a0 a1) := fun _ _ => Laws.NoWord.all _
theorem Laws.NoWord.leTof : ∀ a0 a1, Laws.NoWord.Statement (.leTof a0 a1) := fun _ _ => Laws.NoWord.all _
theorem Laws.NoWord.leTp : ∀ a0 a1, Laws.NoWord.Statement (.leTp a0 a1) := fun _ _ => Laws.NoWord.all _
theorem Laws.NoWord.leTpt : ∀ a0 a1, Laws.NoWord.Statement (.leTpt a0 a1) := fun _ _ => Laws.NoWord.all _
theorem Laws.NoWord.leTrst : ∀ a0 a1, Laws.NoWord.Statement (.leTrst a0 a1) := fun _ _ => Laws.NoWord.all _
theorem Laws.NoWord.leCtu : ∀ a0 a1, Laws.NoWord.Statement (.leCtu a0 a1) := fun _ _ => Laws.NoWord.all _
theorem Laws.NoWord.leCtd : ∀ a0 a1, Laws.NoWord.Statement (.leCtd a0 a1) := fun _ _ => Laws.NoWord.all _
theorem Laws.NoWord.leCres : ∀ a0 a1, Laws.NoWord.Statement (.leCres a0 a1) := fun _ _ => Laws.NoWord.all _
theorem Laws.NoWord.leCld : ∀ a0 a1, Laws.NoWord.Statement (.leCld a0 a1) := fun _ _ => Laws.NoWord.all _
theorem Laws.NoWord.leCpv : ∀ a0 a1, Laws.NoWord.Statement (.leCpv a0 a1) := fun _ _ => Laws.NoWord.all _
theorem Laws.NoWord.leL : ∀ a0 a1, Laws.NoWord.Statement (.leL a0 a1) := fun _ _ => Laws.NoWord.all _
theorem Laws.NoWord.leT : ∀ a0 a1, Laws.NoWord.Statement (.leT a0 a1) := fun _ _ => Laws.NoWord.all _
theorem Laws.NoWord.leTc : ∀ a0 a1, Laws.NoWord.Statement (.leTc a0 a1) := fun _ _ => Laws.NoWord.all _
theorem Laws.NoWord.leLi : ∀ a0 a1, Laws.NoWord.Statement (.leLi a0 a1) := fun _ _ => Laws.NoWord.all _
theorem Laws.NoWord.leLih : ∀ a0 a1, Laws.NoWord.Statement (.leLih a0 a1) := fun _ _ => Laws.NoWord.all _
theorem Laws.NoWord.leAdd : ∀ a0 a1, Laws.NoWord.Statement (.leAdd a0 a1) := fun _ _ => Laws.NoWord.all _
theorem Laws.NoWord.leSub : ∀ a0 a1, Laws.NoWord.Statement (.leSub a0 a1) := fun _ _ => Laws.NoWord.all _
theorem Laws.NoWord.leMul : ∀ a0 a1, Laws.NoWord.Statement (.leMul a0 a1) := fun _ _ => Laws.NoWord.all _
theorem Laws.NoWord.leDiv : ∀ a0 a1, Laws.NoWord.Statement (.leDiv a0 a1) := fun _ _ => Laws.NoWord.all _
theorem Laws.NoWord.leMod : ∀ a0 a1, Laws.NoWord.Statement (.leMod a0 a1) := fun _ _ => Laws.NoWord.all _
theorem Laws.NoWord.leNeg : ∀ a0 a1, Laws.NoWord.Statement (.leNeg a0 a1) := fun _ _ => Laws.NoWord.all _
theorem Laws.NoWord.leAbs : ∀ a0 a1, Laws.NoWord.Statement (.leAbs a0 a1) := fun _ _ => Laws.NoWord.all _
theorem Laws.NoWord.leWand : ∀ a0 a1, Laws.NoWord.Statement (.leWand a0 a1) := fun _ _ => Laws.NoWord.all _
theorem Laws.NoWord.leWor : ∀ a0 a1, Laws.NoWord.Statement (.leWor a0 a1) := fun _ _ => Laws.NoWord.all _
theorem Laws.NoWord.leWxor : ∀ a0 a1, Laws.NoWord.Statement (.leWxor a0 a1) := fun _ _ => Laws.NoWord.all _
theorem Laws.NoWord.leShl : ∀ a0 a1, Laws.NoWord.Statement (.leShl a0 a1) := fun _ _ => Laws.NoWord.all _
theorem Laws.NoWord.leShr : ∀ a0 a1, Laws.NoWord.Statement (.leShr a0 a1) := fun _ _ => Laws.NoWord.all _
theorem Laws.NoWord.leAsr : ∀ a0 a1, Laws.NoWord.Statement (.leAsr a0 a1) := fun _ _ => Laws.NoWord.all _
theorem Laws.NoWord.leCeq : ∀ a0 a1, Laws.NoWord.Statement (.leCeq a0 a1) := fun _ _ => Laws.NoWord.all _
theorem Laws.NoWord.leCne : ∀ a0 a1, Laws.NoWord.Statement (.leCne a0 a1) := fun _ _ => Laws.NoWord.all _
theorem Laws.NoWord.leCgt : ∀ a0 a1, Laws.NoWord.Statement (.leCgt a0 a1) := fun _ _ => Laws.NoWord.all _
theorem Laws.NoWord.leCge : ∀ a0 a1, Laws.NoWord.Statement (.leCge a0 a1) := fun _ _ => Laws.NoWord.all _
theorem Laws.NoWord.leClt : ∀ a0 a1, Laws.NoWord.Statement (.leClt a0 a1) := fun _ _ => Laws.NoWord.all _
theorem Laws.NoWord.leCle : ∀ a0 a1, Laws.NoWord.Statement (.leCle a0 a1) := fun _ _ => Laws.NoWord.all _
theorem Laws.NoWord.leFadd : ∀ a0 a1, Laws.NoWord.Statement (.leFadd a0 a1) := fun _ _ => Laws.NoWord.all _
theorem Laws.NoWord.leFsub : ∀ a0 a1, Laws.NoWord.Statement (.leFsub a0 a1) := fun _ _ => Laws.NoWord.all _
theorem Laws.NoWord.leFmul : ∀ a0 a1, Laws.NoWord.Statement (.leFmul a0 a1) := fun _ _ => Laws.NoWord.all _
theorem Laws.NoWord.leFdiv : ∀ a0 a1, Laws.NoWord.Statement (.leFdiv a0 a1) := fun _ _ => Laws.NoWord.all _
theorem Laws.NoWord.leItof : ∀ a0 a1, Laws.NoWord.Statement (.leItof a0 a1) := fun _ _ => Laws.NoWord.all _
theorem Laws.NoWord.leFtoi : ∀ a0 a1, Laws.NoWord.Statement (.leFtoi a0 a1) := fun _ _ => Laws.NoWord.all _
theorem Laws.NoWord.leFclt : ∀ a0 a1, Laws.NoWord.Statement (.leFclt a0 a1) := fun _ _ => Laws.NoWord.all _
theorem Laws.NoWord.leFcgt : ∀ a0 a1, Laws.NoWord.Statement (.leFcgt a0 a1) := fun _ _ => Laws.NoWord.all _
theorem Laws.NoWord.leJmp : ∀ a0 a1, Laws.NoWord.Statement (.leJmp a0 a1) := fun _ _ => Laws.NoWord.all _
theorem Laws.NoWord.leJc : ∀ a0 a1, Laws.NoWord.Statement (.leJc a0 a1) := fun _ _ => Laws.NoWord.all _
theorem Laws.NoWord.leJnc : ∀ a0 a1, Laws.NoWord.Statement (.leJnc a0 a1) := fun _ _ => Laws.NoWord.all _
theorem Laws.NoWord.leCall : ∀ a0 a1, Laws.NoWord.Statement (.leCall a0 a1) := fun _ _ => Laws.NoWord.all _
theorem Laws.NoWord.leRet : ∀ a0 a1, Laws.NoWord.Statement (.leRet a0 a1) := fun _ _ => Laws.NoWord.all _
theorem Laws.NoWord.leEnd : ∀ a0 a1, Laws.NoWord.Statement (.leEnd a0 a1) := fun _ _ => Laws.NoWord.all _
theorem Laws.NoWord.leHflag : ∀ a0 a1, Laws.NoWord.Statement (.leHflag a0 a1) := fun _ _ => Laws.NoWord.all _
theorem Laws.NoWord.leEvt : ∀ a0 a1, Laws.NoWord.Statement (.leEvt a0 a1) := fun _ _ => Laws.NoWord.all _
theorem Laws.NoWord.spinNop : ∀ a0 a1, Laws.NoWord.Statement (.spinNop a0 a1) := fun _ _ => Laws.NoWord.all _
theorem Laws.NoWord.spinAdd : ∀ a0 a1, Laws.NoWord.Statement (.spinAdd a0 a1) := fun _ _ => Laws.NoWord.all _
theorem Laws.NoWord.spinSub : ∀ a0 a1, Laws.NoWord.Statement (.spinSub a0 a1) := fun _ _ => Laws.NoWord.all _
theorem Laws.NoWord.spinAnd : ∀ a0 a1, Laws.NoWord.Statement (.spinAnd a0 a1) := fun _ _ => Laws.NoWord.all _
theorem Laws.NoWord.spinOr : ∀ a0 a1, Laws.NoWord.Statement (.spinOr a0 a1) := fun _ _ => Laws.NoWord.all _
theorem Laws.NoWord.spinXor : ∀ a0 a1, Laws.NoWord.Statement (.spinXor a0 a1) := fun _ _ => Laws.NoWord.all _
theorem Laws.NoWord.spinShl : ∀ a0 a1, Laws.NoWord.Statement (.spinShl a0 a1) := fun _ _ => Laws.NoWord.all _
theorem Laws.NoWord.spinShr : ∀ a0 a1, Laws.NoWord.Statement (.spinShr a0 a1) := fun _ _ => Laws.NoWord.all _
theorem Laws.NoWord.spinAsr : ∀ a0 a1, Laws.NoWord.Statement (.spinAsr a0 a1) := fun _ _ => Laws.NoWord.all _
theorem Laws.NoWord.spinMul : ∀ a0 a1, Laws.NoWord.Statement (.spinMul a0 a1) := fun _ _ => Laws.NoWord.all _
theorem Laws.NoWord.spinMin : ∀ a0 a1, Laws.NoWord.Statement (.spinMin a0 a1) := fun _ _ => Laws.NoWord.all _
theorem Laws.NoWord.spinMax : ∀ a0 a1, Laws.NoWord.Statement (.spinMax a0 a1) := fun _ _ => Laws.NoWord.all _
theorem Laws.NoWord.spinMinu : ∀ a0 a1, Laws.NoWord.Statement (.spinMinu a0 a1) := fun _ _ => Laws.NoWord.all _
theorem Laws.NoWord.spinMaxu : ∀ a0 a1, Laws.NoWord.Statement (.spinMaxu a0 a1) := fun _ _ => Laws.NoWord.all _
theorem Laws.NoWord.spinAbs : ∀ a0 a1, Laws.NoWord.Statement (.spinAbs a0 a1) := fun _ _ => Laws.NoWord.all _
theorem Laws.NoWord.spinAddi : ∀ a0 a1, Laws.NoWord.Statement (.spinAddi a0 a1) := fun _ _ => Laws.NoWord.all _
theorem Laws.NoWord.spinAndi : ∀ a0 a1, Laws.NoWord.Statement (.spinAndi a0 a1) := fun _ _ => Laws.NoWord.all _
theorem Laws.NoWord.spinOri : ∀ a0 a1, Laws.NoWord.Statement (.spinOri a0 a1) := fun _ _ => Laws.NoWord.all _
theorem Laws.NoWord.spinXori : ∀ a0 a1, Laws.NoWord.Statement (.spinXori a0 a1) := fun _ _ => Laws.NoWord.all _
theorem Laws.NoWord.spinShli : ∀ a0 a1, Laws.NoWord.Statement (.spinShli a0 a1) := fun _ _ => Laws.NoWord.all _
theorem Laws.NoWord.spinShri : ∀ a0 a1, Laws.NoWord.Statement (.spinShri a0 a1) := fun _ _ => Laws.NoWord.all _
theorem Laws.NoWord.spinAsri : ∀ a0 a1, Laws.NoWord.Statement (.spinAsri a0 a1) := fun _ _ => Laws.NoWord.all _
theorem Laws.NoWord.spinLi : ∀ a0 a1, Laws.NoWord.Statement (.spinLi a0 a1) := fun _ _ => Laws.NoWord.all _
theorem Laws.NoWord.spinLui : ∀ a0 a1, Laws.NoWord.Statement (.spinLui a0 a1) := fun _ _ => Laws.NoWord.all _
theorem Laws.NoWord.spinLdb : ∀ a0 a1, Laws.NoWord.Statement (.spinLdb a0 a1) := fun _ _ => Laws.NoWord.all _
theorem Laws.NoWord.spinLdh : ∀ a0 a1, Laws.NoWord.Statement (.spinLdh a0 a1) := fun _ _ => Laws.NoWord.all _
theorem Laws.NoWord.spinLdw : ∀ a0 a1, Laws.NoWord.Statement (.spinLdw a0 a1) := fun _ _ => Laws.NoWord.all _
theorem Laws.NoWord.spinLdhl : ∀ a0 a1, Laws.NoWord.Statement (.spinLdhl a0 a1) := fun _ _ => Laws.NoWord.all _
theorem Laws.NoWord.spinLdwl : ∀ a0 a1, Laws.NoWord.Statement (.spinLdwl a0 a1) := fun _ _ => Laws.NoWord.all _
theorem Laws.NoWord.spinLdhls : ∀ a0 a1, Laws.NoWord.Statement (.spinLdhls a0 a1) := fun _ _ => Laws.NoWord.all _
theorem Laws.NoWord.spinBeq : ∀ a0 a1, Laws.NoWord.Statement (.spinBeq a0 a1) := fun _ _ => Laws.NoWord.all _
theorem Laws.NoWord.spinBne : ∀ a0 a1, Laws.NoWord.Statement (.spinBne a0 a1) := fun _ _ => Laws.NoWord.all _
theorem Laws.NoWord.spinBlt : ∀ a0 a1, Laws.NoWord.Statement (.spinBlt a0 a1) := fun _ _ => Laws.NoWord.all _
theorem Laws.NoWord.spinBge : ∀ a0 a1, Laws.NoWord.Statement (.spinBge a0 a1) := fun _ _ => Laws.NoWord.all _
theorem Laws.NoWord.spinBltu : ∀ a0 a1, Laws.NoWord.Statement (.spinBltu a0 a1) := fun _ _ => Laws.NoWord.all _
theorem Laws.NoWord.spinBgeu : ∀ a0 a1, Laws.NoWord.Statement (.spinBgeu a0 a1) := fun _ _ => Laws.NoWord.all _
theorem Laws.NoWord.spinBeqi : ∀ a0 a1, Laws.NoWord.Statement (.spinBeqi a0 a1) := fun _ _ => Laws.NoWord.all _
theorem Laws.NoWord.spinBnei : ∀ a0 a1, Laws.NoWord.Statement (.spinBnei a0 a1) := fun _ _ => Laws.NoWord.all _
theorem Laws.NoWord.spinBlti : ∀ a0 a1, Laws.NoWord.Statement (.spinBlti a0 a1) := fun _ _ => Laws.NoWord.all _
theorem Laws.NoWord.spinBgei : ∀ a0 a1, Laws.NoWord.Statement (.spinBgei a0 a1) := fun _ _ => Laws.NoWord.all _
theorem Laws.NoWord.spinCnt : ∀ a0 a1, Laws.NoWord.Statement (.spinCnt a0 a1) := fun _ _ => Laws.NoWord.all _
theorem Laws.NoWord.spinExit : ∀ a0 a1, Laws.NoWord.Statement (.spinExit a0 a1) := fun _ _ => Laws.NoWord.all _
theorem Laws.NoWord.canFrameReceive : ∀ a0 a1 a2 a3, Laws.NoWord.Statement (.canFrameReceive a0 a1 a2 a3) := fun _ _ _ _ => Laws.NoWord.all _
theorem Laws.NoWord.canFrameAcknowledged : ∀ a0 a1 a2, Laws.NoWord.Statement (.canFrameAcknowledged a0 a1 a2) := fun _ _ _ => Laws.NoWord.all _
theorem Laws.NoWord.canArbitrationLost : ∀ a0 a1, Laws.NoWord.Statement (.canArbitrationLost a0 a1) := fun _ _ => Laws.NoWord.all _
theorem Laws.NoWord.canTxError : ∀ a0 a1 a2, Laws.NoWord.Statement (.canTxError a0 a1 a2) := fun _ _ _ => Laws.NoWord.all _
theorem Laws.NoWord.canRecoveryComplete : ∀ a0 a1, Laws.NoWord.Statement (.canRecoveryComplete a0 a1) := fun _ _ => Laws.NoWord.all _
theorem Laws.NoWord.canRateDetectDwell : ∀ a0 a1, Laws.NoWord.Statement (.canRateDetectDwell a0 a1) := fun _ _ => Laws.NoWord.all _
theorem Laws.NoWord.safetyCycle : ∀ a0 a1, Laws.NoWord.Statement (.safetyCycle a0 a1) := fun _ _ => Laws.NoWord.all _
theorem Laws.NoWord.safetyDiscrepancyCount : ∀ a0 a1, Laws.NoWord.Statement (.safetyDiscrepancyCount a0 a1) := fun _ _ => Laws.NoWord.all _
theorem Laws.NoWord.evSafeResetLong : ∀ a0 a1, Laws.NoWord.Statement (.evSafeResetLong a0 a1) := fun _ _ => Laws.NoWord.all _
theorem Laws.NoWord.safetyStopDelayExpiry : ∀ a0 a1, Laws.NoWord.Statement (.safetyStopDelayExpiry a0 a1) := fun _ _ => Laws.NoWord.all _
theorem Laws.NoWord.nalatWatchdogExpiry : ∀ a0 a1, Laws.NoWord.Statement (.nalatWatchdogExpiry a0 a1) := fun _ _ => Laws.NoWord.all _
theorem Laws.NoWord.safetySelfTestDone : ∀ a0 a1 a2, Laws.NoWord.Statement (.safetySelfTestDone a0 a1 a2) := fun _ _ _ => Laws.NoWord.all _
theorem Laws.NoWord.hopperDeal : ∀ a0, Laws.NoWord.Statement (.hopperDeal a0) := fun _ => Laws.NoWord.all _
theorem Laws.NoWord.extRunEnd : ∀ a0 a1, Laws.NoWord.Statement (.extRunEnd a0 a1) := fun _ _ => Laws.NoWord.all _
theorem Laws.NoWord.extBudgetOverrun : ∀ a0 a1, Laws.NoWord.Statement (.extBudgetOverrun a0 a1) := fun _ _ => Laws.NoWord.all _
theorem Laws.NoWord.extFault : ∀ a0 a1 a2 a3, Laws.NoWord.Statement (.extFault a0 a1 a2 a3) := fun _ _ _ _ => Laws.NoWord.all _
theorem Laws.NoWord.extCallPointRead : ∀ a0 a1 a2, Laws.NoWord.Statement (.extCallPointRead a0 a1 a2) := fun _ _ _ => Laws.NoWord.all _
theorem Laws.NoWord.extCallPointWrite : ∀ a0 a1 a2 a3, Laws.NoWord.Statement (.extCallPointWrite a0 a1 a2 a3) := fun _ _ _ _ => Laws.NoWord.all _
theorem Laws.NoWord.extCallFlagSet : ∀ a0 a1 a2 a3, Laws.NoWord.Statement (.extCallFlagSet a0 a1 a2 a3) := fun _ _ _ _ => Laws.NoWord.all _
theorem Laws.NoWord.extCallRaise : ∀ a0 a1 a2, Laws.NoWord.Statement (.extCallRaise a0 a1 a2) := fun _ _ _ => Laws.NoWord.all _
theorem Laws.NoWord.extCallLmt : ∀ a0 a1, Laws.NoWord.Statement (.extCallLmt a0 a1) := fun _ _ => Laws.NoWord.all _
theorem Laws.NoWord.ecClaim : ∀ a0 a1, Laws.NoWord.Statement (.ecClaim a0 a1) := fun _ _ => Laws.NoWord.all _
theorem Laws.NoWord.ecComplete : ∀ a0 a1 a2, Laws.NoWord.Statement (.ecComplete a0 a1 a2) := fun _ _ _ => Laws.NoWord.all _
theorem Laws.NoWord.ecRaise : ∀ a0 a1 a2, Laws.NoWord.Statement (.ecRaise a0 a1 a2) := fun _ _ _ => Laws.NoWord.all _
theorem Laws.NoWord.ecOverrunsRead : ∀ a0 a1, Laws.NoWord.Statement (.ecOverrunsRead a0 a1) := fun _ _ => Laws.NoWord.all _
theorem Laws.NoWord.ecSourceEdge : ∀ a0 a1, Laws.NoWord.Statement (.ecSourceEdge a0 a1) := fun _ _ => Laws.NoWord.all _
theorem Laws.NoWord.sweep : ∀ a0 a1 a2 a3, Laws.NoWord.Statement (.sweep a0 a1 a2 a3) := fun _ _ _ _ => Laws.NoWord.all _
theorem Laws.NoWord.descriptorFetch : ∀ a0 a1 a2 a3, Laws.NoWord.Statement (.descriptorFetch a0 a1 a2 a3) := fun _ _ _ _ => Laws.NoWord.all _
theorem Laws.NoWord.hostHeartbeatTimeout : ∀ a0, Laws.NoWord.Statement (.hostHeartbeatTimeout a0) := fun _ => Laws.NoWord.all _
theorem Laws.NoWord.msixModerationTimeout : ∀ a0 a1, Laws.NoWord.Statement (.msixModerationTimeout a0 a1) := fun _ _ => Laws.NoWord.all _
theorem Laws.NoWord.msixUnmask : ∀ a0 a1, Laws.NoWord.Statement (.msixUnmask a0 a1) := fun _ _ => Laws.NoWord.all _
theorem Laws.NoWord.functionReset : ∀ a0 a1, Laws.NoWord.Statement (.functionReset a0 a1) := fun _ _ => Laws.NoWord.all _
theorem Laws.NoWord.powerStateChange : ∀ a0 a1 a2 a3, Laws.NoWord.Statement (.powerStateChange a0 a1 a2 a3) := fun _ _ _ _ => Laws.NoWord.all _
theorem Laws.NoWord.busMasterEnableChange : ∀ a0 a1, Laws.NoWord.Statement (.busMasterEnableChange a0 a1) := fun _ _ => Laws.NoWord.all _
theorem Laws.NoWord.pmeRepeat : ∀ a0, Laws.NoWord.Statement (.pmeRepeat a0) := fun _ => Laws.NoWord.all _
theorem Laws.NoWord.hostLinkTrained : ∀ a0 a1 a2, Laws.NoWord.Statement (.hostLinkTrained a0 a1 a2) := fun _ _ _ => Laws.NoWord.all _
theorem Laws.NoWord.lmtLoRead : ∀ a0, Laws.NoWord.Statement (.lmtLoRead a0) := fun _ => Laws.NoWord.all _
theorem Laws.NoWord.adminEnSet : ∀ a0, Laws.NoWord.Statement (.adminEnSet a0) := fun _ => Laws.NoWord.all _
theorem Laws.NoWord.adminEnClear : ∀ a0, Laws.NoWord.Statement (.adminEnClear a0) := fun _ => Laws.NoWord.all _
theorem Laws.NoWord.quiesce : ∀ a0 a1, Laws.NoWord.Statement (.quiesce a0 a1) := fun _ _ => Laws.NoWord.all _
theorem Laws.NoWord.sulockLock : ∀ a0, Laws.NoWord.Statement (.sulockLock a0) := fun _ => Laws.NoWord.all _
theorem Laws.NoWord.registerWrite : ∀ a0 a1 a2, Laws.NoWord.Statement (.registerWrite a0 a1 a2) := fun _ _ _ => Laws.NoWord.all _
theorem Laws.NoWord.nop : ∀ a0, Laws.NoWord.Statement (.nop a0) := fun _ => Laws.NoWord.all _
theorem Laws.NoWord.ringCreate : ∀ a0, Laws.NoWord.Statement (.ringCreate a0) := fun _ => Laws.NoWord.all _
theorem Laws.NoWord.ringModify : ∀ a0, Laws.NoWord.Statement (.ringModify a0) := fun _ => Laws.NoWord.all _
theorem Laws.NoWord.ringDelete : ∀ a0, Laws.NoWord.Statement (.ringDelete a0) := fun _ => Laws.NoWord.all _
theorem Laws.NoWord.abort : ∀ a0, Laws.NoWord.Statement (.abort a0) := fun _ => Laws.NoWord.all _
theorem Laws.NoWord.sysInfo : ∀ a0, Laws.NoWord.Statement (.sysInfo a0) := fun _ => Laws.NoWord.all _
theorem Laws.NoWord.cfgLoad : ∀ a0, Laws.NoWord.Statement (.cfgLoad a0) := fun _ => Laws.NoWord.all _
theorem Laws.NoWord.cfgCheck : ∀ a0, Laws.NoWord.Statement (.cfgCheck a0) := fun _ => Laws.NoWord.all _
theorem Laws.NoWord.cfgAdmit : ∀ a0, Laws.NoWord.Statement (.cfgAdmit a0) := fun _ => Laws.NoWord.all _
theorem Laws.NoWord.cfgRecord : ∀ a0, Laws.NoWord.Statement (.cfgRecord a0) := fun _ => Laws.NoWord.all _
theorem Laws.NoWord.cfgRead : ∀ a0, Laws.NoWord.Statement (.cfgRead a0) := fun _ => Laws.NoWord.all _
theorem Laws.NoWord.unitDisable : ∀ a0, Laws.NoWord.Statement (.unitDisable a0) := fun _ => Laws.NoWord.all _
theorem Laws.NoWord.unitEnable : ∀ a0, Laws.NoWord.Statement (.unitEnable a0) := fun _ => Laws.NoWord.all _
theorem Laws.NoWord.sluiceRead : ∀ a0, Laws.NoWord.Statement (.sluiceRead a0) := fun _ => Laws.NoWord.all _
theorem Laws.NoWord.raceVmSet : ∀ a0, Laws.NoWord.Statement (.raceVmSet a0) := fun _ => Laws.NoWord.all _
theorem Laws.NoWord.raceTimeSet : ∀ a0, Laws.NoWord.Statement (.raceTimeSet a0) := fun _ => Laws.NoWord.all _
theorem Laws.NoWord.raceReference : ∀ a0, Laws.NoWord.Statement (.raceReference a0) := fun _ => Laws.NoWord.all _
theorem Laws.NoWord.racePreset : ∀ a0, Laws.NoWord.Statement (.racePreset a0) := fun _ => Laws.NoWord.all _
theorem Laws.NoWord.raceConfirm : ∀ a0, Laws.NoWord.Statement (.raceConfirm a0) := fun _ => Laws.NoWord.all _
theorem Laws.NoWord.cogArm : ∀ a0, Laws.NoWord.Statement (.cogArm a0) := fun _ => Laws.NoWord.all _
theorem Laws.NoWord.cogDisarm : ∀ a0, Laws.NoWord.Statement (.cogDisarm a0) := fun _ => Laws.NoWord.all _
theorem Laws.NoWord.placeRead : ∀ a0, Laws.NoWord.Statement (.placeRead a0) := fun _ => Laws.NoWord.all _
theorem Laws.NoWord.placeWrite : ∀ a0, Laws.NoWord.Statement (.placeWrite a0) := fun _ => Laws.NoWord.all _
theorem Laws.NoWord.placeSeal : ∀ a0, Laws.NoWord.Statement (.placeSeal a0) := fun _ => Laws.NoWord.all _
theorem Laws.NoWord.pointRead : ∀ a0, Laws.NoWord.Statement (.pointRead a0) := fun _ => Laws.NoWord.all _
theorem Laws.NoWord.pointWrite : ∀ a0, Laws.NoWord.Statement (.pointWrite a0) := fun _ => Laws.NoWord.all _
theorem Laws.NoWord.pointMeta : ∀ a0, Laws.NoWord.Statement (.pointMeta a0) := fun _ => Laws.NoWord.all _
theorem Laws.NoWord.nodeRead : ∀ a0, Laws.NoWord.Statement (.nodeRead a0) := fun _ => Laws.NoWord.all _
theorem Laws.NoWord.loopMode : ∀ a0, Laws.NoWord.Statement (.loopMode a0) := fun _ => Laws.NoWord.all _
theorem Laws.NoWord.loopTrim : ∀ a0, Laws.NoWord.Statement (.loopTrim a0) := fun _ => Laws.NoWord.all _
theorem Laws.NoWord.loopCoefWrite : ∀ a0, Laws.NoWord.Statement (.loopCoefWrite a0) := fun _ => Laws.NoWord.all _
theorem Laws.NoWord.loopCoefSeal : ∀ a0, Laws.NoWord.Statement (.loopCoefSeal a0) := fun _ => Laws.NoWord.all _
theorem Laws.NoWord.loopReadState : ∀ a0, Laws.NoWord.Statement (.loopReadState a0) := fun _ => Laws.NoWord.all _
theorem Laws.NoWord.ftStart : ∀ a0, Laws.NoWord.Statement (.ftStart a0) := fun _ => Laws.NoWord.all _
theorem Laws.NoWord.ftStop : ∀ a0, Laws.NoWord.Statement (.ftStop a0) := fun _ => Laws.NoWord.all _
theorem Laws.NoWord.ftTune : ∀ a0, Laws.NoWord.Statement (.ftTune a0) := fun _ => Laws.NoWord.all _
theorem Laws.NoWord.ftAccept : ∀ a0, Laws.NoWord.Statement (.ftAccept a0) := fun _ => Laws.NoWord.all _
theorem Laws.NoWord.ftPlaceErr : ∀ a0, Laws.NoWord.Statement (.ftPlaceErr a0) := fun _ => Laws.NoWord.all _
theorem Laws.NoWord.ftStatus : ∀ a0, Laws.NoWord.Statement (.ftStatus a0) := fun _ => Laws.NoWord.all _
theorem Laws.NoWord.axisEnable : ∀ a0, Laws.NoWord.Statement (.axisEnable a0) := fun _ => Laws.NoWord.all _
theorem Laws.NoWord.axisDisable : ∀ a0, Laws.NoWord.Statement (.axisDisable a0) := fun _ => Laws.NoWord.all _
theorem Laws.NoWord.axisGoto : ∀ a0, Laws.NoWord.Statement (.axisGoto a0) := fun _ => Laws.NoWord.all _
theorem Laws.NoWord.axisQueue : ∀ a0, Laws.NoWord.Statement (.axisQueue a0) := fun _ => Laws.NoWord.all _
theorem Laws.NoWord.axisStop : ∀ a0, Laws.NoWord.Statement (.axisStop a0) := fun _ => Laws.NoWord.all _
theorem Laws.NoWord.axisHome : ∀ a0, Laws.NoWord.Statement (.axisHome a0) := fun _ => Laws.NoWord.all _
theorem Laws.NoWord.axisSetPos : ∀ a0, Laws.NoWord.Statement (.axisSetPos a0) := fun _ => Laws.NoWord.all _
theorem Laws.NoWord.axisLimits : ∀ a0, Laws.NoWord.Statement (.axisLimits a0) := fun _ => Laws.NoWord.all _
theorem Laws.NoWord.axisClearFault : ∀ a0, Laws.NoWord.Statement (.axisClearFault a0) := fun _ => Laws.NoWord.all _
theorem Laws.NoWord.axisTableWrite : ∀ a0, Laws.NoWord.Statement (.axisTableWrite a0) := fun _ => Laws.NoWord.all _
theorem Laws.NoWord.axisTableSeal : ∀ a0, Laws.NoWord.Statement (.axisTableSeal a0) := fun _ => Laws.NoWord.all _
theorem Laws.NoWord.adcStart : ∀ a0, Laws.NoWord.Statement (.adcStart a0) := fun _ => Laws.NoWord.all _
theorem Laws.NoWord.anaVref : ∀ a0, Laws.NoWord.Statement (.anaVref a0) := fun _ => Laws.NoWord.all _
theorem Laws.NoWord.clZeroSpan : ∀ a0, Laws.NoWord.Statement (.clZeroSpan a0) := fun _ => Laws.NoWord.all _
theorem Laws.NoWord.clCalCapture : ∀ a0, Laws.NoWord.Statement (.clCalCapture a0) := fun _ => Laws.NoWord.all _
theorem Laws.NoWord.dioReset : ∀ a0, Laws.NoWord.Statement (.dioReset a0) := fun _ => Laws.NoWord.all _
theorem Laws.NoWord.capArm : ∀ a0, Laws.NoWord.Statement (.capArm a0) := fun _ => Laws.NoWord.all _
theorem Laws.NoWord.capDisarm : ∀ a0, Laws.NoWord.Statement (.capDisarm a0) := fun _ => Laws.NoWord.all _
theorem Laws.NoWord.capTrigger : ∀ a0, Laws.NoWord.Statement (.capTrigger a0) := fun _ => Laws.NoWord.all _
theorem Laws.NoWord.capRead : ∀ a0, Laws.NoWord.Statement (.capRead a0) := fun _ => Laws.NoWord.all _
theorem Laws.NoWord.capRelease : ∀ a0, Laws.NoWord.Statement (.capRelease a0) := fun _ => Laws.NoWord.all _
theorem Laws.NoWord.trStart : ∀ a0, Laws.NoWord.Statement (.trStart a0) := fun _ => Laws.NoWord.all _
theorem Laws.NoWord.trStop : ∀ a0, Laws.NoWord.Statement (.trStop a0) := fun _ => Laws.NoWord.all _
theorem Laws.NoWord.trFlush : ∀ a0, Laws.NoWord.Statement (.trFlush a0) := fun _ => Laws.NoWord.all _
theorem Laws.NoWord.logRead : ∀ a0, Laws.NoWord.Statement (.logRead a0) := fun _ => Laws.NoWord.all _
theorem Laws.NoWord.logClear : ∀ a0, Laws.NoWord.Statement (.logClear a0) := fun _ => Laws.NoWord.all _
theorem Laws.NoWord.logCatalogue : ∀ a0, Laws.NoWord.Statement (.logCatalogue a0) := fun _ => Laws.NoWord.all _
theorem Laws.NoWord.recFreeze : ∀ a0, Laws.NoWord.Statement (.recFreeze a0) := fun _ => Laws.NoWord.all _
theorem Laws.NoWord.recThaw : ∀ a0, Laws.NoWord.Statement (.recThaw a0) := fun _ => Laws.NoWord.all _
theorem Laws.NoWord.logicLoad : ∀ a0, Laws.NoWord.Statement (.logicLoad a0) := fun _ => Laws.NoWord.all _
theorem Laws.NoWord.logicSeal : ∀ a0, Laws.NoWord.Statement (.logicSeal a0) := fun _ => Laws.NoWord.all _
theorem Laws.NoWord.logicMode : ∀ a0, Laws.NoWord.Statement (.logicMode a0) := fun _ => Laws.NoWord.all _
theorem Laws.NoWord.logicStep : ∀ a0, Laws.NoWord.Statement (.logicStep a0) := fun _ => Laws.NoWord.all _
theorem Laws.NoWord.logicBreak : ∀ a0, Laws.NoWord.Statement (.logicBreak a0) := fun _ => Laws.NoWord.all _
theorem Laws.NoWord.logicForce : ∀ a0, Laws.NoWord.Statement (.logicForce a0) := fun _ => Laws.NoWord.all _
theorem Laws.NoWord.logicUnforce : ∀ a0, Laws.NoWord.Statement (.logicUnforce a0) := fun _ => Laws.NoWord.all _
theorem Laws.NoWord.logicForceClear : ∀ a0, Laws.NoWord.Statement (.logicForceClear a0) := fun _ => Laws.NoWord.all _
theorem Laws.NoWord.logicForceList : ∀ a0, Laws.NoWord.Statement (.logicForceList a0) := fun _ => Laws.NoWord.all _
theorem Laws.NoWord.logicReadState : ∀ a0, Laws.NoWord.Statement (.logicReadState a0) := fun _ => Laws.NoWord.all _
theorem Laws.NoWord.spinLoad : ∀ a0, Laws.NoWord.Statement (.spinLoad a0) := fun _ => Laws.NoWord.all _
theorem Laws.NoWord.spinSeal : ∀ a0, Laws.NoWord.Statement (.spinSeal a0) := fun _ => Laws.NoWord.all _
theorem Laws.NoWord.spinReadState : ∀ a0, Laws.NoWord.Statement (.spinReadState a0) := fun _ => Laws.NoWord.all _
theorem Laws.NoWord.canSend : ∀ a0, Laws.NoWord.Statement (.canSend a0) := fun _ => Laws.NoWord.all _
theorem Laws.NoWord.canRecover : ∀ a0, Laws.NoWord.Statement (.canRecover a0) := fun _ => Laws.NoWord.all _
theorem Laws.NoWord.canRateDetect : ∀ a0, Laws.NoWord.Statement (.canRateDetect a0) := fun _ => Laws.NoWord.all _
theorem Laws.NoWord.canRingRead : ∀ a0, Laws.NoWord.Statement (.canRingRead a0) := fun _ => Laws.NoWord.all _
theorem Laws.NoWord.safeStatus : ∀ a0, Laws.NoWord.Statement (.safeStatus a0) := fun _ => Laws.NoWord.all _
theorem Laws.NoWord.safeDiagRead : ∀ a0, Laws.NoWord.Statement (.safeDiagRead a0) := fun _ => Laws.NoWord.all _
theorem Laws.NoWord.safeConfigStage : ∀ a0, Laws.NoWord.Statement (.safeConfigStage a0) := fun _ => Laws.NoWord.all _
theorem Laws.NoWord.safeConfigAccept : ∀ a0, Laws.NoWord.Statement (.safeConfigAccept a0) := fun _ => Laws.NoWord.all _
theorem Laws.NoWord.safeConnRestart : ∀ a0, Laws.NoWord.Statement (.safeConnRestart a0) := fun _ => Laws.NoWord.all _
theorem Laws.NoWord.redStatus : ∀ a0, Laws.NoWord.Statement (.redStatus a0) := fun _ => Laws.NoWord.all _
theorem Laws.NoWord.redSwitch : ∀ a0, Laws.NoWord.Statement (.redSwitch a0) := fun _ => Laws.NoWord.all _
theorem Laws.NoWord.redRevertInhibit : ∀ a0, Laws.NoWord.Statement (.redRevertInhibit a0) := fun _ => Laws.NoWord.all _
theorem Laws.NoWord.updStage : ∀ a0, Laws.NoWord.Statement (.updStage a0) := fun _ => Laws.NoWord.all _
theorem Laws.NoWord.updArm : ∀ a0, Laws.NoWord.Statement (.updArm a0) := fun _ => Laws.NoWord.all _
theorem Laws.NoWord.updCancel : ∀ a0, Laws.NoWord.Statement (.updCancel a0) := fun _ => Laws.NoWord.all _
theorem Laws.NoWord.updCommit : ∀ a0, Laws.NoWord.Statement (.updCommit a0) := fun _ => Laws.NoWord.all _
theorem Laws.NoWord.updStatus : ∀ a0, Laws.NoWord.Statement (.updStatus a0) := fun _ => Laws.NoWord.all _
theorem Laws.NoWord.updActivation : ∀ a0, Laws.NoWord.Statement (.updActivation a0) := fun _ => Laws.NoWord.all _
theorem Laws.NoWord.updRestartDone : ∀ a0, Laws.NoWord.Statement (.updRestartDone a0) := fun _ => Laws.NoWord.all _
theorem Laws.NoWord.hopFlag : ∀ a0, Laws.NoWord.Statement (.hopFlag a0) := fun _ => Laws.NoWord.all _
theorem Laws.NoWord.hopCancel : ∀ a0, Laws.NoWord.Statement (.hopCancel a0) := fun _ => Laws.NoWord.all _
theorem Laws.NoWord.hopTraceRead : ∀ a0, Laws.NoWord.Statement (.hopTraceRead a0) := fun _ => Laws.NoWord.all _
theorem Laws.NoWord.extLoad : ∀ a0, Laws.NoWord.Statement (.extLoad a0) := fun _ => Laws.NoWord.all _
theorem Laws.NoWord.extStart : ∀ a0, Laws.NoWord.Statement (.extStart a0) := fun _ => Laws.NoWord.all _
theorem Laws.NoWord.extStop : ∀ a0, Laws.NoWord.Statement (.extStop a0) := fun _ => Laws.NoWord.all _
theorem Laws.NoWord.hopReadState : ∀ a0, Laws.NoWord.Statement (.hopReadState a0) := fun _ => Laws.NoWord.all _
theorem Laws.NoWord.resetRelease : ∀ a0 a1 a2, Laws.NoWord.Statement (.resetRelease a0 a1 a2) := fun _ _ _ => Laws.NoWord.all _
theorem Laws.NoWord.perstDeassertion : ∀ a0, Laws.NoWord.Statement (.perstDeassertion a0) := fun _ => Laws.NoWord.all _
theorem Laws.NoWord.fieldPortLinkUp : ∀ a0 a1, Laws.NoWord.Statement (.fieldPortLinkUp a0 a1) := fun _ _ => Laws.NoWord.all _
theorem Laws.NoWord.canReceiveError : ∀ a0 a1 a2, Laws.NoWord.Statement (.canReceiveError a0 a1 a2) := fun _ _ _ => Laws.NoWord.all _
theorem Laws.NoWord.canBusIntegration : ∀ a0 a1, Laws.NoWord.Statement (.canBusIntegration a0 a1) := fun _ _ => Laws.NoWord.all _
theorem Laws.NoWord.updStageDurable : ∀ a0 a1, Laws.NoWord.Statement (.updStageDurable a0 a1) := fun _ _ => Laws.NoWord.all _
theorem Laws.NoWord.updPreloadDone : ∀ a0, Laws.NoWord.Statement (.updPreloadDone a0) := fun _ => Laws.NoWord.all _
theorem Laws.NoWord.ptpDelayRequestSend : ∀ a0 a1 a2, Laws.NoWord.Statement (.ptpDelayRequestSend a0 a1 a2) := fun _ _ _ => Laws.NoWord.all _
theorem Laws.NoWord.siStandardSample : ∀ a0 a1, Laws.NoWord.Statement (.siStandardSample a0 a1) := fun _ _ => Laws.NoWord.all _
theorem Laws.NoWord.maintLinkChange : ∀ a0 a1 a2, Laws.NoWord.Statement (.maintLinkChange a0 a1 a2) := fun _ _ _ => Laws.NoWord.all _

end Sys2Proof
end

