-- ==== Sys2Proof/Laws/State.lean ====
section
/-! SUPPORT. What each named update leaves in each field of the state, so that no proof unfolds a record update. -/

namespace Sys2Proof.Machine

variable (s : State)

/-! setEnc -/

@[simp] theorem State.setEnc_pending (k : Nat) (x : Encoder) : (s.setEnc k x).pending = s.pending := rfl
@[simp] theorem State.setEnc_lmt (k : Nat) (x : Encoder) : (s.setEnc k x).lmt = s.lmt := rfl
@[simp] theorem State.setEnc_sys (k : Nat) (x : Encoder) : (s.setEnc k x).sys = s.sys := rfl
@[simp] theorem State.setEnc_host (k : Nat) (x : Encoder) : (s.setEnc k x).host = s.host := rfl
@[simp] theorem State.setEnc_flights (k : Nat) (x : Encoder) : (s.setEnc k x).flights = s.flights := rfl
@[simp] theorem State.setEnc_log (k : Nat) (x : Encoder) : (s.setEnc k x).log = s.log := rfl
@[simp] theorem State.setEnc_tr (k : Nat) (x : Encoder) : (s.setEnc k x).tr = s.tr := rfl
@[simp] theorem State.setEnc_cfg (k : Nat) (x : Encoder) : (s.setEnc k x).cfg = s.cfg := rfl
@[simp] theorem State.setEnc_img (k : Nat) (x : Encoder) : (s.setEnc k x).img = s.img := rfl
@[simp] theorem State.setEnc_journal (k : Nat) (x : Encoder) : (s.setEnc k x).journal = s.journal := rfl
@[simp] theorem State.setEnc_jseq (k : Nat) (x : Encoder) : (s.setEnc k x).jseq = s.jseq := rfl
@[simp] theorem State.setEnc_settled (k : Nat) (x : Encoder) : (s.setEnc k x).settled = s.settled := rfl
@[simp] theorem State.setEnc_home (k : Nat) (x : Encoder) : (s.setEnc k x).home = s.home := rfl
@[simp] theorem State.setEnc_encs (k : Nat) (x : Encoder) : (s.setEnc k x).encs = s.encs.set k x := rfl
@[simp] theorem State.setEnc_races (k : Nat) (x : Encoder) : (s.setEnc k x).races = s.races := rfl
@[simp] theorem State.setEnc_doms (k : Nat) (x : Encoder) : (s.setEnc k x).doms = s.doms := rfl
@[simp] theorem State.setEnc_cogs (k : Nat) (x : Encoder) : (s.setEnc k x).cogs = s.cogs := rfl
@[simp] theorem State.setEnc_fos (k : Nat) (x : Encoder) : (s.setEnc k x).fos = s.fos := rfl
@[simp] theorem State.setEnc_sets (k : Nat) (x : Encoder) : (s.setEnc k x).sets = s.sets := rfl
@[simp] theorem State.setEnc_net (k : Nat) (x : Encoder) : (s.setEnc k x).net = s.net := rfl
@[simp] theorem State.setEnc_loops (k : Nat) (x : Encoder) : (s.setEnc k x).loops = s.loops := rfl
@[simp] theorem State.setEnc_ogs (k : Nat) (x : Encoder) : (s.setEnc k x).ogs = s.ogs := rfl
@[simp] theorem State.setEnc_lanes (k : Nat) (x : Encoder) : (s.setEnc k x).lanes = s.lanes := rfl
@[simp] theorem State.setEnc_fts (k : Nat) (x : Encoder) : (s.setEnc k x).fts = s.fts := rfl
@[simp] theorem State.setEnc_mot (k : Nat) (x : Encoder) : (s.setEnc k x).mot = s.mot := rfl
@[simp] theorem State.setEnc_ana (k : Nat) (x : Encoder) : (s.setEnc k x).ana = s.ana := rfl
@[simp] theorem State.setEnc_caps (k : Nat) (x : Encoder) : (s.setEnc k x).caps = s.caps := rfl
@[simp] theorem State.setEnc_logic (k : Nat) (x : Encoder) : (s.setEnc k x).logic = s.logic := rfl
@[simp] theorem State.setEnc_spins (k : Nat) (x : Encoder) : (s.setEnc k x).spins = s.spins := rfl
@[simp] theorem State.setEnc_cans (k : Nat) (x : Encoder) : (s.setEnc k x).cans = s.cans := rfl
@[simp] theorem State.setEnc_safe (k : Nat) (x : Encoder) : (s.setEnc k x).safe = s.safe := rfl
@[simp] theorem State.setEnc_red (k : Nat) (x : Encoder) : (s.setEnc k x).red = s.red := rfl
@[simp] theorem State.setEnc_hop (k : Nat) (x : Encoder) : (s.setEnc k x).hop = s.hop := rfl
@[simp] theorem State.setEnc_free (k : Nat) (x : Encoder) : (s.setEnc k x).free = s.free := rfl

/-! setRace -/

@[simp] theorem State.setRace_pending (k : Nat) (x : Race) : (s.setRace k x).pending = s.pending := rfl
@[simp] theorem State.setRace_lmt (k : Nat) (x : Race) : (s.setRace k x).lmt = s.lmt := rfl
@[simp] theorem State.setRace_sys (k : Nat) (x : Race) : (s.setRace k x).sys = s.sys := rfl
@[simp] theorem State.setRace_host (k : Nat) (x : Race) : (s.setRace k x).host = s.host := rfl
@[simp] theorem State.setRace_flights (k : Nat) (x : Race) : (s.setRace k x).flights = s.flights := rfl
@[simp] theorem State.setRace_log (k : Nat) (x : Race) : (s.setRace k x).log = s.log := rfl
@[simp] theorem State.setRace_tr (k : Nat) (x : Race) : (s.setRace k x).tr = s.tr := rfl
@[simp] theorem State.setRace_cfg (k : Nat) (x : Race) : (s.setRace k x).cfg = s.cfg := rfl
@[simp] theorem State.setRace_img (k : Nat) (x : Race) : (s.setRace k x).img = s.img := rfl
@[simp] theorem State.setRace_journal (k : Nat) (x : Race) : (s.setRace k x).journal = s.journal := rfl
@[simp] theorem State.setRace_jseq (k : Nat) (x : Race) : (s.setRace k x).jseq = s.jseq := rfl
@[simp] theorem State.setRace_settled (k : Nat) (x : Race) : (s.setRace k x).settled = s.settled := rfl
@[simp] theorem State.setRace_home (k : Nat) (x : Race) : (s.setRace k x).home = s.home := rfl
@[simp] theorem State.setRace_encs (k : Nat) (x : Race) : (s.setRace k x).encs = s.encs := rfl
@[simp] theorem State.setRace_races (k : Nat) (x : Race) : (s.setRace k x).races = s.races.set k x := rfl
@[simp] theorem State.setRace_doms (k : Nat) (x : Race) : (s.setRace k x).doms = s.doms := rfl
@[simp] theorem State.setRace_cogs (k : Nat) (x : Race) : (s.setRace k x).cogs = s.cogs := rfl
@[simp] theorem State.setRace_fos (k : Nat) (x : Race) : (s.setRace k x).fos = s.fos := rfl
@[simp] theorem State.setRace_sets (k : Nat) (x : Race) : (s.setRace k x).sets = s.sets := rfl
@[simp] theorem State.setRace_net (k : Nat) (x : Race) : (s.setRace k x).net = s.net := rfl
@[simp] theorem State.setRace_loops (k : Nat) (x : Race) : (s.setRace k x).loops = s.loops := rfl
@[simp] theorem State.setRace_ogs (k : Nat) (x : Race) : (s.setRace k x).ogs = s.ogs := rfl
@[simp] theorem State.setRace_lanes (k : Nat) (x : Race) : (s.setRace k x).lanes = s.lanes := rfl
@[simp] theorem State.setRace_fts (k : Nat) (x : Race) : (s.setRace k x).fts = s.fts := rfl
@[simp] theorem State.setRace_mot (k : Nat) (x : Race) : (s.setRace k x).mot = s.mot := rfl
@[simp] theorem State.setRace_ana (k : Nat) (x : Race) : (s.setRace k x).ana = s.ana := rfl
@[simp] theorem State.setRace_caps (k : Nat) (x : Race) : (s.setRace k x).caps = s.caps := rfl
@[simp] theorem State.setRace_logic (k : Nat) (x : Race) : (s.setRace k x).logic = s.logic := rfl
@[simp] theorem State.setRace_spins (k : Nat) (x : Race) : (s.setRace k x).spins = s.spins := rfl
@[simp] theorem State.setRace_cans (k : Nat) (x : Race) : (s.setRace k x).cans = s.cans := rfl
@[simp] theorem State.setRace_safe (k : Nat) (x : Race) : (s.setRace k x).safe = s.safe := rfl
@[simp] theorem State.setRace_red (k : Nat) (x : Race) : (s.setRace k x).red = s.red := rfl
@[simp] theorem State.setRace_hop (k : Nat) (x : Race) : (s.setRace k x).hop = s.hop := rfl
@[simp] theorem State.setRace_free (k : Nat) (x : Race) : (s.setRace k x).free = s.free := rfl

/-! setDom -/

@[simp] theorem State.setDom_pending (k : Nat) (x : Domain) : (s.setDom k x).pending = s.pending := rfl
@[simp] theorem State.setDom_lmt (k : Nat) (x : Domain) : (s.setDom k x).lmt = s.lmt := rfl
@[simp] theorem State.setDom_sys (k : Nat) (x : Domain) : (s.setDom k x).sys = s.sys := rfl
@[simp] theorem State.setDom_host (k : Nat) (x : Domain) : (s.setDom k x).host = s.host := rfl
@[simp] theorem State.setDom_flights (k : Nat) (x : Domain) : (s.setDom k x).flights = s.flights := rfl
@[simp] theorem State.setDom_log (k : Nat) (x : Domain) : (s.setDom k x).log = s.log := rfl
@[simp] theorem State.setDom_tr (k : Nat) (x : Domain) : (s.setDom k x).tr = s.tr := rfl
@[simp] theorem State.setDom_cfg (k : Nat) (x : Domain) : (s.setDom k x).cfg = s.cfg := rfl
@[simp] theorem State.setDom_img (k : Nat) (x : Domain) : (s.setDom k x).img = s.img := rfl
@[simp] theorem State.setDom_journal (k : Nat) (x : Domain) : (s.setDom k x).journal = s.journal := rfl
@[simp] theorem State.setDom_jseq (k : Nat) (x : Domain) : (s.setDom k x).jseq = s.jseq := rfl
@[simp] theorem State.setDom_settled (k : Nat) (x : Domain) : (s.setDom k x).settled = s.settled := rfl
@[simp] theorem State.setDom_home (k : Nat) (x : Domain) : (s.setDom k x).home = s.home := rfl
@[simp] theorem State.setDom_encs (k : Nat) (x : Domain) : (s.setDom k x).encs = s.encs := rfl
@[simp] theorem State.setDom_races (k : Nat) (x : Domain) : (s.setDom k x).races = s.races := rfl
@[simp] theorem State.setDom_doms (k : Nat) (x : Domain) : (s.setDom k x).doms = s.doms.set k x := rfl
@[simp] theorem State.setDom_cogs (k : Nat) (x : Domain) : (s.setDom k x).cogs = s.cogs := rfl
@[simp] theorem State.setDom_fos (k : Nat) (x : Domain) : (s.setDom k x).fos = s.fos := rfl
@[simp] theorem State.setDom_sets (k : Nat) (x : Domain) : (s.setDom k x).sets = s.sets := rfl
@[simp] theorem State.setDom_net (k : Nat) (x : Domain) : (s.setDom k x).net = s.net := rfl
@[simp] theorem State.setDom_loops (k : Nat) (x : Domain) : (s.setDom k x).loops = s.loops := rfl
@[simp] theorem State.setDom_ogs (k : Nat) (x : Domain) : (s.setDom k x).ogs = s.ogs := rfl
@[simp] theorem State.setDom_lanes (k : Nat) (x : Domain) : (s.setDom k x).lanes = s.lanes := rfl
@[simp] theorem State.setDom_fts (k : Nat) (x : Domain) : (s.setDom k x).fts = s.fts := rfl
@[simp] theorem State.setDom_mot (k : Nat) (x : Domain) : (s.setDom k x).mot = s.mot := rfl
@[simp] theorem State.setDom_ana (k : Nat) (x : Domain) : (s.setDom k x).ana = s.ana := rfl
@[simp] theorem State.setDom_caps (k : Nat) (x : Domain) : (s.setDom k x).caps = s.caps := rfl
@[simp] theorem State.setDom_logic (k : Nat) (x : Domain) : (s.setDom k x).logic = s.logic := rfl
@[simp] theorem State.setDom_spins (k : Nat) (x : Domain) : (s.setDom k x).spins = s.spins := rfl
@[simp] theorem State.setDom_cans (k : Nat) (x : Domain) : (s.setDom k x).cans = s.cans := rfl
@[simp] theorem State.setDom_safe (k : Nat) (x : Domain) : (s.setDom k x).safe = s.safe := rfl
@[simp] theorem State.setDom_red (k : Nat) (x : Domain) : (s.setDom k x).red = s.red := rfl
@[simp] theorem State.setDom_hop (k : Nat) (x : Domain) : (s.setDom k x).hop = s.hop := rfl
@[simp] theorem State.setDom_free (k : Nat) (x : Domain) : (s.setDom k x).free = s.free := rfl

/-! setCog -/

@[simp] theorem State.setCog_pending (k : Nat) (x : Cog) : (s.setCog k x).pending = s.pending := rfl
@[simp] theorem State.setCog_lmt (k : Nat) (x : Cog) : (s.setCog k x).lmt = s.lmt := rfl
@[simp] theorem State.setCog_sys (k : Nat) (x : Cog) : (s.setCog k x).sys = s.sys := rfl
@[simp] theorem State.setCog_host (k : Nat) (x : Cog) : (s.setCog k x).host = s.host := rfl
@[simp] theorem State.setCog_flights (k : Nat) (x : Cog) : (s.setCog k x).flights = s.flights := rfl
@[simp] theorem State.setCog_log (k : Nat) (x : Cog) : (s.setCog k x).log = s.log := rfl
@[simp] theorem State.setCog_tr (k : Nat) (x : Cog) : (s.setCog k x).tr = s.tr := rfl
@[simp] theorem State.setCog_cfg (k : Nat) (x : Cog) : (s.setCog k x).cfg = s.cfg := rfl
@[simp] theorem State.setCog_img (k : Nat) (x : Cog) : (s.setCog k x).img = s.img := rfl
@[simp] theorem State.setCog_journal (k : Nat) (x : Cog) : (s.setCog k x).journal = s.journal := rfl
@[simp] theorem State.setCog_jseq (k : Nat) (x : Cog) : (s.setCog k x).jseq = s.jseq := rfl
@[simp] theorem State.setCog_settled (k : Nat) (x : Cog) : (s.setCog k x).settled = s.settled := rfl
@[simp] theorem State.setCog_home (k : Nat) (x : Cog) : (s.setCog k x).home = s.home := rfl
@[simp] theorem State.setCog_encs (k : Nat) (x : Cog) : (s.setCog k x).encs = s.encs := rfl
@[simp] theorem State.setCog_races (k : Nat) (x : Cog) : (s.setCog k x).races = s.races := rfl
@[simp] theorem State.setCog_doms (k : Nat) (x : Cog) : (s.setCog k x).doms = s.doms := rfl
@[simp] theorem State.setCog_cogs (k : Nat) (x : Cog) : (s.setCog k x).cogs = s.cogs.set k x := rfl
@[simp] theorem State.setCog_fos (k : Nat) (x : Cog) : (s.setCog k x).fos = s.fos := rfl
@[simp] theorem State.setCog_sets (k : Nat) (x : Cog) : (s.setCog k x).sets = s.sets := rfl
@[simp] theorem State.setCog_net (k : Nat) (x : Cog) : (s.setCog k x).net = s.net := rfl
@[simp] theorem State.setCog_loops (k : Nat) (x : Cog) : (s.setCog k x).loops = s.loops := rfl
@[simp] theorem State.setCog_ogs (k : Nat) (x : Cog) : (s.setCog k x).ogs = s.ogs := rfl
@[simp] theorem State.setCog_lanes (k : Nat) (x : Cog) : (s.setCog k x).lanes = s.lanes := rfl
@[simp] theorem State.setCog_fts (k : Nat) (x : Cog) : (s.setCog k x).fts = s.fts := rfl
@[simp] theorem State.setCog_mot (k : Nat) (x : Cog) : (s.setCog k x).mot = s.mot := rfl
@[simp] theorem State.setCog_ana (k : Nat) (x : Cog) : (s.setCog k x).ana = s.ana := rfl
@[simp] theorem State.setCog_caps (k : Nat) (x : Cog) : (s.setCog k x).caps = s.caps := rfl
@[simp] theorem State.setCog_logic (k : Nat) (x : Cog) : (s.setCog k x).logic = s.logic := rfl
@[simp] theorem State.setCog_spins (k : Nat) (x : Cog) : (s.setCog k x).spins = s.spins := rfl
@[simp] theorem State.setCog_cans (k : Nat) (x : Cog) : (s.setCog k x).cans = s.cans := rfl
@[simp] theorem State.setCog_safe (k : Nat) (x : Cog) : (s.setCog k x).safe = s.safe := rfl
@[simp] theorem State.setCog_red (k : Nat) (x : Cog) : (s.setCog k x).red = s.red := rfl
@[simp] theorem State.setCog_hop (k : Nat) (x : Cog) : (s.setCog k x).hop = s.hop := rfl
@[simp] theorem State.setCog_free (k : Nat) (x : Cog) : (s.setCog k x).free = s.free := rfl

/-! setFo -/

@[simp] theorem State.setFo_pending (k : Nat) (x : FastOut) : (s.setFo k x).pending = s.pending := rfl
@[simp] theorem State.setFo_lmt (k : Nat) (x : FastOut) : (s.setFo k x).lmt = s.lmt := rfl
@[simp] theorem State.setFo_sys (k : Nat) (x : FastOut) : (s.setFo k x).sys = s.sys := rfl
@[simp] theorem State.setFo_host (k : Nat) (x : FastOut) : (s.setFo k x).host = s.host := rfl
@[simp] theorem State.setFo_flights (k : Nat) (x : FastOut) : (s.setFo k x).flights = s.flights := rfl
@[simp] theorem State.setFo_log (k : Nat) (x : FastOut) : (s.setFo k x).log = s.log := rfl
@[simp] theorem State.setFo_tr (k : Nat) (x : FastOut) : (s.setFo k x).tr = s.tr := rfl
@[simp] theorem State.setFo_cfg (k : Nat) (x : FastOut) : (s.setFo k x).cfg = s.cfg := rfl
@[simp] theorem State.setFo_img (k : Nat) (x : FastOut) : (s.setFo k x).img = s.img := rfl
@[simp] theorem State.setFo_journal (k : Nat) (x : FastOut) : (s.setFo k x).journal = s.journal := rfl
@[simp] theorem State.setFo_jseq (k : Nat) (x : FastOut) : (s.setFo k x).jseq = s.jseq := rfl
@[simp] theorem State.setFo_settled (k : Nat) (x : FastOut) : (s.setFo k x).settled = s.settled := rfl
@[simp] theorem State.setFo_home (k : Nat) (x : FastOut) : (s.setFo k x).home = s.home := rfl
@[simp] theorem State.setFo_encs (k : Nat) (x : FastOut) : (s.setFo k x).encs = s.encs := rfl
@[simp] theorem State.setFo_races (k : Nat) (x : FastOut) : (s.setFo k x).races = s.races := rfl
@[simp] theorem State.setFo_doms (k : Nat) (x : FastOut) : (s.setFo k x).doms = s.doms := rfl
@[simp] theorem State.setFo_cogs (k : Nat) (x : FastOut) : (s.setFo k x).cogs = s.cogs := rfl
@[simp] theorem State.setFo_fos (k : Nat) (x : FastOut) : (s.setFo k x).fos = s.fos.set k x := rfl
@[simp] theorem State.setFo_sets (k : Nat) (x : FastOut) : (s.setFo k x).sets = s.sets := rfl
@[simp] theorem State.setFo_net (k : Nat) (x : FastOut) : (s.setFo k x).net = s.net := rfl
@[simp] theorem State.setFo_loops (k : Nat) (x : FastOut) : (s.setFo k x).loops = s.loops := rfl
@[simp] theorem State.setFo_ogs (k : Nat) (x : FastOut) : (s.setFo k x).ogs = s.ogs := rfl
@[simp] theorem State.setFo_lanes (k : Nat) (x : FastOut) : (s.setFo k x).lanes = s.lanes := rfl
@[simp] theorem State.setFo_fts (k : Nat) (x : FastOut) : (s.setFo k x).fts = s.fts := rfl
@[simp] theorem State.setFo_mot (k : Nat) (x : FastOut) : (s.setFo k x).mot = s.mot := rfl
@[simp] theorem State.setFo_ana (k : Nat) (x : FastOut) : (s.setFo k x).ana = s.ana := rfl
@[simp] theorem State.setFo_caps (k : Nat) (x : FastOut) : (s.setFo k x).caps = s.caps := rfl
@[simp] theorem State.setFo_logic (k : Nat) (x : FastOut) : (s.setFo k x).logic = s.logic := rfl
@[simp] theorem State.setFo_spins (k : Nat) (x : FastOut) : (s.setFo k x).spins = s.spins := rfl
@[simp] theorem State.setFo_cans (k : Nat) (x : FastOut) : (s.setFo k x).cans = s.cans := rfl
@[simp] theorem State.setFo_safe (k : Nat) (x : FastOut) : (s.setFo k x).safe = s.safe := rfl
@[simp] theorem State.setFo_red (k : Nat) (x : FastOut) : (s.setFo k x).red = s.red := rfl
@[simp] theorem State.setFo_hop (k : Nat) (x : FastOut) : (s.setFo k x).hop = s.hop := rfl
@[simp] theorem State.setFo_free (k : Nat) (x : FastOut) : (s.setFo k x).free = s.free := rfl

/-! setPset -/

@[simp] theorem State.setPset_pending (k : Nat) (x : BankSet) : (s.setPset k x).pending = s.pending := rfl
@[simp] theorem State.setPset_lmt (k : Nat) (x : BankSet) : (s.setPset k x).lmt = s.lmt := rfl
@[simp] theorem State.setPset_sys (k : Nat) (x : BankSet) : (s.setPset k x).sys = s.sys := rfl
@[simp] theorem State.setPset_host (k : Nat) (x : BankSet) : (s.setPset k x).host = s.host := rfl
@[simp] theorem State.setPset_flights (k : Nat) (x : BankSet) : (s.setPset k x).flights = s.flights := rfl
@[simp] theorem State.setPset_log (k : Nat) (x : BankSet) : (s.setPset k x).log = s.log := rfl
@[simp] theorem State.setPset_tr (k : Nat) (x : BankSet) : (s.setPset k x).tr = s.tr := rfl
@[simp] theorem State.setPset_cfg (k : Nat) (x : BankSet) : (s.setPset k x).cfg = s.cfg := rfl
@[simp] theorem State.setPset_img (k : Nat) (x : BankSet) : (s.setPset k x).img = s.img := rfl
@[simp] theorem State.setPset_journal (k : Nat) (x : BankSet) : (s.setPset k x).journal = s.journal := rfl
@[simp] theorem State.setPset_jseq (k : Nat) (x : BankSet) : (s.setPset k x).jseq = s.jseq := rfl
@[simp] theorem State.setPset_settled (k : Nat) (x : BankSet) : (s.setPset k x).settled = s.settled := rfl
@[simp] theorem State.setPset_home (k : Nat) (x : BankSet) : (s.setPset k x).home = s.home := rfl
@[simp] theorem State.setPset_encs (k : Nat) (x : BankSet) : (s.setPset k x).encs = s.encs := rfl
@[simp] theorem State.setPset_races (k : Nat) (x : BankSet) : (s.setPset k x).races = s.races := rfl
@[simp] theorem State.setPset_doms (k : Nat) (x : BankSet) : (s.setPset k x).doms = s.doms := rfl
@[simp] theorem State.setPset_cogs (k : Nat) (x : BankSet) : (s.setPset k x).cogs = s.cogs := rfl
@[simp] theorem State.setPset_fos (k : Nat) (x : BankSet) : (s.setPset k x).fos = s.fos := rfl
@[simp] theorem State.setPset_sets (k : Nat) (x : BankSet) : (s.setPset k x).sets = s.sets.set k x := rfl
@[simp] theorem State.setPset_net (k : Nat) (x : BankSet) : (s.setPset k x).net = s.net := rfl
@[simp] theorem State.setPset_loops (k : Nat) (x : BankSet) : (s.setPset k x).loops = s.loops := rfl
@[simp] theorem State.setPset_ogs (k : Nat) (x : BankSet) : (s.setPset k x).ogs = s.ogs := rfl
@[simp] theorem State.setPset_lanes (k : Nat) (x : BankSet) : (s.setPset k x).lanes = s.lanes := rfl
@[simp] theorem State.setPset_fts (k : Nat) (x : BankSet) : (s.setPset k x).fts = s.fts := rfl
@[simp] theorem State.setPset_mot (k : Nat) (x : BankSet) : (s.setPset k x).mot = s.mot := rfl
@[simp] theorem State.setPset_ana (k : Nat) (x : BankSet) : (s.setPset k x).ana = s.ana := rfl
@[simp] theorem State.setPset_caps (k : Nat) (x : BankSet) : (s.setPset k x).caps = s.caps := rfl
@[simp] theorem State.setPset_logic (k : Nat) (x : BankSet) : (s.setPset k x).logic = s.logic := rfl
@[simp] theorem State.setPset_spins (k : Nat) (x : BankSet) : (s.setPset k x).spins = s.spins := rfl
@[simp] theorem State.setPset_cans (k : Nat) (x : BankSet) : (s.setPset k x).cans = s.cans := rfl
@[simp] theorem State.setPset_safe (k : Nat) (x : BankSet) : (s.setPset k x).safe = s.safe := rfl
@[simp] theorem State.setPset_red (k : Nat) (x : BankSet) : (s.setPset k x).red = s.red := rfl
@[simp] theorem State.setPset_hop (k : Nat) (x : BankSet) : (s.setPset k x).hop = s.hop := rfl
@[simp] theorem State.setPset_free (k : Nat) (x : BankSet) : (s.setPset k x).free = s.free := rfl

/-! setPort -/

@[simp] theorem State.setPort_pending (k : Nat) (x : Port) : (s.setPort k x).pending = s.pending := rfl
@[simp] theorem State.setPort_lmt (k : Nat) (x : Port) : (s.setPort k x).lmt = s.lmt := rfl
@[simp] theorem State.setPort_sys (k : Nat) (x : Port) : (s.setPort k x).sys = s.sys := rfl
@[simp] theorem State.setPort_host (k : Nat) (x : Port) : (s.setPort k x).host = s.host := rfl
@[simp] theorem State.setPort_flights (k : Nat) (x : Port) : (s.setPort k x).flights = s.flights := rfl
@[simp] theorem State.setPort_log (k : Nat) (x : Port) : (s.setPort k x).log = s.log := rfl
@[simp] theorem State.setPort_tr (k : Nat) (x : Port) : (s.setPort k x).tr = s.tr := rfl
@[simp] theorem State.setPort_cfg (k : Nat) (x : Port) : (s.setPort k x).cfg = s.cfg := rfl
@[simp] theorem State.setPort_img (k : Nat) (x : Port) : (s.setPort k x).img = s.img := rfl
@[simp] theorem State.setPort_journal (k : Nat) (x : Port) : (s.setPort k x).journal = s.journal := rfl
@[simp] theorem State.setPort_jseq (k : Nat) (x : Port) : (s.setPort k x).jseq = s.jseq := rfl
@[simp] theorem State.setPort_settled (k : Nat) (x : Port) : (s.setPort k x).settled = s.settled := rfl
@[simp] theorem State.setPort_home (k : Nat) (x : Port) : (s.setPort k x).home = s.home := rfl
@[simp] theorem State.setPort_encs (k : Nat) (x : Port) : (s.setPort k x).encs = s.encs := rfl
@[simp] theorem State.setPort_races (k : Nat) (x : Port) : (s.setPort k x).races = s.races := rfl
@[simp] theorem State.setPort_doms (k : Nat) (x : Port) : (s.setPort k x).doms = s.doms := rfl
@[simp] theorem State.setPort_cogs (k : Nat) (x : Port) : (s.setPort k x).cogs = s.cogs := rfl
@[simp] theorem State.setPort_fos (k : Nat) (x : Port) : (s.setPort k x).fos = s.fos := rfl
@[simp] theorem State.setPort_sets (k : Nat) (x : Port) : (s.setPort k x).sets = s.sets := rfl
@[simp] theorem State.setPort_net (k : Nat) (x : Port) : (s.setPort k x).net = { s.net with ports := s.net.ports.set k x } := rfl
@[simp] theorem State.setPort_loops (k : Nat) (x : Port) : (s.setPort k x).loops = s.loops := rfl
@[simp] theorem State.setPort_ogs (k : Nat) (x : Port) : (s.setPort k x).ogs = s.ogs := rfl
@[simp] theorem State.setPort_lanes (k : Nat) (x : Port) : (s.setPort k x).lanes = s.lanes := rfl
@[simp] theorem State.setPort_fts (k : Nat) (x : Port) : (s.setPort k x).fts = s.fts := rfl
@[simp] theorem State.setPort_mot (k : Nat) (x : Port) : (s.setPort k x).mot = s.mot := rfl
@[simp] theorem State.setPort_ana (k : Nat) (x : Port) : (s.setPort k x).ana = s.ana := rfl
@[simp] theorem State.setPort_caps (k : Nat) (x : Port) : (s.setPort k x).caps = s.caps := rfl
@[simp] theorem State.setPort_logic (k : Nat) (x : Port) : (s.setPort k x).logic = s.logic := rfl
@[simp] theorem State.setPort_spins (k : Nat) (x : Port) : (s.setPort k x).spins = s.spins := rfl
@[simp] theorem State.setPort_cans (k : Nat) (x : Port) : (s.setPort k x).cans = s.cans := rfl
@[simp] theorem State.setPort_safe (k : Nat) (x : Port) : (s.setPort k x).safe = s.safe := rfl
@[simp] theorem State.setPort_red (k : Nat) (x : Port) : (s.setPort k x).red = s.red := rfl
@[simp] theorem State.setPort_hop (k : Nat) (x : Port) : (s.setPort k x).hop = s.hop := rfl
@[simp] theorem State.setPort_free (k : Nat) (x : Port) : (s.setPort k x).free = s.free := rfl

/-! setNode -/

@[simp] theorem State.setNode_pending (k : Nat) (x : Node) : (s.setNode k x).pending = s.pending := rfl
@[simp] theorem State.setNode_lmt (k : Nat) (x : Node) : (s.setNode k x).lmt = s.lmt := rfl
@[simp] theorem State.setNode_sys (k : Nat) (x : Node) : (s.setNode k x).sys = s.sys := rfl
@[simp] theorem State.setNode_host (k : Nat) (x : Node) : (s.setNode k x).host = s.host := rfl
@[simp] theorem State.setNode_flights (k : Nat) (x : Node) : (s.setNode k x).flights = s.flights := rfl
@[simp] theorem State.setNode_log (k : Nat) (x : Node) : (s.setNode k x).log = s.log := rfl
@[simp] theorem State.setNode_tr (k : Nat) (x : Node) : (s.setNode k x).tr = s.tr := rfl
@[simp] theorem State.setNode_cfg (k : Nat) (x : Node) : (s.setNode k x).cfg = s.cfg := rfl
@[simp] theorem State.setNode_img (k : Nat) (x : Node) : (s.setNode k x).img = s.img := rfl
@[simp] theorem State.setNode_journal (k : Nat) (x : Node) : (s.setNode k x).journal = s.journal := rfl
@[simp] theorem State.setNode_jseq (k : Nat) (x : Node) : (s.setNode k x).jseq = s.jseq := rfl
@[simp] theorem State.setNode_settled (k : Nat) (x : Node) : (s.setNode k x).settled = s.settled := rfl
@[simp] theorem State.setNode_home (k : Nat) (x : Node) : (s.setNode k x).home = s.home := rfl
@[simp] theorem State.setNode_encs (k : Nat) (x : Node) : (s.setNode k x).encs = s.encs := rfl
@[simp] theorem State.setNode_races (k : Nat) (x : Node) : (s.setNode k x).races = s.races := rfl
@[simp] theorem State.setNode_doms (k : Nat) (x : Node) : (s.setNode k x).doms = s.doms := rfl
@[simp] theorem State.setNode_cogs (k : Nat) (x : Node) : (s.setNode k x).cogs = s.cogs := rfl
@[simp] theorem State.setNode_fos (k : Nat) (x : Node) : (s.setNode k x).fos = s.fos := rfl
@[simp] theorem State.setNode_sets (k : Nat) (x : Node) : (s.setNode k x).sets = s.sets := rfl
@[simp] theorem State.setNode_net (k : Nat) (x : Node) : (s.setNode k x).net = { s.net with nodes := s.net.nodes.set k x } := rfl
@[simp] theorem State.setNode_loops (k : Nat) (x : Node) : (s.setNode k x).loops = s.loops := rfl
@[simp] theorem State.setNode_ogs (k : Nat) (x : Node) : (s.setNode k x).ogs = s.ogs := rfl
@[simp] theorem State.setNode_lanes (k : Nat) (x : Node) : (s.setNode k x).lanes = s.lanes := rfl
@[simp] theorem State.setNode_fts (k : Nat) (x : Node) : (s.setNode k x).fts = s.fts := rfl
@[simp] theorem State.setNode_mot (k : Nat) (x : Node) : (s.setNode k x).mot = s.mot := rfl
@[simp] theorem State.setNode_ana (k : Nat) (x : Node) : (s.setNode k x).ana = s.ana := rfl
@[simp] theorem State.setNode_caps (k : Nat) (x : Node) : (s.setNode k x).caps = s.caps := rfl
@[simp] theorem State.setNode_logic (k : Nat) (x : Node) : (s.setNode k x).logic = s.logic := rfl
@[simp] theorem State.setNode_spins (k : Nat) (x : Node) : (s.setNode k x).spins = s.spins := rfl
@[simp] theorem State.setNode_cans (k : Nat) (x : Node) : (s.setNode k x).cans = s.cans := rfl
@[simp] theorem State.setNode_safe (k : Nat) (x : Node) : (s.setNode k x).safe = s.safe := rfl
@[simp] theorem State.setNode_red (k : Nat) (x : Node) : (s.setNode k x).red = s.red := rfl
@[simp] theorem State.setNode_hop (k : Nat) (x : Node) : (s.setNode k x).hop = s.hop := rfl
@[simp] theorem State.setNode_free (k : Nat) (x : Node) : (s.setNode k x).free = s.free := rfl

/-! setLoop -/

@[simp] theorem State.setLoop_pending (k : Nat) (x : Loop) : (s.setLoop k x).pending = s.pending := rfl
@[simp] theorem State.setLoop_lmt (k : Nat) (x : Loop) : (s.setLoop k x).lmt = s.lmt := rfl
@[simp] theorem State.setLoop_sys (k : Nat) (x : Loop) : (s.setLoop k x).sys = s.sys := rfl
@[simp] theorem State.setLoop_host (k : Nat) (x : Loop) : (s.setLoop k x).host = s.host := rfl
@[simp] theorem State.setLoop_flights (k : Nat) (x : Loop) : (s.setLoop k x).flights = s.flights := rfl
@[simp] theorem State.setLoop_log (k : Nat) (x : Loop) : (s.setLoop k x).log = s.log := rfl
@[simp] theorem State.setLoop_tr (k : Nat) (x : Loop) : (s.setLoop k x).tr = s.tr := rfl
@[simp] theorem State.setLoop_cfg (k : Nat) (x : Loop) : (s.setLoop k x).cfg = s.cfg := rfl
@[simp] theorem State.setLoop_img (k : Nat) (x : Loop) : (s.setLoop k x).img = s.img := rfl
@[simp] theorem State.setLoop_journal (k : Nat) (x : Loop) : (s.setLoop k x).journal = s.journal := rfl
@[simp] theorem State.setLoop_jseq (k : Nat) (x : Loop) : (s.setLoop k x).jseq = s.jseq := rfl
@[simp] theorem State.setLoop_settled (k : Nat) (x : Loop) : (s.setLoop k x).settled = s.settled := rfl
@[simp] theorem State.setLoop_home (k : Nat) (x : Loop) : (s.setLoop k x).home = s.home := rfl
@[simp] theorem State.setLoop_encs (k : Nat) (x : Loop) : (s.setLoop k x).encs = s.encs := rfl
@[simp] theorem State.setLoop_races (k : Nat) (x : Loop) : (s.setLoop k x).races = s.races := rfl
@[simp] theorem State.setLoop_doms (k : Nat) (x : Loop) : (s.setLoop k x).doms = s.doms := rfl
@[simp] theorem State.setLoop_cogs (k : Nat) (x : Loop) : (s.setLoop k x).cogs = s.cogs := rfl
@[simp] theorem State.setLoop_fos (k : Nat) (x : Loop) : (s.setLoop k x).fos = s.fos := rfl
@[simp] theorem State.setLoop_sets (k : Nat) (x : Loop) : (s.setLoop k x).sets = s.sets := rfl
@[simp] theorem State.setLoop_net (k : Nat) (x : Loop) : (s.setLoop k x).net = s.net := rfl
@[simp] theorem State.setLoop_loops (k : Nat) (x : Loop) : (s.setLoop k x).loops = s.loops.set k x := rfl
@[simp] theorem State.setLoop_ogs (k : Nat) (x : Loop) : (s.setLoop k x).ogs = s.ogs := rfl
@[simp] theorem State.setLoop_lanes (k : Nat) (x : Loop) : (s.setLoop k x).lanes = s.lanes := rfl
@[simp] theorem State.setLoop_fts (k : Nat) (x : Loop) : (s.setLoop k x).fts = s.fts := rfl
@[simp] theorem State.setLoop_mot (k : Nat) (x : Loop) : (s.setLoop k x).mot = s.mot := rfl
@[simp] theorem State.setLoop_ana (k : Nat) (x : Loop) : (s.setLoop k x).ana = s.ana := rfl
@[simp] theorem State.setLoop_caps (k : Nat) (x : Loop) : (s.setLoop k x).caps = s.caps := rfl
@[simp] theorem State.setLoop_logic (k : Nat) (x : Loop) : (s.setLoop k x).logic = s.logic := rfl
@[simp] theorem State.setLoop_spins (k : Nat) (x : Loop) : (s.setLoop k x).spins = s.spins := rfl
@[simp] theorem State.setLoop_cans (k : Nat) (x : Loop) : (s.setLoop k x).cans = s.cans := rfl
@[simp] theorem State.setLoop_safe (k : Nat) (x : Loop) : (s.setLoop k x).safe = s.safe := rfl
@[simp] theorem State.setLoop_red (k : Nat) (x : Loop) : (s.setLoop k x).red = s.red := rfl
@[simp] theorem State.setLoop_hop (k : Nat) (x : Loop) : (s.setLoop k x).hop = s.hop := rfl
@[simp] theorem State.setLoop_free (k : Nat) (x : Loop) : (s.setLoop k x).free = s.free := rfl

/-! setFt -/

@[simp] theorem State.setFt_pending (k : Nat) (x : FtTask) : (s.setFt k x).pending = s.pending := rfl
@[simp] theorem State.setFt_lmt (k : Nat) (x : FtTask) : (s.setFt k x).lmt = s.lmt := rfl
@[simp] theorem State.setFt_sys (k : Nat) (x : FtTask) : (s.setFt k x).sys = s.sys := rfl
@[simp] theorem State.setFt_host (k : Nat) (x : FtTask) : (s.setFt k x).host = s.host := rfl
@[simp] theorem State.setFt_flights (k : Nat) (x : FtTask) : (s.setFt k x).flights = s.flights := rfl
@[simp] theorem State.setFt_log (k : Nat) (x : FtTask) : (s.setFt k x).log = s.log := rfl
@[simp] theorem State.setFt_tr (k : Nat) (x : FtTask) : (s.setFt k x).tr = s.tr := rfl
@[simp] theorem State.setFt_cfg (k : Nat) (x : FtTask) : (s.setFt k x).cfg = s.cfg := rfl
@[simp] theorem State.setFt_img (k : Nat) (x : FtTask) : (s.setFt k x).img = s.img := rfl
@[simp] theorem State.setFt_journal (k : Nat) (x : FtTask) : (s.setFt k x).journal = s.journal := rfl
@[simp] theorem State.setFt_jseq (k : Nat) (x : FtTask) : (s.setFt k x).jseq = s.jseq := rfl
@[simp] theorem State.setFt_settled (k : Nat) (x : FtTask) : (s.setFt k x).settled = s.settled := rfl
@[simp] theorem State.setFt_home (k : Nat) (x : FtTask) : (s.setFt k x).home = s.home := rfl
@[simp] theorem State.setFt_encs (k : Nat) (x : FtTask) : (s.setFt k x).encs = s.encs := rfl
@[simp] theorem State.setFt_races (k : Nat) (x : FtTask) : (s.setFt k x).races = s.races := rfl
@[simp] theorem State.setFt_doms (k : Nat) (x : FtTask) : (s.setFt k x).doms = s.doms := rfl
@[simp] theorem State.setFt_cogs (k : Nat) (x : FtTask) : (s.setFt k x).cogs = s.cogs := rfl
@[simp] theorem State.setFt_fos (k : Nat) (x : FtTask) : (s.setFt k x).fos = s.fos := rfl
@[simp] theorem State.setFt_sets (k : Nat) (x : FtTask) : (s.setFt k x).sets = s.sets := rfl
@[simp] theorem State.setFt_net (k : Nat) (x : FtTask) : (s.setFt k x).net = s.net := rfl
@[simp] theorem State.setFt_loops (k : Nat) (x : FtTask) : (s.setFt k x).loops = s.loops := rfl
@[simp] theorem State.setFt_ogs (k : Nat) (x : FtTask) : (s.setFt k x).ogs = s.ogs := rfl
@[simp] theorem State.setFt_lanes (k : Nat) (x : FtTask) : (s.setFt k x).lanes = s.lanes := rfl
@[simp] theorem State.setFt_fts (k : Nat) (x : FtTask) : (s.setFt k x).fts = s.fts.set k x := rfl
@[simp] theorem State.setFt_mot (k : Nat) (x : FtTask) : (s.setFt k x).mot = s.mot := rfl
@[simp] theorem State.setFt_ana (k : Nat) (x : FtTask) : (s.setFt k x).ana = s.ana := rfl
@[simp] theorem State.setFt_caps (k : Nat) (x : FtTask) : (s.setFt k x).caps = s.caps := rfl
@[simp] theorem State.setFt_logic (k : Nat) (x : FtTask) : (s.setFt k x).logic = s.logic := rfl
@[simp] theorem State.setFt_spins (k : Nat) (x : FtTask) : (s.setFt k x).spins = s.spins := rfl
@[simp] theorem State.setFt_cans (k : Nat) (x : FtTask) : (s.setFt k x).cans = s.cans := rfl
@[simp] theorem State.setFt_safe (k : Nat) (x : FtTask) : (s.setFt k x).safe = s.safe := rfl
@[simp] theorem State.setFt_red (k : Nat) (x : FtTask) : (s.setFt k x).red = s.red := rfl
@[simp] theorem State.setFt_hop (k : Nat) (x : FtTask) : (s.setFt k x).hop = s.hop := rfl
@[simp] theorem State.setFt_free (k : Nat) (x : FtTask) : (s.setFt k x).free = s.free := rfl

/-! setAxis -/

@[simp] theorem State.setAxis_pending (k : Nat) (x : Axis) : (s.setAxis k x).pending = s.pending := rfl
@[simp] theorem State.setAxis_lmt (k : Nat) (x : Axis) : (s.setAxis k x).lmt = s.lmt := rfl
@[simp] theorem State.setAxis_sys (k : Nat) (x : Axis) : (s.setAxis k x).sys = s.sys := rfl
@[simp] theorem State.setAxis_host (k : Nat) (x : Axis) : (s.setAxis k x).host = s.host := rfl
@[simp] theorem State.setAxis_flights (k : Nat) (x : Axis) : (s.setAxis k x).flights = s.flights := rfl
@[simp] theorem State.setAxis_log (k : Nat) (x : Axis) : (s.setAxis k x).log = s.log := rfl
@[simp] theorem State.setAxis_tr (k : Nat) (x : Axis) : (s.setAxis k x).tr = s.tr := rfl
@[simp] theorem State.setAxis_cfg (k : Nat) (x : Axis) : (s.setAxis k x).cfg = s.cfg := rfl
@[simp] theorem State.setAxis_img (k : Nat) (x : Axis) : (s.setAxis k x).img = s.img := rfl
@[simp] theorem State.setAxis_journal (k : Nat) (x : Axis) : (s.setAxis k x).journal = s.journal := rfl
@[simp] theorem State.setAxis_jseq (k : Nat) (x : Axis) : (s.setAxis k x).jseq = s.jseq := rfl
@[simp] theorem State.setAxis_settled (k : Nat) (x : Axis) : (s.setAxis k x).settled = s.settled := rfl
@[simp] theorem State.setAxis_home (k : Nat) (x : Axis) : (s.setAxis k x).home = s.home := rfl
@[simp] theorem State.setAxis_encs (k : Nat) (x : Axis) : (s.setAxis k x).encs = s.encs := rfl
@[simp] theorem State.setAxis_races (k : Nat) (x : Axis) : (s.setAxis k x).races = s.races := rfl
@[simp] theorem State.setAxis_doms (k : Nat) (x : Axis) : (s.setAxis k x).doms = s.doms := rfl
@[simp] theorem State.setAxis_cogs (k : Nat) (x : Axis) : (s.setAxis k x).cogs = s.cogs := rfl
@[simp] theorem State.setAxis_fos (k : Nat) (x : Axis) : (s.setAxis k x).fos = s.fos := rfl
@[simp] theorem State.setAxis_sets (k : Nat) (x : Axis) : (s.setAxis k x).sets = s.sets := rfl
@[simp] theorem State.setAxis_net (k : Nat) (x : Axis) : (s.setAxis k x).net = s.net := rfl
@[simp] theorem State.setAxis_loops (k : Nat) (x : Axis) : (s.setAxis k x).loops = s.loops := rfl
@[simp] theorem State.setAxis_ogs (k : Nat) (x : Axis) : (s.setAxis k x).ogs = s.ogs := rfl
@[simp] theorem State.setAxis_lanes (k : Nat) (x : Axis) : (s.setAxis k x).lanes = s.lanes := rfl
@[simp] theorem State.setAxis_fts (k : Nat) (x : Axis) : (s.setAxis k x).fts = s.fts := rfl
@[simp] theorem State.setAxis_mot (k : Nat) (x : Axis) : (s.setAxis k x).mot = { s.mot with axes := s.mot.axes.set k x } := rfl
@[simp] theorem State.setAxis_ana (k : Nat) (x : Axis) : (s.setAxis k x).ana = s.ana := rfl
@[simp] theorem State.setAxis_caps (k : Nat) (x : Axis) : (s.setAxis k x).caps = s.caps := rfl
@[simp] theorem State.setAxis_logic (k : Nat) (x : Axis) : (s.setAxis k x).logic = s.logic := rfl
@[simp] theorem State.setAxis_spins (k : Nat) (x : Axis) : (s.setAxis k x).spins = s.spins := rfl
@[simp] theorem State.setAxis_cans (k : Nat) (x : Axis) : (s.setAxis k x).cans = s.cans := rfl
@[simp] theorem State.setAxis_safe (k : Nat) (x : Axis) : (s.setAxis k x).safe = s.safe := rfl
@[simp] theorem State.setAxis_red (k : Nat) (x : Axis) : (s.setAxis k x).red = s.red := rfl
@[simp] theorem State.setAxis_hop (k : Nat) (x : Axis) : (s.setAxis k x).hop = s.hop := rfl
@[simp] theorem State.setAxis_free (k : Nat) (x : Axis) : (s.setAxis k x).free = s.free := rfl

/-! setCl -/

@[simp] theorem State.setCl_pending (k : Nat) (x : ClChan) : (s.setCl k x).pending = s.pending := rfl
@[simp] theorem State.setCl_lmt (k : Nat) (x : ClChan) : (s.setCl k x).lmt = s.lmt := rfl
@[simp] theorem State.setCl_sys (k : Nat) (x : ClChan) : (s.setCl k x).sys = s.sys := rfl
@[simp] theorem State.setCl_host (k : Nat) (x : ClChan) : (s.setCl k x).host = s.host := rfl
@[simp] theorem State.setCl_flights (k : Nat) (x : ClChan) : (s.setCl k x).flights = s.flights := rfl
@[simp] theorem State.setCl_log (k : Nat) (x : ClChan) : (s.setCl k x).log = s.log := rfl
@[simp] theorem State.setCl_tr (k : Nat) (x : ClChan) : (s.setCl k x).tr = s.tr := rfl
@[simp] theorem State.setCl_cfg (k : Nat) (x : ClChan) : (s.setCl k x).cfg = s.cfg := rfl
@[simp] theorem State.setCl_img (k : Nat) (x : ClChan) : (s.setCl k x).img = s.img := rfl
@[simp] theorem State.setCl_journal (k : Nat) (x : ClChan) : (s.setCl k x).journal = s.journal := rfl
@[simp] theorem State.setCl_jseq (k : Nat) (x : ClChan) : (s.setCl k x).jseq = s.jseq := rfl
@[simp] theorem State.setCl_settled (k : Nat) (x : ClChan) : (s.setCl k x).settled = s.settled := rfl
@[simp] theorem State.setCl_home (k : Nat) (x : ClChan) : (s.setCl k x).home = s.home := rfl
@[simp] theorem State.setCl_encs (k : Nat) (x : ClChan) : (s.setCl k x).encs = s.encs := rfl
@[simp] theorem State.setCl_races (k : Nat) (x : ClChan) : (s.setCl k x).races = s.races := rfl
@[simp] theorem State.setCl_doms (k : Nat) (x : ClChan) : (s.setCl k x).doms = s.doms := rfl
@[simp] theorem State.setCl_cogs (k : Nat) (x : ClChan) : (s.setCl k x).cogs = s.cogs := rfl
@[simp] theorem State.setCl_fos (k : Nat) (x : ClChan) : (s.setCl k x).fos = s.fos := rfl
@[simp] theorem State.setCl_sets (k : Nat) (x : ClChan) : (s.setCl k x).sets = s.sets := rfl
@[simp] theorem State.setCl_net (k : Nat) (x : ClChan) : (s.setCl k x).net = s.net := rfl
@[simp] theorem State.setCl_loops (k : Nat) (x : ClChan) : (s.setCl k x).loops = s.loops := rfl
@[simp] theorem State.setCl_ogs (k : Nat) (x : ClChan) : (s.setCl k x).ogs = s.ogs := rfl
@[simp] theorem State.setCl_lanes (k : Nat) (x : ClChan) : (s.setCl k x).lanes = s.lanes := rfl
@[simp] theorem State.setCl_fts (k : Nat) (x : ClChan) : (s.setCl k x).fts = s.fts := rfl
@[simp] theorem State.setCl_mot (k : Nat) (x : ClChan) : (s.setCl k x).mot = s.mot := rfl
@[simp] theorem State.setCl_ana (k : Nat) (x : ClChan) : (s.setCl k x).ana = { s.ana with cls := s.ana.cls.set k x } := rfl
@[simp] theorem State.setCl_caps (k : Nat) (x : ClChan) : (s.setCl k x).caps = s.caps := rfl
@[simp] theorem State.setCl_logic (k : Nat) (x : ClChan) : (s.setCl k x).logic = s.logic := rfl
@[simp] theorem State.setCl_spins (k : Nat) (x : ClChan) : (s.setCl k x).spins = s.spins := rfl
@[simp] theorem State.setCl_cans (k : Nat) (x : ClChan) : (s.setCl k x).cans = s.cans := rfl
@[simp] theorem State.setCl_safe (k : Nat) (x : ClChan) : (s.setCl k x).safe = s.safe := rfl
@[simp] theorem State.setCl_red (k : Nat) (x : ClChan) : (s.setCl k x).red = s.red := rfl
@[simp] theorem State.setCl_hop (k : Nat) (x : ClChan) : (s.setCl k x).hop = s.hop := rfl
@[simp] theorem State.setCl_free (k : Nat) (x : ClChan) : (s.setCl k x).free = s.free := rfl

/-! setDio -/

@[simp] theorem State.setDio_pending (k : Nat) (x : Dio) : (s.setDio k x).pending = s.pending := rfl
@[simp] theorem State.setDio_lmt (k : Nat) (x : Dio) : (s.setDio k x).lmt = s.lmt := rfl
@[simp] theorem State.setDio_sys (k : Nat) (x : Dio) : (s.setDio k x).sys = s.sys := rfl
@[simp] theorem State.setDio_host (k : Nat) (x : Dio) : (s.setDio k x).host = s.host := rfl
@[simp] theorem State.setDio_flights (k : Nat) (x : Dio) : (s.setDio k x).flights = s.flights := rfl
@[simp] theorem State.setDio_log (k : Nat) (x : Dio) : (s.setDio k x).log = s.log := rfl
@[simp] theorem State.setDio_tr (k : Nat) (x : Dio) : (s.setDio k x).tr = s.tr := rfl
@[simp] theorem State.setDio_cfg (k : Nat) (x : Dio) : (s.setDio k x).cfg = s.cfg := rfl
@[simp] theorem State.setDio_img (k : Nat) (x : Dio) : (s.setDio k x).img = s.img := rfl
@[simp] theorem State.setDio_journal (k : Nat) (x : Dio) : (s.setDio k x).journal = s.journal := rfl
@[simp] theorem State.setDio_jseq (k : Nat) (x : Dio) : (s.setDio k x).jseq = s.jseq := rfl
@[simp] theorem State.setDio_settled (k : Nat) (x : Dio) : (s.setDio k x).settled = s.settled := rfl
@[simp] theorem State.setDio_home (k : Nat) (x : Dio) : (s.setDio k x).home = s.home := rfl
@[simp] theorem State.setDio_encs (k : Nat) (x : Dio) : (s.setDio k x).encs = s.encs := rfl
@[simp] theorem State.setDio_races (k : Nat) (x : Dio) : (s.setDio k x).races = s.races := rfl
@[simp] theorem State.setDio_doms (k : Nat) (x : Dio) : (s.setDio k x).doms = s.doms := rfl
@[simp] theorem State.setDio_cogs (k : Nat) (x : Dio) : (s.setDio k x).cogs = s.cogs := rfl
@[simp] theorem State.setDio_fos (k : Nat) (x : Dio) : (s.setDio k x).fos = s.fos := rfl
@[simp] theorem State.setDio_sets (k : Nat) (x : Dio) : (s.setDio k x).sets = s.sets := rfl
@[simp] theorem State.setDio_net (k : Nat) (x : Dio) : (s.setDio k x).net = s.net := rfl
@[simp] theorem State.setDio_loops (k : Nat) (x : Dio) : (s.setDio k x).loops = s.loops := rfl
@[simp] theorem State.setDio_ogs (k : Nat) (x : Dio) : (s.setDio k x).ogs = s.ogs := rfl
@[simp] theorem State.setDio_lanes (k : Nat) (x : Dio) : (s.setDio k x).lanes = s.lanes := rfl
@[simp] theorem State.setDio_fts (k : Nat) (x : Dio) : (s.setDio k x).fts = s.fts := rfl
@[simp] theorem State.setDio_mot (k : Nat) (x : Dio) : (s.setDio k x).mot = s.mot := rfl
@[simp] theorem State.setDio_ana (k : Nat) (x : Dio) : (s.setDio k x).ana = { s.ana with dios := s.ana.dios.set k x } := rfl
@[simp] theorem State.setDio_caps (k : Nat) (x : Dio) : (s.setDio k x).caps = s.caps := rfl
@[simp] theorem State.setDio_logic (k : Nat) (x : Dio) : (s.setDio k x).logic = s.logic := rfl
@[simp] theorem State.setDio_spins (k : Nat) (x : Dio) : (s.setDio k x).spins = s.spins := rfl
@[simp] theorem State.setDio_cans (k : Nat) (x : Dio) : (s.setDio k x).cans = s.cans := rfl
@[simp] theorem State.setDio_safe (k : Nat) (x : Dio) : (s.setDio k x).safe = s.safe := rfl
@[simp] theorem State.setDio_red (k : Nat) (x : Dio) : (s.setDio k x).red = s.red := rfl
@[simp] theorem State.setDio_hop (k : Nat) (x : Dio) : (s.setDio k x).hop = s.hop := rfl
@[simp] theorem State.setDio_free (k : Nat) (x : Dio) : (s.setDio k x).free = s.free := rfl

/-! setSeq -/

@[simp] theorem State.setSeq_pending (k : Nat) (x : AdcSeq) : (s.setSeq k x).pending = s.pending := rfl
@[simp] theorem State.setSeq_lmt (k : Nat) (x : AdcSeq) : (s.setSeq k x).lmt = s.lmt := rfl
@[simp] theorem State.setSeq_sys (k : Nat) (x : AdcSeq) : (s.setSeq k x).sys = s.sys := rfl
@[simp] theorem State.setSeq_host (k : Nat) (x : AdcSeq) : (s.setSeq k x).host = s.host := rfl
@[simp] theorem State.setSeq_flights (k : Nat) (x : AdcSeq) : (s.setSeq k x).flights = s.flights := rfl
@[simp] theorem State.setSeq_log (k : Nat) (x : AdcSeq) : (s.setSeq k x).log = s.log := rfl
@[simp] theorem State.setSeq_tr (k : Nat) (x : AdcSeq) : (s.setSeq k x).tr = s.tr := rfl
@[simp] theorem State.setSeq_cfg (k : Nat) (x : AdcSeq) : (s.setSeq k x).cfg = s.cfg := rfl
@[simp] theorem State.setSeq_img (k : Nat) (x : AdcSeq) : (s.setSeq k x).img = s.img := rfl
@[simp] theorem State.setSeq_journal (k : Nat) (x : AdcSeq) : (s.setSeq k x).journal = s.journal := rfl
@[simp] theorem State.setSeq_jseq (k : Nat) (x : AdcSeq) : (s.setSeq k x).jseq = s.jseq := rfl
@[simp] theorem State.setSeq_settled (k : Nat) (x : AdcSeq) : (s.setSeq k x).settled = s.settled := rfl
@[simp] theorem State.setSeq_home (k : Nat) (x : AdcSeq) : (s.setSeq k x).home = s.home := rfl
@[simp] theorem State.setSeq_encs (k : Nat) (x : AdcSeq) : (s.setSeq k x).encs = s.encs := rfl
@[simp] theorem State.setSeq_races (k : Nat) (x : AdcSeq) : (s.setSeq k x).races = s.races := rfl
@[simp] theorem State.setSeq_doms (k : Nat) (x : AdcSeq) : (s.setSeq k x).doms = s.doms := rfl
@[simp] theorem State.setSeq_cogs (k : Nat) (x : AdcSeq) : (s.setSeq k x).cogs = s.cogs := rfl
@[simp] theorem State.setSeq_fos (k : Nat) (x : AdcSeq) : (s.setSeq k x).fos = s.fos := rfl
@[simp] theorem State.setSeq_sets (k : Nat) (x : AdcSeq) : (s.setSeq k x).sets = s.sets := rfl
@[simp] theorem State.setSeq_net (k : Nat) (x : AdcSeq) : (s.setSeq k x).net = s.net := rfl
@[simp] theorem State.setSeq_loops (k : Nat) (x : AdcSeq) : (s.setSeq k x).loops = s.loops := rfl
@[simp] theorem State.setSeq_ogs (k : Nat) (x : AdcSeq) : (s.setSeq k x).ogs = s.ogs := rfl
@[simp] theorem State.setSeq_lanes (k : Nat) (x : AdcSeq) : (s.setSeq k x).lanes = s.lanes := rfl
@[simp] theorem State.setSeq_fts (k : Nat) (x : AdcSeq) : (s.setSeq k x).fts = s.fts := rfl
@[simp] theorem State.setSeq_mot (k : Nat) (x : AdcSeq) : (s.setSeq k x).mot = s.mot := rfl
@[simp] theorem State.setSeq_ana (k : Nat) (x : AdcSeq) : (s.setSeq k x).ana = { s.ana with seqs := s.ana.seqs.set k x } := rfl
@[simp] theorem State.setSeq_caps (k : Nat) (x : AdcSeq) : (s.setSeq k x).caps = s.caps := rfl
@[simp] theorem State.setSeq_logic (k : Nat) (x : AdcSeq) : (s.setSeq k x).logic = s.logic := rfl
@[simp] theorem State.setSeq_spins (k : Nat) (x : AdcSeq) : (s.setSeq k x).spins = s.spins := rfl
@[simp] theorem State.setSeq_cans (k : Nat) (x : AdcSeq) : (s.setSeq k x).cans = s.cans := rfl
@[simp] theorem State.setSeq_safe (k : Nat) (x : AdcSeq) : (s.setSeq k x).safe = s.safe := rfl
@[simp] theorem State.setSeq_red (k : Nat) (x : AdcSeq) : (s.setSeq k x).red = s.red := rfl
@[simp] theorem State.setSeq_hop (k : Nat) (x : AdcSeq) : (s.setSeq k x).hop = s.hop := rfl
@[simp] theorem State.setSeq_free (k : Nat) (x : AdcSeq) : (s.setSeq k x).free = s.free := rfl

/-! setCap -/

@[simp] theorem State.setCap_pending (k : Nat) (x : CapUnit) : (s.setCap k x).pending = s.pending := rfl
@[simp] theorem State.setCap_lmt (k : Nat) (x : CapUnit) : (s.setCap k x).lmt = s.lmt := rfl
@[simp] theorem State.setCap_sys (k : Nat) (x : CapUnit) : (s.setCap k x).sys = s.sys := rfl
@[simp] theorem State.setCap_host (k : Nat) (x : CapUnit) : (s.setCap k x).host = s.host := rfl
@[simp] theorem State.setCap_flights (k : Nat) (x : CapUnit) : (s.setCap k x).flights = s.flights := rfl
@[simp] theorem State.setCap_log (k : Nat) (x : CapUnit) : (s.setCap k x).log = s.log := rfl
@[simp] theorem State.setCap_tr (k : Nat) (x : CapUnit) : (s.setCap k x).tr = s.tr := rfl
@[simp] theorem State.setCap_cfg (k : Nat) (x : CapUnit) : (s.setCap k x).cfg = s.cfg := rfl
@[simp] theorem State.setCap_img (k : Nat) (x : CapUnit) : (s.setCap k x).img = s.img := rfl
@[simp] theorem State.setCap_journal (k : Nat) (x : CapUnit) : (s.setCap k x).journal = s.journal := rfl
@[simp] theorem State.setCap_jseq (k : Nat) (x : CapUnit) : (s.setCap k x).jseq = s.jseq := rfl
@[simp] theorem State.setCap_settled (k : Nat) (x : CapUnit) : (s.setCap k x).settled = s.settled := rfl
@[simp] theorem State.setCap_home (k : Nat) (x : CapUnit) : (s.setCap k x).home = s.home := rfl
@[simp] theorem State.setCap_encs (k : Nat) (x : CapUnit) : (s.setCap k x).encs = s.encs := rfl
@[simp] theorem State.setCap_races (k : Nat) (x : CapUnit) : (s.setCap k x).races = s.races := rfl
@[simp] theorem State.setCap_doms (k : Nat) (x : CapUnit) : (s.setCap k x).doms = s.doms := rfl
@[simp] theorem State.setCap_cogs (k : Nat) (x : CapUnit) : (s.setCap k x).cogs = s.cogs := rfl
@[simp] theorem State.setCap_fos (k : Nat) (x : CapUnit) : (s.setCap k x).fos = s.fos := rfl
@[simp] theorem State.setCap_sets (k : Nat) (x : CapUnit) : (s.setCap k x).sets = s.sets := rfl
@[simp] theorem State.setCap_net (k : Nat) (x : CapUnit) : (s.setCap k x).net = s.net := rfl
@[simp] theorem State.setCap_loops (k : Nat) (x : CapUnit) : (s.setCap k x).loops = s.loops := rfl
@[simp] theorem State.setCap_ogs (k : Nat) (x : CapUnit) : (s.setCap k x).ogs = s.ogs := rfl
@[simp] theorem State.setCap_lanes (k : Nat) (x : CapUnit) : (s.setCap k x).lanes = s.lanes := rfl
@[simp] theorem State.setCap_fts (k : Nat) (x : CapUnit) : (s.setCap k x).fts = s.fts := rfl
@[simp] theorem State.setCap_mot (k : Nat) (x : CapUnit) : (s.setCap k x).mot = s.mot := rfl
@[simp] theorem State.setCap_ana (k : Nat) (x : CapUnit) : (s.setCap k x).ana = s.ana := rfl
@[simp] theorem State.setCap_caps (k : Nat) (x : CapUnit) : (s.setCap k x).caps = s.caps.set k x := rfl
@[simp] theorem State.setCap_logic (k : Nat) (x : CapUnit) : (s.setCap k x).logic = s.logic := rfl
@[simp] theorem State.setCap_spins (k : Nat) (x : CapUnit) : (s.setCap k x).spins = s.spins := rfl
@[simp] theorem State.setCap_cans (k : Nat) (x : CapUnit) : (s.setCap k x).cans = s.cans := rfl
@[simp] theorem State.setCap_safe (k : Nat) (x : CapUnit) : (s.setCap k x).safe = s.safe := rfl
@[simp] theorem State.setCap_red (k : Nat) (x : CapUnit) : (s.setCap k x).red = s.red := rfl
@[simp] theorem State.setCap_hop (k : Nat) (x : CapUnit) : (s.setCap k x).hop = s.hop := rfl
@[simp] theorem State.setCap_free (k : Nat) (x : CapUnit) : (s.setCap k x).free = s.free := rfl

/-! setChan -/

@[simp] theorem State.setChan_pending (k : Nat) (x : TrChan) : (s.setChan k x).pending = s.pending := rfl
@[simp] theorem State.setChan_lmt (k : Nat) (x : TrChan) : (s.setChan k x).lmt = s.lmt := rfl
@[simp] theorem State.setChan_sys (k : Nat) (x : TrChan) : (s.setChan k x).sys = s.sys := rfl
@[simp] theorem State.setChan_host (k : Nat) (x : TrChan) : (s.setChan k x).host = s.host := rfl
@[simp] theorem State.setChan_flights (k : Nat) (x : TrChan) : (s.setChan k x).flights = s.flights := rfl
@[simp] theorem State.setChan_log (k : Nat) (x : TrChan) : (s.setChan k x).log = s.log := rfl
@[simp] theorem State.setChan_tr (k : Nat) (x : TrChan) : (s.setChan k x).tr = s.tr.set k x := rfl
@[simp] theorem State.setChan_cfg (k : Nat) (x : TrChan) : (s.setChan k x).cfg = s.cfg := rfl
@[simp] theorem State.setChan_img (k : Nat) (x : TrChan) : (s.setChan k x).img = s.img := rfl
@[simp] theorem State.setChan_journal (k : Nat) (x : TrChan) : (s.setChan k x).journal = s.journal := rfl
@[simp] theorem State.setChan_jseq (k : Nat) (x : TrChan) : (s.setChan k x).jseq = s.jseq := rfl
@[simp] theorem State.setChan_settled (k : Nat) (x : TrChan) : (s.setChan k x).settled = s.settled := rfl
@[simp] theorem State.setChan_home (k : Nat) (x : TrChan) : (s.setChan k x).home = s.home := rfl
@[simp] theorem State.setChan_encs (k : Nat) (x : TrChan) : (s.setChan k x).encs = s.encs := rfl
@[simp] theorem State.setChan_races (k : Nat) (x : TrChan) : (s.setChan k x).races = s.races := rfl
@[simp] theorem State.setChan_doms (k : Nat) (x : TrChan) : (s.setChan k x).doms = s.doms := rfl
@[simp] theorem State.setChan_cogs (k : Nat) (x : TrChan) : (s.setChan k x).cogs = s.cogs := rfl
@[simp] theorem State.setChan_fos (k : Nat) (x : TrChan) : (s.setChan k x).fos = s.fos := rfl
@[simp] theorem State.setChan_sets (k : Nat) (x : TrChan) : (s.setChan k x).sets = s.sets := rfl
@[simp] theorem State.setChan_net (k : Nat) (x : TrChan) : (s.setChan k x).net = s.net := rfl
@[simp] theorem State.setChan_loops (k : Nat) (x : TrChan) : (s.setChan k x).loops = s.loops := rfl
@[simp] theorem State.setChan_ogs (k : Nat) (x : TrChan) : (s.setChan k x).ogs = s.ogs := rfl
@[simp] theorem State.setChan_lanes (k : Nat) (x : TrChan) : (s.setChan k x).lanes = s.lanes := rfl
@[simp] theorem State.setChan_fts (k : Nat) (x : TrChan) : (s.setChan k x).fts = s.fts := rfl
@[simp] theorem State.setChan_mot (k : Nat) (x : TrChan) : (s.setChan k x).mot = s.mot := rfl
@[simp] theorem State.setChan_ana (k : Nat) (x : TrChan) : (s.setChan k x).ana = s.ana := rfl
@[simp] theorem State.setChan_caps (k : Nat) (x : TrChan) : (s.setChan k x).caps = s.caps := rfl
@[simp] theorem State.setChan_logic (k : Nat) (x : TrChan) : (s.setChan k x).logic = s.logic := rfl
@[simp] theorem State.setChan_spins (k : Nat) (x : TrChan) : (s.setChan k x).spins = s.spins := rfl
@[simp] theorem State.setChan_cans (k : Nat) (x : TrChan) : (s.setChan k x).cans = s.cans := rfl
@[simp] theorem State.setChan_safe (k : Nat) (x : TrChan) : (s.setChan k x).safe = s.safe := rfl
@[simp] theorem State.setChan_red (k : Nat) (x : TrChan) : (s.setChan k x).red = s.red := rfl
@[simp] theorem State.setChan_hop (k : Nat) (x : TrChan) : (s.setChan k x).hop = s.hop := rfl
@[simp] theorem State.setChan_free (k : Nat) (x : TrChan) : (s.setChan k x).free = s.free := rfl

/-! setEng -/

@[simp] theorem State.setEng_pending (k : Nat) (x : Engine) : (s.setEng k x).pending = s.pending := rfl
@[simp] theorem State.setEng_lmt (k : Nat) (x : Engine) : (s.setEng k x).lmt = s.lmt := rfl
@[simp] theorem State.setEng_sys (k : Nat) (x : Engine) : (s.setEng k x).sys = s.sys := rfl
@[simp] theorem State.setEng_host (k : Nat) (x : Engine) : (s.setEng k x).host = s.host := rfl
@[simp] theorem State.setEng_flights (k : Nat) (x : Engine) : (s.setEng k x).flights = s.flights := rfl
@[simp] theorem State.setEng_log (k : Nat) (x : Engine) : (s.setEng k x).log = s.log := rfl
@[simp] theorem State.setEng_tr (k : Nat) (x : Engine) : (s.setEng k x).tr = s.tr := rfl
@[simp] theorem State.setEng_cfg (k : Nat) (x : Engine) : (s.setEng k x).cfg = s.cfg := rfl
@[simp] theorem State.setEng_img (k : Nat) (x : Engine) : (s.setEng k x).img = s.img := rfl
@[simp] theorem State.setEng_journal (k : Nat) (x : Engine) : (s.setEng k x).journal = s.journal := rfl
@[simp] theorem State.setEng_jseq (k : Nat) (x : Engine) : (s.setEng k x).jseq = s.jseq := rfl
@[simp] theorem State.setEng_settled (k : Nat) (x : Engine) : (s.setEng k x).settled = s.settled := rfl
@[simp] theorem State.setEng_home (k : Nat) (x : Engine) : (s.setEng k x).home = s.home := rfl
@[simp] theorem State.setEng_encs (k : Nat) (x : Engine) : (s.setEng k x).encs = s.encs := rfl
@[simp] theorem State.setEng_races (k : Nat) (x : Engine) : (s.setEng k x).races = s.races := rfl
@[simp] theorem State.setEng_doms (k : Nat) (x : Engine) : (s.setEng k x).doms = s.doms := rfl
@[simp] theorem State.setEng_cogs (k : Nat) (x : Engine) : (s.setEng k x).cogs = s.cogs := rfl
@[simp] theorem State.setEng_fos (k : Nat) (x : Engine) : (s.setEng k x).fos = s.fos := rfl
@[simp] theorem State.setEng_sets (k : Nat) (x : Engine) : (s.setEng k x).sets = s.sets := rfl
@[simp] theorem State.setEng_net (k : Nat) (x : Engine) : (s.setEng k x).net = s.net := rfl
@[simp] theorem State.setEng_loops (k : Nat) (x : Engine) : (s.setEng k x).loops = s.loops := rfl
@[simp] theorem State.setEng_ogs (k : Nat) (x : Engine) : (s.setEng k x).ogs = s.ogs := rfl
@[simp] theorem State.setEng_lanes (k : Nat) (x : Engine) : (s.setEng k x).lanes = s.lanes := rfl
@[simp] theorem State.setEng_fts (k : Nat) (x : Engine) : (s.setEng k x).fts = s.fts := rfl
@[simp] theorem State.setEng_mot (k : Nat) (x : Engine) : (s.setEng k x).mot = s.mot := rfl
@[simp] theorem State.setEng_ana (k : Nat) (x : Engine) : (s.setEng k x).ana = s.ana := rfl
@[simp] theorem State.setEng_caps (k : Nat) (x : Engine) : (s.setEng k x).caps = s.caps := rfl
@[simp] theorem State.setEng_logic (k : Nat) (x : Engine) : (s.setEng k x).logic = { s.logic with engines := s.logic.engines.set k x } := rfl
@[simp] theorem State.setEng_spins (k : Nat) (x : Engine) : (s.setEng k x).spins = s.spins := rfl
@[simp] theorem State.setEng_cans (k : Nat) (x : Engine) : (s.setEng k x).cans = s.cans := rfl
@[simp] theorem State.setEng_safe (k : Nat) (x : Engine) : (s.setEng k x).safe = s.safe := rfl
@[simp] theorem State.setEng_red (k : Nat) (x : Engine) : (s.setEng k x).red = s.red := rfl
@[simp] theorem State.setEng_hop (k : Nat) (x : Engine) : (s.setEng k x).hop = s.hop := rfl
@[simp] theorem State.setEng_free (k : Nat) (x : Engine) : (s.setEng k x).free = s.free := rfl

/-! setSpin -/

@[simp] theorem State.setSpin_pending (k : Nat) (x : Spin) : (s.setSpin k x).pending = s.pending := rfl
@[simp] theorem State.setSpin_lmt (k : Nat) (x : Spin) : (s.setSpin k x).lmt = s.lmt := rfl
@[simp] theorem State.setSpin_sys (k : Nat) (x : Spin) : (s.setSpin k x).sys = s.sys := rfl
@[simp] theorem State.setSpin_host (k : Nat) (x : Spin) : (s.setSpin k x).host = s.host := rfl
@[simp] theorem State.setSpin_flights (k : Nat) (x : Spin) : (s.setSpin k x).flights = s.flights := rfl
@[simp] theorem State.setSpin_log (k : Nat) (x : Spin) : (s.setSpin k x).log = s.log := rfl
@[simp] theorem State.setSpin_tr (k : Nat) (x : Spin) : (s.setSpin k x).tr = s.tr := rfl
@[simp] theorem State.setSpin_cfg (k : Nat) (x : Spin) : (s.setSpin k x).cfg = s.cfg := rfl
@[simp] theorem State.setSpin_img (k : Nat) (x : Spin) : (s.setSpin k x).img = s.img := rfl
@[simp] theorem State.setSpin_journal (k : Nat) (x : Spin) : (s.setSpin k x).journal = s.journal := rfl
@[simp] theorem State.setSpin_jseq (k : Nat) (x : Spin) : (s.setSpin k x).jseq = s.jseq := rfl
@[simp] theorem State.setSpin_settled (k : Nat) (x : Spin) : (s.setSpin k x).settled = s.settled := rfl
@[simp] theorem State.setSpin_home (k : Nat) (x : Spin) : (s.setSpin k x).home = s.home := rfl
@[simp] theorem State.setSpin_encs (k : Nat) (x : Spin) : (s.setSpin k x).encs = s.encs := rfl
@[simp] theorem State.setSpin_races (k : Nat) (x : Spin) : (s.setSpin k x).races = s.races := rfl
@[simp] theorem State.setSpin_doms (k : Nat) (x : Spin) : (s.setSpin k x).doms = s.doms := rfl
@[simp] theorem State.setSpin_cogs (k : Nat) (x : Spin) : (s.setSpin k x).cogs = s.cogs := rfl
@[simp] theorem State.setSpin_fos (k : Nat) (x : Spin) : (s.setSpin k x).fos = s.fos := rfl
@[simp] theorem State.setSpin_sets (k : Nat) (x : Spin) : (s.setSpin k x).sets = s.sets := rfl
@[simp] theorem State.setSpin_net (k : Nat) (x : Spin) : (s.setSpin k x).net = s.net := rfl
@[simp] theorem State.setSpin_loops (k : Nat) (x : Spin) : (s.setSpin k x).loops = s.loops := rfl
@[simp] theorem State.setSpin_ogs (k : Nat) (x : Spin) : (s.setSpin k x).ogs = s.ogs := rfl
@[simp] theorem State.setSpin_lanes (k : Nat) (x : Spin) : (s.setSpin k x).lanes = s.lanes := rfl
@[simp] theorem State.setSpin_fts (k : Nat) (x : Spin) : (s.setSpin k x).fts = s.fts := rfl
@[simp] theorem State.setSpin_mot (k : Nat) (x : Spin) : (s.setSpin k x).mot = s.mot := rfl
@[simp] theorem State.setSpin_ana (k : Nat) (x : Spin) : (s.setSpin k x).ana = s.ana := rfl
@[simp] theorem State.setSpin_caps (k : Nat) (x : Spin) : (s.setSpin k x).caps = s.caps := rfl
@[simp] theorem State.setSpin_logic (k : Nat) (x : Spin) : (s.setSpin k x).logic = s.logic := rfl
@[simp] theorem State.setSpin_spins (k : Nat) (x : Spin) : (s.setSpin k x).spins = s.spins.set k x := rfl
@[simp] theorem State.setSpin_cans (k : Nat) (x : Spin) : (s.setSpin k x).cans = s.cans := rfl
@[simp] theorem State.setSpin_safe (k : Nat) (x : Spin) : (s.setSpin k x).safe = s.safe := rfl
@[simp] theorem State.setSpin_red (k : Nat) (x : Spin) : (s.setSpin k x).red = s.red := rfl
@[simp] theorem State.setSpin_hop (k : Nat) (x : Spin) : (s.setSpin k x).hop = s.hop := rfl
@[simp] theorem State.setSpin_free (k : Nat) (x : Spin) : (s.setSpin k x).free = s.free := rfl

/-! setCan -/

@[simp] theorem State.setCan_pending (k : Nat) (x : CanPort) : (s.setCan k x).pending = s.pending := rfl
@[simp] theorem State.setCan_lmt (k : Nat) (x : CanPort) : (s.setCan k x).lmt = s.lmt := rfl
@[simp] theorem State.setCan_sys (k : Nat) (x : CanPort) : (s.setCan k x).sys = s.sys := rfl
@[simp] theorem State.setCan_host (k : Nat) (x : CanPort) : (s.setCan k x).host = s.host := rfl
@[simp] theorem State.setCan_flights (k : Nat) (x : CanPort) : (s.setCan k x).flights = s.flights := rfl
@[simp] theorem State.setCan_log (k : Nat) (x : CanPort) : (s.setCan k x).log = s.log := rfl
@[simp] theorem State.setCan_tr (k : Nat) (x : CanPort) : (s.setCan k x).tr = s.tr := rfl
@[simp] theorem State.setCan_cfg (k : Nat) (x : CanPort) : (s.setCan k x).cfg = s.cfg := rfl
@[simp] theorem State.setCan_img (k : Nat) (x : CanPort) : (s.setCan k x).img = s.img := rfl
@[simp] theorem State.setCan_journal (k : Nat) (x : CanPort) : (s.setCan k x).journal = s.journal := rfl
@[simp] theorem State.setCan_jseq (k : Nat) (x : CanPort) : (s.setCan k x).jseq = s.jseq := rfl
@[simp] theorem State.setCan_settled (k : Nat) (x : CanPort) : (s.setCan k x).settled = s.settled := rfl
@[simp] theorem State.setCan_home (k : Nat) (x : CanPort) : (s.setCan k x).home = s.home := rfl
@[simp] theorem State.setCan_encs (k : Nat) (x : CanPort) : (s.setCan k x).encs = s.encs := rfl
@[simp] theorem State.setCan_races (k : Nat) (x : CanPort) : (s.setCan k x).races = s.races := rfl
@[simp] theorem State.setCan_doms (k : Nat) (x : CanPort) : (s.setCan k x).doms = s.doms := rfl
@[simp] theorem State.setCan_cogs (k : Nat) (x : CanPort) : (s.setCan k x).cogs = s.cogs := rfl
@[simp] theorem State.setCan_fos (k : Nat) (x : CanPort) : (s.setCan k x).fos = s.fos := rfl
@[simp] theorem State.setCan_sets (k : Nat) (x : CanPort) : (s.setCan k x).sets = s.sets := rfl
@[simp] theorem State.setCan_net (k : Nat) (x : CanPort) : (s.setCan k x).net = s.net := rfl
@[simp] theorem State.setCan_loops (k : Nat) (x : CanPort) : (s.setCan k x).loops = s.loops := rfl
@[simp] theorem State.setCan_ogs (k : Nat) (x : CanPort) : (s.setCan k x).ogs = s.ogs := rfl
@[simp] theorem State.setCan_lanes (k : Nat) (x : CanPort) : (s.setCan k x).lanes = s.lanes := rfl
@[simp] theorem State.setCan_fts (k : Nat) (x : CanPort) : (s.setCan k x).fts = s.fts := rfl
@[simp] theorem State.setCan_mot (k : Nat) (x : CanPort) : (s.setCan k x).mot = s.mot := rfl
@[simp] theorem State.setCan_ana (k : Nat) (x : CanPort) : (s.setCan k x).ana = s.ana := rfl
@[simp] theorem State.setCan_caps (k : Nat) (x : CanPort) : (s.setCan k x).caps = s.caps := rfl
@[simp] theorem State.setCan_logic (k : Nat) (x : CanPort) : (s.setCan k x).logic = s.logic := rfl
@[simp] theorem State.setCan_spins (k : Nat) (x : CanPort) : (s.setCan k x).spins = s.spins := rfl
@[simp] theorem State.setCan_cans (k : Nat) (x : CanPort) : (s.setCan k x).cans = s.cans.set k x := rfl
@[simp] theorem State.setCan_safe (k : Nat) (x : CanPort) : (s.setCan k x).safe = s.safe := rfl
@[simp] theorem State.setCan_red (k : Nat) (x : CanPort) : (s.setCan k x).red = s.red := rfl
@[simp] theorem State.setCan_hop (k : Nat) (x : CanPort) : (s.setCan k x).hop = s.hop := rfl
@[simp] theorem State.setCan_free (k : Nat) (x : CanPort) : (s.setCan k x).free = s.free := rfl

/-! setGroup -/

@[simp] theorem State.setGroup_pending (k : Nat) (x : GroupSt) : (s.setGroup k x).pending = s.pending := rfl
@[simp] theorem State.setGroup_lmt (k : Nat) (x : GroupSt) : (s.setGroup k x).lmt = s.lmt := rfl
@[simp] theorem State.setGroup_sys (k : Nat) (x : GroupSt) : (s.setGroup k x).sys = s.sys := rfl
@[simp] theorem State.setGroup_host (k : Nat) (x : GroupSt) : (s.setGroup k x).host = s.host := rfl
@[simp] theorem State.setGroup_flights (k : Nat) (x : GroupSt) : (s.setGroup k x).flights = s.flights := rfl
@[simp] theorem State.setGroup_log (k : Nat) (x : GroupSt) : (s.setGroup k x).log = s.log := rfl
@[simp] theorem State.setGroup_tr (k : Nat) (x : GroupSt) : (s.setGroup k x).tr = s.tr := rfl
@[simp] theorem State.setGroup_cfg (k : Nat) (x : GroupSt) : (s.setGroup k x).cfg = s.cfg := rfl
@[simp] theorem State.setGroup_img (k : Nat) (x : GroupSt) : (s.setGroup k x).img = { s.img with groups := s.img.groups.set k x } := rfl
@[simp] theorem State.setGroup_journal (k : Nat) (x : GroupSt) : (s.setGroup k x).journal = s.journal := rfl
@[simp] theorem State.setGroup_jseq (k : Nat) (x : GroupSt) : (s.setGroup k x).jseq = s.jseq := rfl
@[simp] theorem State.setGroup_settled (k : Nat) (x : GroupSt) : (s.setGroup k x).settled = s.settled := rfl
@[simp] theorem State.setGroup_home (k : Nat) (x : GroupSt) : (s.setGroup k x).home = s.home := rfl
@[simp] theorem State.setGroup_encs (k : Nat) (x : GroupSt) : (s.setGroup k x).encs = s.encs := rfl
@[simp] theorem State.setGroup_races (k : Nat) (x : GroupSt) : (s.setGroup k x).races = s.races := rfl
@[simp] theorem State.setGroup_doms (k : Nat) (x : GroupSt) : (s.setGroup k x).doms = s.doms := rfl
@[simp] theorem State.setGroup_cogs (k : Nat) (x : GroupSt) : (s.setGroup k x).cogs = s.cogs := rfl
@[simp] theorem State.setGroup_fos (k : Nat) (x : GroupSt) : (s.setGroup k x).fos = s.fos := rfl
@[simp] theorem State.setGroup_sets (k : Nat) (x : GroupSt) : (s.setGroup k x).sets = s.sets := rfl
@[simp] theorem State.setGroup_net (k : Nat) (x : GroupSt) : (s.setGroup k x).net = s.net := rfl
@[simp] theorem State.setGroup_loops (k : Nat) (x : GroupSt) : (s.setGroup k x).loops = s.loops := rfl
@[simp] theorem State.setGroup_ogs (k : Nat) (x : GroupSt) : (s.setGroup k x).ogs = s.ogs := rfl
@[simp] theorem State.setGroup_lanes (k : Nat) (x : GroupSt) : (s.setGroup k x).lanes = s.lanes := rfl
@[simp] theorem State.setGroup_fts (k : Nat) (x : GroupSt) : (s.setGroup k x).fts = s.fts := rfl
@[simp] theorem State.setGroup_mot (k : Nat) (x : GroupSt) : (s.setGroup k x).mot = s.mot := rfl
@[simp] theorem State.setGroup_ana (k : Nat) (x : GroupSt) : (s.setGroup k x).ana = s.ana := rfl
@[simp] theorem State.setGroup_caps (k : Nat) (x : GroupSt) : (s.setGroup k x).caps = s.caps := rfl
@[simp] theorem State.setGroup_logic (k : Nat) (x : GroupSt) : (s.setGroup k x).logic = s.logic := rfl
@[simp] theorem State.setGroup_spins (k : Nat) (x : GroupSt) : (s.setGroup k x).spins = s.spins := rfl
@[simp] theorem State.setGroup_cans (k : Nat) (x : GroupSt) : (s.setGroup k x).cans = s.cans := rfl
@[simp] theorem State.setGroup_safe (k : Nat) (x : GroupSt) : (s.setGroup k x).safe = s.safe := rfl
@[simp] theorem State.setGroup_red (k : Nat) (x : GroupSt) : (s.setGroup k x).red = s.red := rfl
@[simp] theorem State.setGroup_hop (k : Nat) (x : GroupSt) : (s.setGroup k x).hop = s.hop := rfl
@[simp] theorem State.setGroup_free (k : Nat) (x : GroupSt) : (s.setGroup k x).free = s.free := rfl

/-! setHopT -/

@[simp] theorem State.setHopT_pending (k : Nat) (x : HopTask) : (s.setHopT k x).pending = s.pending := rfl
@[simp] theorem State.setHopT_lmt (k : Nat) (x : HopTask) : (s.setHopT k x).lmt = s.lmt := rfl
@[simp] theorem State.setHopT_sys (k : Nat) (x : HopTask) : (s.setHopT k x).sys = s.sys := rfl
@[simp] theorem State.setHopT_host (k : Nat) (x : HopTask) : (s.setHopT k x).host = s.host := rfl
@[simp] theorem State.setHopT_flights (k : Nat) (x : HopTask) : (s.setHopT k x).flights = s.flights := rfl
@[simp] theorem State.setHopT_log (k : Nat) (x : HopTask) : (s.setHopT k x).log = s.log := rfl
@[simp] theorem State.setHopT_tr (k : Nat) (x : HopTask) : (s.setHopT k x).tr = s.tr := rfl
@[simp] theorem State.setHopT_cfg (k : Nat) (x : HopTask) : (s.setHopT k x).cfg = s.cfg := rfl
@[simp] theorem State.setHopT_img (k : Nat) (x : HopTask) : (s.setHopT k x).img = s.img := rfl
@[simp] theorem State.setHopT_journal (k : Nat) (x : HopTask) : (s.setHopT k x).journal = s.journal := rfl
@[simp] theorem State.setHopT_jseq (k : Nat) (x : HopTask) : (s.setHopT k x).jseq = s.jseq := rfl
@[simp] theorem State.setHopT_settled (k : Nat) (x : HopTask) : (s.setHopT k x).settled = s.settled := rfl
@[simp] theorem State.setHopT_home (k : Nat) (x : HopTask) : (s.setHopT k x).home = s.home := rfl
@[simp] theorem State.setHopT_encs (k : Nat) (x : HopTask) : (s.setHopT k x).encs = s.encs := rfl
@[simp] theorem State.setHopT_races (k : Nat) (x : HopTask) : (s.setHopT k x).races = s.races := rfl
@[simp] theorem State.setHopT_doms (k : Nat) (x : HopTask) : (s.setHopT k x).doms = s.doms := rfl
@[simp] theorem State.setHopT_cogs (k : Nat) (x : HopTask) : (s.setHopT k x).cogs = s.cogs := rfl
@[simp] theorem State.setHopT_fos (k : Nat) (x : HopTask) : (s.setHopT k x).fos = s.fos := rfl
@[simp] theorem State.setHopT_sets (k : Nat) (x : HopTask) : (s.setHopT k x).sets = s.sets := rfl
@[simp] theorem State.setHopT_net (k : Nat) (x : HopTask) : (s.setHopT k x).net = s.net := rfl
@[simp] theorem State.setHopT_loops (k : Nat) (x : HopTask) : (s.setHopT k x).loops = s.loops := rfl
@[simp] theorem State.setHopT_ogs (k : Nat) (x : HopTask) : (s.setHopT k x).ogs = s.ogs := rfl
@[simp] theorem State.setHopT_lanes (k : Nat) (x : HopTask) : (s.setHopT k x).lanes = s.lanes := rfl
@[simp] theorem State.setHopT_fts (k : Nat) (x : HopTask) : (s.setHopT k x).fts = s.fts := rfl
@[simp] theorem State.setHopT_mot (k : Nat) (x : HopTask) : (s.setHopT k x).mot = s.mot := rfl
@[simp] theorem State.setHopT_ana (k : Nat) (x : HopTask) : (s.setHopT k x).ana = s.ana := rfl
@[simp] theorem State.setHopT_caps (k : Nat) (x : HopTask) : (s.setHopT k x).caps = s.caps := rfl
@[simp] theorem State.setHopT_logic (k : Nat) (x : HopTask) : (s.setHopT k x).logic = s.logic := rfl
@[simp] theorem State.setHopT_spins (k : Nat) (x : HopTask) : (s.setHopT k x).spins = s.spins := rfl
@[simp] theorem State.setHopT_cans (k : Nat) (x : HopTask) : (s.setHopT k x).cans = s.cans := rfl
@[simp] theorem State.setHopT_safe (k : Nat) (x : HopTask) : (s.setHopT k x).safe = s.safe := rfl
@[simp] theorem State.setHopT_red (k : Nat) (x : HopTask) : (s.setHopT k x).red = s.red := rfl
@[simp] theorem State.setHopT_hop (k : Nat) (x : HopTask) : (s.setHopT k x).hop = { s.hop with tasks := s.hop.tasks.set k x } := rfl
@[simp] theorem State.setHopT_free (k : Nat) (x : HopTask) : (s.setHopT k x).free = s.free := rfl

/-! setPwm -/

@[simp] theorem State.setPwm_pending (k : Nat) (x : Pwm) : (s.setPwm k x).pending = s.pending := rfl
@[simp] theorem State.setPwm_lmt (k : Nat) (x : Pwm) : (s.setPwm k x).lmt = s.lmt := rfl
@[simp] theorem State.setPwm_sys (k : Nat) (x : Pwm) : (s.setPwm k x).sys = s.sys := rfl
@[simp] theorem State.setPwm_host (k : Nat) (x : Pwm) : (s.setPwm k x).host = s.host := rfl
@[simp] theorem State.setPwm_flights (k : Nat) (x : Pwm) : (s.setPwm k x).flights = s.flights := rfl
@[simp] theorem State.setPwm_log (k : Nat) (x : Pwm) : (s.setPwm k x).log = s.log := rfl
@[simp] theorem State.setPwm_tr (k : Nat) (x : Pwm) : (s.setPwm k x).tr = s.tr := rfl
@[simp] theorem State.setPwm_cfg (k : Nat) (x : Pwm) : (s.setPwm k x).cfg = s.cfg := rfl
@[simp] theorem State.setPwm_img (k : Nat) (x : Pwm) : (s.setPwm k x).img = s.img := rfl
@[simp] theorem State.setPwm_journal (k : Nat) (x : Pwm) : (s.setPwm k x).journal = s.journal := rfl
@[simp] theorem State.setPwm_jseq (k : Nat) (x : Pwm) : (s.setPwm k x).jseq = s.jseq := rfl
@[simp] theorem State.setPwm_settled (k : Nat) (x : Pwm) : (s.setPwm k x).settled = s.settled := rfl
@[simp] theorem State.setPwm_home (k : Nat) (x : Pwm) : (s.setPwm k x).home = s.home := rfl
@[simp] theorem State.setPwm_encs (k : Nat) (x : Pwm) : (s.setPwm k x).encs = s.encs := rfl
@[simp] theorem State.setPwm_races (k : Nat) (x : Pwm) : (s.setPwm k x).races = s.races := rfl
@[simp] theorem State.setPwm_doms (k : Nat) (x : Pwm) : (s.setPwm k x).doms = s.doms := rfl
@[simp] theorem State.setPwm_cogs (k : Nat) (x : Pwm) : (s.setPwm k x).cogs = s.cogs := rfl
@[simp] theorem State.setPwm_fos (k : Nat) (x : Pwm) : (s.setPwm k x).fos = s.fos := rfl
@[simp] theorem State.setPwm_sets (k : Nat) (x : Pwm) : (s.setPwm k x).sets = s.sets := rfl
@[simp] theorem State.setPwm_net (k : Nat) (x : Pwm) : (s.setPwm k x).net = s.net := rfl
@[simp] theorem State.setPwm_loops (k : Nat) (x : Pwm) : (s.setPwm k x).loops = s.loops := rfl
@[simp] theorem State.setPwm_ogs (k : Nat) (x : Pwm) : (s.setPwm k x).ogs = s.ogs := rfl
@[simp] theorem State.setPwm_lanes (k : Nat) (x : Pwm) : (s.setPwm k x).lanes = s.lanes := rfl
@[simp] theorem State.setPwm_fts (k : Nat) (x : Pwm) : (s.setPwm k x).fts = s.fts := rfl
@[simp] theorem State.setPwm_mot (k : Nat) (x : Pwm) : (s.setPwm k x).mot = s.mot := rfl
@[simp] theorem State.setPwm_ana (k : Nat) (x : Pwm) : (s.setPwm k x).ana = { s.ana with pwms := s.ana.pwms.set k x } := rfl
@[simp] theorem State.setPwm_caps (k : Nat) (x : Pwm) : (s.setPwm k x).caps = s.caps := rfl
@[simp] theorem State.setPwm_logic (k : Nat) (x : Pwm) : (s.setPwm k x).logic = s.logic := rfl
@[simp] theorem State.setPwm_spins (k : Nat) (x : Pwm) : (s.setPwm k x).spins = s.spins := rfl
@[simp] theorem State.setPwm_cans (k : Nat) (x : Pwm) : (s.setPwm k x).cans = s.cans := rfl
@[simp] theorem State.setPwm_safe (k : Nat) (x : Pwm) : (s.setPwm k x).safe = s.safe := rfl
@[simp] theorem State.setPwm_red (k : Nat) (x : Pwm) : (s.setPwm k x).red = s.red := rfl
@[simp] theorem State.setPwm_hop (k : Nat) (x : Pwm) : (s.setPwm k x).hop = s.hop := rfl
@[simp] theorem State.setPwm_free (k : Nat) (x : Pwm) : (s.setPwm k x).free = s.free := rfl

/-! setSource -/

@[simp] theorem State.setSource_pending (k : Nat) (x : EcSource) : (s.setSource k x).pending = s.pending := rfl
@[simp] theorem State.setSource_lmt (k : Nat) (x : EcSource) : (s.setSource k x).lmt = s.lmt := rfl
@[simp] theorem State.setSource_sys (k : Nat) (x : EcSource) : (s.setSource k x).sys = s.sys := rfl
@[simp] theorem State.setSource_host (k : Nat) (x : EcSource) : (s.setSource k x).host = s.host := rfl
@[simp] theorem State.setSource_flights (k : Nat) (x : EcSource) : (s.setSource k x).flights = s.flights := rfl
@[simp] theorem State.setSource_log (k : Nat) (x : EcSource) : (s.setSource k x).log = s.log := rfl
@[simp] theorem State.setSource_tr (k : Nat) (x : EcSource) : (s.setSource k x).tr = s.tr := rfl
@[simp] theorem State.setSource_cfg (k : Nat) (x : EcSource) : (s.setSource k x).cfg = s.cfg := rfl
@[simp] theorem State.setSource_img (k : Nat) (x : EcSource) : (s.setSource k x).img = s.img := rfl
@[simp] theorem State.setSource_journal (k : Nat) (x : EcSource) : (s.setSource k x).journal = s.journal := rfl
@[simp] theorem State.setSource_jseq (k : Nat) (x : EcSource) : (s.setSource k x).jseq = s.jseq := rfl
@[simp] theorem State.setSource_settled (k : Nat) (x : EcSource) : (s.setSource k x).settled = s.settled := rfl
@[simp] theorem State.setSource_home (k : Nat) (x : EcSource) : (s.setSource k x).home = s.home := rfl
@[simp] theorem State.setSource_encs (k : Nat) (x : EcSource) : (s.setSource k x).encs = s.encs := rfl
@[simp] theorem State.setSource_races (k : Nat) (x : EcSource) : (s.setSource k x).races = s.races := rfl
@[simp] theorem State.setSource_doms (k : Nat) (x : EcSource) : (s.setSource k x).doms = s.doms := rfl
@[simp] theorem State.setSource_cogs (k : Nat) (x : EcSource) : (s.setSource k x).cogs = s.cogs := rfl
@[simp] theorem State.setSource_fos (k : Nat) (x : EcSource) : (s.setSource k x).fos = s.fos := rfl
@[simp] theorem State.setSource_sets (k : Nat) (x : EcSource) : (s.setSource k x).sets = s.sets := rfl
@[simp] theorem State.setSource_net (k : Nat) (x : EcSource) : (s.setSource k x).net = s.net := rfl
@[simp] theorem State.setSource_loops (k : Nat) (x : EcSource) : (s.setSource k x).loops = s.loops := rfl
@[simp] theorem State.setSource_ogs (k : Nat) (x : EcSource) : (s.setSource k x).ogs = s.ogs := rfl
@[simp] theorem State.setSource_lanes (k : Nat) (x : EcSource) : (s.setSource k x).lanes = s.lanes := rfl
@[simp] theorem State.setSource_fts (k : Nat) (x : EcSource) : (s.setSource k x).fts = s.fts := rfl
@[simp] theorem State.setSource_mot (k : Nat) (x : EcSource) : (s.setSource k x).mot = s.mot := rfl
@[simp] theorem State.setSource_ana (k : Nat) (x : EcSource) : (s.setSource k x).ana = s.ana := rfl
@[simp] theorem State.setSource_caps (k : Nat) (x : EcSource) : (s.setSource k x).caps = s.caps := rfl
@[simp] theorem State.setSource_logic (k : Nat) (x : EcSource) : (s.setSource k x).logic = s.logic := rfl
@[simp] theorem State.setSource_spins (k : Nat) (x : EcSource) : (s.setSource k x).spins = s.spins := rfl
@[simp] theorem State.setSource_cans (k : Nat) (x : EcSource) : (s.setSource k x).cans = s.cans := rfl
@[simp] theorem State.setSource_safe (k : Nat) (x : EcSource) : (s.setSource k x).safe = s.safe := rfl
@[simp] theorem State.setSource_red (k : Nat) (x : EcSource) : (s.setSource k x).red = s.red := rfl
@[simp] theorem State.setSource_hop (k : Nat) (x : EcSource) : (s.setSource k x).hop = { s.hop with sources := s.hop.sources.set k x } := rfl
@[simp] theorem State.setSource_free (k : Nat) (x : EcSource) : (s.setSource k x).free = s.free := rfl

/-! setCore -/

@[simp] theorem State.setCore_pending (k : Nat) (f : EcCore → EcCore) : (s.setCore k f).pending = s.pending := rfl
@[simp] theorem State.setCore_lmt (k : Nat) (f : EcCore → EcCore) : (s.setCore k f).lmt = s.lmt := rfl
@[simp] theorem State.setCore_sys (k : Nat) (f : EcCore → EcCore) : (s.setCore k f).sys = s.sys := rfl
@[simp] theorem State.setCore_host (k : Nat) (f : EcCore → EcCore) : (s.setCore k f).host = s.host := rfl
@[simp] theorem State.setCore_flights (k : Nat) (f : EcCore → EcCore) : (s.setCore k f).flights = s.flights := rfl
@[simp] theorem State.setCore_log (k : Nat) (f : EcCore → EcCore) : (s.setCore k f).log = s.log := rfl
@[simp] theorem State.setCore_tr (k : Nat) (f : EcCore → EcCore) : (s.setCore k f).tr = s.tr := rfl
@[simp] theorem State.setCore_cfg (k : Nat) (f : EcCore → EcCore) : (s.setCore k f).cfg = s.cfg := rfl
@[simp] theorem State.setCore_img (k : Nat) (f : EcCore → EcCore) : (s.setCore k f).img = s.img := rfl
@[simp] theorem State.setCore_journal (k : Nat) (f : EcCore → EcCore) : (s.setCore k f).journal = s.journal := rfl
@[simp] theorem State.setCore_jseq (k : Nat) (f : EcCore → EcCore) : (s.setCore k f).jseq = s.jseq := rfl
@[simp] theorem State.setCore_settled (k : Nat) (f : EcCore → EcCore) : (s.setCore k f).settled = s.settled := rfl
@[simp] theorem State.setCore_home (k : Nat) (f : EcCore → EcCore) : (s.setCore k f).home = s.home := rfl
@[simp] theorem State.setCore_encs (k : Nat) (f : EcCore → EcCore) : (s.setCore k f).encs = s.encs := rfl
@[simp] theorem State.setCore_races (k : Nat) (f : EcCore → EcCore) : (s.setCore k f).races = s.races := rfl
@[simp] theorem State.setCore_doms (k : Nat) (f : EcCore → EcCore) : (s.setCore k f).doms = s.doms := rfl
@[simp] theorem State.setCore_cogs (k : Nat) (f : EcCore → EcCore) : (s.setCore k f).cogs = s.cogs := rfl
@[simp] theorem State.setCore_fos (k : Nat) (f : EcCore → EcCore) : (s.setCore k f).fos = s.fos := rfl
@[simp] theorem State.setCore_sets (k : Nat) (f : EcCore → EcCore) : (s.setCore k f).sets = s.sets := rfl
@[simp] theorem State.setCore_net (k : Nat) (f : EcCore → EcCore) : (s.setCore k f).net = s.net := rfl
@[simp] theorem State.setCore_loops (k : Nat) (f : EcCore → EcCore) : (s.setCore k f).loops = s.loops := rfl
@[simp] theorem State.setCore_ogs (k : Nat) (f : EcCore → EcCore) : (s.setCore k f).ogs = s.ogs := rfl
@[simp] theorem State.setCore_lanes (k : Nat) (f : EcCore → EcCore) : (s.setCore k f).lanes = s.lanes := rfl
@[simp] theorem State.setCore_fts (k : Nat) (f : EcCore → EcCore) : (s.setCore k f).fts = s.fts := rfl
@[simp] theorem State.setCore_mot (k : Nat) (f : EcCore → EcCore) : (s.setCore k f).mot = s.mot := rfl
@[simp] theorem State.setCore_ana (k : Nat) (f : EcCore → EcCore) : (s.setCore k f).ana = s.ana := rfl
@[simp] theorem State.setCore_caps (k : Nat) (f : EcCore → EcCore) : (s.setCore k f).caps = s.caps := rfl
@[simp] theorem State.setCore_logic (k : Nat) (f : EcCore → EcCore) : (s.setCore k f).logic = s.logic := rfl
@[simp] theorem State.setCore_spins (k : Nat) (f : EcCore → EcCore) : (s.setCore k f).spins = s.spins := rfl
@[simp] theorem State.setCore_cans (k : Nat) (f : EcCore → EcCore) : (s.setCore k f).cans = s.cans := rfl
@[simp] theorem State.setCore_safe (k : Nat) (f : EcCore → EcCore) : (s.setCore k f).safe = s.safe := rfl
@[simp] theorem State.setCore_red (k : Nat) (f : EcCore → EcCore) : (s.setCore k f).red = s.red := rfl
@[simp] theorem State.setCore_hop (k : Nat) (f : EcCore → EcCore) : (s.setCore k f).hop = { s.hop with cores := s.hop.cores.upd k {} f } := rfl
@[simp] theorem State.setCore_free (k : Nat) (f : EcCore → EcCore) : (s.setCore k f).free = s.free := rfl

/-! What a unit reads as after a unit of its kind is written. -/

@[simp] theorem State.setEnc_enc_same (k : Nat) (x : Encoder) : (s.setEnc k x).enc k = x := SMap.getD_set_same _ _ _ _
theorem State.setEnc_enc_other {j k : Nat} (x : Encoder) (h : j ≠ k) : (s.setEnc k x).enc j = s.enc j := SMap.getD_set_other _ _ h _
@[simp] theorem State.setRace_race_same (k : Nat) (x : Race) : (s.setRace k x).race k = x := SMap.getD_set_same _ _ _ _
theorem State.setRace_race_other {j k : Nat} (x : Race) (h : j ≠ k) : (s.setRace k x).race j = s.race j := SMap.getD_set_other _ _ h _
@[simp] theorem State.setDom_dom_same (k : Nat) (x : Domain) : (s.setDom k x).dom k = x := SMap.getD_set_same _ _ _ _
theorem State.setDom_dom_other {j k : Nat} (x : Domain) (h : j ≠ k) : (s.setDom k x).dom j = s.dom j := SMap.getD_set_other _ _ h _
@[simp] theorem State.setCog_cog_same (k : Nat) (x : Cog) : (s.setCog k x).cog k = x := SMap.getD_set_same _ _ _ _
theorem State.setCog_cog_other {j k : Nat} (x : Cog) (h : j ≠ k) : (s.setCog k x).cog j = s.cog j := SMap.getD_set_other _ _ h _
@[simp] theorem State.setFo_fo_same (k : Nat) (x : FastOut) : (s.setFo k x).fo k = x := SMap.getD_set_same _ _ _ _
theorem State.setFo_fo_other {j k : Nat} (x : FastOut) (h : j ≠ k) : (s.setFo k x).fo j = s.fo j := SMap.getD_set_other _ _ h _
@[simp] theorem State.setPset_pset_same (k : Nat) (x : BankSet) : (s.setPset k x).pset k = x := SMap.getD_set_same _ _ _ _
theorem State.setPset_pset_other {j k : Nat} (x : BankSet) (h : j ≠ k) : (s.setPset k x).pset j = s.pset j := SMap.getD_set_other _ _ h _
@[simp] theorem State.setPort_port_same (k : Nat) (x : Port) : (s.setPort k x).port k = x := SMap.getD_set_same _ _ _ _
theorem State.setPort_port_other {j k : Nat} (x : Port) (h : j ≠ k) : (s.setPort k x).port j = s.port j := SMap.getD_set_other _ _ h _
@[simp] theorem State.setNode_node_same (k : Nat) (x : Node) : (s.setNode k x).node k = x := SMap.getD_set_same _ _ _ _
theorem State.setNode_node_other {j k : Nat} (x : Node) (h : j ≠ k) : (s.setNode k x).node j = s.node j := SMap.getD_set_other _ _ h _
@[simp] theorem State.setLoop_loop_same (k : Nat) (x : Loop) : (s.setLoop k x).loop k = x := SMap.getD_set_same _ _ _ _
theorem State.setLoop_loop_other {j k : Nat} (x : Loop) (h : j ≠ k) : (s.setLoop k x).loop j = s.loop j := SMap.getD_set_other _ _ h _
@[simp] theorem State.setFt_ft_same (k : Nat) (x : FtTask) : (s.setFt k x).ft k = x := SMap.getD_set_same _ _ _ _
theorem State.setFt_ft_other {j k : Nat} (x : FtTask) (h : j ≠ k) : (s.setFt k x).ft j = s.ft j := SMap.getD_set_other _ _ h _
@[simp] theorem State.setAxis_axis_same (k : Nat) (x : Axis) : (s.setAxis k x).axis k = x := SMap.getD_set_same _ _ _ _
theorem State.setAxis_axis_other {j k : Nat} (x : Axis) (h : j ≠ k) : (s.setAxis k x).axis j = s.axis j := SMap.getD_set_other _ _ h _
@[simp] theorem State.setCl_cl_same (k : Nat) (x : ClChan) : (s.setCl k x).cl k = x := SMap.getD_set_same _ _ _ _
theorem State.setCl_cl_other {j k : Nat} (x : ClChan) (h : j ≠ k) : (s.setCl k x).cl j = s.cl j := SMap.getD_set_other _ _ h _
@[simp] theorem State.setPwm_pwm_same (k : Nat) (x : Pwm) : (s.setPwm k x).pwm k = x := SMap.getD_set_same _ _ _ _
theorem State.setPwm_pwm_other {j k : Nat} (x : Pwm) (h : j ≠ k) : (s.setPwm k x).pwm j = s.pwm j := SMap.getD_set_other _ _ h _
@[simp] theorem State.setDio_dio_same (k : Nat) (x : Dio) : (s.setDio k x).dio k = x := SMap.getD_set_same _ _ _ _
theorem State.setDio_dio_other {j k : Nat} (x : Dio) (h : j ≠ k) : (s.setDio k x).dio j = s.dio j := SMap.getD_set_other _ _ h _
@[simp] theorem State.setSeq_seq_same (k : Nat) (x : AdcSeq) : (s.setSeq k x).seq k = x := SMap.getD_set_same _ _ _ _
theorem State.setSeq_seq_other {j k : Nat} (x : AdcSeq) (h : j ≠ k) : (s.setSeq k x).seq j = s.seq j := SMap.getD_set_other _ _ h _
@[simp] theorem State.setCap_cap_same (k : Nat) (x : CapUnit) : (s.setCap k x).cap k = x := SMap.getD_set_same _ _ _ _
theorem State.setCap_cap_other {j k : Nat} (x : CapUnit) (h : j ≠ k) : (s.setCap k x).cap j = s.cap j := SMap.getD_set_other _ _ h _
@[simp] theorem State.setChan_chan_same (k : Nat) (x : TrChan) : (s.setChan k x).chan k = x := SMap.getD_set_same _ _ _ _
theorem State.setChan_chan_other {j k : Nat} (x : TrChan) (h : j ≠ k) : (s.setChan k x).chan j = s.chan j := SMap.getD_set_other _ _ h _
@[simp] theorem State.setEng_eng_same (k : Nat) (x : Engine) : (s.setEng k x).eng k = x := SMap.getD_set_same _ _ _ _
theorem State.setEng_eng_other {j k : Nat} (x : Engine) (h : j ≠ k) : (s.setEng k x).eng j = s.eng j := SMap.getD_set_other _ _ h _
@[simp] theorem State.setSpin_spin_same (k : Nat) (x : Spin) : (s.setSpin k x).spin k = x := SMap.getD_set_same _ _ _ _
theorem State.setSpin_spin_other {j k : Nat} (x : Spin) (h : j ≠ k) : (s.setSpin k x).spin j = s.spin j := SMap.getD_set_other _ _ h _
@[simp] theorem State.setCan_can_same (k : Nat) (x : CanPort) : (s.setCan k x).can k = x := SMap.getD_set_same _ _ _ _
theorem State.setCan_can_other {j k : Nat} (x : CanPort) (h : j ≠ k) : (s.setCan k x).can j = s.can j := SMap.getD_set_other _ _ h _
@[simp] theorem State.setGroup_group_same (k : Nat) (x : GroupSt) : (s.setGroup k x).group k = x := SMap.getD_set_same _ _ _ _
theorem State.setGroup_group_other {j k : Nat} (x : GroupSt) (h : j ≠ k) : (s.setGroup k x).group j = s.group j := SMap.getD_set_other _ _ h _
@[simp] theorem State.setHopT_hopT_same (k : Nat) (x : HopTask) : (s.setHopT k x).hopT k = x := SMap.getD_set_same _ _ _ _
theorem State.setHopT_hopT_other {j k : Nat} (x : HopTask) (h : j ≠ k) : (s.setHopT k x).hopT j = s.hopT j := SMap.getD_set_other _ _ h _

/-! tick, useFree, setFlight, setSt -/

@[simp] theorem State.tick_pending (t : Nat) : (s.tick t).pending = s.pending := rfl
@[simp] theorem State.tick_lmt (t : Nat) : (s.tick t).lmt = max s.lmt t := rfl
@[simp] theorem State.tick_sys (t : Nat) : (s.tick t).sys = s.sys := rfl
@[simp] theorem State.tick_host (t : Nat) : (s.tick t).host = s.host := rfl
@[simp] theorem State.tick_flights (t : Nat) : (s.tick t).flights = s.flights := rfl
@[simp] theorem State.tick_log (t : Nat) : (s.tick t).log = s.log := rfl
@[simp] theorem State.tick_tr (t : Nat) : (s.tick t).tr = s.tr := rfl
@[simp] theorem State.tick_cfg (t : Nat) : (s.tick t).cfg = s.cfg := rfl
@[simp] theorem State.tick_img (t : Nat) : (s.tick t).img = s.img := rfl
@[simp] theorem State.tick_journal (t : Nat) : (s.tick t).journal = s.journal := rfl
@[simp] theorem State.tick_jseq (t : Nat) : (s.tick t).jseq = s.jseq := rfl
@[simp] theorem State.tick_settled (t : Nat) : (s.tick t).settled = s.settled := rfl
@[simp] theorem State.tick_home (t : Nat) : (s.tick t).home = s.home := rfl
@[simp] theorem State.tick_encs (t : Nat) : (s.tick t).encs = s.encs := rfl
@[simp] theorem State.tick_races (t : Nat) : (s.tick t).races = s.races := rfl
@[simp] theorem State.tick_doms (t : Nat) : (s.tick t).doms = s.doms := rfl
@[simp] theorem State.tick_cogs (t : Nat) : (s.tick t).cogs = s.cogs := rfl
@[simp] theorem State.tick_fos (t : Nat) : (s.tick t).fos = s.fos := rfl
@[simp] theorem State.tick_sets (t : Nat) : (s.tick t).sets = s.sets := rfl
@[simp] theorem State.tick_net (t : Nat) : (s.tick t).net = s.net := rfl
@[simp] theorem State.tick_loops (t : Nat) : (s.tick t).loops = s.loops := rfl
@[simp] theorem State.tick_ogs (t : Nat) : (s.tick t).ogs = s.ogs := rfl
@[simp] theorem State.tick_lanes (t : Nat) : (s.tick t).lanes = s.lanes := rfl
@[simp] theorem State.tick_fts (t : Nat) : (s.tick t).fts = s.fts := rfl
@[simp] theorem State.tick_mot (t : Nat) : (s.tick t).mot = s.mot := rfl
@[simp] theorem State.tick_ana (t : Nat) : (s.tick t).ana = s.ana := rfl
@[simp] theorem State.tick_caps (t : Nat) : (s.tick t).caps = s.caps := rfl
@[simp] theorem State.tick_logic (t : Nat) : (s.tick t).logic = s.logic := rfl
@[simp] theorem State.tick_spins (t : Nat) : (s.tick t).spins = s.spins := rfl
@[simp] theorem State.tick_cans (t : Nat) : (s.tick t).cans = s.cans := rfl
@[simp] theorem State.tick_safe (t : Nat) : (s.tick t).safe = s.safe := rfl
@[simp] theorem State.tick_red (t : Nat) : (s.tick t).red = s.red := rfl
@[simp] theorem State.tick_hop (t : Nat) : (s.tick t).hop = s.hop := rfl
@[simp] theorem State.tick_free (t : Nat) : (s.tick t).free = s.free := rfl
@[simp] theorem State.useFree_pending : s.useFree.pending = s.pending := rfl
@[simp] theorem State.useFree_lmt : s.useFree.lmt = s.lmt := rfl
@[simp] theorem State.useFree_sys : s.useFree.sys = s.sys := rfl
@[simp] theorem State.useFree_host : s.useFree.host = s.host := rfl
@[simp] theorem State.useFree_flights : s.useFree.flights = s.flights := rfl
@[simp] theorem State.useFree_log : s.useFree.log = s.log := rfl
@[simp] theorem State.useFree_tr : s.useFree.tr = s.tr := rfl
@[simp] theorem State.useFree_cfg : s.useFree.cfg = s.cfg := rfl
@[simp] theorem State.useFree_img : s.useFree.img = s.img := rfl
@[simp] theorem State.useFree_journal : s.useFree.journal = s.journal := rfl
@[simp] theorem State.useFree_jseq : s.useFree.jseq = s.jseq := rfl
@[simp] theorem State.useFree_settled : s.useFree.settled = s.settled := rfl
@[simp] theorem State.useFree_home : s.useFree.home = s.home := rfl
@[simp] theorem State.useFree_encs : s.useFree.encs = s.encs := rfl
@[simp] theorem State.useFree_races : s.useFree.races = s.races := rfl
@[simp] theorem State.useFree_doms : s.useFree.doms = s.doms := rfl
@[simp] theorem State.useFree_cogs : s.useFree.cogs = s.cogs := rfl
@[simp] theorem State.useFree_fos : s.useFree.fos = s.fos := rfl
@[simp] theorem State.useFree_sets : s.useFree.sets = s.sets := rfl
@[simp] theorem State.useFree_net : s.useFree.net = s.net := rfl
@[simp] theorem State.useFree_loops : s.useFree.loops = s.loops := rfl
@[simp] theorem State.useFree_ogs : s.useFree.ogs = s.ogs := rfl
@[simp] theorem State.useFree_lanes : s.useFree.lanes = s.lanes := rfl
@[simp] theorem State.useFree_fts : s.useFree.fts = s.fts := rfl
@[simp] theorem State.useFree_mot : s.useFree.mot = s.mot := rfl
@[simp] theorem State.useFree_ana : s.useFree.ana = s.ana := rfl
@[simp] theorem State.useFree_caps : s.useFree.caps = s.caps := rfl
@[simp] theorem State.useFree_logic : s.useFree.logic = s.logic := rfl
@[simp] theorem State.useFree_spins : s.useFree.spins = s.spins := rfl
@[simp] theorem State.useFree_cans : s.useFree.cans = s.cans := rfl
@[simp] theorem State.useFree_safe : s.useFree.safe = s.safe := rfl
@[simp] theorem State.useFree_red : s.useFree.red = s.red := rfl
@[simp] theorem State.useFree_hop : s.useFree.hop = s.hop := rfl
@[simp] theorem State.useFree_free : s.useFree.free = s.free + 1 := rfl
@[simp] theorem State.setFlight_pending (f : Flight) : (s.setFlight f).pending = s.pending := rfl
@[simp] theorem State.setFlight_lmt (f : Flight) : (s.setFlight f).lmt = s.lmt := rfl
@[simp] theorem State.setFlight_sys (f : Flight) : (s.setFlight f).sys = s.sys := rfl
@[simp] theorem State.setFlight_host (f : Flight) : (s.setFlight f).host = s.host := rfl
@[simp] theorem State.setFlight_flights (f : Flight) : (s.setFlight f).flights = s.flights.map (fun g => if g.is f.h.ring f.h.tag && g.orphan == f.orphan then f else g) := rfl
@[simp] theorem State.setFlight_log (f : Flight) : (s.setFlight f).log = s.log := rfl
@[simp] theorem State.setFlight_tr (f : Flight) : (s.setFlight f).tr = s.tr := rfl
@[simp] theorem State.setFlight_cfg (f : Flight) : (s.setFlight f).cfg = s.cfg := rfl
@[simp] theorem State.setFlight_img (f : Flight) : (s.setFlight f).img = s.img := rfl
@[simp] theorem State.setFlight_journal (f : Flight) : (s.setFlight f).journal = s.journal := rfl
@[simp] theorem State.setFlight_jseq (f : Flight) : (s.setFlight f).jseq = s.jseq := rfl
@[simp] theorem State.setFlight_settled (f : Flight) : (s.setFlight f).settled = s.settled := rfl
@[simp] theorem State.setFlight_home (f : Flight) : (s.setFlight f).home = s.home := rfl
@[simp] theorem State.setFlight_encs (f : Flight) : (s.setFlight f).encs = s.encs := rfl
@[simp] theorem State.setFlight_races (f : Flight) : (s.setFlight f).races = s.races := rfl
@[simp] theorem State.setFlight_doms (f : Flight) : (s.setFlight f).doms = s.doms := rfl
@[simp] theorem State.setFlight_cogs (f : Flight) : (s.setFlight f).cogs = s.cogs := rfl
@[simp] theorem State.setFlight_fos (f : Flight) : (s.setFlight f).fos = s.fos := rfl
@[simp] theorem State.setFlight_sets (f : Flight) : (s.setFlight f).sets = s.sets := rfl
@[simp] theorem State.setFlight_net (f : Flight) : (s.setFlight f).net = s.net := rfl
@[simp] theorem State.setFlight_loops (f : Flight) : (s.setFlight f).loops = s.loops := rfl
@[simp] theorem State.setFlight_ogs (f : Flight) : (s.setFlight f).ogs = s.ogs := rfl
@[simp] theorem State.setFlight_lanes (f : Flight) : (s.setFlight f).lanes = s.lanes := rfl
@[simp] theorem State.setFlight_fts (f : Flight) : (s.setFlight f).fts = s.fts := rfl
@[simp] theorem State.setFlight_mot (f : Flight) : (s.setFlight f).mot = s.mot := rfl
@[simp] theorem State.setFlight_ana (f : Flight) : (s.setFlight f).ana = s.ana := rfl
@[simp] theorem State.setFlight_caps (f : Flight) : (s.setFlight f).caps = s.caps := rfl
@[simp] theorem State.setFlight_logic (f : Flight) : (s.setFlight f).logic = s.logic := rfl
@[simp] theorem State.setFlight_spins (f : Flight) : (s.setFlight f).spins = s.spins := rfl
@[simp] theorem State.setFlight_cans (f : Flight) : (s.setFlight f).cans = s.cans := rfl
@[simp] theorem State.setFlight_safe (f : Flight) : (s.setFlight f).safe = s.safe := rfl
@[simp] theorem State.setFlight_red (f : Flight) : (s.setFlight f).red = s.red := rfl
@[simp] theorem State.setFlight_hop (f : Flight) : (s.setFlight f).hop = s.hop := rfl
@[simp] theorem State.setFlight_free (f : Flight) : (s.setFlight f).free = s.free := rfl
@[simp] theorem State.setSt_pending (x : HState) : (s.setSt x).pending = s.pending := rfl
@[simp] theorem State.setSt_lmt (x : HState) : (s.setSt x).lmt = s.lmt := rfl
@[simp] theorem State.setSt_sys (x : HState) : (s.setSt x).sys = { s.sys with st := x, console := s.sys.console ++ [(s.lmt, stateCode x, false)] } := rfl
@[simp] theorem State.setSt_host (x : HState) : (s.setSt x).host = s.host := rfl
@[simp] theorem State.setSt_flights (x : HState) : (s.setSt x).flights = s.flights := rfl
@[simp] theorem State.setSt_log (x : HState) : (s.setSt x).log = s.log := rfl
@[simp] theorem State.setSt_tr (x : HState) : (s.setSt x).tr = s.tr := rfl
@[simp] theorem State.setSt_cfg (x : HState) : (s.setSt x).cfg = s.cfg := rfl
@[simp] theorem State.setSt_img (x : HState) : (s.setSt x).img = s.img := rfl
@[simp] theorem State.setSt_journal (x : HState) : (s.setSt x).journal = s.journal := rfl
@[simp] theorem State.setSt_jseq (x : HState) : (s.setSt x).jseq = s.jseq := rfl
@[simp] theorem State.setSt_settled (x : HState) : (s.setSt x).settled = s.settled := rfl
@[simp] theorem State.setSt_home (x : HState) : (s.setSt x).home = s.home := rfl
@[simp] theorem State.setSt_encs (x : HState) : (s.setSt x).encs = s.encs := rfl
@[simp] theorem State.setSt_races (x : HState) : (s.setSt x).races = s.races := rfl
@[simp] theorem State.setSt_doms (x : HState) : (s.setSt x).doms = s.doms := rfl
@[simp] theorem State.setSt_cogs (x : HState) : (s.setSt x).cogs = s.cogs := rfl
@[simp] theorem State.setSt_fos (x : HState) : (s.setSt x).fos = s.fos := rfl
@[simp] theorem State.setSt_sets (x : HState) : (s.setSt x).sets = s.sets := rfl
@[simp] theorem State.setSt_net (x : HState) : (s.setSt x).net = s.net := rfl
@[simp] theorem State.setSt_loops (x : HState) : (s.setSt x).loops = s.loops := rfl
@[simp] theorem State.setSt_ogs (x : HState) : (s.setSt x).ogs = s.ogs := rfl
@[simp] theorem State.setSt_lanes (x : HState) : (s.setSt x).lanes = s.lanes := rfl
@[simp] theorem State.setSt_fts (x : HState) : (s.setSt x).fts = s.fts := rfl
@[simp] theorem State.setSt_mot (x : HState) : (s.setSt x).mot = s.mot := rfl
@[simp] theorem State.setSt_ana (x : HState) : (s.setSt x).ana = s.ana := rfl
@[simp] theorem State.setSt_caps (x : HState) : (s.setSt x).caps = s.caps := rfl
@[simp] theorem State.setSt_logic (x : HState) : (s.setSt x).logic = s.logic := rfl
@[simp] theorem State.setSt_spins (x : HState) : (s.setSt x).spins = s.spins := rfl
@[simp] theorem State.setSt_cans (x : HState) : (s.setSt x).cans = s.cans := rfl
@[simp] theorem State.setSt_safe (x : HState) : (s.setSt x).safe = s.safe := rfl
@[simp] theorem State.setSt_red (x : HState) : (s.setSt x).red = s.red := rfl
@[simp] theorem State.setSt_hop (x : HState) : (s.setSt x).hop = s.hop := rfl
@[simp] theorem State.setSt_free (x : HState) : (s.setSt x).free = s.free := rfl

end Sys2Proof.Machine
end

