-- ==== Sys2Proof/Laws/Programs.lean ====
section
/-! SUPPORT. What one logic or spindle instruction row does, said once. -/

namespace Sys2Proof.Machine

@[simp] theorem State.tick_lmt_self (s : State) : s.tick s.lmt = s := by simp [State.tick]

/-- An engine row at the present time: where the clocks run and there is no FAULT_HALT, its effect, and what follows it. -/
theorem engineRow_now {s : State} {f : State → State} (hc : s.sys.clocksOn = true) (hf : s.sys.st ≠ .faultHalt) :
    engineRow s s.lmt f = .next (s.follow (f s)) := by
  simp [engineRow, eventRow, live, hc, hf, State.follow]

/-- An event row: where the clocks run, its effect at its instant, and what follows it. -/
theorem eventRow_on {s : State} {f : State → State} (t : Nat) (hc : s.sys.clocksOn = true) : eventRow s t f = .next ((s.tick t).follow (f (s.tick t))) := by
  simp [eventRow, live, hc, State.follow]

theorem engineRow_on {s : State} {f : State → State} (t : Nat) (hc : s.sys.clocksOn = true) (hf : s.sys.st ≠ .faultHalt) :
    engineRow s t f = .next ((s.tick t).follow (f (s.tick t))) := by
  simp [engineRow, eventRow, live, hc, hf, State.follow]

/-- One instruction of an engine whose run is open: what `f` makes of engine and run, and the hand-in where the run has ended. -/
theorem leStep_opens {s : State} {n op opnd : Nat} {r : Run} (h : s.opens n op opnd r) (f : Nat → Engine → Run → Engine × Run) :
    s.leStep n op opnd f =
      let x := f s.sys.modNo (s.eng n) (r.moved s.sys.modNo n op opnd)
      if x.2.ended then (s.putRun n x.1 x.2).leHandIn n x.2 else s.putRun n x.1 x.2 := by
  obtain ⟨-, -, hr, ho, hw, hm, hs, hb, hre, -⟩ := h
  have h1 : ¬ 16777216 ≤ opnd := by omega
  simp only [State.leStep, State.putRun, Run.moved, Run.stored]
  revert hr hm hs hb hre
  generalize s.eng n = e
  intro hr hm hs hb hre
  obtain ⟨mode, reason, held, resume, prog, changes, timers, counters, edges, run, ready, breaks, figs, load, stepLeft⟩ := e
  simp only at hr hm hs hb hre
  subst hr hs hb hre
  simp only [h1, hw, hm, ne_eq, not_true_eq_false, false_and, or_false, if_false, leBreaks, SMap.mapV, List.any_nil, Bool.false_and, Bool.false_eq_true, if_true]
  rfl

/-- One instruction of a spindle program in a window: its effect, the next address, and the exit at LENGTH. -/
theorem spinStep_executes {s : State} {n op opnd : Nat} {w : SpinWin} (h : s.executes n op opnd w) (f : SpinWin → Spin → Spin) (next : Spin → Nat)
    (hp : (f w (s.spin n)).prog = (s.spin n).prog) :
    s.spinStep n op opnd f next =
      let u := s.goesOn n (f w (s.spin n)) (next (s.spin n))
      if spinLen (s.spin n).prog.fg ≤ next (s.spin n) then u.spinExit n else u := by
  obtain ⟨-, -, hw, ha⟩ := h
  simp [State.spinStep, ha, State.spinExec, hw, State.goesOn, hp]

/-- The descriptor as fetched differs in its instant only. -/
@[simp] theorem State.asFetched_ring (s : State) (h : CmdHdr) : (s.asFetched h).ring = h.ring := by unfold State.asFetched; split <;> rfl
@[simp] theorem State.asFetched_tag (s : State) (h : CmdHdr) : (s.asFetched h).tag = h.tag := by unfold State.asFetched; split <;> rfl
@[simp] theorem State.asFetched_rsv (s : State) (h : CmdHdr) : (s.asFetched h).rsv = h.rsv := by unfold State.asFetched; split <;> rfl
@[simp] theorem State.asFetched_rsv12 (s : State) (h : CmdHdr) : (s.asFetched h).rsv12 = h.rsv12 := by unfold State.asFetched; split <;> rfl
@[simp] theorem State.asFetched_fence (s : State) (h : CmdHdr) : (s.asFetched h).fence = h.fence := by unfold State.asFetched; split <;> rfl

/-- Nothing is wrong with the fields of a descriptor whose reserved ones are zero, whose ring suits it and whose own checks find nothing. -/
theorem Gate.badAt_none {g : Gate} {op : Nat} {h : CmdHdr} (hg : g.invalid = none) (hr : h.rsv = false) (h12 : h.rsv12 = false)
    (ho : op / 256 ≠ 1 ∨ h.ring = 0) : g.badAt op h = none := by
  have h2 : (op / 256 == 1 && h.ring != 0) = false := by rcases ho with ho | ho <;> simp [ho]
  simp [Gate.badAt, h2, hr, h12, hg]

/-- A host command that can start and whose checks find nothing runs its own rule. -/
theorem commandRow_accepts {s : State} {h : CmdHdr} {op : Nat} {g : CmdHdr → State → Gate} {go : Flight → State → State}
    (ha : s.accepts op h = true) (hg : (g (s.asFetched h) (s.take h)).passes = true) :
    commandRow op h (fun h s => start op (g h s) go h s) s
      = .next ((s.take h).runs s op (g (s.asFetched h) (s.take h)) go (s.asFetched h)) := by
  simp only [State.accepts, Bool.and_eq_true, Bool.not_eq_true', Bool.or_eq_true, bne_iff_ne, beq_iff_eq] at ha
  obtain ⟨⟨⟨⟨⟨⟨⟨⟨hc, ht⟩, hf⟩, hh⟩, hr⟩, h12⟩, hrg⟩, hm⟩, hs⟩ := ha
  simp only [Gate.passes, Bool.and_eq_true, Bool.not_eq_true', Bool.or_eq_true, Option.isNone_iff_eq_none] at hg
  obtain ⟨⟨hi, hd⟩, hre⟩ := hg
  have h1 : ((s.take h).sys.st == HState.faultHalt && !okInFaultHalt op) = false := by rcases hh with hh | hh <;> simp [hh]
  have hb := Gate.badAt_none (op := op) hi ((s.asFetched_rsv h).trans hr) ((s.asFetched_rsv12 h).trans h12) (by simpa using hrg)
  have h3 : ((g (s.asFetched h) (s.take h)).disabled && !(g (s.asFetched h) (s.take h)).exempt) = false := by rcases hd with hd | hd <;> simp [hd]
  have h4 : (s.take h).startRefuses op (g (s.asFetched h) (s.take h)) = false := by simp [State.startRefuses, hs]
  have h5 : (s.take h).fenced (s.asFetched h) = false := by simpa [State.fenced] using hf
  simp only [commandRow, hc, if_true, hostRow, State.asFetched_ring, State.asFetched_tag, ht, h5, Bool.false_eq_true, if_false, runShown, hs,
    bne_self_eq_false, Bool.false_and, start, h1, hb, h3, hm, h4, hre, Bool.or_self, State.runs, State.begun, State.joins]
  rfl

end Sys2Proof.Machine
end

