-- ==== Sys2Proof/Laws/Raise.lean ====
section
/-! SUPPORT. Raising events changes nothing but Tailrace, the log, the host interface and the console (R261, R519). -/

namespace Sys2Proof.Machine

variable (s : State) (qs : List EvReq) (c : Bool) (code unit point : Nat) (ps : List Nat) (cl : Bool)

@[simp] theorem State.raiseReq_pending : (s.raiseReq qs).pending = s.pending := rfl
@[simp] theorem State.raise_pending : (s.raise code unit ps point cl).pending = s.pending := rfl
@[simp] theorem State.raiseIf_pending : (s.raiseIf c code unit ps point cl).pending = s.pending := by unfold State.raiseIf; split <;> rfl
@[simp] theorem State.raiseReq_lmt : (s.raiseReq qs).lmt = s.lmt := rfl
@[simp] theorem State.raise_lmt : (s.raise code unit ps point cl).lmt = s.lmt := rfl
@[simp] theorem State.raiseIf_lmt : (s.raiseIf c code unit ps point cl).lmt = s.lmt := by unfold State.raiseIf; split <;> rfl
@[simp] theorem State.raiseReq_flights : (s.raiseReq qs).flights = s.flights := rfl
@[simp] theorem State.raise_flights : (s.raise code unit ps point cl).flights = s.flights := rfl
@[simp] theorem State.raiseIf_flights : (s.raiseIf c code unit ps point cl).flights = s.flights := by unfold State.raiseIf; split <;> rfl
@[simp] theorem State.raiseReq_cfg : (s.raiseReq qs).cfg = s.cfg := rfl
@[simp] theorem State.raise_cfg : (s.raise code unit ps point cl).cfg = s.cfg := rfl
@[simp] theorem State.raiseIf_cfg : (s.raiseIf c code unit ps point cl).cfg = s.cfg := by unfold State.raiseIf; split <;> rfl
@[simp] theorem State.raiseReq_img : (s.raiseReq qs).img = s.img := rfl
@[simp] theorem State.raise_img : (s.raise code unit ps point cl).img = s.img := rfl
@[simp] theorem State.raiseIf_img : (s.raiseIf c code unit ps point cl).img = s.img := by unfold State.raiseIf; split <;> rfl
@[simp] theorem State.raiseReq_journal : (s.raiseReq qs).journal = s.journal := rfl
@[simp] theorem State.raise_journal : (s.raise code unit ps point cl).journal = s.journal := rfl
@[simp] theorem State.raiseIf_journal : (s.raiseIf c code unit ps point cl).journal = s.journal := by unfold State.raiseIf; split <;> rfl
@[simp] theorem State.raiseReq_jseq : (s.raiseReq qs).jseq = s.jseq := rfl
@[simp] theorem State.raise_jseq : (s.raise code unit ps point cl).jseq = s.jseq := rfl
@[simp] theorem State.raiseIf_jseq : (s.raiseIf c code unit ps point cl).jseq = s.jseq := by unfold State.raiseIf; split <;> rfl
@[simp] theorem State.raiseReq_settled : (s.raiseReq qs).settled = s.settled := rfl
@[simp] theorem State.raise_settled : (s.raise code unit ps point cl).settled = s.settled := rfl
@[simp] theorem State.raiseIf_settled : (s.raiseIf c code unit ps point cl).settled = s.settled := by unfold State.raiseIf; split <;> rfl
@[simp] theorem State.raiseReq_home : (s.raiseReq qs).home = s.home := rfl
@[simp] theorem State.raise_home : (s.raise code unit ps point cl).home = s.home := rfl
@[simp] theorem State.raiseIf_home : (s.raiseIf c code unit ps point cl).home = s.home := by unfold State.raiseIf; split <;> rfl
@[simp] theorem State.raiseReq_encs : (s.raiseReq qs).encs = s.encs := rfl
@[simp] theorem State.raise_encs : (s.raise code unit ps point cl).encs = s.encs := rfl
@[simp] theorem State.raiseIf_encs : (s.raiseIf c code unit ps point cl).encs = s.encs := by unfold State.raiseIf; split <;> rfl
@[simp] theorem State.raiseReq_races : (s.raiseReq qs).races = s.races := rfl
@[simp] theorem State.raise_races : (s.raise code unit ps point cl).races = s.races := rfl
@[simp] theorem State.raiseIf_races : (s.raiseIf c code unit ps point cl).races = s.races := by unfold State.raiseIf; split <;> rfl
@[simp] theorem State.raiseReq_doms : (s.raiseReq qs).doms = s.doms := rfl
@[simp] theorem State.raise_doms : (s.raise code unit ps point cl).doms = s.doms := rfl
@[simp] theorem State.raiseIf_doms : (s.raiseIf c code unit ps point cl).doms = s.doms := by unfold State.raiseIf; split <;> rfl
@[simp] theorem State.raiseReq_cogs : (s.raiseReq qs).cogs = s.cogs := rfl
@[simp] theorem State.raise_cogs : (s.raise code unit ps point cl).cogs = s.cogs := rfl
@[simp] theorem State.raiseIf_cogs : (s.raiseIf c code unit ps point cl).cogs = s.cogs := by unfold State.raiseIf; split <;> rfl
@[simp] theorem State.raiseReq_fos : (s.raiseReq qs).fos = s.fos := rfl
@[simp] theorem State.raise_fos : (s.raise code unit ps point cl).fos = s.fos := rfl
@[simp] theorem State.raiseIf_fos : (s.raiseIf c code unit ps point cl).fos = s.fos := by unfold State.raiseIf; split <;> rfl
@[simp] theorem State.raiseReq_sets : (s.raiseReq qs).sets = s.sets := rfl
@[simp] theorem State.raise_sets : (s.raise code unit ps point cl).sets = s.sets := rfl
@[simp] theorem State.raiseIf_sets : (s.raiseIf c code unit ps point cl).sets = s.sets := by unfold State.raiseIf; split <;> rfl
@[simp] theorem State.raiseReq_net : (s.raiseReq qs).net = s.net := rfl
@[simp] theorem State.raise_net : (s.raise code unit ps point cl).net = s.net := rfl
@[simp] theorem State.raiseIf_net : (s.raiseIf c code unit ps point cl).net = s.net := by unfold State.raiseIf; split <;> rfl
@[simp] theorem State.raiseReq_loops : (s.raiseReq qs).loops = s.loops := rfl
@[simp] theorem State.raise_loops : (s.raise code unit ps point cl).loops = s.loops := rfl
@[simp] theorem State.raiseIf_loops : (s.raiseIf c code unit ps point cl).loops = s.loops := by unfold State.raiseIf; split <;> rfl
@[simp] theorem State.raiseReq_ogs : (s.raiseReq qs).ogs = s.ogs := rfl
@[simp] theorem State.raise_ogs : (s.raise code unit ps point cl).ogs = s.ogs := rfl
@[simp] theorem State.raiseIf_ogs : (s.raiseIf c code unit ps point cl).ogs = s.ogs := by unfold State.raiseIf; split <;> rfl
@[simp] theorem State.raiseReq_lanes : (s.raiseReq qs).lanes = s.lanes := rfl
@[simp] theorem State.raise_lanes : (s.raise code unit ps point cl).lanes = s.lanes := rfl
@[simp] theorem State.raiseIf_lanes : (s.raiseIf c code unit ps point cl).lanes = s.lanes := by unfold State.raiseIf; split <;> rfl
@[simp] theorem State.raiseReq_fts : (s.raiseReq qs).fts = s.fts := rfl
@[simp] theorem State.raise_fts : (s.raise code unit ps point cl).fts = s.fts := rfl
@[simp] theorem State.raiseIf_fts : (s.raiseIf c code unit ps point cl).fts = s.fts := by unfold State.raiseIf; split <;> rfl
@[simp] theorem State.raiseReq_mot : (s.raiseReq qs).mot = s.mot := rfl
@[simp] theorem State.raise_mot : (s.raise code unit ps point cl).mot = s.mot := rfl
@[simp] theorem State.raiseIf_mot : (s.raiseIf c code unit ps point cl).mot = s.mot := by unfold State.raiseIf; split <;> rfl
@[simp] theorem State.raiseReq_ana : (s.raiseReq qs).ana = s.ana := rfl
@[simp] theorem State.raise_ana : (s.raise code unit ps point cl).ana = s.ana := rfl
@[simp] theorem State.raiseIf_ana : (s.raiseIf c code unit ps point cl).ana = s.ana := by unfold State.raiseIf; split <;> rfl
@[simp] theorem State.raiseReq_caps : (s.raiseReq qs).caps = s.caps := rfl
@[simp] theorem State.raise_caps : (s.raise code unit ps point cl).caps = s.caps := rfl
@[simp] theorem State.raiseIf_caps : (s.raiseIf c code unit ps point cl).caps = s.caps := by unfold State.raiseIf; split <;> rfl
@[simp] theorem State.raiseReq_logic : (s.raiseReq qs).logic = s.logic := rfl
@[simp] theorem State.raise_logic : (s.raise code unit ps point cl).logic = s.logic := rfl
@[simp] theorem State.raiseIf_logic : (s.raiseIf c code unit ps point cl).logic = s.logic := by unfold State.raiseIf; split <;> rfl
@[simp] theorem State.raiseReq_spins : (s.raiseReq qs).spins = s.spins := rfl
@[simp] theorem State.raise_spins : (s.raise code unit ps point cl).spins = s.spins := rfl
@[simp] theorem State.raiseIf_spins : (s.raiseIf c code unit ps point cl).spins = s.spins := by unfold State.raiseIf; split <;> rfl
@[simp] theorem State.raiseReq_cans : (s.raiseReq qs).cans = s.cans := rfl
@[simp] theorem State.raise_cans : (s.raise code unit ps point cl).cans = s.cans := rfl
@[simp] theorem State.raiseIf_cans : (s.raiseIf c code unit ps point cl).cans = s.cans := by unfold State.raiseIf; split <;> rfl
@[simp] theorem State.raiseReq_safe : (s.raiseReq qs).safe = s.safe := rfl
@[simp] theorem State.raise_safe : (s.raise code unit ps point cl).safe = s.safe := rfl
@[simp] theorem State.raiseIf_safe : (s.raiseIf c code unit ps point cl).safe = s.safe := by unfold State.raiseIf; split <;> rfl
@[simp] theorem State.raiseReq_red : (s.raiseReq qs).red = s.red := rfl
@[simp] theorem State.raise_red : (s.raise code unit ps point cl).red = s.red := rfl
@[simp] theorem State.raiseIf_red : (s.raiseIf c code unit ps point cl).red = s.red := by unfold State.raiseIf; split <;> rfl
@[simp] theorem State.raiseReq_hop : (s.raiseReq qs).hop = s.hop := rfl
@[simp] theorem State.raise_hop : (s.raise code unit ps point cl).hop = s.hop := rfl
@[simp] theorem State.raiseIf_hop : (s.raiseIf c code unit ps point cl).hop = s.hop := by unfold State.raiseIf; split <;> rfl
@[simp] theorem State.raiseReq_free : (s.raiseReq qs).free = s.free := rfl
@[simp] theorem State.raise_free : (s.raise code unit ps point cl).free = s.free := rfl
@[simp] theorem State.raiseIf_free : (s.raiseIf c code unit ps point cl).free = s.free := by unfold State.raiseIf; split <;> rfl
@[simp] theorem State.raiseReq_sys_st : (s.raiseReq qs).sys.st = s.sys.st := rfl
@[simp] theorem State.raise_sys_st : (s.raise code unit ps point cl).sys.st = s.sys.st := rfl
@[simp] theorem State.raiseIf_sys_st : (s.raiseIf c code unit ps point cl).sys.st = s.sys.st := by unfold State.raiseIf; split <;> rfl
@[simp] theorem State.raiseReq_sys_clocksOn : (s.raiseReq qs).sys.clocksOn = s.sys.clocksOn := rfl
@[simp] theorem State.raise_sys_clocksOn : (s.raise code unit ps point cl).sys.clocksOn = s.sys.clocksOn := rfl
@[simp] theorem State.raiseIf_sys_clocksOn : (s.raiseIf c code unit ps point cl).sys.clocksOn = s.sys.clocksOn := by unfold State.raiseIf; split <;> rfl

end Sys2Proof.Machine
end

