-- ==== Sys2Proof/Tests/Slice0.lean ====
section
/-! SUPPORT. Tests of the model: ill-formed commands that WellFormed refuses, witnesses of the statements' hypotheses, worked examples of the spec. -/

namespace Sys2Proof.Machine

/-- A running module with one host command waiting on ring 0, and a configuration of some records. -/
def hosted (recs : List CfgRec) : State :=
  { State.reset with
    sys := { State.reset.sys with clocksOn := true, st := .running }
    host := { State.reset.host with adminUp := true, bme := true, rings := [(0, { prod := 1 }), (64, { kind := 1 })] }
    cfg := { State.reset.cfg with inForce := true, recs := recs } }

/-- The same with a second command ring. -/
def ringed : State := { hosted [] with host := { (hosted []).host with rings := [(0, { prod := 1 }), (1, { num := 1 }), (64, { kind := 1 })] } }

/-- A record whose body is zero. -/
def zrec (rt : Nat) : CfgRec := { rtype := rt, body := [] }

def plain (target : W32) : CmdHdr := { t := 0, target := target }
def withP (target : W32) (ps : Bytes) : CmdHdr := { t := 0, target := target, params := ps }
def withBuf (target : W32) (ps data : Bytes) : CmdHdr := { t := 0, target := target, params := ps, buf := true, data := data }

/-- The premises of a command's statement: it can start, and its checks find nothing. -/
def meets (s : State) (op : Nat) (gate : CmdHdr → State → Gate) (h : CmdHdr) : Bool := s.accepts op h && (gate (s.asFetched h) (s.take h)).passes

theorem test_meets_nop : meets (hosted []) 0x0100 gateNop (plain 61440) = true := by decide
theorem test_meets_ringCreate : meets (hosted []) 0x0101 gateRingCreate (withP 61440 [0, 0, 1, 0, 0, 16, 0, 0, 0, 0, 0, 0, 16, 0, 0, 0, 0, 0, 0, 1]) = true := by decide
theorem test_meets_ringModify : meets (ringed) 0x0102 gateRingModify (withP 61440 [0, 0, 1, 0, 0, 0, 0, 0, 0, 0, 0, 0, 0, 0, 0, 0, 0, 0, 0, 1]) = true := by decide
theorem test_meets_ringDelete : meets (ringed) 0x0103 gateRingDelete (withP 61440 [0, 0, 1, 0]) = true := by decide
theorem test_meets_abort : meets (hosted []) 0x0104 gateAbort (withP 61440 [0, 0, 0, 0, 1, 0, 0, 0]) = true := by decide
theorem test_meets_sysInfo : meets (hosted []) 0x0105 gateSysInfo (withBuf 61440 [0, 0, 0, 0, 0, 0, 0, 0, 0, 1, 0, 0] []) = true := by decide
theorem test_meets_cfgCheck : meets ({ hosted [] with
      cfg := { (hosted []).cfg with stage := some { pkgId := 7, baseId := 0, delta := false, signed := false, recs := [], points := [], logic := [], spin := [], micro := [], place := [], safety := none } } }) 0x0202 gateCfgCheck (withBuf 61440 [0, 0, 0, 0, 0, 0, 0, 0, 0, 2, 0, 0] []) = true := by decide
theorem test_meets_cfgAdmit : meets ({ hosted [] with
      cfg := { (hosted []).cfg with stage := some { pkgId := 7, baseId := 0, delta := false, signed := false, recs := [], points := [], logic := [], spin := [], micro := [], place := [], safety := none } } }) 0x0203 gateCfgAdmit (withBuf 61440 [0, 0, 0, 0, 0, 0, 0, 0, 0, 2, 0, 0, 7, 0, 0, 0] []) = true := by decide
theorem test_meets_cfgRecord : meets (hosted []) 0x0204 gateCfgRecord (withBuf 61440 [0, 0, 0, 0, 0, 0, 0, 0, 0, 2, 0, 0, 0, 0, 0, 0] []) = true := by decide
theorem test_meets_cfgRead : meets (hosted []) 0x0205 gateCfgRead (withBuf 61440 [0, 0, 0, 0, 0, 0, 0, 0, 0, 0, 0, 0] []) = true := by decide
theorem test_meets_unitDisable : meets (hosted [zrec 2]) 0x0206 gateUnit (plain 4096) = true := by decide
theorem test_meets_unitEnable : meets (hosted [zrec 2]) 0x0207 gateUnit (plain 4096) = true := by decide
theorem test_meets_sluiceRead : meets (hosted []) 0x0208 gateSluiceRead (withBuf 61440 [0, 0, 0, 0, 0, 0, 0, 0, 0, 2, 0, 0] []) = true := by decide
theorem test_meets_raceVmSet : meets ({ hosted [{ rtype := 2, body := [0, 2] }] with races := [(0, { st := .running })] }) 0x0301 gateRaceVmSet (plain 4096) = true := by decide
theorem test_meets_raceTimeSet : meets ({ hosted [{ rtype := 2, body := [0, 4] }] with races := [(0, { st := .running })] }) 0x0302 gateRaceTimeSet (plain 4096) = true := by decide
theorem test_meets_raceReference : meets ({ hosted [{ rtype := 2, body := [0, 0] }, { rtype := 1, body := [0, 0, 0, 0, 0, 1] }] with races := [(0, { st := .running })] }) 0x0303 gateRaceReference (plain 4096) = true := by decide
theorem test_meets_racePreset : meets ({ hosted [{ rtype := 2, body := [0, 0] }, { rtype := 1, body := [0, 0, 0, 0, 0, 1] }] with races := [(0, { st := .running })] }) 0x0304 gateRacePreset (plain 4096) = true := by decide
theorem test_meets_raceConfirm : meets ({ hosted [{ rtype := 2, body := [0, 0] }, { rtype := 1, body := [0, 0, 0, 0, 0, 1] }] with races := [(0, { st := .running })] }) 0x0305 gateRaceConfirm (plain 4096) = true := by decide
theorem test_meets_cogArm : meets ({ hosted [zrec 2, zrec 5] with races := [(0, { st := .running })] }) 0x0401 gateCogArm (plain 8192) = true := by decide
theorem test_meets_cogDisarm : meets (hosted [zrec 5]) 0x0402 gateCogDisarm (plain 8192) = true := by decide
theorem test_meets_placeRead : meets (hosted [zrec 7]) 0x0403 gatePlaceRead (withBuf 0 [0, 0, 0, 0, 0, 0, 0, 0, 0, 128, 0, 0, 0] []) = true := by decide
theorem test_meets_placeWrite : meets (hosted [zrec 7]) 0x0404 gatePlaceWrite (withBuf 0 [0, 0, 0, 0, 0, 0, 0, 0, 8, 0, 0, 0, 1, 0] [0, 0, 0, 0, 0, 0, 0, 0]) = true := by decide
theorem test_meets_placeSeal : meets (hosted []) 0x0405 gatePlaceSeal (plain 61440) = true := by decide
theorem test_meets_pointRead : meets ({ hosted [] with
      cfg := { (hosted []).cfg with points := [(16777216, { rslot := 0, addr := 16777216, typ := 5, cyclic := true, group := 0, islot := 0, writer := 3, wunit := 0 })] } }) 0x0501 gatePointRead (plain 16777216) = true := by decide
theorem test_meets_pointWrite : meets ({ hosted [] with
      cfg := { (hosted []).cfg with points := [(16777216, { rslot := 0, addr := 16777216, typ := 5, cyclic := true, group := 0, islot := 0, writer := 3, wunit := 0 })] } }) 0x0502 gatePointWrite (plain 16777216) = true := by decide
theorem test_meets_pointMeta : meets ({ hosted [] with
      cfg := { (hosted []).cfg with points := [(16777216, { rslot := 0, addr := 16777216, typ := 5, cyclic := true, group := 0, islot := 0, writer := 3, wunit := 0 })] } }) 0x0503 gatePointMeta (plain 16777216) = true := by decide
theorem test_meets_nodeRead : meets (hosted [{ rtype := 0xA, body := [1] }]) 0x0504 gateNodeRead (withBuf 36865 [0, 0, 0, 0, 0, 0, 0, 0, 128, 0, 0, 0, 0, 0] []) = true := by decide
theorem test_meets_loopMode : meets (hosted [zrec 0xB]) 0x0601 gateLoopMode (plain 12288) = true := by decide
theorem test_meets_loopTrim : meets (hosted [zrec 0xB]) 0x0602 gateLoopTrim (plain 12288) = true := by decide
theorem test_meets_loopCoefWrite : meets (hosted [zrec 0xB]) 0x0603 gateLoopCoefWrite (withBuf 12288 [0, 0, 0, 0, 0, 0, 0, 0, 192, 0, 0, 0] []) = true := by decide
theorem test_meets_loopCoefSeal : meets (hosted [zrec 0xB]) 0x0604 gateLoopCoefSeal (plain 12288) = true := by decide
theorem test_meets_loopReadState : meets (hosted [zrec 0xB]) 0x0605 gateLoopReadState (withBuf 12288 [0, 0, 0, 0, 0, 0, 0, 0, 64, 0, 0, 0] []) = true := by decide
theorem test_meets_ftStart : meets (hosted [zrec 0xD]) 0x0701 gateFtStart (withP 49152 [0, 0, 1]) = true := by decide
theorem test_meets_ftStop : meets (hosted [zrec 0xD]) 0x0702 gateFtStop (plain 49152) = true := by decide
theorem test_meets_ftTune : meets ({ hosted [{ rtype := 0xD, body := [0, 0, 0, 1] }, zrec 0xB] with loops := [(0, { mode := .auto })] }) 0x0703 gateFtTune (plain 49152) = true := by decide
theorem test_meets_ftAccept : meets ({ hosted [zrec 0xD] with fts := [(0, { advised := some [] })] }) 0x0704 gateFtAccept (plain 49152) = true := by decide
theorem test_meets_ftPlaceErr : meets ({ hosted [{ rtype := 0xD, body := [0, 0, 0, 3] }] with fts := [(0, { st := .running })] }) 0x0705 gateFtPlaceErr (withBuf 49152 [0, 0, 0, 0, 0, 0, 0, 0, 0, 0, 0, 0, 0, 0, 0, 0, 0, 0] []) = true := by decide
theorem test_meets_ftStatus : meets (hosted [zrec 0xD]) 0x0706 gateFtStatus (withBuf 49152 [0, 0, 0, 0, 0, 0, 0, 0, 128, 0, 0, 0] []) = true := by decide
theorem test_meets_axisEnable : meets ({ hosted [zrec 0xE] with
      mot := { (hosted []).mot with axes := [(0, { st := .disabled })] } }) 0x0801 gateAxisEnable (plain 20480) = true := by decide
theorem test_meets_axisDisable : meets ({ hosted [zrec 0xE] with
      mot := { (hosted []).mot with axes := [(0, { st := .standstill })] } }) 0x0802 gateAxisDisable (plain 20480) = true := by decide
theorem test_meets_axisGoto : meets ({ hosted [zrec 0xE] with
      mot := { (hosted []).mot with axes := [(0, { st := .standstill })] } }) 0x0803 gateAxisGoto (plain 20480) = true := by decide
theorem test_meets_axisQueue : meets ({ hosted [zrec 0xE] with
      mot := { (hosted []).mot with axes := [(0, { st := .moving })] } }) 0x0804 gateAxisQueue (plain 20480) = true := by decide
theorem test_meets_axisStop : meets ({ hosted [zrec 0xE] with
      mot := { (hosted []).mot with axes := [(0, { st := .moving })] } }) 0x0805 gateAxisStop (plain 20480) = true := by decide
theorem test_meets_axisHome : meets ({ hosted [zrec 0xE] with
      mot := { (hosted []).mot with axes := [(0, { st := .standstill })] } }) 0x0806 gateAxisHome (plain 20480) = true := by decide
theorem test_meets_axisSetPos : meets ({ hosted [zrec 0xE] with
      mot := { (hosted []).mot with axes := [(0, { st := .standstill })] } }) 0x0807 gateAxisSetPos (plain 20480) = true := by decide
theorem test_meets_axisLimits : meets ({ hosted [zrec 0xE] with
      mot := { (hosted []).mot with axes := [(0, { st := .standstill })] } }) 0x0808 gateAxisLimits (plain 20480) = true := by decide
theorem test_meets_axisClearFault : meets ({ hosted [zrec 0xE] with
      mot := { (hosted []).mot with axes := [(0, { st := .fault })] } }) 0x0809 gateAxisClearFault (plain 20480) = true := by decide
theorem test_meets_axisTableWrite : meets ({ hosted [zrec 0xE] with
      mot := { (hosted []).mot with axes := [(0, { st := .disabled })] } }) 0x080A gateAxisTableWrite (withBuf 20480 [0, 0, 0, 0, 0, 0, 0, 0, 4, 0, 0, 0, 0, 0, 1, 0] [0, 0, 0, 0]) = true := by decide
theorem test_meets_axisTableSeal : meets ({ hosted [zrec 0xE] with
      mot := { (hosted []).mot with axes := [(0, { st := .disabled })] } }) 0x080B gateAxisTableSeal (plain 20480) = true := by decide
theorem test_meets_adcStart : meets (hosted [zrec 0xF]) 0x0901 gateAdcStart (plain 45056) = true := by decide
theorem test_meets_anaVref : meets (hosted []) 0x0902 gateAnaVref (plain 61440) = true := by decide
theorem test_meets_clZeroSpan : meets (hosted [zrec 0x12]) 0x0903 gateClZeroSpan (withP 40960 [160, 15, 0, 0, 32, 78, 0, 0]) = true := by decide
theorem test_meets_clCalCapture : meets ({ hosted [zrec 0x12] with
      ana := { (hosted []).ana with cls := [(0, { mode := 1 })] } }) 0x0904 gateClCalCapture (plain 40960) = true := by decide
theorem test_meets_dioReset : meets ({ hosted [] with
      ana := { (hosted []).ana with dios := [(0, { latched := true })] } }) 0x0905 gateDioReset (plain 61440) = true := by decide
theorem test_meets_capArm : meets (hosted [{ rtype := 0x14, body := List.replicate 26 0 ++ [1] }]) 0x0A01 gateCapArm (plain 24576) = true := by decide
theorem test_meets_capDisarm : meets ({ hosted [{ rtype := 0x14, body := List.replicate 26 0 ++ [1] }] with caps := [(0, { st := .armed })] }) 0x0A02 gateCapDisarm (plain 24576) = true := by decide
theorem test_meets_capRead : meets ({ hosted [{ rtype := 0x14, body := List.replicate 26 0 ++ [1] }] with caps := [(0, { recs := [{ num := 0, trig := { at' := 0, src := 0, unit := 0 }, pre := [], post := [] }] })] }) 0x0A04 gateCapRead (withBuf 24576 [0, 0, 0, 0, 0, 0, 0, 0, 0, 16, 0, 0, 0, 0, 0, 0] []) = true := by decide
theorem test_meets_capRelease : meets ({ hosted [{ rtype := 0x14, body := List.replicate 26 0 ++ [1] }] with caps := [(0, { recs := [{ num := 0, trig := { at' := 0, src := 0, unit := 0 }, pre := [], post := [] }] })] }) 0x0A05 gateCapRelease (plain 24576) = true := by decide
theorem test_meets_trStart : meets (hosted [zrec 0x16]) 0x0A06 gateTrStart (plain 61440) = true := by decide
theorem test_meets_trStop : meets (hosted [zrec 0x16]) 0x0A07 gateTrStop (plain 61440) = true := by decide
theorem test_meets_trFlush : meets (hosted [zrec 0x16]) 0x0A08 gateTrFlush (plain 61440) = true := by decide
theorem test_meets_logRead : meets (hosted []) 0x0A09 gateLogRead (withBuf 61440 [0, 0, 0, 0, 0, 0, 0, 0, 8, 0, 0, 0] []) = true := by decide
theorem test_meets_logClear : meets (hosted []) 0x0A0A gateLogClear (plain 61440) = true := by decide
theorem test_meets_logCatalogue : meets (hosted []) 0x0A0B gateLogCatalogue (withBuf 61440 [0, 0, 0, 0, 0, 0, 0, 0, 0, 0, 1, 0] []) = true := by decide +kernel
theorem test_meets_recFreeze : meets (hosted []) 0x0A0C gateRecFreeze (plain 61440) = true := by decide
theorem test_meets_recThaw : meets ({ hosted [] with
      log := { (hosted []).log with frozen := true } }) 0x0A0D gateRecThaw (plain 61440) = true := by decide
theorem test_meets_logicLoad : meets (hosted []) 0x0B01 gateLogicLoad (withBuf 28672 [0, 0, 0, 0, 0, 0, 0, 0, 92, 0, 0, 0] [1, 0, 0, 0, 0, 0, 0, 0, 1, 0, 0, 0, 0, 0, 0, 0, 1, 0, 1, 0, 0, 0, 0, 0, 0, 0, 0, 0, 23, 64, 254, 163, 0, 0, 0, 0, 0, 0, 0, 0, 0, 0, 0, 0, 0, 0, 0, 0, 0, 0, 0, 0, 0, 0, 0, 0, 0, 0, 0, 0, 0, 0, 0, 0, 0, 0, 0, 0, 0, 0, 0, 0, 0, 0, 0, 0, 0, 0, 0, 0, 0, 0, 0, 0, 0, 0, 0, 0, 0, 0, 0, 101]) = true := by decide +kernel
theorem test_meets_logicSeal : meets ({ hosted [{ rtype := 0x17, body := [0, 0, 1] }] with
      logic := { (hosted []).logic with engines := [(0, { prog := { written := true } })] } }) 0x0B02 gateLogicSeal (plain 28672) = true := by decide
theorem test_meets_logicMode : meets (hosted []) 0x0B03 gateLogicMode (plain 28672) = true := by decide
theorem test_meets_logicStep : meets ({ hosted [{ rtype := 0x17, body := [0, 0, 1] }] with
      logic := { (hosted []).logic with engines := [(0, { mode := .hold })] } }) 0x0B04 gateLogicStep (withP 28672 [1, 0]) = true := by decide
theorem test_meets_logicBreak : meets ({ hosted [{ rtype := 0x17, body := [0, 0, 1] }] with
      logic := { (hosted []).logic with engines := [(0, {})] } }) 0x0B05 gateLogicBreak (plain 28672) = true := by decide
theorem test_meets_logicForce : meets ({ hosted [] with
      cfg := { (hosted []).cfg with points := [(16777216, { rslot := 0, addr := 16777216, typ := 5, cyclic := true, group := 0, islot := 0, writer := 3, wunit := 0 })] } }) 0x0B06 gateLogicForce (withP 61440 [0, 0, 0, 1]) = true := by decide
theorem test_meets_logicUnforce : meets ({ { hosted [] with
      cfg := { (hosted []).cfg with points := [(16777216, { rslot := 0, addr := 16777216, typ := 5, cyclic := true, group := 0, islot := 0, writer := 3, wunit := 0 })] } } with
      img := { (hosted []).img with forces := [(16777216, { value := 0, shadow := 0 })] } }) 0x0B07 gateLogicUnforce (withP 61440 [0, 0, 0, 1]) = true := by decide
theorem test_meets_logicForceClear : meets (hosted []) 0x0B08 gateLogicForceClear (plain 61440) = true := by decide
theorem test_meets_logicForceList : meets (hosted []) 0x0B09 gateLogicForceList (withBuf 61440 [0, 0, 0, 0, 0, 0, 0, 0, 0, 0, 0, 0] []) = true := by decide
theorem test_meets_logicReadState : meets (hosted []) 0x0B0A gateLogicReadState (withBuf 28672 [0, 0, 0, 0, 0, 0, 0, 0, 0, 1, 0, 0] []) = true := by decide
theorem test_meets_spinLoad : meets (hosted []) 0x0C01 gateSpinLoad (withBuf 53248 [0, 0, 0, 0, 0, 0, 0, 0, 20, 0, 0, 0] [2, 0, 0, 0, 1, 0, 0, 0, 0, 0, 0, 0, 125, 124, 208, 49, 0, 0, 0, 248]) = true := by decide +kernel
theorem test_meets_spinSeal : meets ({ hosted [] with spins := [(0, { prog := { written := true } })] }) 0x0C02 gateSpinSeal (plain 53248) = true := by decide
theorem test_meets_spinReadState : meets (hosted []) 0x0C03 gateSpinReadState (withBuf 53248 [0, 0, 0, 0, 0, 0, 0, 0, 128, 0, 0, 0] []) = true := by decide
theorem test_meets_canSend : meets ({ hosted [{ rtype := 0x18, body := [0, 1] }, { rtype := 0x19, body := [0, 0, 2] ++ List.replicate 10 0 ++ [1] }] with cans := [(0, { st := .active })] }) 0x0D01 gateCanSend (withP 32768 [0, 1]) = true := by decide
theorem test_meets_canRecover : meets ({ hosted [zrec 0x18] with cans := [(0, { st := .busOff })] }) 0x0D02 gateCanRecover (plain 32768) = true := by decide
theorem test_meets_canRateDetect : meets ({ hosted [{ rtype := 0x18, body := [0, 2] }] with cans := [(0, { st := .active, listen := true })] }) 0x0D03 gateCanRateDetect (plain 32768) = true := by decide
theorem test_meets_canRingRead : meets (hosted [zrec 0x18]) 0x0D04 gateCanRingRead (withBuf 32768 [0, 0, 0, 0, 0, 0, 0, 0, 0, 0, 0, 0] []) = true := by decide
theorem test_meets_safeStatus : meets (hosted []) 0x0E01 gateSafeStatus (withBuf 61440 [0, 0, 0, 0, 0, 0, 0, 0, 0, 4, 0, 0] []) = true := by decide
theorem test_meets_safeDiagRead : meets (hosted []) 0x0E02 gateSafeDiagRead (withBuf 61440 [0, 0, 0, 0, 0, 0, 0, 0, 0, 16, 0, 0] []) = true := by decide
theorem test_meets_safeConfigStage : meets (hosted []) 0x0E03 gateSafeConfigStage (withBuf 61440 [0, 0, 0, 0, 0, 0, 0, 0, 4, 0, 0, 0] [0, 0, 0, 0]) = true := by decide
theorem test_meets_safeConfigAccept : meets ({ hosted [] with
      safe := { (hosted []).safe with staged := some ([], 0) } }) 0x0E04 gateSafeConfigAccept (plain 61440) = true := by decide
theorem test_meets_safeConnRestart : meets ({ hosted [] with
      safe := { (hosted []).safe with recs := [(0x23, [])], conns := [(0, { st := .fault })] } }) 0x0E05 gateSafeConnRestart (plain 61440) = true := by decide
theorem test_meets_redStatus : meets (hosted []) 0x0F01 gateRedStatus (withBuf 61440 [0, 0, 0, 0, 0, 0, 0, 0, 128, 0, 0, 0] []) = true := by decide
theorem test_meets_redSwitch : meets ({ hosted [] with
      red := { (hosted []).red with role := .active, partner := some { role := .standby } } }) 0x0F02 gateRedSwitch (plain 61440) = true := by decide
theorem test_meets_redRevertInhibit : meets (hosted []) 0x0F03 gateRedRevertInhibit (plain 61440) = true := by decide
theorem test_meets_hopFlag : meets (hosted []) 0x1101 gateHopFlag (withP 61440 [0, 0, 0, 0, 1, 0, 0, 0]) = true := by decide
theorem test_meets_hopCancel : meets (hosted []) 0x1102 gateHopCancel (plain 61440) = true := by decide
theorem test_meets_hopTraceRead : meets (hosted []) 0x1103 gateHopTraceRead (withBuf 61440 [0, 0, 0, 0, 0, 0, 0, 0, 16, 0, 0, 0] []) = true := by decide
theorem test_meets_extLoad : meets (hosted []) 0x1104 gateExtLoad (withBuf 61440 [0, 0, 0, 0, 0, 0, 0, 0, 32, 0, 0, 0] [3, 0, 0, 0, 0, 0, 0, 0, 0, 0, 0, 0, 0, 0, 0, 0, 0, 0, 0, 0, 0, 0, 0, 0, 0, 0, 0, 0, 0, 0, 0, 0]) = true := by decide
theorem test_meets_extStart : meets (hosted [{ rtype := 0x30, body := [128, 0, 1] }]) 0x1105 gateExtStart (withP 61440 [128, 0]) = true := by decide
theorem test_meets_extStop : meets (hosted [{ rtype := 0x30, body := [128, 0, 1] }]) 0x1106 gateExtStop (withP 61440 [255, 255]) = true := by decide
theorem test_meets_hopReadState : meets (hosted []) 0x1107 gateHopReadState (withBuf 61440 [0, 0, 0, 0, 0, 0, 0, 0, 64, 0, 0, 0] []) = true := by decide
theorem test_meets_updStage : meets (hosted []) 0x1001 gateUpdStage (withBuf 61440 [0, 0, 0, 0, 0, 0, 0, 0, 160, 0, 0, 0] [83, 80, 70, 87, 1, 0, 64, 114, 176, 4, 1, 0, 0, 0, 0, 0, 0, 0, 0, 0, 160, 0, 0, 0, 0, 0, 0, 0, 160, 0, 0, 0, 0, 0, 0, 0, 0, 0, 0, 0, 0, 0, 0, 0, 0, 0, 0, 0, 0, 0, 0, 0, 0, 0, 0, 0, 0, 0, 0, 0, 0, 0, 0, 0, 1, 0, 0, 0, 0, 0, 0, 0, 0, 0, 0, 0, 0, 0, 0, 0, 0, 0, 0, 0, 0, 0, 0, 0, 0, 0, 0, 0, 0, 0, 0, 0, 0, 0, 0, 0, 0, 0, 0, 0, 0, 0, 0, 0, 0, 0, 0, 0, 0, 0, 0, 0, 0, 0, 0, 0, 0, 0, 0, 0, 0, 0, 0, 0, 0, 0, 0, 0, 0, 0, 0, 0, 0, 0, 0, 0, 0, 0, 0, 0, 0, 0, 0, 0, 0, 0, 0, 0, 0, 0, 0, 0, 0, 0, 0, 0]) = true := by decide +kernel
theorem test_meets_updArm : meets ({ hosted [] with
      sys := { (hosted []).sys with upd := .staged } }) 0x1002 gateUpdArm (withP 61440 [2]) = true := by decide +kernel
theorem test_meets_updCancel : meets ({ hosted [] with
      sys := { (hosted []).sys with upd := .staged } }) 0x1003 gateUpdCancel (plain 61440) = true := by decide
theorem test_meets_updCommit : meets ({ hosted [] with
      sys := { (hosted []).sys with upd := .trial } }) 0x1004 gateUpdCommit (plain 61440) = true := by decide
theorem test_meets_updStatus : meets (hosted []) 0x1005 gateUpdStatus (withBuf 61440 [0, 0, 0, 0, 0, 0, 0, 0, 0, 1, 0, 0] []) = true := by decide
theorem test_meets_capTrigger : meets ({ hosted [{ rtype := 0x14, body := List.replicate 26 0 ++ [1] }] with caps := [(0, { st := .armed })] }) 0x0A03 gateCapTrigger (plain 24576) = true := by decide

/-- A smallest package: a header and one empty section of KIND 2. -/
def smallPkg : Bytes := [65, 76, 65, 81, 1, 0, 128, 0, 160, 0, 0, 0, 0, 0, 0, 0, 7, 0, 0, 0, 0, 0, 0, 0, 64, 114, 0, 0, 1, 0, 0, 0, 128, 0, 0, 0, 0, 0, 0, 0, 0, 0, 0, 0, 0, 0, 0, 0, 0, 0, 0, 0, 0, 0, 0, 0, 0, 0, 0, 0, 0, 0, 0, 0, 0, 0, 0, 0, 0, 0, 0, 0, 0, 0, 0, 0, 0, 0, 0, 0, 0, 0, 0, 0, 0, 0, 0, 0, 0, 0, 0, 0, 0, 0, 0, 0, 0, 0, 0, 0, 0, 0, 0, 0, 0, 0, 0, 0, 0, 0, 0, 0, 0, 0, 0, 0, 0, 0, 0, 0, 0, 0, 0, 0, 37, 32, 61, 49, 2, 0, 0, 0, 0, 0, 0, 0, 160, 0, 0, 0, 0, 0, 0, 0, 0, 0, 0, 0, 0, 0, 0, 0, 0, 0, 0, 0, 0, 0, 0, 0]

/-- CRC-32C of its header, in parts. -/
theorem pkg_crc_0 : ([65, 76, 65, 81, 1, 0, 128, 0, 160, 0, 0, 0, 0, 0, 0, 0] : Bytes).foldl crcByte 0xffffffff#32 = 0x7dc60ff0#32 := by decide +kernel
theorem pkg_crc_1 : ([7, 0, 0, 0, 0, 0, 0, 0, 64, 114, 0, 0, 1, 0, 0, 0] : Bytes).foldl crcByte 0x7dc60ff0#32 = 0x9861e120#32 := by decide +kernel
theorem pkg_crc_2 : ([128, 0, 0, 0, 0, 0, 0, 0, 0, 0, 0, 0, 0, 0, 0, 0] : Bytes).foldl crcByte 0x9861e120#32 = 0xabc117aa#32 := by decide +kernel
theorem pkg_crc_3 : ([0, 0, 0, 0, 0, 0, 0, 0, 0, 0, 0, 0, 0, 0, 0, 0] : Bytes).foldl crcByte 0xabc117aa#32 = 0xede4f92d#32 := by decide +kernel
theorem pkg_crc_4 : ([0, 0, 0, 0, 0, 0, 0, 0, 0, 0, 0, 0, 0, 0, 0, 0] : Bytes).foldl crcByte 0xede4f92d#32 = 0x904e9390#32 := by decide +kernel
theorem pkg_crc_5 : ([0, 0, 0, 0, 0, 0, 0, 0, 0, 0, 0, 0, 0, 0, 0, 0] : Bytes).foldl crcByte 0x904e9390#32 = 0x41fc8c98#32 := by decide +kernel
theorem pkg_crc_6 : ([0, 0, 0, 0, 0, 0, 0, 0, 0, 0, 0, 0, 0, 0, 0, 0] : Bytes).foldl crcByte 0x41fc8c98#32 = 0x4e518f6f#32 := by decide +kernel
theorem pkg_crc_7 : ([0, 0, 0, 0, 0, 0, 0, 0, 0, 0, 0, 0] : Bytes).foldl crcByte 0x4e518f6f#32 = 0xcec2dfda#32 := by decide +kernel
theorem pkg_crc : crc32c (slice smallPkg 0 124) = 826089509 := by
  have h : slice smallPkg 0 124 = [65, 76, 65, 81, 1, 0, 128, 0, 160, 0, 0, 0, 0, 0, 0, 0] ++ [7, 0, 0, 0, 0, 0, 0, 0, 64, 114, 0, 0, 1, 0, 0, 0] ++ [128, 0, 0, 0, 0, 0, 0, 0, 0, 0, 0, 0, 0, 0, 0, 0] ++ [0, 0, 0, 0, 0, 0, 0, 0, 0, 0, 0, 0, 0, 0, 0, 0] ++ [0, 0, 0, 0, 0, 0, 0, 0, 0, 0, 0, 0, 0, 0, 0, 0] ++ [0, 0, 0, 0, 0, 0, 0, 0, 0, 0, 0, 0, 0, 0, 0, 0] ++ [0, 0, 0, 0, 0, 0, 0, 0, 0, 0, 0, 0, 0, 0, 0, 0] ++ [0, 0, 0, 0, 0, 0, 0, 0, 0, 0, 0, 0] := by decide +kernel
  rw [crc32c, h]
  simp only [List.foldl_append, pkg_crc_0, pkg_crc_1, pkg_crc_2, pkg_crc_3, pkg_crc_4, pkg_crc_5, pkg_crc_6, pkg_crc_7]
  decide +kernel
theorem pkg_head : headBad smallPkg 160 false = none := by
  unfold headBad
  rw [pkg_crc]
  repeat rw [if_neg (by decide +kernel)]
def pkgHdr : CmdHdr := withBuf 61440 [0, 0, 0, 0, 0, 0, 0, 0, 160, 0, 0, 0] smallPkg
theorem parse_ok (b : Bytes) (len : Nat) (g m : Bool) (h1 : headBad b len m = none) (h2 : ((List.range (le b 28 2)).findSome? (sectionBad b)).orElse (fun _ => wholeBad b) = none)
    (h3 : (List.range (le b 28 2)).filter (fun i => secKind b i == 1) = []) (h4 : ¬ ((byteAt b 27).testBit 1 = true ∧ (!g) = true)) :
    ∃ p, parsePackage b len g m = .ok p := by
  have h5 : concatRecs [] = .ok [] := rfl
  have h6 : dupRec [] = none := rfl
  simp only [parsePackage, h1, h2, h3, List.map_nil, h5, h6, if_neg h4]
  exact ⟨_, rfl⟩
theorem pkg_ok : ∃ p, parsePackage smallPkg 160 false false = .ok p :=
  parse_ok _ _ _ _ pkg_head (by decide +kernel) (by decide +kernel) (by decide +kernel)
theorem cfgLoad_passes (h : CmdHdr) (s : State) (p : Package) (hb : firstBad [needSys h, needBuf h 0, zeroTail h 12] = none)
    (hp : parsePackage (h.data.take h.bufLen) h.bufLen (s.pkgSigned h) s.signedOnly = .ok p) : (gateCfgLoad h s).passes = true := by
  simp only [gateCfgLoad, hb, hp]
  rfl
theorem fetched_id : State.asFetched (hosted []) pkgHdr = pkgHdr := rfl
theorem test_meets_cfgLoad : meets (hosted []) 0x0201 gateCfgLoad pkgHdr = true := by
  have ha : (hosted []).accepts 0x0201 pkgHdr = true := by decide
  have hd : pkgHdr.data.take pkgHdr.bufLen = smallPkg := by decide +kernel
  have hl : pkgHdr.bufLen = 160 := by decide
  have hs : (State.take (hosted []) pkgHdr).signedOnly = false := by decide
  have hg : (State.take (hosted []) pkgHdr).pkgSigned pkgHdr = false := rfl
  have ⟨p, hp⟩ := pkg_ok
  rw [meets, ha, fetched_id, cfgLoad_passes _ _ p (by decide) (by rw [hd, hl, hs, hg]; exact hp)]
  rfl

/-- A running module, clocks on. -/
def on0 : State := hosted []

/-- Engine 0 with a run open at an instruction word of this opcode. -/
def runOf (op : Byte) : Run := { task := 0, cyclic := true, group := 0, tRun := 0, code := List.replicate 64 0 ++ [0, 0, 0, op] }
def logicAt (op : Byte) : State := { on0 with logic := { on0.logic with engines := [(0, { mode := .run, run := some (runOf op) })] } }

/-- Program 0 with a window in progress at an instruction word of this opcode. -/
def spinRunning (op : Nat) : State :=
  { on0 with spins := [(0, { window := some { bytes := [], lmt := 0, size := 0 }, prog := { fg := [2, 0, 0, 0, 1, 0] ++ List.replicate 10 0 ++ [0, 0, 0, BitVec.ofNat 8 (4 * op)] } })] }

theorem meets_stepRunsFront : ∃ (s : State) (c : Instr) (cs : List Instr), s.pending = c :: cs :=
  ⟨{ on0 with pending := [.resetPin 0, .runtimeWatchdog 1] }, _, _, rfl⟩
theorem meets_emptyQueueIdles : State.reset.pending = [] ∧ step State.reset = .next State.reset := ⟨rfl, rfl⟩
theorem meets_nothingFollows : on0.still = true ∧ on0.red.role = State.reset.red.role := by decide
theorem meets_rows : on0.sys.clocksOn = true ∧ on0.sys.st ≠ .faultHalt ∧ State.reset.sys.clocksOn = false := by decide
theorem meets_logic_bits : ∀ op ∈ [0x00, 0x01, 0x02, 0x03, 0x04, 0x05, 0x06, 0x07, 0x08, 0x09, 0x0A, 0x0B, 0x0C, 0x0D, 0x0E, 0x10, 0x11, 0x12, 0x13, 0x14, 0x15],
    (logicAt (BitVec.ofNat 8 op)).opens 0 op 0 (runOf (BitVec.ofNat 8 op)) := by
  unfold State.opens
  decide
theorem meets_logic_words : ∀ op ∈ [0x20, 0x21, 0x22, 0x23, 0x24, 0x28, 0x29, 0x2A, 0x2B, 0x2C, 0x30, 0x31, 0x32, 0x33, 0x34, 0x38, 0x39, 0x3A, 0x3B, 0x3C, 0x3D, 0x3E,
    0x40, 0x41, 0x42, 0x43, 0x44, 0x45, 0x48, 0x49, 0x4A, 0x4B, 0x4C, 0x4D, 0x50, 0x51, 0x52, 0x53, 0x54, 0x55, 0x56, 0x57, 0x60, 0x61, 0x62, 0x63, 0x64, 0x65, 0x66, 0x67],
    (logicAt (BitVec.ofNat 8 op)).opens 0 op 0 (runOf (BitVec.ofNat 8 op)) := by
  unfold State.opens
  decide
theorem meets_spindle : ∀ op ∈ [0x00, 0x01, 0x02, 0x03, 0x04, 0x05, 0x06, 0x07, 0x08, 0x09, 0x0A, 0x0B, 0x0C, 0x0D, 0x0E, 0x10, 0x11, 0x12, 0x13, 0x14, 0x15, 0x16, 0x17, 0x18,
    0x20, 0x21, 0x22, 0x23, 0x24, 0x25, 0x30, 0x31, 0x32, 0x33, 0x34, 0x35, 0x36, 0x37, 0x38, 0x39, 0x3C, 0x3E],
    (spinRunning op).executes 0 op 0 { bytes := [], lmt := 0, size := 0 } := by
  unfold State.executes
  decide
theorem meets_queueKept : ∃ t, step { State.reset with pending := [.fabricFault 0] } = .next t := ⟨_, rfl⟩
theorem meets_haltBlocked : ∃ t, (State.haltBlocked { State.reset with sys := { State.reset.sys with st := .faultHalt }, red := { State.reset.red with role := .blocked } }) = true ∧
    step { State.reset with sys := { State.reset.sys with st := .faultHalt }, red := { State.reset.red with role := .blocked } } = .next t := ⟨_, by decide, rfl⟩
theorem meets_registerAccess : on0.sys.clocksOn = true ∧ on0.host.locked = false ∧
    (∃ s : State, s.sys.clocksOn = true ∧ s.host.locked = true ∧ (0x20 : Nat) ≠ 0x0C ∧ (8 : Nat) ≠ 4) ∧
    (1 ≤ (1#32).toNat % 128 ∧ (64#32).toNat % 128 ≤ 64) ∧ ¬ (1 ≤ (0#32).toNat % 128 ∧ (0#32).toNat % 128 ≤ 64) ∧ ¬ (1 ≤ (65#32).toNat % 128 ∧ (65#32).toNat % 128 ≤ 64) ∧
    ¬ ((9#32).toNat % 65536 = 0 ∨ (10 ≤ (9#32).toNat % 65536 ∧ (9#32).toNat % 65536 ≤ 60000)) ∧
    ¬ ((60001#32).toNat % 65536 = 0 ∨ (10 ≤ (60001#32).toNat % 65536 ∧ (60001#32).toNat % 65536 ≤ 60000)) :=
  ⟨rfl, rfl, ⟨{ on0 with host := { on0.host with locked := true } }, rfl, rfl, by decide, by decide⟩, by decide⟩
theorem meets_cogRepeats : ({} : Cog).target < 2 ^ 96 ∧ cogRepeats [] = false ∧ cogRepeats [0, 0, 0, 0, 0, 2] = true ∧ cogCount [0, 0, 0, 0, 0, 2] = 0 ∧
    (cogCount ([0, 0, 0, 0, 0, 2] ++ List.replicate 14 0 ++ [3]) = ({ used := 2 } : Cog).used + 1 ∧ cogRepeats ([0, 0, 0, 0, 0, 2] ++ List.replicate 14 0 ++ [3]) = true) ∧
    ({ used := 0 } : Cog).used + 2 < cogCount ([0, 0, 0, 0, 0, 2] ++ List.replicate 14 0 ++ [3]) := by decide

/-- Sources 448 and 449 of priorities 5 and 4, both pending at core 0 whose threshold is 0. -/
def twoSources : State :=
  { hosted [{ rtype := 0x31, body := [192, 1, 5, 1] }, { rtype := 0x31, body := [193, 1, 4, 1] }] with
    hop := { on0.hop with sources := [(448, { pending := true }), (449, { pending := true })], cores := [(0, { threshold := 0 })] } }
theorem meets_claim : SMap.sorted twoSources.hop.sources = true ∧ (twoSources.tick 0).delivers 0 448 ∧ (twoSources.tick 0).delivers 0 449 ∧
    (twoSources.tick 0).srcPrio 449 < (twoSources.tick 0).srcPrio 448 ∧ ∀ n, ¬ (on0.tick 0).delivers 0 n := by
  refine ⟨by decide, ⟨{ pending := true }, by decide⟩, ⟨{ pending := true }, by decide⟩, by decide, ?_⟩
  rintro n ⟨x, hx, -⟩
  cases hx
def withSource (n : Nat) (x : EcSource) : State := { on0 with hop := { on0.hop with sources := [(n, x)] } }
theorem meets_edges : (((withSource 448 {}).tick 0).hop.sources.getD 448 {}).claimed = none ∧ (((withSource 479 { pending := true }).tick 0).hop.sources.getD 479 {}).pending = true ∧
    (((withSource 1 { claimed := some 0 }).tick 0).hop.sources.getD 1 {}).again = false ∧ (((withSource 383 { claimed := some 7, again := true }).tick 0).hop.sources.getD 383 {}).again = true ∧
    (withSource 1 {}).sys.st ≠ .faultHalt ∧ (384 ≤ (384 : Nat) ∧ (447 : Nat) < 448 ∧ ((withSource 384 {}).tick 0).dioEdge 384 true = false) ∧
    ((hosted [{ rtype := 0x31, body := [128, 1, 5, 16] }]).tick 0).dioEdge 384 true = true ∧ (479 : Nat) < 480 ∧ (448 : Nat) % 512 = 448 ∧ (447 : Nat) % 512 = 447 := by decide

/-- A loop record: OUT_MIN -1, OUT_MAX 1, I_MIN -1, I_MAX 1. -/
def loopRecord : Bytes := List.replicate 66 0 ++ [255, 255, 1, 0, 255, 255, 1, 0]
def loopInput (m : LoopMode) (bad held : Bool) : LoopIn := { mode := m, pv := 40000, pvBad := bad, src := 0, ffv := 0, trk := 0, man := 0, held := held }
theorem meets_loopRanges : lpOutMin loopRecord ≤ lpOutMax loopRecord ∧ lpQ loopRecord 70 ≤ lpQ loopRecord 72 ∧ lpQ loopRecord 70 * 32768 ≤ ({} : Loop).i ∧
    ({} : Loop).i ≤ lpQ loopRecord 72 * 32768 ∧ -65536 ≤ ({ trim := -65536 } : Loop).trim ∧ ({ trim := 65535 } : Loop).trim ≤ 65535 ∧
    (loopInput .auto false true).mode = .auto ∧ (loopInput .auto true false).pvBad = true ∧ (loopInput .auto false true).held = true ∧ (loopInput .auto true false).old = none ∧
    ({ loopInput .track false false with keep := true } : LoopIn).keep = true ∧ (loopInput .track false false).keep = false ∧ (loopInput .manual false false).mode ≠ .disabled := by decide
theorem meets_loopLimited : (loopRun loopRecord {} (loopInput .manual false false)).lp.u ≤ lpOutMax loopRecord := by decide
theorem meets_setpointRamp : (0 ≤ (32767 : Int) * 65536 - (-2147483648) ∧ (-32768 : Int) * 65536 - 2147483647 ≤ 0) ∧
    spLimit 0 100 0 0 = 6553600 ∧ spLimit 0 100 65536 0 = 65536 ∧ spLimit 0 (-100) 0 65536 = -65536 := by decide
theorem meets_currentScaling : ({} : ClChan).zero < ({} : ClChan).span ∧ leS (List.replicate 18 0 ++ [255, 127]) 16 2 < leS (List.replicate 18 0 ++ [255, 127]) 18 2 ∧
    leS (List.replicate 18 0 ++ [255, 127]) 18 2 = 32767 ∧ ({ raw := 3600 } : ClChan).cls = .ok ∧ ({ raw := 21000 } : ClChan).thermal = false ∧
    selKind [0, 3] 1 = 3 := by decide
def withCl (c : ClChan) : State := { on0 with ana := { on0.ana with cls := [(0, c)] } }
theorem meets_currentLimits : (withCl {}).drives = true ∧ (withCl {}).isDis (uCl 0) = false ∧ ((withCl {}).cl 0).timedOut = false ∧
    ((withCl { timedOut := true }).cl 0).timedOut = true ∧ clFlag [0, 0, 0, 1] 0 = true ∧ clFlag [] 0 = false ∧ clFlag [0, 0, 0, 2] 1 = true := by decide
theorem meets_fieldOutputsOff : on0.ana.fieldLow = false ∧ ({ on0 with ana := { on0.ana with fieldLow := true } } : State).ana.fieldLow = true ∧
    (State.dio { on0 with ana := { on0.ana with dios := [(63, { on := true })] } } 63).on = true ∧ (on0.dio 0).on = false := by decide
def onPort (c : CanPort) : State := { hosted [{ rtype := 0x18, body := [0, 1] }] with cans := [(0, c)] }
theorem meets_canErrorStates : ((onPort { st := .active, integrating := false }).can 0).listen = (onPort { st := .active, integrating := false }).canListen 0 ∧
    (onPort { st := .active, integrating := false }).canOn 0 = true ∧ ((onPort { st := .passive, tec := 128, integrating := false }).can 0).st = .passive ∧
    (onPort { st := .passive, tec := 128, integrating := false }).canOn 0 = true ∧ byteAt ((onPort {}).canRec 0) 1 ≠ 3 ∧ byteAt ((hosted [{ rtype := 0x18, body := [0, 3] }]).canRec 0) 1 = 3 ∧
    (CanRxError.mk false true).res = true ∧ canFlag [0, 1, 64] 6 = true ∧ canFlag ((onPort {}).canRec 0) 6 = false ∧ ((onPort { st := .recovering }).can 0).st = .recovering ∧ (on0.can 3).st ≠ .recovering := by decide
theorem meets_faultHaltEntered : on0.sys.st = .running ∧ (1 ≤ (0xB : Nat) ∧ (0xB : Nat) ≤ 0xB) ∧ State.reset.sys.st = .boot ∧ on0.red.role = .single ∧
    (State.setRole { on0 with red := { on0.red with role := .active } } .active).red.role ≠ .single ∧ SMap.get? ([(15, {})] : SMap FastOut) 15 = some {} := by decide
def paired (r : Role) (e : Nat) (copying : Bool) : State := { on0 with red := { on0.red with role := r, epoch := e, copying := copying } }
theorem meets_pairRoles : (paired .syncing 0 true).red.copying = true ∧ (paired .standby 0 false).red.role ≠ .active ∧
    ((1 ≤ ((({ role := .active, epoch := 126 } : Partner).epoch : Int) - (paired .active 255 false).red.epoch) % 256) ∧
      ((({ role := .active, epoch := 126 } : Partner).epoch : Int) - (paired .active 255 false).red.epoch) % 256 ≤ 127) ∧
    ((paired .active 0 false).preferred 0 0 = false) ∧
    ¬ ((1 ≤ ((({ role := .active, epoch := 128 } : Partner).epoch : Int) - (paired .active 0 false).red.epoch) % 256) ∧
      ((({ role := .active, epoch := 128 } : Partner).epoch : Int) - (paired .active 0 false).red.epoch) % 256 ≤ 127) := by decide
def withNode (n : Node) : State :=
  { hosted [{ rtype := 0x0A, body := [1] }, { rtype := 0x08, body := [1, 0, 0, 0, 0, 0, 3] }] with net := { on0.net with nodes := [(1024, n)] } }
theorem meets_nodeLeaves : (withNode {}).nodeRec? 1 0 = some [1] ∧ nodeRecKey [1] = 1024 ∧ byteAt ((withNode {}).segRec 1) 6 = 3 ∧
    (((withNode { st := .operate, misses := 3 }).node 1024).misses = 3) ∧ ((withNode { misses := 2 }).node 1024).misses < 3 ∧
    ((withNode { st := .dropped }).node 1024).st = .dropped ∧ ((withNode { st := .dropped }).node 1024).droppedAt + le ((withNode {}).segRec 1) 12 4 * 1000000 ≤ (withNode {}).lmt ∧
    (withNode {}).drives = true ∧ ((withNode {}).node 1024).st ≠ .dropped := by decide
theorem meets_raceReferenced : (State.race { on0 with races := [(7, { refArmed := true })] } 7).refArmed = true ∧ (on0.race 0).refArmed = false := by decide
def heldState : State :=
  { hosted [{ rtype := 0x12, body := List.replicate 20 0 ++ [1] }, { rtype := 0x0E, body := [] }] with
    lmt := 3000000000, doms := [(0, { st := .locked })], mot := { on0.mot with axes := [(0, { st := .standstill })] }
    ana := { on0.ana with cls := [(0, { mode := 3 })] } }
theorem meets_expiriesHold : heldState.sys.restarting = false ∧ ((heldState.tick 0).dom 0).st = .locked ∧ ((heldState.tick 0).dom 0).lastSync + 3 * syncInterval ((heldState.tick 0).domRec 0) = (heldState.tick 0).lmt ∧
    ((heldState.tick 0).dom 1).st ≠ .locked ∧ (heldState.tick 0).rec? 0x0E 0 = some [] ∧ ((heldState.tick 0).axis 0).st = .standstill ∧
    ((heldState.tick 0).axis 0).restAt + le [] 16 2 * 1000000 ≤ (heldState.tick 0).lmt ∧ ((heldState.tick 0).axis 1).st ≠ .standstill ∧
    ((heldState.tick 0).cl 0).mode = 3 ∧ le ((heldState.tick 0).clRec 0) 20 4 ≠ 0 ∧ ((heldState.tick 0).cl 0).cmdAt + le ((heldState.tick 0).clRec 0) 20 4 * 1000 ≤ (heldState.tick 0).lmt ∧
    le ((heldState.tick 0).clRec 1) 20 4 = 0 := by decide
def recording (st : TrState) (bufs : List TrBuf) : State := { on0 with tr := [(15, { st := st })], host := { on0.host with trBufs := [(15, bufs)] } }
theorem meets_tailraceSpills : ((recording .running []).chan 15).st = .running ∧ trFree ((recording .running []).host.trBufs.getD 15 []) = 0 ∧
    (recording .running [{ addr := 0, len := 1 }]).host.dma = true ∧ 0 < trFree ((recording .running [{ addr := 0, len := 1 }]).host.trBufs.getD 15 []) ∧
    ((recording .draining []).chan 15).st = .draining ∧ ((recording .draining []).chan 15).spill = [] ∧ ((recording .running []).chan 0).st ≠ .draining := by decide
def frozenLog : State := { on0 with lmt := 10000000000, log := { on0.log with frozen := true } }
theorem meets_logFrozen : frozenLog.log.frozen = true ∧ frozenLog.log.reserve.length ≤ 256 ∧ (frozenLog.tick 0).log.frozenAt + (frozenLog.tick 0).freezeMax * 1000000000 = (frozenLog.tick 0).lmt ∧
    on0.log.frozen = false := by decide
def latching (n : Nat) : State :=
  { on0 with safe := { on0.safe with
      layer := .running
      recs := [(0x20, [0, 1, 0, 0, 0, 0, 0, 0, 244, 1])]
      a := { pairs := [(0, { count := n })] } } }
theorem meets_discrepancyLatches : (latching 2).safe.layer = .running ∧ byteAt ((sfRec? (latching 2).safe.recs 0x20 0).getD []) 1 = 1 ∧
    pairNd ((sfRec? (latching 2).safe.recs 0x20 0).getD []) = 2 ∧ ((latching 2).safe.a.pairs.getD 0 {}).count = 2 ∧ ((latching 2).safe.a.pairs.getD 0 {}).disc = false ∧
    ((latching 1).safe.a.pairs.getD 0 {}).count < 2 ∧ ((latching 1).safe.b.pairs.getD 0 {}).count < 2 := by decide
def sealing (next : Option (Nat × Bool)) : State := { on0 with lmt := 1000000, sys := { on0.sys with pfail := .sealing, bootNext := next } }
theorem meets_powerFailStops : on0.sys.pfail ≠ .sealing ∧ on0.sys.pfail = .ok ∧ (sealing none).sys.pfail = .sealing ∧ (sealing none).sys.pfailAt + 1000000 = ((sealing none).tick 0).lmt ∧
    (sealing none).sys.bootNext = none ∧ (sealing (some (0, false))).sys.bootNext = some (0, false) ∧ (16499 : Nat) < 16500 := by decide
theorem meets_clocksStopped : ∃ t, State.reset.sys.clocksOn = false ∧ exec (.fabricFault 0) State.reset = .next t := ⟨_, rfl, rfl⟩

/-! Worked examples of the spec. -/

-- 05_loops.md, R137: 2.5 and 0.005 as gains.
theorem test_gain_codes : gainAt [0x00, 0x50, 0x02, 0x00] 0 = ⟨0x5000, 2⟩ ∧ gainAt [0xEC, 0x51, 0x19, 0x00] 0 = ⟨0x51EC, -7⟩ := by decide
-- 05_loops.md, R140: race 0 at 3.2 m/s at half scale.
theorem test_rate_source : rateSrc 3355443 20971520 = 16384 := by decide
-- 05_loops.md, "Quire: one tension sample".
def tension : LoopOut :=
  loopRun (List.replicate 56 0 ++ [0, 0x40, 1, 0, 0, 0, 0, 128, 255, 127, 0, 128, 255, 127, 0, 128, 255, 127])
    { i := 98304000, spl := 9600 * 65536, base := 9600, coef := { fg := [0x00, 0x50, 2, 0, 0xEC, 0x51, 0x19, 0] ++ List.replicate 14 0 ++ [0, 128] ++ List.replicate 168 0 } }
    { mode := .auto, pv := 9440, pvBad := false, src := 9600, ffv := 0, trk := 0, man := 0 }
-- 02_races_and_time.md, "Worked evaluation".
theorem test_segment_position : segPos { ts := 1750000000000125000, dur := 125000, c0 := 1000000000, c1 := 14411518807586, c2 := 75557863726, c3 := 0, scale := 0, seq := 0, epoch := 0, dom := 0 } 100000 =
    1000005120 * 4294967296 + 0x28F5C28F := by decide
-- 07_motion.md, "Bolt: a target behind at full speed".
theorem test_axis_limits : cvV (320000 * 4294967296) = 1801439850948198 ∧ cvA (2560000 * 4294967296) = 288230376151 ∧ cvJ (51200000 * 4294967296) = 115292150 := by decide
-- 11_spindle_programs.md, "Quire: the tension qualifier": the fields of its first words.
theorem test_spindle_fields : (0x951C0024 / 67108864 = 0x25 ∧ fD 0x951C0024 = 4 ∧ fA 0x951C0024 = 7 ∧ sImm18 0x951C0024 = 36) ∧
    (0x09114000 / 67108864 = 0x02 ∧ fD 0x09114000 = 4 ∧ fA 0x09114000 = 4 ∧ fB 0x09114000 = 5) := by decide
theorem test_tension_sample : tension.e = 160 ∧ tension.lp.uAcc = 111437415 ∧ tension.lp.i = 98330215 ∧ tension.lp.u = 3401 := by decide
-- 17_hopper.md, R461: an edge while the clocks are stopped is pending after the boot.
theorem test_held_edge : (((ecHold 448 true State.reset).hop.atBoot).sources.getD 448 {}).pending = true ∧ State.reset.hop.atBoot.sources = [] := by decide

/-! Ill-formed commands. -/

theorem test_ill_formed_long_0 :
    (Instr.inputFrameReceive 0 1 0 (List.replicate 1501 0)).wf = false ∧
    (Instr.helloReceive 0 1 0 (List.replicate 1501 0)).wf = false ∧
    (Instr.bindAckReceive 0 1 0 (List.replicate 1501 0)).wf = false ∧
    (Instr.pageRspReceive 0 1 0 (List.replicate 1501 0)).wf = false ∧
    (Instr.oczonInvalidFrame 0 1 0 (List.replicate 1501 0)).wf = false ∧
    (Instr.pairHeartbeatReceive 0 0 (List.replicate 1501 0)).wf = false ∧
    (Instr.driveLinkUpstream 0 0 false (List.replicate 257 0)).wf = false ∧
    (Instr.remoteSegmentReceive 0 1 ({ src := 0, payload := List.replicate 1501 0 })).wf = false ∧
    (Instr.ptpSyncReceive 0 1 0 0 0 ({ values := [], frame := List.replicate 1519 0 })).wf = false ∧
    (Instr.ptpMessageReceive 0 1 0 0 ({ values := [], frame := List.replicate 1519 0 })).wf = false ∧
    (Instr.lldpReceive 0 1 ({ sub := 4, num := 0 }) ({ sub := 7, text := [], frame := List.replicate 1519 0 })).wf = false ∧
    (Instr.sweep 0 (List.replicate 641 0) [] true).wf = false := by simp only [Instr.wf, List.length_replicate]; decide

theorem test_ill_formed_0 :
    (Instr.logicRegulationReached 0 3 false).wf = false ∧
    (Instr.slotVerifyDone 0 9).wf = false ∧
    (Instr.loadDone 0 1).wf = false ∧
    (Instr.faultHaltEntry 0 65536 0).wf = false ∧
    (Instr.faultHaltEntry 0 0 65536).wf = false ∧
    (Instr.eccError 0 7 false 0 0).wf = false ∧
    (Instr.eccError 0 0 false 65536 0).wf = false ∧
    (Instr.powerFail 0 65536).wf = false ∧
    (Instr.powerRestored 0 3 false).wf = false ∧
    (Instr.groupCycleStart 0 9 0).wf = false ∧
    (Instr.groupCycleStart 0 0 8).wf = false ∧
    (Instr.nodeDrop 0 5 0).wf = false ∧
    (Instr.nodeDrop 0 0 0).wf = false ∧
    (Instr.nodeDrop 0 1 1024).wf = false ∧
    (Instr.groupCommit 0 9 0).wf = false ∧
    (Instr.groupCommit 0 0 8).wf = false := by decide

theorem test_ill_formed_1 :
    (Instr.groupOutputLaunch 0 9 0).wf = false ∧
    (Instr.groupOutputLaunch 0 0 8).wf = false ∧
    (Instr.encoderSample 0 20 0 0 false).wf = false ∧
    (Instr.encoderSample 0 0 32768 0 false).wf = false ∧
    (Instr.encoderSample 0 0 0 32768 false).wf = false ∧
    (Instr.ssiRead 0 20 0 false).wf = false ∧
    (Instr.ssiRead 0 0 1099511627776 false).wf = false ∧
    (Instr.indexCapture 0 8 0).wf = false ∧
    (Instr.raceHoldoverExpiry 0 8).wf = false ∧
    (Instr.segmentFit 0 8 0).wf = false ∧
    (Instr.segmentFrameLaunch 0 5).wf = false ∧
    (Instr.segmentFrameLaunch 0 0).wf = false ∧
    (Instr.cogAction 0 4096).wf = false ∧
    (Instr.groupPacingTimeout 0 9 0).wf = false ∧
    (Instr.groupPacingTimeout 0 0 8).wf = false ∧
    (Instr.bankCatchupDone 0 5 0).wf = false := by decide

theorem test_ill_formed_2 :
    (Instr.bankCatchupDone 0 0 16).wf = false ∧
    (Instr.ptpSyncTimeout 0 4).wf = false ∧
    (Instr.ptpSyncSend 0 5 0).wf = false ∧
    (Instr.ptpSyncSend 0 0 0).wf = false ∧
    (Instr.ptpSyncSend 0 1 4).wf = false ∧
    (Instr.inputFrameReceive 0 5 0 []).wf = false ∧
    (Instr.inputFrameReceive 0 0 0 []).wf = false ∧
    (Instr.inputFrameReceive 0 1 281474976710656 []).wf = false ∧
    (Instr.helloReceive 0 5 0 []).wf = false ∧
    (Instr.helloReceive 0 0 0 []).wf = false ∧
    (Instr.helloReceive 0 1 281474976710656 []).wf = false ∧
    (Instr.bindAckReceive 0 5 0 []).wf = false ∧
    (Instr.bindAckReceive 0 0 0 []).wf = false ∧
    (Instr.bindAckReceive 0 1 281474976710656 []).wf = false ∧
    (Instr.bindRetry 0 5 0).wf = false ∧
    (Instr.bindRetry 0 0 0).wf = false := by decide

theorem test_ill_formed_3 :
    (Instr.bindRetry 0 1 1024).wf = false ∧
    (Instr.pageRspReceive 0 5 0 []).wf = false ∧
    (Instr.pageRspReceive 0 0 0 []).wf = false ∧
    (Instr.pageRspReceive 0 1 281474976710656 []).wf = false ∧
    (Instr.pageReqRetry 0 5 0).wf = false ∧
    (Instr.pageReqRetry 0 0 0).wf = false ∧
    (Instr.pageReqRetry 0 1 1024).wf = false ∧
    (Instr.pagedSweep 0 5).wf = false ∧
    (Instr.pagedSweep 0 0).wf = false ∧
    (Instr.nodeReleaseTimeout 0 5 0).wf = false ∧
    (Instr.nodeReleaseTimeout 0 0 0).wf = false ∧
    (Instr.nodeReleaseTimeout 0 1 1024).wf = false ∧
    (Instr.portLinkLoss 0 5).wf = false ∧
    (Instr.portLinkLoss 0 0).wf = false ∧
    (Instr.opticsPresenceChange 0 5 false false).wf = false ∧
    (Instr.opticsPresenceChange 0 0 false false).wf = false := by decide

theorem test_ill_formed_4 :
    (Instr.oczonInvalidFrame 0 5 0 []).wf = false ∧
    (Instr.oczonInvalidFrame 0 0 0 []).wf = false ∧
    (Instr.oczonInvalidFrame 0 1 281474976710656 []).wf = false ∧
    (Instr.lldpSend 0 5).wf = false ∧
    (Instr.lldpSend 0 0).wf = false ∧
    (Instr.pairHeartbeatReceive 0 281474976710656 []).wf = false ∧
    (Instr.redPathSilence 0 2).wf = false ∧
    (Instr.fantailResultDue 0 3072).wf = false ∧
    (Instr.fantailEqUpdate 0 3072 0).wf = false ∧
    (Instr.fantailEqUpdate 0 0 4).wf = false ∧
    (Instr.fantailHeadroomUpdate 0 3072).wf = false ∧
    (Instr.fantailPlaceRecord 0 3072).wf = false ∧
    (Instr.evFtFrozen 0 3072).wf = false ∧
    (Instr.driveLinkUpstream 0 8 false []).wf = false ∧
    (Instr.axisHoldDelayExpiry 0 64).wf = false ∧
    (Instr.axisQuickStopRequest 0 64).wf = false := by decide

theorem test_ill_formed_5 :
    (Instr.timerTick 0 8).wf = false ∧
    (Instr.pwmPeriodStart 0 16).wf = false ∧
    (Instr.adcEntryEnd 0 4 []).wf = false ∧
    (Instr.clUpdate 0 32 0 0 0 0).wf = false ∧
    (Instr.clUpdate 0 0 2147483648 0 0 0).wf = false ∧
    (Instr.clFaultClass 0 32).wf = false ∧
    (Instr.clComplianceDetect 0 32).wf = false ∧
    (Instr.clCmdTimeout 0 32).wf = false ∧
    (Instr.clModeChangeDone 0 32).wf = false ∧
    (Instr.calAveragingDone 0 32).wf = false ∧
    (Instr.dioSample 0 18446744073709551616).wf = false ∧
    (Instr.dioOverload 0 64).wf = false ∧
    (Instr.dioAutoRestart 0 64).wf = false ∧
    (Instr.captureSample 0 16).wf = false ∧
    (Instr.captureGroupTrigger 0 16).wf = false ∧
    (Instr.spindleWindowRun 0 40).wf = false := by decide

theorem test_ill_formed_6 :
    (Instr.tailraceFlushTimeout 0 16).wf = false ∧
    (Instr.tailraceSpill 0 16).wf = false ∧
    (Instr.tailraceDrainDone 0 16).wf = false ∧
    (Instr.logicRunStart 0 8).wf = false ∧
    (Instr.leNop 8 0).wf = false ∧
    (Instr.leNop 0 16777216).wf = false ∧
    (Instr.leLd 8 0).wf = false ∧
    (Instr.leLd 0 16777216).wf = false ∧
    (Instr.leLdn 8 0).wf = false ∧
    (Instr.leLdn 0 16777216).wf = false ∧
    (Instr.leAnd 8 0).wf = false ∧
    (Instr.leAnd 0 16777216).wf = false ∧
    (Instr.leAndn 8 0).wf = false ∧
    (Instr.leAndn 0 16777216).wf = false ∧
    (Instr.leOr 8 0).wf = false ∧
    (Instr.leOr 0 16777216).wf = false := by decide

theorem test_ill_formed_7 :
    (Instr.leOrn 8 0).wf = false ∧
    (Instr.leOrn 0 16777216).wf = false ∧
    (Instr.leXor 8 0).wf = false ∧
    (Instr.leXor 0 16777216).wf = false ∧
    (Instr.leXorn 8 0).wf = false ∧
    (Instr.leXorn 0 16777216).wf = false ∧
    (Instr.leNot 8 0).wf = false ∧
    (Instr.leNot 0 16777216).wf = false ∧
    (Instr.leLdt 8 0).wf = false ∧
    (Instr.leLdt 0 16777216).wf = false ∧
    (Instr.lePsha 8 0).wf = false ∧
    (Instr.lePsha 0 16777216).wf = false ∧
    (Instr.lePsho 8 0).wf = false ∧
    (Instr.lePsho 0 16777216).wf = false ∧
    (Instr.lePshx 8 0).wf = false ∧
    (Instr.lePshx 0 16777216).wf = false := by decide

theorem test_ill_formed_8 :
    (Instr.lePop 8 0).wf = false ∧
    (Instr.lePop 0 16777216).wf = false ∧
    (Instr.leSt 8 0).wf = false ∧
    (Instr.leSt 0 16777216).wf = false ∧
    (Instr.leStn 8 0).wf = false ∧
    (Instr.leStn 0 16777216).wf = false ∧
    (Instr.leSet 8 0).wf = false ∧
    (Instr.leSet 0 16777216).wf = false ∧
    (Instr.leRst 8 0).wf = false ∧
    (Instr.leRst 0 16777216).wf = false ∧
    (Instr.leFp 8 0).wf = false ∧
    (Instr.leFp 0 16777216).wf = false ∧
    (Instr.leFn 8 0).wf = false ∧
    (Instr.leFn 0 16777216).wf = false ∧
    (Instr.leTon 8 0).wf = false ∧
    (Instr.leTon 0 16777216).wf = false := by decide

theorem test_ill_formed_9 :
    (Instr.leTof 8 0).wf = false ∧
    (Instr.leTof 0 16777216).wf = false ∧
    (Instr.leTp 8 0).wf = false ∧
    (Instr.leTp 0 16777216).wf = false ∧
    (Instr.leTpt 8 0).wf = false ∧
    (Instr.leTpt 0 16777216).wf = false ∧
    (Instr.leTrst 8 0).wf = false ∧
    (Instr.leTrst 0 16777216).wf = false ∧
    (Instr.leCtu 8 0).wf = false ∧
    (Instr.leCtu 0 16777216).wf = false ∧
    (Instr.leCtd 8 0).wf = false ∧
    (Instr.leCtd 0 16777216).wf = false ∧
    (Instr.leCres 8 0).wf = false ∧
    (Instr.leCres 0 16777216).wf = false ∧
    (Instr.leCld 8 0).wf = false ∧
    (Instr.leCld 0 16777216).wf = false := by decide

theorem test_ill_formed_10 :
    (Instr.leCpv 8 0).wf = false ∧
    (Instr.leCpv 0 16777216).wf = false ∧
    (Instr.leL 8 0).wf = false ∧
    (Instr.leL 0 16777216).wf = false ∧
    (Instr.leT 8 0).wf = false ∧
    (Instr.leT 0 16777216).wf = false ∧
    (Instr.leTc 8 0).wf = false ∧
    (Instr.leTc 0 16777216).wf = false ∧
    (Instr.leLi 8 0).wf = false ∧
    (Instr.leLi 0 16777216).wf = false ∧
    (Instr.leLih 8 0).wf = false ∧
    (Instr.leLih 0 16777216).wf = false ∧
    (Instr.leAdd 8 0).wf = false ∧
    (Instr.leAdd 0 16777216).wf = false ∧
    (Instr.leSub 8 0).wf = false ∧
    (Instr.leSub 0 16777216).wf = false := by decide

theorem test_ill_formed_11 :
    (Instr.leMul 8 0).wf = false ∧
    (Instr.leMul 0 16777216).wf = false ∧
    (Instr.leDiv 8 0).wf = false ∧
    (Instr.leDiv 0 16777216).wf = false ∧
    (Instr.leMod 8 0).wf = false ∧
    (Instr.leMod 0 16777216).wf = false ∧
    (Instr.leNeg 8 0).wf = false ∧
    (Instr.leNeg 0 16777216).wf = false ∧
    (Instr.leAbs 8 0).wf = false ∧
    (Instr.leAbs 0 16777216).wf = false ∧
    (Instr.leWand 8 0).wf = false ∧
    (Instr.leWand 0 16777216).wf = false ∧
    (Instr.leWor 8 0).wf = false ∧
    (Instr.leWor 0 16777216).wf = false ∧
    (Instr.leWxor 8 0).wf = false ∧
    (Instr.leWxor 0 16777216).wf = false := by decide

theorem test_ill_formed_12 :
    (Instr.leShl 8 0).wf = false ∧
    (Instr.leShl 0 16777216).wf = false ∧
    (Instr.leShr 8 0).wf = false ∧
    (Instr.leShr 0 16777216).wf = false ∧
    (Instr.leAsr 8 0).wf = false ∧
    (Instr.leAsr 0 16777216).wf = false ∧
    (Instr.leCeq 8 0).wf = false ∧
    (Instr.leCeq 0 16777216).wf = false ∧
    (Instr.leCne 8 0).wf = false ∧
    (Instr.leCne 0 16777216).wf = false ∧
    (Instr.leCgt 8 0).wf = false ∧
    (Instr.leCgt 0 16777216).wf = false ∧
    (Instr.leCge 8 0).wf = false ∧
    (Instr.leCge 0 16777216).wf = false ∧
    (Instr.leClt 8 0).wf = false ∧
    (Instr.leClt 0 16777216).wf = false := by decide

theorem test_ill_formed_13 :
    (Instr.leCle 8 0).wf = false ∧
    (Instr.leCle 0 16777216).wf = false ∧
    (Instr.leFadd 8 0).wf = false ∧
    (Instr.leFadd 0 16777216).wf = false ∧
    (Instr.leFsub 8 0).wf = false ∧
    (Instr.leFsub 0 16777216).wf = false ∧
    (Instr.leFmul 8 0).wf = false ∧
    (Instr.leFmul 0 16777216).wf = false ∧
    (Instr.leFdiv 8 0).wf = false ∧
    (Instr.leFdiv 0 16777216).wf = false ∧
    (Instr.leItof 8 0).wf = false ∧
    (Instr.leItof 0 16777216).wf = false ∧
    (Instr.leFtoi 8 0).wf = false ∧
    (Instr.leFtoi 0 16777216).wf = false ∧
    (Instr.leFclt 8 0).wf = false ∧
    (Instr.leFclt 0 16777216).wf = false := by decide

theorem test_ill_formed_14 :
    (Instr.leFcgt 8 0).wf = false ∧
    (Instr.leFcgt 0 16777216).wf = false ∧
    (Instr.leJmp 8 0).wf = false ∧
    (Instr.leJmp 0 16777216).wf = false ∧
    (Instr.leJc 8 0).wf = false ∧
    (Instr.leJc 0 16777216).wf = false ∧
    (Instr.leJnc 8 0).wf = false ∧
    (Instr.leJnc 0 16777216).wf = false ∧
    (Instr.leCall 8 0).wf = false ∧
    (Instr.leCall 0 16777216).wf = false ∧
    (Instr.leRet 8 0).wf = false ∧
    (Instr.leRet 0 16777216).wf = false ∧
    (Instr.leEnd 8 0).wf = false ∧
    (Instr.leEnd 0 16777216).wf = false ∧
    (Instr.leHflag 8 0).wf = false ∧
    (Instr.leHflag 0 16777216).wf = false := by decide

theorem test_ill_formed_15 :
    (Instr.leEvt 8 0).wf = false ∧
    (Instr.leEvt 0 16777216).wf = false ∧
    (Instr.spinNop 40 0).wf = false ∧
    (Instr.spinNop 0 67108864).wf = false ∧
    (Instr.spinAdd 40 0).wf = false ∧
    (Instr.spinAdd 0 67108864).wf = false ∧
    (Instr.spinSub 40 0).wf = false ∧
    (Instr.spinSub 0 67108864).wf = false ∧
    (Instr.spinAnd 40 0).wf = false ∧
    (Instr.spinAnd 0 67108864).wf = false ∧
    (Instr.spinOr 40 0).wf = false ∧
    (Instr.spinOr 0 67108864).wf = false ∧
    (Instr.spinXor 40 0).wf = false ∧
    (Instr.spinXor 0 67108864).wf = false ∧
    (Instr.spinShl 40 0).wf = false ∧
    (Instr.spinShl 0 67108864).wf = false := by decide

theorem test_ill_formed_16 :
    (Instr.spinShr 40 0).wf = false ∧
    (Instr.spinShr 0 67108864).wf = false ∧
    (Instr.spinAsr 40 0).wf = false ∧
    (Instr.spinAsr 0 67108864).wf = false ∧
    (Instr.spinMul 40 0).wf = false ∧
    (Instr.spinMul 0 67108864).wf = false ∧
    (Instr.spinMin 40 0).wf = false ∧
    (Instr.spinMin 0 67108864).wf = false ∧
    (Instr.spinMax 40 0).wf = false ∧
    (Instr.spinMax 0 67108864).wf = false ∧
    (Instr.spinMinu 40 0).wf = false ∧
    (Instr.spinMinu 0 67108864).wf = false ∧
    (Instr.spinMaxu 40 0).wf = false ∧
    (Instr.spinMaxu 0 67108864).wf = false ∧
    (Instr.spinAbs 40 0).wf = false ∧
    (Instr.spinAbs 0 67108864).wf = false := by decide

theorem test_ill_formed_17 :
    (Instr.spinAddi 40 0).wf = false ∧
    (Instr.spinAddi 0 67108864).wf = false ∧
    (Instr.spinAndi 40 0).wf = false ∧
    (Instr.spinAndi 0 67108864).wf = false ∧
    (Instr.spinOri 40 0).wf = false ∧
    (Instr.spinOri 0 67108864).wf = false ∧
    (Instr.spinXori 40 0).wf = false ∧
    (Instr.spinXori 0 67108864).wf = false ∧
    (Instr.spinShli 40 0).wf = false ∧
    (Instr.spinShli 0 67108864).wf = false ∧
    (Instr.spinShri 40 0).wf = false ∧
    (Instr.spinShri 0 67108864).wf = false ∧
    (Instr.spinAsri 40 0).wf = false ∧
    (Instr.spinAsri 0 67108864).wf = false ∧
    (Instr.spinLi 40 0).wf = false ∧
    (Instr.spinLi 0 67108864).wf = false := by decide

theorem test_ill_formed_18 :
    (Instr.spinLui 40 0).wf = false ∧
    (Instr.spinLui 0 67108864).wf = false ∧
    (Instr.spinLdb 40 0).wf = false ∧
    (Instr.spinLdb 0 67108864).wf = false ∧
    (Instr.spinLdh 40 0).wf = false ∧
    (Instr.spinLdh 0 67108864).wf = false ∧
    (Instr.spinLdw 40 0).wf = false ∧
    (Instr.spinLdw 0 67108864).wf = false ∧
    (Instr.spinLdhl 40 0).wf = false ∧
    (Instr.spinLdhl 0 67108864).wf = false ∧
    (Instr.spinLdwl 40 0).wf = false ∧
    (Instr.spinLdwl 0 67108864).wf = false ∧
    (Instr.spinLdhls 40 0).wf = false ∧
    (Instr.spinLdhls 0 67108864).wf = false ∧
    (Instr.spinBeq 40 0).wf = false ∧
    (Instr.spinBeq 0 67108864).wf = false := by decide

theorem test_ill_formed_19 :
    (Instr.spinBne 40 0).wf = false ∧
    (Instr.spinBne 0 67108864).wf = false ∧
    (Instr.spinBlt 40 0).wf = false ∧
    (Instr.spinBlt 0 67108864).wf = false ∧
    (Instr.spinBge 40 0).wf = false ∧
    (Instr.spinBge 0 67108864).wf = false ∧
    (Instr.spinBltu 40 0).wf = false ∧
    (Instr.spinBltu 0 67108864).wf = false ∧
    (Instr.spinBgeu 40 0).wf = false ∧
    (Instr.spinBgeu 0 67108864).wf = false ∧
    (Instr.spinBeqi 40 0).wf = false ∧
    (Instr.spinBeqi 0 67108864).wf = false ∧
    (Instr.spinBnei 40 0).wf = false ∧
    (Instr.spinBnei 0 67108864).wf = false ∧
    (Instr.spinBlti 40 0).wf = false ∧
    (Instr.spinBlti 0 67108864).wf = false := by decide

theorem test_ill_formed_20 :
    (Instr.spinBgei 40 0).wf = false ∧
    (Instr.spinBgei 0 67108864).wf = false ∧
    (Instr.spinCnt 40 0).wf = false ∧
    (Instr.spinCnt 0 67108864).wf = false ∧
    (Instr.spinExit 40 0).wf = false ∧
    (Instr.spinExit 0 67108864).wf = false ∧
    (Instr.canFrameReceive 0 4 0 ({ id := 0 })).wf = false ∧
    (Instr.canFrameAcknowledged 0 4 0).wf = false ∧
    (Instr.canArbitrationLost 0 4).wf = false ∧
    (Instr.canTxError 0 4 false).wf = false ∧
    (Instr.canRecoveryComplete 0 4).wf = false ∧
    (Instr.canRateDetectDwell 0 4).wf = false ∧
    (Instr.safetyDiscrepancyCount 0 12).wf = false ∧
    (Instr.evSafeResetLong 0 32).wf = false ∧
    (Instr.safetyStopDelayExpiry 0 128).wf = false ∧
    (Instr.nalatWatchdogExpiry 0 256).wf = false := by decide

theorem test_ill_formed_21 :
    (Instr.safetySelfTestDone 0 2 false).wf = false ∧
    (Instr.extRunEnd 0 8).wf = false ∧
    (Instr.extRunEnd 0 3).wf = false ∧
    (Instr.extBudgetOverrun 0 8).wf = false ∧
    (Instr.extBudgetOverrun 0 3).wf = false ∧
    (Instr.extFault 0 8 0 0).wf = false ∧
    (Instr.extFault 0 3 0 0).wf = false ∧
    (Instr.extFault 0 4 4294967296 0).wf = false ∧
    (Instr.extFault 0 4 0 4294967296).wf = false ∧
    (Instr.extCallPointRead 0 8 0).wf = false ∧
    (Instr.extCallPointRead 0 3 0).wf = false ∧
    (Instr.extCallPointRead 0 4 4294967296).wf = false ∧
    (Instr.extCallPointWrite 0 8 0 0).wf = false ∧
    (Instr.extCallPointWrite 0 3 0 0).wf = false ∧
    (Instr.extCallPointWrite 0 4 4294967296 0).wf = false ∧
    (Instr.extCallFlagSet 0 8 0 0).wf = false := by decide

theorem test_ill_formed_22 :
    (Instr.extCallFlagSet 0 3 0 0).wf = false ∧
    (Instr.extCallFlagSet 0 4 1024 0).wf = false ∧
    (Instr.extCallRaise 0 8 0).wf = false ∧
    (Instr.extCallRaise 0 3 0).wf = false ∧
    (Instr.extCallRaise 0 4 512).wf = false ∧
    (Instr.extCallLmt 0 8).wf = false ∧
    (Instr.extCallLmt 0 3).wf = false ∧
    (Instr.ecClaim 0 8).wf = false ∧
    (Instr.ecComplete 0 8 1).wf = false ∧
    (Instr.ecComplete 0 0 512).wf = false ∧
    (Instr.ecComplete 0 0 0).wf = false ∧
    (Instr.msixModerationTimeout 0 128).wf = false ∧
    (Instr.msixUnmask 0 (some 128)).wf = false ∧
    (Instr.functionReset 0 4294967296).wf = false ∧
    (Instr.powerStateChange 0 3 false false).wf = false ∧
    (Instr.nop ({ t := 0, ring := 64 })).wf = false := by decide

theorem test_ill_formed_23 :
    (Instr.ringCreate ({ t := 0, ring := 64 })).wf = false ∧
    (Instr.ringModify ({ t := 0, ring := 64 })).wf = false ∧
    (Instr.ringDelete ({ t := 0, ring := 64 })).wf = false ∧
    (Instr.abort ({ t := 0, ring := 64 })).wf = false ∧
    (Instr.sysInfo ({ t := 0, ring := 64 })).wf = false ∧
    (Instr.cfgLoad ({ t := 0, ring := 64 })).wf = false ∧
    (Instr.cfgCheck ({ t := 0, ring := 64 })).wf = false ∧
    (Instr.cfgAdmit ({ t := 0, ring := 64 })).wf = false ∧
    (Instr.cfgRecord ({ t := 0, ring := 64 })).wf = false ∧
    (Instr.cfgRead ({ t := 0, ring := 64 })).wf = false ∧
    (Instr.unitDisable ({ t := 0, ring := 64 })).wf = false ∧
    (Instr.unitEnable ({ t := 0, ring := 64 })).wf = false ∧
    (Instr.sluiceRead ({ t := 0, ring := 64 })).wf = false ∧
    (Instr.raceVmSet ({ t := 0, ring := 64 })).wf = false ∧
    (Instr.raceTimeSet ({ t := 0, ring := 64 })).wf = false ∧
    (Instr.raceReference ({ t := 0, ring := 64 })).wf = false := by decide

theorem test_ill_formed_24 :
    (Instr.racePreset ({ t := 0, ring := 64 })).wf = false ∧
    (Instr.raceConfirm ({ t := 0, ring := 64 })).wf = false ∧
    (Instr.cogArm ({ t := 0, ring := 64 })).wf = false ∧
    (Instr.cogDisarm ({ t := 0, ring := 64 })).wf = false ∧
    (Instr.placeRead ({ t := 0, ring := 64 })).wf = false ∧
    (Instr.placeWrite ({ t := 0, ring := 64 })).wf = false ∧
    (Instr.placeSeal ({ t := 0, ring := 64 })).wf = false ∧
    (Instr.pointRead ({ t := 0, ring := 64 })).wf = false ∧
    (Instr.pointWrite ({ t := 0, ring := 64 })).wf = false ∧
    (Instr.pointMeta ({ t := 0, ring := 64 })).wf = false ∧
    (Instr.nodeRead ({ t := 0, ring := 64 })).wf = false ∧
    (Instr.loopMode ({ t := 0, ring := 64 })).wf = false ∧
    (Instr.loopTrim ({ t := 0, ring := 64 })).wf = false ∧
    (Instr.loopCoefWrite ({ t := 0, ring := 64 })).wf = false ∧
    (Instr.loopCoefSeal ({ t := 0, ring := 64 })).wf = false ∧
    (Instr.loopReadState ({ t := 0, ring := 64 })).wf = false := by decide

theorem test_ill_formed_25 :
    (Instr.ftStart ({ t := 0, ring := 64 })).wf = false ∧
    (Instr.ftStop ({ t := 0, ring := 64 })).wf = false ∧
    (Instr.ftTune ({ t := 0, ring := 64 })).wf = false ∧
    (Instr.ftAccept ({ t := 0, ring := 64 })).wf = false ∧
    (Instr.ftPlaceErr ({ t := 0, ring := 64 })).wf = false ∧
    (Instr.ftStatus ({ t := 0, ring := 64 })).wf = false ∧
    (Instr.axisEnable ({ t := 0, ring := 64 })).wf = false ∧
    (Instr.axisDisable ({ t := 0, ring := 64 })).wf = false ∧
    (Instr.axisGoto ({ t := 0, ring := 64 })).wf = false ∧
    (Instr.axisQueue ({ t := 0, ring := 64 })).wf = false ∧
    (Instr.axisStop ({ t := 0, ring := 64 })).wf = false ∧
    (Instr.axisHome ({ t := 0, ring := 64 })).wf = false ∧
    (Instr.axisSetPos ({ t := 0, ring := 64 })).wf = false ∧
    (Instr.axisLimits ({ t := 0, ring := 64 })).wf = false ∧
    (Instr.axisClearFault ({ t := 0, ring := 64 })).wf = false ∧
    (Instr.axisTableWrite ({ t := 0, ring := 64 })).wf = false := by decide

theorem test_ill_formed_26 :
    (Instr.axisTableSeal ({ t := 0, ring := 64 })).wf = false ∧
    (Instr.adcStart ({ t := 0, ring := 64 })).wf = false ∧
    (Instr.anaVref ({ t := 0, ring := 64 })).wf = false ∧
    (Instr.clZeroSpan ({ t := 0, ring := 64 })).wf = false ∧
    (Instr.clCalCapture ({ t := 0, ring := 64 })).wf = false ∧
    (Instr.dioReset ({ t := 0, ring := 64 })).wf = false ∧
    (Instr.capArm ({ t := 0, ring := 64 })).wf = false ∧
    (Instr.capDisarm ({ t := 0, ring := 64 })).wf = false ∧
    (Instr.capTrigger ({ t := 0, ring := 64 })).wf = false ∧
    (Instr.capRead ({ t := 0, ring := 64 })).wf = false ∧
    (Instr.capRelease ({ t := 0, ring := 64 })).wf = false ∧
    (Instr.trStart ({ t := 0, ring := 64 })).wf = false ∧
    (Instr.trStop ({ t := 0, ring := 64 })).wf = false ∧
    (Instr.trFlush ({ t := 0, ring := 64 })).wf = false ∧
    (Instr.logRead ({ t := 0, ring := 64 })).wf = false ∧
    (Instr.logClear ({ t := 0, ring := 64 })).wf = false := by decide

theorem test_ill_formed_27 :
    (Instr.logCatalogue ({ t := 0, ring := 64 })).wf = false ∧
    (Instr.recFreeze ({ t := 0, ring := 64 })).wf = false ∧
    (Instr.recThaw ({ t := 0, ring := 64 })).wf = false ∧
    (Instr.logicLoad ({ t := 0, ring := 64 })).wf = false ∧
    (Instr.logicSeal ({ t := 0, ring := 64 })).wf = false ∧
    (Instr.logicMode ({ t := 0, ring := 64 })).wf = false ∧
    (Instr.logicStep ({ t := 0, ring := 64 })).wf = false ∧
    (Instr.logicBreak ({ t := 0, ring := 64 })).wf = false ∧
    (Instr.logicForce ({ t := 0, ring := 64 })).wf = false ∧
    (Instr.logicUnforce ({ t := 0, ring := 64 })).wf = false ∧
    (Instr.logicForceClear ({ t := 0, ring := 64 })).wf = false ∧
    (Instr.logicForceList ({ t := 0, ring := 64 })).wf = false ∧
    (Instr.logicReadState ({ t := 0, ring := 64 })).wf = false ∧
    (Instr.spinLoad ({ t := 0, ring := 64 })).wf = false ∧
    (Instr.spinSeal ({ t := 0, ring := 64 })).wf = false ∧
    (Instr.spinReadState ({ t := 0, ring := 64 })).wf = false := by decide

theorem test_ill_formed_28 :
    (Instr.canSend ({ t := 0, ring := 64 })).wf = false ∧
    (Instr.canRecover ({ t := 0, ring := 64 })).wf = false ∧
    (Instr.canRateDetect ({ t := 0, ring := 64 })).wf = false ∧
    (Instr.canRingRead ({ t := 0, ring := 64 })).wf = false ∧
    (Instr.safeStatus ({ t := 0, ring := 64 })).wf = false ∧
    (Instr.safeDiagRead ({ t := 0, ring := 64 })).wf = false ∧
    (Instr.safeConfigStage ({ t := 0, ring := 64 })).wf = false ∧
    (Instr.safeConfigAccept ({ t := 0, ring := 64 })).wf = false ∧
    (Instr.safeConnRestart ({ t := 0, ring := 64 })).wf = false ∧
    (Instr.redStatus ({ t := 0, ring := 64 })).wf = false ∧
    (Instr.redSwitch ({ t := 0, ring := 64 })).wf = false ∧
    (Instr.redRevertInhibit ({ t := 0, ring := 64 })).wf = false ∧
    (Instr.updStage ({ t := 0, ring := 64 })).wf = false ∧
    (Instr.updArm ({ t := 0, ring := 64 })).wf = false ∧
    (Instr.updCancel ({ t := 0, ring := 64 })).wf = false ∧
    (Instr.updCommit ({ t := 0, ring := 64 })).wf = false := by decide

theorem test_ill_formed_29 :
    (Instr.updStatus ({ t := 0, ring := 64 })).wf = false ∧
    (Instr.hopFlag ({ t := 0, ring := 64 })).wf = false ∧
    (Instr.hopCancel ({ t := 0, ring := 64 })).wf = false ∧
    (Instr.hopTraceRead ({ t := 0, ring := 64 })).wf = false ∧
    (Instr.extLoad ({ t := 0, ring := 64 })).wf = false ∧
    (Instr.extStart ({ t := 0, ring := 64 })).wf = false ∧
    (Instr.extStop ({ t := 0, ring := 64 })).wf = false ∧
    (Instr.hopReadState ({ t := 0, ring := 64 })).wf = false ∧
    (Instr.resetRelease 0 3 false).wf = false ∧
    (Instr.fieldPortLinkUp 0 5).wf = false ∧
    (Instr.fieldPortLinkUp 0 0).wf = false ∧
    (Instr.canBusIntegration 0 4).wf = false ∧
    (Instr.ptpDelayRequestSend 0 5 0).wf = false ∧
    (Instr.ptpDelayRequestSend 0 0 0).wf = false ∧
    (Instr.ptpDelayRequestSend 0 1 4).wf = false ∧
    (Instr.siStandardSample 0 16777216).wf = false := by decide

theorem test_ill_formed_30 :
    (Instr.maintLinkChange 0 2 false).wf = false ∧
    (Instr.redLinkHeartbeatReceive 0 ({ role := 5 })).wf = false ∧
    (Instr.redLinkHeartbeatReceive 0 ({ role := 0, health := 3 })).wf = false ∧
    (Instr.redLinkHeartbeatReceive 0 ({ role := 0, epoch := 256 })).wf = false ∧
    (Instr.redLinkHeartbeatReceive 0 ({ role := 0, unit := 2 })).wf = false ∧
    (Instr.redLinkHeartbeatReceive 0 ({ role := 0, upd := 5 })).wf = false ∧
    (Instr.redLinkHeartbeatReceive 0 ({ role := 0, mac := 2 ^ 48 })).wf = false ∧
    (Instr.safetyCycle 0 ({ siA := 2 ^ 24 })).wf = false ∧
    (Instr.safetyCycle 0 ({ siB := 2 ^ 24 })).wf = false ∧
    (Instr.safetyCycle 0 ({ encA := [(20, 0)] })).wf = false ∧
    (Instr.safetyCycle 0 ({ encB := [(20, 0)] })).wf = false ∧
    (Instr.safetyCycle 0 ({ tpA := 16 })).wf = false ∧
    (Instr.safetyCycle 0 ({ tpB := 16 })).wf = false ∧
    (Instr.safetyCycle 0 ({ soA := 65536 })).wf = false ∧
    (Instr.safetyCycle 0 ({ soB := 65536 })).wf = false ∧
    (Instr.canFrameReceive 0 0 0 ({ id := 2048 })).wf = false := by decide

theorem test_ill_formed_31 :
    (Instr.canFrameReceive 0 0 0 ({ id := 2 ^ 29, ext := true })).wf = false ∧
    (Instr.canFrameReceive 0 0 0 ({ id := 0, fd := true, rtr := true })).wf = false ∧
    (Instr.canFrameReceive 0 0 0 ({ id := 0, brs := true })).wf = false ∧
    (Instr.canFrameReceive 0 0 0 ({ id := 0, esi := true })).wf = false ∧
    (Instr.canFrameReceive 0 0 0 ({ id := 0, data := List.replicate 9 0 })).wf = false ∧
    (Instr.canFrameReceive 0 0 0 ({ id := 0, fd := true, data := List.replicate 9 0 })).wf = false ∧
    (Instr.canFrameReceive 0 0 0 ({ id := 0, rtr := true, data := [0] })).wf = false ∧
    (Instr.nop ({ t := 0, params := List.replicate 49 0 })).wf = false ∧
    (Instr.nop ({ t := 0, data := [0] })).wf = false ∧
    (Instr.bootRomDone ({ t := 0, warmAt := 1 })).wf = false ∧
    (Instr.remoteSegmentReceive 0 0 ({ src := 0, payload := [] })).wf = false ∧
    (Instr.remoteSegmentReceive 0 5 ({ src := 0, payload := [] })).wf = false ∧
    (Instr.remoteSegmentReceive 0 1 ({ src := 2 ^ 48, payload := [] })).wf = false ∧
    (Instr.ptpSyncReceive 0 0 0 0 0 ({ values := [], frame := [] })).wf = false ∧
    (Instr.ptpSyncReceive 0 1 4 0 0 ({ values := [], frame := [] })).wf = false ∧
    (Instr.ptpMessageReceive 0 5 0 0 ({ values := [], frame := [] })).wf = false := by decide

theorem test_ill_formed_32 :
    (Instr.ptpMessageReceive 0 1 4 0 ({ values := [], frame := [] })).wf = false ∧
    (Instr.ptpMessageReceive 0 1 0 16 ({ values := [], frame := [] })).wf = false ∧
    (Instr.lldpReceive 0 0 ({ sub := 4, num := 0 }) ({ sub := 7, text := [], frame := [] })).wf = false ∧
    (Instr.redDeltaReceive 0 5 0 0 true true ({ words := [], units := [] })).wf = false ∧
    (Instr.ecRaise 0 8 ({ ofs := 0, val := 0 })).wf = false ∧
    (Instr.ecRaise 0 0 ({ ofs := 4, val := 0 })).wf = false ∧
    (Instr.ecRaise 0 0 ({ ofs := 0, val := 2 ^ 32 })).wf = false ∧
    (Instr.ecOverrunsRead 0 ({ core := 8, ofs := 0 })).wf = false ∧
    (Instr.ecOverrunsRead 0 ({ core := 0, ofs := 4 })).wf = false ∧
    (Instr.ecSourceEdge 0 ({ src := 0, up := true })).wf = false ∧
    (Instr.ecSourceEdge 0 ({ src := 512, up := true })).wf = false ∧
    (Instr.sweep 0 [] [(16, [])] true).wf = false ∧
    (Instr.sweep 0 [] [(0, List.replicate 33 0)] true).wf = false ∧
    (Instr.descriptorFetch 0 64 [] true).wf = false ∧
    (Instr.descriptorFetch 0 0 (List.replicate 65 0) true).wf = false ∧
    (Instr.registerWrite 0 65536 ({ val := 0 })).wf = false := by decide

theorem test_ill_formed_33 :
    (Instr.registerWrite 0 0 ({ size := 3, val := 0 })).wf = false ∧
    (Instr.canReceiveError 0 4 ({ heavy := false })).wf = false := by decide

end Sys2Proof.Machine
end

section
/-! SUPPORT. From the meaning that dispatch gives a row to what the row does: the bridge that every completion statement crosses. -/

namespace Sys2Proof.Machine

variable {i : Instr} {s : State} {t : Nat} {e : State → State}

/-- A row that dispatch answers by `eventRow` completes wherever the clocks run (R480, R499). -/
theorem RowDoes.of_eventRow (h : exec i s = eventRow s t e) : RowDoes i s t e :=
  fun hc => h.trans (eventRow_on t hc)

/-- A row that dispatch answers by `engineRow` completes wherever the clocks run and the module is not in FAULT_HALT (R472). -/
theorem EngineDoes.of_engineRow (h : exec i s = engineRow s t e) : EngineDoes i s t e :=
  fun hc hf => h.trans (engineRow_on t hc hf)

/-- With the clocks running, RESET# low is an event row; only with the clocks stopped does it no more than keep the pin's level (R518). -/
theorem rowDoes_resetPin (t : Nat) (s : State) : RowDoes (.resetPin t) s t resetPin := fun hc =>
  calc exec (.resetPin t) s = eventRow s t resetPin := if_pos hc
    _ = .next ((s.tick t).follow (resetPin (s.tick t))) := eventRow_on t hc

/-- With the clocks stopped, LMT stands still and the release of RESET# acts on the state as it is (R518). -/
theorem exec_resetRelease_off (t strapMode : Nat) (strapPair : Bool) {s : State} (hc : s.sys.clocksOn = false) :
    exec (.resetRelease t strapMode strapPair) s = .next (resetRelease t strapMode strapPair s) := by
  have stands : (if s.sys.clocksOn then s.tick t else s) = s := by simp [hc]
  exact congrArg (fun u => Host.Outcome.next (resetRelease t strapMode strapPair u)) stands

end Sys2Proof.Machine
end

section
/-! The completion statements of the architecture's rows. Each clause is its row's line of dispatch (by computation) put through the bridge above. -/

open Sys2Proof Sys2Proof.Machine

/-- Settles O4. LOGIC_REGULATION_REACHED and POWER_RESTORED start the clocks and so ask nothing of them; RESET_PIN and RESET_RELEASE branch on
the clocks and have lemmas of their own; all other rows are event rows. -/
theorem systemRows : Obligations.SystemRows := by
  refine ⟨?logicRegulationReached, ?bootRomDone, ?slotVerifyDone, ?loadDone, ?holdupCharged, ?holdupChargeTimeout, ?faultHaltEntry, ?eccError,
    ?fabricFault, ?runtimeWatchdog, ?baseplateOvertemp, ?powerFail, ?powerFailFinalCommit, ?powerRestored, ?resetPin, ?resetRelease,
    ?maintLinkChange, ?updStageDurable, ?updPreloadDone, ?updActivation, ?updRestartDone⟩
  case logicRegulationReached | powerRestored => exact fun _ _ _ _ => rfl
  case resetPin => exact rowDoes_resetPin
  case resetRelease => exact fun t strapMode strapPair _ => exec_resetRelease_off t strapMode strapPair
  all_goals intros; exact .of_eventRow rfl

/-- Settles O5. The cycle of a group, the launch of segment frames, cog actions and the PTP messages that the module sends are instants of an
engine; all other rows are event rows. -/
theorem timeRows : Obligations.TimeRows := by
  refine ⟨?groupCycleStart, ?groupCommit, ?groupOutputLaunch, ?groupPacingTimeout, ?writeThroughDurable, ?journalSettle, ?bankCatchupDone,
    ?encoderSample, ?ssiRead, ?indexCapture, ?raceHoldoverExpiry, ?segmentFit, ?segmentFrameLaunch, ?cogAction, ?ptpSyncReceive,
    ?ptpMessageReceive, ?ptpSyncTimeout, ?ptpSyncSend, ?ptpDelayRequestSend⟩
  case groupCycleStart | groupCommit | groupOutputLaunch | groupPacingTimeout | segmentFrameLaunch | cogAction | ptpSyncSend
      | ptpDelayRequestSend =>
    intros; exact .of_engineRow rfl
  all_goals intros; exact .of_eventRow rfl

end

section
/-! The completion statement of the network's and the pair's rows, and the severities of the event tables. -/

open Sys2Proof Sys2Proof.Machine

/-- Settles O6. What the module itself sends to its nodes and neighbours (binds, page requests, sweeps, LLDP) are instants of an engine; all
other rows, the pair's heartbeats among them, are event rows. -/
theorem networkRows : Obligations.NetworkRows := by
  refine ⟨?inputFrameReceive, ?helloReceive, ?bindAckReceive, ?pageRspReceive, ?remoteSegmentReceive, ?pairHeartbeatReceive,
    ?oczonInvalidFrame, ?nodeDrop, ?bindRetry, ?pageReqRetry, ?pagedSweep, ?nodeReleaseTimeout, ?portLinkLoss, ?opticsPresenceChange,
    ?fieldPortLinkUp, ?lldpSend, ?lldpReceive, ?pairHeartbeatSend, ?redLinkHeartbeatSend, ?redLinkHeartbeatReceive, ?redPathSilence,
    ?pairWaitExpiry, ?redDeltaReceive, ?redFullCopyDone, ?redPlannedSwitchInstant, ?redRevertHoldExpiry⟩
  case bindRetry | pageReqRetry | pagedSweep | lldpSend => intros; exact .of_engineRow rfl
  all_goals intros; exact .of_eventRow rfl

/-- Settles O39. `raise` takes the severity from `evSev` by definition; each entry of the tables is then one closed look-up in the catalogue
`evTable` (R259). -/
theorem eventSeverities : Obligations.EventSeverities := by
  refine ⟨fun _ _ _ _ _ _ => rfl, ?tables⟩
  case tables =>
    and_intros
    all_goals decide

end

section
/-! The limited setpoint's ramp (R142): one sample towards a target above or below it, and k samples by induction. -/

namespace Sys2Proof.Machine

variable {spl tgt : Int} {up down : Nat}

/-- Towards a target not below it, the limited setpoint rises by its rate or to the target, whichever is nearer; a rate of 0 is no limit. -/
theorem spLimit_of_le (h : spl ≤ tgt * 65536) :
    spLimit spl tgt up down = if up = 0 then tgt * 65536 else min (tgt * 65536) (spl + up) := by
  simp only [spLimit]
  split_ifs <;> omega

/-- Towards a target not above it, the limited setpoint falls by its rate or to the target, whichever is nearer; a rate of 0 is no limit. -/
theorem spLimit_of_ge (h : tgt * 65536 ≤ spl) :
    spLimit spl tgt up down = if down = 0 then tgt * 65536 else max (tgt * 65536) (spl - down) := by
  simp only [spLimit]
  split_ifs <;> omega

/-- A rising setpoint never passes its target, whatever its rates. -/
theorem spLimit_between_of_le (h : spl ≤ tgt * 65536) : spl ≤ spLimit spl tgt up down ∧ spLimit spl tgt up down ≤ tgt * 65536 := by
  rw [spLimit_of_le h]
  split_ifs <;> omega

/-- A falling setpoint never passes its target, whatever its rates. -/
theorem spLimit_between_of_ge (h : tgt * 65536 ≤ spl) : tgt * 65536 ≤ spLimit spl tgt up down ∧ spLimit spl tgt up down ≤ spl := by
  rw [spLimit_of_ge h]
  split_ifs <;> omega

/-- k samples up move k times the rate and stop at the target: each sample starts where `spLimit_of_le` applies again. -/
theorem spLimit_iterate_rise (h : spl ≤ tgt * 65536) (hup : 0 < up) (k : Nat) :
    (fun x => spLimit x tgt up down)^[k] spl = min (tgt * 65536) (spl + k * up) := by
  induction k with
  | zero => simpa using h
  | succ k ih =>
    rw [Function.iterate_succ_apply', ih, spLimit_of_le (min_le_left _ _), if_neg hup.ne']
    push_cast [add_one_mul]
    omega

/-- k samples down move k times the rate and stop at the target. -/
theorem spLimit_iterate_fall (h : tgt * 65536 ≤ spl) (hdown : 0 < down) (k : Nat) :
    (fun x => spLimit x tgt up down)^[k] spl = max (tgt * 65536) (spl - k * down) := by
  induction k with
  | zero => simpa using h
  | succ k ih =>
    rw [Function.iterate_succ_apply', ih, spLimit_of_ge (le_max_left _ _), if_neg hdown.ne']
    push_cast [add_one_mul]
    omega

end Sys2Proof.Machine
end

section
/-! The completion statement of the rows of loops, Fantail, motion and PWM, and the ramp of the limited setpoint. -/

open Sys2Proof Sys2Proof.Machine

/-- Settles O7. All twelve rows are instants of an engine. -/
theorem controlRows : Obligations.ControlRows := by
  refine ⟨?loopFrame, ?fantailResultDue, ?fantailEqUpdate, ?fantailHeadroomUpdate, ?fantailPlaceRecord, ?evFtFrozen, ?motionUpdate,
    ?driveLinkUpstream, ?axisHoldDelayExpiry, ?axisQuickStopRequest, ?timerTick, ?pwmPeriodStart⟩
  all_goals intros; exact .of_engineRow rfl

/-- Settles O45. The new value lies between the old one and the target (R142); both of these fit 32 bits, so it does too. -/
theorem setpointRamp : Obligations.SetpointRamp := by
  intro spl tgt up down htgt htgt' hspl hspl' d
  have below (hd : 0 ≤ d) : spl ≤ tgt * 65536 := sub_nonneg.mp hd
  have above (hd : d ≤ 0) : tgt * 65536 ≤ spl := sub_nonpos.mp hd
  have rising hd := spLimit_between_of_le (up := up) (down := down) (below hd)
  have falling hd := spLimit_between_of_ge (up := up) (down := down) (above hd)
  refine ⟨?sample, ?range, rising, falling, ?up, ?down⟩
  case sample => simp only [spLimit, sub_neg_eq_add, d]
  case range =>
    rcases le_total 0 d with hd | hd
    · have := rising hd
      omega
    · have := falling hd
      omega
  case up => exact fun k hd hup => spLimit_iterate_rise (below hd) hup k
  case down => exact fun k hd hdown => spLimit_iterate_fall (above hd) hdown k

end

section
/-! Scaling of the current loops (R227), and what an input's update and a loop's output leave in a channel (R228, R229). -/

namespace Sys2Proof.Machine

variable {b : Bytes} {c : ClChan} {s : State} {n : Nat}

/-- Saturation over a range that is not empty is a maximum of a minimum. -/
theorem satI_eq_max_min {lo hi : Int} (h : lo ≤ hi) (x : Int) : satI lo hi x = max lo (min hi x) := by
  unfold satI
  split_ifs <;> omega

/-- With ZERO_UA below SPAN_UA, the division of VAL is R227's floor division. -/
theorem clVal_eq_fdiv (h : c.zero < c.span) (raw : Int) :
    clVal b c raw = max (-32768) (min 32767 (leS b 16 2
      + (2 * (raw - c.zero) * (leS b 18 2 - leS b 16 2) + (c.span - c.zero)).fdiv (2 * (c.span - c.zero)))) := by
  rw [Int.fdiv_eq_ediv_of_nonneg _ (by omega)]
  exact satI_eq_max_min (by decide) _

/-- With VAL_LO below VAL_HI, the division of the commanded current is R227's floor division. -/
theorem clCmd_eq_fdiv (h : leS b 16 2 < leS b 18 2) :
    clCmd b c = c.zero + (2 * (c.cmd - leS b 16 2) * (c.span - c.zero) + (leS b 18 2 - leS b 16 2)).fdiv (2 * (leS b 18 2 - leS b 16 2)) := by
  rw [Int.fdiv_eq_ediv_of_nonneg _ (by omega)]
  rfl

/-- One update of an input in no fault class and not thermal: a current of 3,600 to 21,000 uA is scaled, outside that range VAL holds (R228). A calibration
under way sums the current and leaves VAL (R235). -/
theorem State.clInput_val_of_ok (hcls : (s.cl n).cls = .ok) (hth : (s.cl n).thermal = false) :
    ((s.clInput n b).cl n).val =
      if 3600 ≤ (s.cl n).raw ∧ (s.cl n).raw ≤ 21000 then clVal b (s.cl n) (s.cl n).raw else (s.cl n).val := by
  rcases hcal : (s.cl n).cal with _ | ⟨kind, left, sum, button⟩
  · simp [State.clInput, hcls, hth, hcal]
  · by_cases hleft : 0 < left <;> simp [State.clInput, hcls, hth, hcal, hleft]

/-- A loop's source of KIND 3 takes the channel's VAL (R139). -/
theorem State.readSel_v_of_current {l o : Nat} (h : selKind b o = 3) : (s.readSel l b o).v = (s.cl (selIndex b o)).val := by
  simp only [State.readSel, h]

/-- A write to a point leaves the analogue units. -/
@[simp] theorem State.wr_ana (s : State) (a : Nat) (v : W32) : (s.wr a v).ana = s.ana := by
  unfold State.wr
  split <;> rfl

@[simp] theorem State.wrLocal_cl (s : State) (node idx : Nat) (v : Int) (n : Nat) : (s.wrLocal node idx v).cl n = s.cl n := by
  simp [State.wrLocal, State.cl]

/-- A loop's destination of KIND 7 takes the output as the channel's CMD (R139, R229). -/
theorem State.driveDest_current_cmd (s : State) (i : Nat) (u : Int) : ((s.driveDest 7 i u).cl i).cmd = u := by
  simp [State.driveDest]

end Sys2Proof.Machine
end

section
/-! The scaling of the current loops, and the completion statement of the analogue and DIO rows. -/

open Sys2Proof Sys2Proof.Machine

/-- Settles O46. With the default ranges both divisors are positive numerals, and the two worked values of R227 are computed from its formulas. -/
theorem currentScaling : Obligations.CurrentScaling := by
  refine ⟨fun b c raw => ⟨fun h => clVal_eq_fdiv h raw, clCmd_eq_fdiv⟩, ?defaults, ?input, fun s l o b => State.readSel_v_of_current,
    State.driveDest_current_cmd⟩
  case defaults =>
    intro b c hzero hspan hlo hhi
    have hzs : c.zero < c.span := by omega
    have hlh : leS b 16 2 < leS b 18 2 := by omega
    constructor
    · rw [clVal_eq_fdiv hzs, hzero, hspan, hlo, hhi]
      decide
    · intro hcmd
      rw [clCmd_eq_fdiv hlh, hzero, hspan, hlo, hhi, hcmd]
      decide
  case input =>
    intro s n b hcls hth hlow hhigh
    rw [State.clInput_val_of_ok hcls hth, if_pos ⟨hlow, hhigh⟩]

/-- Settles O8. The samples, checks and protections of the ADC, the reference, ALMSEL, the DIO and FIELD are event rows; the current loops'
updates, the calibration and the restart of an output are instants of an engine. CL_FRONTEND_WATCHDOG is the front end's own (R232) and asks
nothing of the clocks. -/
theorem analogueRows : Obligations.AnalogueRows := by
  refine ⟨?adcEntryEnd, ?vrefCheck, ?vrefSettled, ?clUpdate, ?clFaultClass, ?clComplianceDetect, ?clCmdTimeout, ?clFrontendWatchdog,
    ?almselSample, ?clModeChangeDone, ?calButtonHeld, ?calAveragingDone, ?dioSample, ?dioOverload, ?dioAutoRestart, ?fieldLow, ?fieldRestored⟩
  case clFrontendWatchdog => exact fun _ _ => rfl
  case clUpdate | clFaultClass | clComplianceDetect | clCmdTimeout | clModeChangeDone | calButtonHeld | calAveragingDone | dioAutoRestart =>
    intros; exact .of_engineRow rfl
  all_goals intros; exact .of_eventRow rfl

end

section
/-! The completion statement of the rows of capture, spindle windows, Tailrace and the event log. -/

open Sys2Proof Sys2Proof.Machine

/-- Settles O9. Only the start of a spindle window (R311) is an instant of an engine; the rows of capture, Tailrace and the event log are event
rows, which ask for the clocks alone. -/
theorem recordingRows : Obligations.RecordingRows := by
  refine ⟨?captureSample, ?captureGroupTrigger, ?spindleWindowRun, ?tailraceFlushTimeout, ?tailraceSpill, ?tailraceDrainDone,
    ?logRecordDurable, ?logFreezeExpiry, ?logRateSecond⟩
  case spindleWindowRun => exact fun _ _ _ => .of_engineRow rfl
  all_goals intros; exact .of_eventRow rfl

end

section
/-! SUPPORT. From a row of a logic instruction to what it makes of engine and run: one bridge for every instruction (R283 to R291), and its form for
each kind of instruction that the model names. An instruction other than END leaves the run open. -/

namespace Sys2Proof.Machine

/-! What keeps a run open. -/

@[simp] theorem Run.moved_ended (r : Run) (m n op opnd : Nat) : (r.moved m n op opnd).ended = r.ended := rfl

@[simp] theorem Run.setOv_ended (r : Run) (on : Bool) : (r.setOv on).ended = r.ended := by
  cases on <;> rfl

@[simp] theorem Run.setErr_ended (r : Run) (on : Bool) : (r.setErr on).ended = r.ended := by
  cases on <;> rfl

@[simp] theorem Run.pop_ended (r : Run) : r.pop.ended = r.ended := by
  unfold Run.pop
  split <;> rfl

@[simp] theorem Run.arith_ended (r : Run) (x : Int) : (r.arith x).ended = r.ended := by
  simp [Run.arith]

@[simp] theorem Run.div_ended (r : Run) (d : W32) : (r.div d).ended = r.ended := by
  unfold Run.div
  split <;> simp

@[simp] theorem Run.mod_ended (r : Run) (d : W32) : (r.mod d).ended = r.ended := by
  unfold Run.mod
  split <;> simp

@[simp] theorem Run.ftoi_ended (r : Run) : r.ftoi.ended = r.ended := by
  unfold Run.ftoi
  split_ifs <;> simp

@[simp] theorem leStoreBit_ended (m n : Nat) (r : Run) (o : Nat) (v : Bool) : (leStoreBit m n r o v).ended = r.ended := by
  unfold leStoreBit
  split
  · rfl
  · split <;> rfl

@[simp] theorem leStore_ended (m n : Nat) (r : Run) (o : Nat) : (leStore m n r o).ended = r.ended := by
  unfold leStore
  split
  · split_ifs <;> simp
  · split <;> rfl

/-! The bridge. -/

section
variable {i : Nat → Nat → Instr} {op : Nat} {e : State → Nat → Nat → Run → Engine × Run}

/-- On an open run with nothing holding it, a row that dispatch answers by `leStep` acts on the run as it stands past the instruction, and hands in
where that ends the run. -/
theorem exec_of_leStep_opens {s : State} {n opnd : Nat} {r : Run} {f : Nat → Engine → Run → Engine × Run} (h : s.opens n op opnd r)
    (row : exec (i n opnd) s = engineRow s s.lmt (fun s => s.leStep n op opnd f)) :
    exec (i n opnd) s = .next (s.follow
      (let x := f s.sys.modNo (s.eng n) (r.moved s.sys.modNo n op opnd)
      if x.2.ended then (s.putRun n x.1 x.2).leHandIn n x.2 else s.putRun n x.1 x.2)) := by
  obtain ⟨clocks, noHalt, -⟩ := id h
  rw [row, engineRow_now clocks noHalt, leStep_opens h]

/-- A row of `leStep` whose effect leaves the run open puts engine and run as the effect says. -/
theorem LeDoes.of_leStep {f : Nat → Nat → Nat → Engine → Run → Engine × Run}
    (row : ∀ n o s, exec (i n o) s = engineRow s s.lmt (fun s => s.leStep n op o (f n o)))
    (effect : ∀ s n o m, f n o s.sys.modNo (s.eng n) m = e s n o m) (stays : ∀ s n o m, (e s n o m).2.ended = m.ended) : LeDoes i op e := by
  intro n o s r h
  obtain ⟨-, -, -, -, -, -, -, -, -, isOpen⟩ := id h
  have goesOn : (e s n o (r.moved s.sys.modNo n op o)).2.ended = false := by
    rw [stays, Run.moved_ended, isOpen]
  simp only [exec_of_leStep_opens h (row n o s), effect, goesOn, Bool.false_eq_true, if_false]

/-- A row of `leRunOp` changes the run alone. -/
theorem LeDoes.of_runOp {g : Nat → Run → Run} (row : ∀ n o s, exec (i n o) s = engineRow s s.lmt (fun s => s.leRunOp n op o (g o)))
    (effect : ∀ s n o m, (s.eng n, g o m) = e s n o m) (stays : ∀ o m, (g o m).ended = m.ended) : LeDoes i op e :=
  .of_leStep row effect (fun s n o m => by rw [← effect, stays])

/-- A row of `leBitOp` changes BA alone. -/
theorem LeDoes.of_bitOp {g : Bool → Bool → Bool} (row : ∀ n o s, exec (i n o) s = engineRow s s.lmt (fun s => s.leBitOp n op o g))
    (effect : ∀ s n o m, (s.eng n, { m with ba := g m.ba (s.bitAt n m o) }) = e s n o m) : LeDoes i op e :=
  .of_leStep row effect (fun s n o m => by rw [← effect])

/-- A row of `leWordOp` changes the run by the word that its operand names. -/
theorem LeDoes.of_wordOp {g : Run → W32 → Run} (row : ∀ n o s, exec (i n o) s = engineRow s s.lmt (fun s => s.leWordOp n op o g))
    (effect : ∀ s n o m, (s.eng n, g m (s.wordAt n m o)) = e s n o m) (stays : ∀ m x, (g m x).ended = m.ended) : LeDoes i op e :=
  .of_leStep row effect (fun s n o m => by rw [← effect, stays])

/-- A row of `leBitStore` stores the bit that `g` gives of the run, and does nothing where it gives none. -/
theorem LeDoes.of_bitStore {g : Run → Option Bool} (row : ∀ n o s, exec (i n o) s = engineRow s s.lmt (fun s => s.leBitStore n op o g))
    (effect : ∀ s n o m, (s.eng n, (g m).elim m (leStoreBit s.sys.modNo n m o)) = e s n o m) : LeDoes i op e := by
  refine .of_leStep row (fun s n o m => ?_) (fun s n o m => ?_)
  all_goals
    rw [← effect]
    cases g m <;> simp

/-- A row of `leEdge` puts BA in the edge memory that its operand names, and takes BA from it and the memory's old value. -/
theorem LeDoes.of_edge {g : Bool → Bool → Bool} (row : ∀ n o s, exec (i n o) s = engineRow s s.lmt (fun s => s.leEdge n op o g))
    (effect : ∀ s n o m, ({ s.eng n with edges := (s.eng n).edges.put false (oIndex o) m.ba },
      { m with ba := g m.ba ((s.eng n).edges.getD (oIndex o) false) }) = e s n o m) : LeDoes i op e :=
  .of_leStep row effect (fun s n o m => by rw [← effect])

/-- A row of `leTimer` changes the timer that its operand names; with `q`, BA becomes its Q. -/
theorem LeDoes.of_timer {q : Bool} {g : Timer → Run → Timer} (row : ∀ n o s, exec (i n o) s = engineRow s s.lmt (fun s => s.leTimer n op o q g))
    (effect : ∀ s n o m, (s.withTimer n o (g (s.timerAt n m o) m), if q then { m with ba := (g (s.timerAt n m o) m).q } else m) = e s n o m) :
    LeDoes i op e :=
  .of_leStep row effect (fun s n o m => by rw [← effect]; cases q <;> rfl)

/-- A row of `leCounter` changes the counter that its operand names; with `q`, BA becomes its Q. -/
theorem LeDoes.of_counter {q : Bool} {g : Counter → Run → Counter}
    (row : ∀ n o s, exec (i n o) s = engineRow s s.lmt (fun s => s.leCounter n op o q g))
    (effect : ∀ s n o m, (s.withCounter n o (g (s.counterAt n o) m), if q then { m with ba := (g (s.counterAt n o) m).q } else m) = e s n o m) :
    LeDoes i op e :=
  .of_leStep row effect (fun s n o m => by rw [← effect]; cases q <;> rfl)

end

end Sys2Proof.Machine
end

section
/-! The statements of the logic instructions. Each clause is its row's line of dispatch (by computation) put through the form of the bridge for its kind of
instruction; what is left to show is that the run stays open. -/

open Sys2Proof Sys2Proof.Machine

/-- Settles O14. NOP, NOT, LDT and the nesting instructions have no operand; the others read the bit that theirs names (R285). -/
theorem logicBits : Obligations.LogicBits := by
  refine ⟨?nop, ?ld, ?ldn, ?and, ?andn, ?or, ?orn, ?xor, ?xorn, ?not, ?ldt, ?psha, ?psho, ?pshx, ?pop⟩
  case nop | not | ldt | psha | psho | pshx => exact .of_runOp (fun _ _ _ => rfl) (fun _ _ _ _ => rfl) (fun _ _ => rfl)
  case pop => exact .of_runOp (fun _ _ _ => rfl) (fun _ _ _ _ => rfl) (fun _ => Run.pop_ended)
  all_goals exact .of_bitOp (fun _ _ _ => rfl) (fun _ _ _ _ => rfl)

/-- Settles O15. ST and STN always store; SET and RST store where BA is set (R285). -/
theorem logicStores : Obligations.LogicStores := by
  refine ⟨?st, ?stn, ?set, ?rst, ?fp, ?fn⟩
  case st | stn => exact .of_bitStore (fun _ _ _ => rfl) (fun _ _ _ _ => rfl)
  case set | rst =>
    refine .of_bitStore (fun _ _ _ => rfl) (fun _ _ _ m => ?_)
    cases m.ba <;> rfl
  case fp | fn => exact .of_edge (fun _ _ _ => rfl) (fun _ _ _ _ => rfl)

/-- Settles O16. TON, TOF, TP, CTU and CTD load Q into BA; the others leave the run as it is (R287). -/
theorem logicTimersCounters : Obligations.LogicTimersCounters := by
  refine ⟨?ton, ?tof, ?tp, ?tpt, ?trst, ?ctu, ?ctd, ?cres, ?cld, ?cpv⟩
  case ton | tof | tp | tpt | trst => exact .of_timer (fun _ _ _ => rfl) (fun _ _ _ _ => rfl)
  case ctu | ctd | cres | cld | cpv => exact .of_counter (fun _ _ _ => rfl) (fun _ _ _ _ => rfl)

/-- Settles O17. The results that can overflow or divide by zero go through `arith`, `div` and `mod`, which set OV and ERR but never end the run (R288). -/
theorem logicWords : Obligations.LogicWords := by
  refine ⟨?l, ?t, ?tc, ?li, ?lih, ?add, ?sub, ?mul, ?div, ?mod, ?neg, ?abs, ?wand, ?wor, ?wxor, ?shl, ?shr, ?asr⟩
  case t => exact .of_leStep (fun _ _ _ => rfl) (fun _ _ _ _ => rfl) (fun _ _ _ _ => leStore_ended ..)
  case tc =>
    refine .of_leStep (fun _ _ _ => rfl) (fun _ _ _ _ => rfl) (fun _ _ _ m => ?_)
    cases m.ba <;> simp
  case li | lih => exact .of_runOp (fun _ _ _ => rfl) (fun _ _ _ _ => rfl) (fun _ _ => rfl)
  case neg | abs => exact .of_runOp (fun _ _ _ => rfl) (fun _ _ _ _ => rfl) (fun _ _ => Run.arith_ended ..)
  case add | sub | mul => exact .of_wordOp (fun _ _ _ => rfl) (fun _ _ _ _ => rfl) (fun _ _ => Run.arith_ended ..)
  case div => exact .of_wordOp (fun _ _ _ => rfl) (fun _ _ _ _ => rfl) Run.div_ended
  case mod => exact .of_wordOp (fun _ _ _ => rfl) (fun _ _ _ _ => rfl) Run.mod_ended
  case l | wand | wor | wxor | shl | shr | asr => exact .of_wordOp (fun _ _ _ => rfl) (fun _ _ _ _ => rfl) (fun _ _ => rfl)

/-- Settles O18. ITOF and FTOI work on WA alone; the others read the word that their operand names (R288). -/
theorem logicComparesFloats : Obligations.LogicComparesFloats := by
  refine ⟨?ceq, ?cne, ?cgt, ?cge, ?clt, ?cle, ?fadd, ?fsub, ?fmul, ?fdiv, ?itof, ?ftoi, ?fclt, ?fcgt⟩
  case itof => exact .of_runOp (fun _ _ _ => rfl) (fun _ _ _ _ => rfl) (fun _ _ => rfl)
  case ftoi => exact .of_runOp (fun _ _ _ => rfl) (fun _ _ _ _ => rfl) (fun _ => Run.ftoi_ended)
  all_goals exact .of_wordOp (fun _ _ _ => rfl) (fun _ _ _ _ => rfl) (fun _ _ => rfl)

/-- Settles O19. JC and JNC jump by BA; RET goes by the stack of calls; HFLAG and EVT note by BA (R289). -/
theorem logicControl : Obligations.LogicControl := by
  refine ⟨?jmp, ?jc, ?jnc, ?call, ?ret, ?hflag, ?evt⟩
  case jmp | call => exact .of_runOp (fun _ _ _ => rfl) (fun _ _ _ _ => rfl) (fun _ _ => rfl)
  case jc | jnc | hflag | evt =>
    refine .of_runOp (fun _ _ _ => rfl) (fun _ _ _ _ => rfl) (fun _ m => ?_)
    cases m.ba <;> rfl
  case ret =>
    refine .of_runOp (fun _ _ _ => rfl) (fun _ _ _ _ => rfl) (fun _ m => ?_)
    cases m.calls <;> rfl

/-- Settles O20. END is the one instruction that ends the run, and so the one whose step hands in (R281, R289). -/
theorem logicEnd : Obligations.LogicEnd := fun n opnd s _ h =>
  have row : exec (.leEnd n opnd) s = engineRow s s.lmt (fun s => s.leStep n 0x65 opnd (fun _ e r => (e, { r with ended := true }))) := rfl
  (exec_of_leStep_opens h row).trans (by simp only [if_true])

end

section
/-! The completion statement of the rows of Hopper, the extension calls and the event controller. -/

namespace Sys2Proof.Machine

/-- With the clocks running, an edge of a source is an event row; with them stopped the model only holds it (R461, log 253). -/
theorem rowDoes_ecSourceEdge (t : Nat) (inp : EcInput) (s : State) :
    RowDoes (.ecSourceEdge t inp) s t (ecEdge inp.src inp.up) := fun hc =>
  calc exec (.ecSourceEdge t inp) s = eventRow s t (ecEdge inp.src inp.up) := if_pos hc
    _ = .next ((s.tick t).follow (ecEdge inp.src inp.up (s.tick t))) := eventRow_on t hc

end Sys2Proof.Machine

open Sys2Proof Sys2Proof.Machine

/-- Settles O12. What logic engines, Hopper and the extension cores do are instants of an engine; only the edge of a source comes from outside and is
an event row. -/
theorem hopperRows : Obligations.HopperRows := by
  refine ⟨?logicRunStart, ?hopperDeal, ?extRunEnd, ?extBudgetOverrun, ?extFault, ?extCallPointRead, ?extCallPointWrite, ?extCallFlagSet,
    ?extCallRaise, ?extCallLmt, ?ecClaim, ?ecComplete, ?ecRaise, ?ecOverrunsRead, ?ecSourceEdge⟩
  case ecSourceEdge => exact rowDoes_ecSourceEdge
  all_goals intros; exact .of_engineRow rfl

end

section
/-! SUPPORT. What follows an effect (R391, and R324, R410, R418, R432): a step that finds nothing of its kind waiting leaves the state as it is. -/

namespace Sys2Proof.Machine

variable {s : State}

theorem State.still_iff : s.still = true ↔ s.flights = [] ∧ s.spins = [] ∧ s.sys.swapLeft = [] := by
  simp [State.still, and_assoc]

theorem State.roleChange_same_role {old : State} (h : s.red.role = old.red.role) : s.roleChange old = s := by
  simp [State.roleChange, h]

theorem State.swapEngines_none_left (h : s.sys.swapLeft = []) (p : Nat → Bool) : s.swapEngines p = s := by
  simp [State.swapEngines, h]

theorem State.spinGaps_no_programs (hs : s.spins = []) (hl : s.sys.swapLeft = []) : s.spinGaps = s := by
  simp [State.spinGaps, SMap.keys, hs, State.swapSpins, State.swapEngines_none_left hl]

theorem State.flightsOf_no_flights (h : s.flights = []) (p : Flight → Bool) : s.flightsOf p = [] := by
  simp [State.flightsOf, h]

theorem State.disablesDone_no_flights (h : s.flights = []) : s.disablesDone = s := by
  simp [State.disablesDone, State.flightsOf_no_flights h]

theorem State.ringDeletes_no_flights (h : s.flights = []) : s.ringDeletes = s := by
  simp [State.ringDeletes, State.flightsOf_no_flights h]

theorem State.abortsLate_no_flights (h : s.flights = []) : s.abortsLate = s := by
  simp [State.abortsLate, State.flightsOf_no_flights h]

theorem State.settle_still (h : s.still = true) : s.settle = s := by
  obtain ⟨flights, spins, swaps⟩ := State.still_iff.mp h
  rw [State.settle, State.spinGaps_no_programs spins swaps, State.disablesDone_no_flights flights, State.ringDeletes_no_flights flights,
    State.abortsLate_no_flights flights]

theorem State.afterStep_still (h : s.still = true) : s.afterStep = s := by
  obtain ⟨flights, -, -⟩ := State.still_iff.mp h
  simp only [State.afterStep, State.settle_still h, flights, List.length_nil, State.startHeld]

end Sys2Proof.Machine

open Sys2Proof Sys2Proof.Machine

/-- Settles O3. Neither of the two things that follow an effect finds work: the role is kept, and nothing waits. -/
theorem nothingFollows : Obligations.NothingFollows := fun s u still role =>
  calc s.follow u = (u.roleChange s).afterStep := rfl
    _ = u.afterStep := by rw [State.roleChange_same_role role]
    _ = u := State.afterStep_still still

end

section
/-! SUPPORT. From a row of a spindle instruction to what it makes of the program: one bridge for every instruction (R312), and its form for those that
write register D (formats A and I, and loads) and for branches. -/

namespace Sys2Proof.Machine

@[simp] theorem Spin.setW_prog (p : Spin) (r : Nat) (v : W32) : (p.setW r v).prog = p.prog := rfl

@[simp] theorem Spin.count_prog (p : Spin) (c : Nat) : (p.count c).prog = p.prog := rfl

variable {i : Nat → Nat → Instr} {op : Nat}

/-- A row of `spinStep` whose effect keeps the program's image does what its effect and its next address say, up to the exit at LENGTH. -/
theorem SpinDoes.of_spinStep {f : Nat → Nat → SpinWin → Spin → Spin} {next : Nat → Spin → Nat}
    (row : ∀ n o s, exec (i n o) s = engineRow s s.lmt (fun s => s.spinStep n op o (f n o) (next o)))
    (image : ∀ n o w p, (f n o w p).prog = p.prog) : SpinDoes i op f next := by
  intro n o s w h
  obtain ⟨clocks, noHalt, -⟩ := id h
  rw [row, engineRow_now clocks noHalt, spinStep_executes h _ _ (image n o w _)]

/-- A row of `spinD` writes register D and goes on at the next address. -/
theorem SpinDoes.of_spinD {g : Nat → Nat → SpinWin → Spin → W32}
    (row : ∀ n o s, exec (i n o) s = engineRow s s.lmt (fun s => s.spinD n op o (g n o))) :
    SpinDoes i op (fun n o w p => p.setW (fD o) (g n o w p)) (fun _ p => p.pc + 1) :=
  .of_spinStep row (fun _ _ _ p => p.setW_prog ..)

/-- A row of `spinBr` changes the next address alone: OFS further where its comparison holds. -/
theorem SpinDoes.of_spinBr {c : Nat → Spin → Bool} (row : ∀ n o s, exec (i n o) s = engineRow s s.lmt (fun s => s.spinBr n op o (c o))) :
    SpinDoes i op (fun _ _ _ p => p) (fun o p => if c o p then p.pc + fOfs o else p.pc + 1) :=
  .of_spinStep row (fun _ _ _ _ => rfl)

end Sys2Proof.Machine
end

section
/-! The statements of the spindle instructions. Each clause is its row's line of dispatch (by computation) put through the form of the bridge for its kind of
instruction. -/

open Sys2Proof Sys2Proof.Machine

/-- Settles O21. NOP alone has no register D; every other row writes it (R315). -/
theorem spindleArithmetic : Obligations.SpindleArithmetic := by
  refine ⟨?nop, ?add, ?sub, ?and, ?or, ?xor, ?shl, ?shr, ?asr, ?mul, ?min, ?max, ?minu, ?maxu, ?abs, ?addi, ?andi, ?ori, ?xori, ?shli, ?shri, ?asri,
    ?li, ?lui⟩
  case nop => exact .of_spinStep (fun _ _ _ => rfl) (fun _ _ _ _ => rfl)
  all_goals exact .of_spinD (fun _ _ _ => rfl)

/-- Settles O22. A load writes register D with bytes of the window, which stays as it is (R313). -/
theorem spindleLoads : Obligations.SpindleLoads := by
  refine ⟨?ldb, ?ldh, ?ldw, ?ldhl, ?ldwl, ?ldhls⟩
  all_goals exact .of_spinD (fun _ _ _ => rfl)

/-- Settles O23. CNT changes a counter; the model takes EXIT past the last instruction, to LENGTH (R312); the others are branches (R314). -/
theorem spindleBranches : Obligations.SpindleBranches := by
  refine ⟨?beq, ?bne, ?blt, ?bge, ?bltu, ?bgeu, ?beqi, ?bnei, ?blti, ?bgei, ?cnt, ?exit⟩
  case cnt => exact .of_spinStep (fun _ _ _ => rfl) (fun _ o _ p => p.count_prog (o % 8))
  case exit => exact .of_spinStep (fun _ _ _ => rfl) (fun _ _ _ _ => rfl)
  all_goals exact .of_spinBr (fun _ _ _ => rfl)

end

section
/-! The completion statement of the rows of the CAN ports. -/

open Sys2Proof Sys2Proof.Machine

/-- Settles O10. What a port meets on its bus (R333, R335, R340, R345) and the end of its rate dwell (R339) are no instants of an engine: every row is an
event row, which asks for the clocks alone. -/
theorem canRows : Obligations.CanRows := by
  refine ⟨?canFrameReceive, ?canFrameAcknowledged, ?canArbitrationLost, ?canTxError, ?canRecoveryComplete, ?canRateDetectDwell,
    ?canReceiveError, ?canBusIntegration⟩
  all_goals intros; exact .of_eventRow rfl

end

section
/-! The completion statement of the rows of the safety layer. -/

open Sys2Proof Sys2Proof.Machine

/-- Settles O11. The layer runs beside the engines: both channels' cycles (R349), the latches and expiries that they drive (R355, R361, R363, R369), the
self-test (R351) and the -N variant's sampling (R376) ask for the clocks alone, so every row is an event row and FAULT_HALT holds none of them up. -/
theorem safetyRows : Obligations.SafetyRows := by
  refine ⟨?safetyCycle, ?safetyDiscrepancyCount, ?evSafeResetLong, ?safetyStopDelayExpiry, ?nalatWatchdogExpiry, ?safetySelfTestDone,
    ?siStandardSample⟩
  all_goals intros; exact .of_eventRow rfl

end

section
/-! The completion statement of the rows of the host function, its registers and its rings. -/

open Sys2Proof Sys2Proof.Machine

/-- Settles O13. What comes over the host link (registers R402, resets R422, power states R420) and the function's own polls and timers (R408,
R411, R419) ask for the clocks alone, so every row is an event row and FAULT_HALT holds none of them up. Whether a ring may be read is asked by
the effects of SWEEP and DESCRIPTOR_FETCH themselves. -/
theorem hostRows : Obligations.HostRows := by
  refine ⟨?sweep, ?descriptorFetch, ?hostHeartbeatTimeout, ?msixModerationTimeout, ?msixUnmask, ?functionReset, ?powerStateChange,
    ?busMasterEnableChange, ?pmeRepeat, ?hostLinkTrained, ?lmtLoRead, ?adminEnSet, ?adminEnClear, ?quiesce, ?sulockLock, ?registerWrite,
    ?perstDeassertion⟩
  all_goals intros; exact .of_eventRow rfl

end

section
/-! SUPPORT. From the line of dispatch of a host command to what the command does: the bridge that every completion statement of the commands crosses. -/

namespace Sys2Proof.Machine

variable {s : State} {h : CmdHdr} {op : Nat} {run run' : CmdHdr → State → State}

/-- A descriptor that may start its command finds the module in no test mode or recovery start (R470). -/
theorem State.accepts_startMode (ha : s.accepts op h = true) : (s.take h).sys.startMode = 0 := by
  simp only [State.accepts, Bool.and_eq_true, beq_iff_eq] at ha
  exact ha.2

/-- Checks that find nothing do not find the command's own reason to refuse (R427 order 4). -/
theorem Gate.passes_refused {g : Gate} (hg : g.passes = true) : g.refused = false := by
  simp only [Gate.passes, Bool.and_eq_true, Bool.not_eq_true'] at hg
  exact hg.2

/-- Outside test mode and recovery start a command meets the state that took it and its descriptor as fetched, and nothing else: two rules that agree
there make the same row. -/
theorem commandRow_congr (hm : (s.take h).sys.startMode = 0) (hr : run (s.asFetched h) (s.take h) = run' (s.asFetched h) (s.take h)) :
    commandRow op h run s = commandRow op h run' s := by
  simp [commandRow, hostRow, runShown, hm, hr]

variable {i : CmdHdr → Instr} {gate : CmdHdr → State → Gate} {go : Flight → State → State}

/-- A row that dispatch answers by `commandRow` completes, where its rule is R427's order of checks and then `go` on every descriptor that its
gate does not refuse. -/
theorem CmdDoes.of_commandRow (hx : ∀ h s, exec (i h) s = commandRow op h run s)
    (hr : ∀ h s, (gate h s).refused = false → run h s = start op (gate h s) go h s) : CmdDoes i op gate go := fun h s ha hg =>
  calc exec (i h) s = commandRow op h run s := hx h s
    _ = commandRow op h (fun h s => start op (gate h s) go h s) s :=
        commandRow_congr (State.accepts_startMode ha) (hr _ _ (Gate.passes_refused hg))
    _ = .next ((s.take h).runs s op (gate (s.asFetched h) (s.take h)) go (s.asFetched h)) := commandRow_accepts ha hg

/-- The usual command does nothing before R427's checks, whatever they find. -/
theorem CmdDoes.of_start (hx : ∀ h s, exec (i h) s = commandRow op h (fun h s => start op (gate h s) go h s) s) : CmdDoes i op gate go :=
  .of_commandRow hx fun _ _ _ => rfl

/-- CAP_TRIGGER counts a trigger on a capture unit that is not ARMED before it is refused; on an ARMED unit it counts nothing (R250). -/
theorem runCapTrigger_armed (h : CmdHdr) (s : State) (hg : (gateCapTrigger h s).refused = false) :
    runCapTrigger h s = start 0x0A03 (gateCapTrigger h s) goCapTrigger h s := by
  simp [runCapTrigger, hg]

end Sys2Proof.Machine
end

section
/-! The completion statements of the host commands. Each clause is its row's line of dispatch (by computation) put through the bridge above; the clause
itself says which commands only join those in flight, until the instant that their rule names. -/

open Sys2Proof Sys2Proof.Machine

/-- Settles O24. RING_CREATE, RING_MODIFY and RING_DELETE wait for the next sweep (R417, R418); NOP, ABORT and SYS_INFO act at the fetch. -/
theorem adminCommands : Obligations.AdminCommands := by
  refine ⟨?nop, ?ringCreate, ?ringModify, ?ringDelete, ?abort, ?sysInfo⟩
  all_goals exact .of_start fun _ _ => rfl

/-- Settles O25. Each command has an effect of its own; that of CFG_ADMIT, CFG_RECORD, UNIT_DISABLE and UNIT_ENABLE may leave the change to a later instant
(R432, R433, R439). UNIT_DISABLE and UNIT_ENABLE share one gate. -/
theorem configCommands : Obligations.ConfigCommands := by
  refine ⟨?cfgLoad, ?cfgCheck, ?cfgAdmit, ?cfgRecord, ?cfgRead, ?unitDisable, ?unitEnable, ?sluiceRead⟩
  all_goals exact .of_start fun _ _ => rfl

/-- Settles O26. RACE_VM_SET, RACE_TIME_SET and RACE_PRESET replace an older one that still waits for its segment (R45, R52), and COG_ARM waits for the next fit
(R80); the others have an effect of their own, which for COG_DISARM may be to wait for that fit as well. -/
theorem raceCogCommands : Obligations.RaceCogCommands := by
  refine ⟨?raceVmSet, ?raceTimeSet, ?raceReference, ?racePreset, ?raceConfirm, ?cogArm, ?cogDisarm, ?placeRead, ?placeWrite, ?placeSeal⟩
  all_goals exact .of_start fun _ _ => rfl

/-- Settles O27. POINT_WRITE joins those in flight until the commit that carries it (R25, R35); the three reads act at the fetch. -/
theorem pointCommands : Obligations.PointCommands := by
  refine ⟨?pointRead, ?pointWrite, ?pointMeta, ?nodeRead⟩
  all_goals exact .of_start fun _ _ => rfl

/-- Settles O28. LOOP_MODE, LOOP_TRIM and FT_TUNE wait for the loop's next sample (R141, R149, R168); the others have an effect of their own. -/
theorem loopFantailCommands : Obligations.LoopFantailCommands := by
  refine ⟨?loopMode, ?loopTrim, ?loopCoefWrite, ?loopCoefSeal, ?loopReadState, ?ftStart, ?ftStop, ?ftTune, ?ftAccept, ?ftPlaceErr, ?ftStatus⟩
  all_goals exact .of_start fun _ _ => rfl

/-- Settles O29. AXIS_SET_POS redefines the position at the fetch (R202), and the two table commands act on the axis's banks; the others wait for the motion
update (R194, R206). -/
theorem motionCommands : Obligations.MotionCommands := by
  refine ⟨?axisEnable, ?axisDisable, ?axisGoto, ?axisQueue, ?axisStop, ?axisHome, ?axisSetPos, ?axisLimits, ?axisClearFault, ?axisTableWrite,
    ?axisTableSeal⟩
  all_goals exact .of_start fun _ _ => rfl

/-- Settles O30. CL_ZERO_SPAN waits for the channel's next update (R236); the others have an effect of their own. -/
theorem analogueCommands : Obligations.AnalogueCommands := by
  refine ⟨?adcStart, ?anaVref, ?clZeroSpan, ?clCalCapture, ?dioReset⟩
  all_goals exact .of_start fun _ _ => rfl

/-- Settles O31. CAP_TRIGGER alone looks at its gate before R427's checks, so its clause needs that the unit is ARMED (R250); the other rules are
those checks and their effect. -/
theorem recordingCommands : Obligations.RecordingCommands := by
  refine ⟨?capArm, ?capDisarm, ?capTrigger, ?capRead, ?capRelease, ?trStart, ?trStop, ?trFlush, ?logRead, ?logClear, ?logCatalogue, ?recFreeze,
    ?recThaw⟩
  case capTrigger => exact CmdDoes.of_commandRow (fun _ _ => rfl) runCapTrigger_armed
  all_goals exact .of_start fun _ _ => rfl

/-- Settles O32. LOGIC_FORCE and LOGIC_UNFORCE wait for the commit of the point's group (R301); the others have an effect of their own. -/
theorem programCommands : Obligations.ProgramCommands := by
  refine ⟨?logicLoad, ?logicSeal, ?logicMode, ?logicStep, ?logicBreak, ?logicForce, ?logicUnforce, ?logicForceClear, ?logicForceList,
    ?logicReadState, ?spinLoad, ?spinSeal, ?spinReadState⟩
  all_goals exact .of_start fun _ _ => rfl

/-- Settles O33. Each command has an effect of its own at the fetch, also where its completion comes later (R336, R339, R341, R373). -/
theorem canSafetyCommands : Obligations.CanSafetyCommands := by
  refine ⟨?canSend, ?canRecover, ?canRateDetect, ?canRingRead, ?safeStatus, ?safeDiagRead, ?safeConfigStage, ?safeConfigAccept, ?safeConnRestart⟩
  all_goals exact .of_start fun _ _ => rfl

/-- Settles O34. HOP_FLAG, HOP_CANCEL and EXT_START leave with their flight what the next deal needs (R449, R453, R464), and UPD_STAGE waits for its image to be
durable (R484); HOP_FLAG and HOP_CANCEL share one effect. -/
theorem systemCommands : Obligations.SystemCommands := by
  refine ⟨?redStatus, ?redSwitch, ?redRevertInhibit, ?hopFlag, ?hopCancel, ?hopTraceRead, ?extLoad, ?extStart, ?extStop, ?hopReadState, ?updStage,
    ?updArm, ?updCancel, ?updCommit, ?updStatus⟩
  all_goals exact .of_start fun _ _ => rfl

end

section
/-! SUPPORT. What each function of the model leaves, one lemma per function in the order of the model: the queue, HSTAT.STATE, and in FAULT_HALT a role of
no pair or BLOCKED. Built up to what follows every row (`State.Keeps.afterStep`) and to the rule of every command (`State.Keeps.cmdRule`). -/

namespace Sys2Proof.Machine

/-- Roles in which a module stands in FAULT_HALT: of no pair, or BLOCKED (R384, R472). -/
def Role.inert (r : Role) : Prop := r = .single ∨ r = .blocked

/-- Nothing holds the role of this state: it is not that of a module in FAULT_HALT that is single or BLOCKED. -/
def State.RoleFree (s : State) : Prop := s.sys.st = .faultHalt → ¬ s.red.role.inert

/-- The state that an ABORT's case leaves (R430). -/
def AbortCase.left : AbortCase → State
  | .withdraw u => u
  | .wait u => u

/-- What every row but those of the start, of faults and of the commit leaves of the state: the queue, HSTAT.STATE, and in FAULT_HALT a role that it allows. -/
structure State.Keeps (s t : State) : Prop where
  queue : t.pending = s.pending
  state : t.sys.st = s.sys.st
  inert : s.sys.st = .faultHalt → s.red.role.inert → t.red.role.inert

theorem Sys.mark_st (y : Sys) (i : Nat) (x : SlotSt) : (y.mark i x).st = y.st := rfl

theorem State.RoleFree.of_st (s : State) (h : s.sys.st ≠ .faultHalt) : s.RoleFree := fun hf => absurd hf h

theorem State.pathHeard_role (s : State) (path : Nat) : (s.pathHeard path).red.role = s.red.role := by
  simp only [State.pathHeard, State.raiseIf_red]
  split <;> rfl

variable {s t : State}

namespace State.Keeps

theorem refl (s : State) : s.Keeps s := ⟨rfl, rfl, fun _ h => h⟩

/-- A role that FAULT_HALT does not allow shows that the state this one came from was free in its role. -/
theorem roleFree (h : s.Keeps t) (ht : ¬ t.red.role.inert) : s.RoleFree := fun hf hi => ht (h.inert hf hi)

/-- Writing any field but SYS and RED. -/
theorem upd {lmt host flights log tr cfg img journal jseq settled home encs races doms cogs fos sets net loops ogs lanes fts mot ana caps logic spins
    cans safe hop free} (h : s.Keeps t) :
    s.Keeps (State.mk t.pending lmt t.sys host flights log tr cfg img journal jseq settled home encs races doms cogs fos sets net loops ogs
      lanes fts mot ana caps logic spins cans safe t.red hop free) :=
  ⟨h.queue, h.state, h.inert⟩

/-- Writing any field, HSTAT.STATE and the role excepted. -/
theorem updSys {lmt sys host flights log tr cfg img journal jseq settled home encs races doms cogs fos sets net loops ogs lanes fts mot ana caps logic
    spins cans safe red hop free} (h : s.Keeps t) (hs : Sys.st sys = t.sys.st) (hr : Red.role red = t.red.role) :
    s.Keeps (State.mk t.pending lmt sys host flights log tr cfg img journal jseq settled home encs races doms cogs fos sets net loops ogs lanes
      fts mot ana caps logic spins cans safe red hop free) :=
  ⟨h.queue, hs.trans h.state, fun hf hi => hr ▸ h.inert hf hi⟩

theorem ite {c : Prop} [Decidable c] {a b : State} (ha : s.Keeps a) (hb : s.Keeps b) : s.Keeps (if c then a else b) := by split <;> assumption

theorem iteFst {α : Type} {c : Prop} [Decidable c] {a b : State × α} (ha : s.Keeps a.1) (hb : s.Keeps b.1) : s.Keeps (if c then a else b).1 := by
  split <;> assumption

theorem foldl {α : Type} {f : State → α → State} {l : List α} (hf : ∀ x a, s.Keeps x → s.Keeps (f x a)) (h : s.Keeps t) : s.Keeps (l.foldl f t) := by
  induction l generalizing t with
  | nil => exact h
  | cons a l ih => exact ih (hf t a h)

theorem foldlFst {α β : Type} {f : State × β → α → State × β} {l : List α} {x : State × β} (hf : ∀ x a, s.Keeps x.1 → s.Keeps (f x a).1) (h : s.Keeps x.1) :
    s.Keeps (l.foldl f x).1 := by
  induction l generalizing x with
  | nil => exact h
  | cons a l ih => exact ih (hf x a h)

end State.Keeps

/-! Access -/

theorem State.Keeps.setEnc {n : Nat} {x : Encoder} (h : s.Keeps t) : s.Keeps (t.setEnc n x) := h.upd

theorem State.Keeps.setRace {n : Nat} {x : Race} (h : s.Keeps t) : s.Keeps (t.setRace n x) := h.upd

theorem State.Keeps.setDom {n : Nat} {x : Domain} (h : s.Keeps t) : s.Keeps (t.setDom n x) := h.upd

theorem State.Keeps.setCog {n : Nat} {x : Cog} (h : s.Keeps t) : s.Keeps (t.setCog n x) := h.upd

theorem State.Keeps.setFo {n : Nat} {x : FastOut} (h : s.Keeps t) : s.Keeps (t.setFo n x) := h.upd

theorem State.Keeps.setPset {n : Nat} {x : BankSet} (h : s.Keeps t) : s.Keeps (t.setPset n x) := h.upd

theorem State.Keeps.setPort {n : Nat} {x : Port} (h : s.Keeps t) : s.Keeps (t.setPort n x) := h.upd

theorem State.Keeps.setNode {k : Nat} {x : Node} (h : s.Keeps t) : s.Keeps (t.setNode k x) := h.upd

theorem State.Keeps.setLoop {n : Nat} {x : Loop} (h : s.Keeps t) : s.Keeps (t.setLoop n x) := h.upd

theorem State.Keeps.setFt {n : Nat} {x : FtTask} (h : s.Keeps t) : s.Keeps (t.setFt n x) := h.upd

theorem State.Keeps.setAxis {n : Nat} {x : Axis} (h : s.Keeps t) : s.Keeps (t.setAxis n x) := h.upd

theorem State.Keeps.setCl {n : Nat} {x : ClChan} (h : s.Keeps t) : s.Keeps (t.setCl n x) := h.upd

theorem State.Keeps.setDio {n : Nat} {x : Dio} (h : s.Keeps t) : s.Keeps (t.setDio n x) := h.upd

theorem State.Keeps.setSeq {n : Nat} {x : AdcSeq} (h : s.Keeps t) : s.Keeps (t.setSeq n x) := h.upd

theorem State.Keeps.setCap {n : Nat} {x : CapUnit} (h : s.Keeps t) : s.Keeps (t.setCap n x) := h.upd

theorem State.Keeps.setChan {n : Nat} {x : TrChan} (h : s.Keeps t) : s.Keeps (t.setChan n x) := h.upd

theorem State.Keeps.setEng {n : Nat} {x : Engine} (h : s.Keeps t) : s.Keeps (t.setEng n x) := h.upd

theorem State.Keeps.setSpin {n : Nat} {x : Spin} (h : s.Keeps t) : s.Keeps (t.setSpin n x) := h.upd

theorem State.Keeps.setCan {n : Nat} {x : CanPort} (h : s.Keeps t) : s.Keeps (t.setCan n x) := h.upd

theorem State.Keeps.setGroup {k : Nat} {x : GroupSt} (h : s.Keeps t) : s.Keeps (t.setGroup k x) := h.upd

theorem State.Keeps.setHopT {n : Nat} {x : HopTask} (h : s.Keeps t) : s.Keeps (t.setHopT n x) := h.upd

/-! Frames -/

theorem State.Keeps.put {fr : List TxFrame} (h : s.Keeps t) : s.Keeps (t.put fr) := h.upd

theorem State.Keeps.putQueued {fr : List TxFrame} (h : s.Keeps t) : s.Keeps (t.putQueued fr) := h.upd

theorem State.Keeps.putLaunched {port due : Nat} {fr : List TxFrame} (h : s.Keeps t) : s.Keeps (t.putLaunched port due fr) := .ite h.setPort h.put

theorem State.Keeps.sendTo {seg queue dst : Nat} {payload : Bytes} (h : s.Keeps t) : s.Keeps (t.sendTo seg queue dst payload) := h.put

/-! Trace -/

theorem State.Keeps.withRecorders {a : Recorders} (h : s.Keeps t) : s.Keeps (t.withRecorders a) := .updSys h rfl rfl

theorem State.Keeps.raiseReq {qs : List EvReq} (h : s.Keeps t) : s.Keeps (t.raiseReq qs) := h.withRecorders

theorem State.Keeps.raise {code unit : Nat} {params : List Nat} {point : Nat} {cleared : Bool} (h : s.Keeps t) :
    s.Keeps (t.raise code unit params point cleared) :=
  h.raiseReq

theorem State.Keeps.raiseIf {c : Bool} {code unit : Nat} {params : List Nat} {point : Nat} {cleared : Bool} (h : s.Keeps t) :
    s.Keeps (t.raiseIf c code unit params point cleared) :=
  .ite h.raise h

theorem State.Keeps.emit {bitNo typ flags lmt bodyLen : Nat} {fig : List Nat} {stamps : Bool} {sel : Bytes → Bool} (h : s.Keeps t) :
    s.Keeps (t.emit bitNo typ flags lmt bodyLen fig stamps sel) :=
  h.withRecorders.withRecorders

/-! Ops -/

theorem State.Keeps.tick {t' : Nat} (h : s.Keeps t) : s.Keeps (t.tick t') := h.upd

theorem State.Keeps.wr {a : Nat} {v : W32} (h : s.Keeps t) : s.Keeps (t.wr a v) := .ite h.upd h

theorem State.Keeps.wr64 {a v : Nat} (h : s.Keeps t) : s.Keeps (t.wr64 a v) := h.wr.wr

theorem State.Keeps.setCond {a i : Nat} {on : Bool} (h : s.Keeps t) : s.Keeps (t.setCond a i on) := h.upd

theorem State.Keeps.wrLocal {node idx : Nat} {v : Int} (h : s.Keeps t) : s.Keeps (t.wrLocal node idx v) := h.wr

theorem State.Keeps.useFree (h : s.Keeps t) : s.Keeps t.useFree := h.upd

theorem State.Keeps.finish {f : Flight} {status : Nat} {r : Report0} (h : s.Keeps t) : s.Keeps (t.finish f status r) := h.upd

theorem State.Keeps.ok {f : Flight} {result detail : Nat} (h : s.Keeps t) : s.Keeps (t.ok f result detail) := h.finish

theorem State.Keeps.okOut {f : Flight} {out : List Nat} {result detail : Nat} (h : s.Keeps t) : s.Keeps (t.okOut f out result detail) := h.finish

theorem State.Keeps.setFlight {f : Flight} (h : s.Keeps t) : s.Keeps (t.setFlight f) := h.upd

theorem State.Keeps.finishAll {fs : List Flight} {status : Nat} {r : Report0} (h : s.Keeps t) : s.Keeps (t.finishAll fs status r) :=
  .foldl (fun _ _ h1 => h1.finish) h

theorem State.Keeps.finishOut {fs : List Flight} (h : s.Keeps t) : s.Keeps (t.finishOut fs) := .foldl (fun _ _ h1 => h1.finish) h

theorem State.Keeps.fetchOne {ring : Nat} (h : s.Keeps t) : s.Keeps (t.fetchOne ring) := by
  unfold State.fetchOne
  split
  · exact h
  · dsimp only
    split <;> exact h.upd

theorem State.Keeps.take {h' : CmdHdr} (h : s.Keeps t) : s.Keeps (t.take h') := by
  unfold State.take
  dsimp only
  split
  · exact h.tick.upd
  · exact h.tick.fetchOne

theorem State.Keeps.start {op : Nat} {g : Gate} {go : Flight → State → State} {h' : CmdHdr} (hgo : ∀ a0 x, s.Keeps x → s.Keeps (go a0 x))
    (h : s.Keeps t) : s.Keeps (start op g go h' t) := by
  unfold Machine.start
  refine .ite h.upd.finish ?_
  split
  · exact h.upd.finish
  · exact .ite h.upd.finish (.ite h.upd.finish (.ite h.upd.finish (hgo _ _ h.upd)))

theorem State.Keeps.hostRow {op : Nat} {h' : CmdHdr} {run : CmdHdr → State → State} (hrun : ∀ a0 x, s.Keeps x → s.Keeps (run a0 x)) (h : s.Keeps t) :
    s.Keeps (hostRow op h' run t) :=
  .ite h.take.upd (.ite h.take.upd (hrun _ _ h.take))

theorem State.Keeps.disableUnit {f : Flight} (h : s.Keeps t) : s.Keeps (t.disableUnit f) := h.finishAll.upd.raise.ok

theorem State.Keeps.enableUnit {f : Flight} (h : s.Keeps t) : s.Keeps (t.enableUnit f) := h.upd.raise.ok

theorem State.Keeps.faultOutputs (h : s.Keeps t) : s.Keeps t.faultOutputs := h.upd

theorem State.Keeps.mapBanks {f : Bank → Bank} (h : s.Keeps t) : s.Keeps (t.mapBanks f) := h.upd

/-! Races -/

theorem State.Keeps.racePoints {n : Nat} (h : s.Keeps t) : s.Keeps (t.racePoints n) :=
  .ite (.wr (.wr (.wr (.wr64 (.wr (by split; exacts [h, h.wr64.wr64.wr.wr.wr])))))) (.wr (.wr (.wr64 (.wr
    (by split; exacts [h, h.wr64.wr64.wr.wr.wr])))))

theorem State.Keeps.sendSeg {n : Nat} {g : Segment} (h : s.Keeps t) : s.Keeps (t.sendSeg n g) := .ite h h.putQueued

theorem State.Keeps.pushSeg {n : Nat} {g0 : Segment} (h : s.Keeps t) : s.Keeps (t.pushSeg n g0) := h.setRace.sendSeg.racePoints

theorem State.Keeps.bindDerived {n : Nat} {at' : W64} (h : s.Keeps t) : s.Keeps (t.bindDerived n at') := h.setRace

theorem State.Keeps.raceStart {n : Nat} {unref : Bool} (h : s.Keeps t) : s.Keeps (t.raceStart n unref) := .ite h.setRace.bindDerived h.setRace

theorem State.Keeps.raceStartTree {f n : Nat} {unref : Bool} (h : s.Keeps t) : s.Keeps (t.raceStartTree f n unref) := by
  induction f generalizing t n with
  | zero => exact h
  | succ f ih =>
    unfold State.raceStartTree
    exact .foldl (fun _ _ h1 => .ite h1 (ih h1)) h.raceStart

theorem State.Keeps.clearUnref {n : Nat} (h : s.Keeps t) : s.Keeps (t.clearUnref n) := .foldl (fun _ _ h1 => h1.setRace.racePoints) h

/-! Cogs -/

theorem State.Keeps.cogJump {c c0x : Nat} (h : s.Keeps t) : s.Keeps (t.cogJump c c0x) := .ite h h.setCog.raise

theorem State.Keeps.foPoints {o : Nat} (h : s.Keeps t) : s.Keeps (t.foPoints o) := h.wrLocal.wrLocal.wrLocal

theorem State.Keeps.foFlush {t' : Nat} (h : s.Keeps t) : s.Keeps (t.foFlush t') :=
  .foldl (fun _ _ h1 => by dsimp only; split; exacts [h1, (.ite h1 (.foPoints (.foldl (fun _ _ h2 => h2.raise) h1.setFo)))]) h

theorem State.Keeps.foLost {o : Nat} (h : s.Keeps t) : s.Keeps (t.foLost o) := .ite h.upd.setFo.foPoints h

theorem State.Keeps.cogPoints {c : Nat} (h : s.Keeps t) : s.Keeps (t.cogPoints c) := h.wrLocal.wrLocal.wrLocal

theorem State.Keeps.cogOps {race : Nat} {c0x : Option Nat} (h : s.Keeps t) : s.Keeps (t.cogOps race c0x) :=
  .foldl (fun _ _ h1 => .ite h1 (.ite h1.setCog.ok (by split; exacts [h1.finish, h1.setCog.ok]))) (.foldl (fun _ _ h1 => h1.setCog.disableUnit) h)

theorem State.Keeps.cogsLost {race : Nat} (h : s.Keeps t) : s.Keeps (t.cogsLost race) :=
  .foldl (fun _ _ h1 => h1.foLost) (.cogOps (.foldl (fun _ _ h1 => .ite h1 (.foldl (fun _ _ h2 => h2.raise) h1.setCog)) h))

theorem State.Keeps.cogsIdle {race : Nat} (h : s.Keeps t) : s.Keeps (t.cogsIdle race) := by
  unfold State.cogsIdle
  exact .cogOps (.foldl (fun _ _ h1 => h1.setCog) h)

theorem State.Keeps.goCogArm {a0 : Flight} (h : s.Keeps t) : s.Keeps (goCogArm a0 t) := h

theorem State.Keeps.goCogDisarm {f : Flight} (h : s.Keeps t) : s.Keeps (goCogDisarm f t) := .ite h.setCog.ok h

/-! RaceSteps -/

theorem State.Keeps.raceLost {n : Nat} (h : s.Keeps t) : s.Keeps (t.raceLost n) :=
  .foldl (fun _ _ h1 => .ite h1 h1.setRace.raise.cogsLost.racePoints) h

theorem State.Keeps.raceHoldover {n : Nat} (h : s.Keeps t) : s.Keeps (t.raceHoldover n) :=
  .ite h (.ite (.raceLost (.foldl (fun _ _ h1 => .ite h1.setRace.raise.racePoints h1) h)) (.foldl
    (fun _ _ h1 => .ite h1.setRace.raise.racePoints h1) h))

theorem State.Keeps.raceRecover {n : Nat} {at' : W64} (h : s.Keeps t) : s.Keeps (t.raceRecover n at') :=
  .ite h (.foldl (fun _ _ h1 => .ite h1.setRace.raise.racePoints h1) h)

theorem State.Keeps.encGood {e : Nat} {x : Encoder} {delta : Int} {at' : Nat} (h : s.Keeps t) : s.Keeps (t.encGood e x delta at') := by
  unfold State.encGood
  dsimp only
  split
  · exact h.setEnc
  · exact .ite h.setEnc.raceRecover.setRace h.setEnc.raceRecover

theorem State.Keeps.encFault {e : Nat} {x : Encoder} {code : Nat} (h : s.Keeps t) : s.Keeps (t.encFault e x code) := by
  unfold State.encFault
  dsimp only
  split
  · exact h.setEnc
  · exact h.setEnc.raceHoldover.racePoints

theorem State.Keeps.encoderSample {e : Nat} {sn cs : Int} {illegal : Bool} (h : s.Keeps t) : s.Keeps (encoderSample e sn cs illegal t) :=
  .ite (.ite h.encFault (.ite h.encFault h.encGood)) (.ite (.ite h.encFault (.ite h.encFault h.encGood)) h)

theorem State.Keeps.ssiRead {e word : Nat} {checkOk : Bool} (h : s.Keeps t) : s.Keeps (ssiRead e word checkOk t) :=
  .ite h (.ite (.ite h.encFault h.setEnc) (.ite h.encFault h.encGood))

theorem State.Keeps.indexCapture {n : Nat} {count : W64} (h : s.Keeps t) : s.Keeps (indexCapture n count t) := .ite h h.setRace.clearUnref.finishAll

theorem State.Keeps.raceHoldoverExpiry {n : Nat} (h : s.Keeps t) : s.Keeps (raceHoldoverExpiry n t) := .ite h.raceLost h

theorem State.Keeps.remoteTake {n : Nat} {g : Segment} (h : s.Keeps t) : s.Keeps (t.remoteTake n g) :=
  .pushSeg (.ite (.foldl (fun _ _ h1 => .ite h1 h1.setRace) (.ite h.setRace h.setRace.raceRecover)) (.ite h.setRace h.setRace.raceRecover))

theorem State.Keeps.remoteSegmentReceive {payload : Bytes} (h : s.Keeps t) : s.Keeps (remoteSegmentReceive payload t) := by
  unfold Machine.remoteSegmentReceive
  split
  · exact .foldl (fun _ _ h1 => .ite h1.setRace h1) h
  · exact .foldl (fun _ _ h1 => .ite h1.remoteTake h1) h.upd

theorem State.Keeps.segmentFrameLaunch {port : Nat} (h : s.Keeps t) : s.Keeps (segmentFrameLaunch port t) := by
  unfold Machine.segmentFrameLaunch
  split
  · exact h
  · exact .ite h (.ite (.ite h.upd.setPort.setRace.raise.racePoints h.upd.setPort) h.upd.put)

theorem State.Keeps.replaceOlder {f : Flight} (h : s.Keeps t) : s.Keeps (t.replaceOlder f) := h.finishAll

theorem State.Keeps.goRaceVmSet {f : Flight} (h : s.Keeps t) : s.Keeps (goRaceVmSet f t) := h.replaceOlder

theorem State.Keeps.goRaceTimeSet {f : Flight} (h : s.Keeps t) : s.Keeps (goRaceTimeSet f t) := h.replaceOlder

theorem State.Keeps.goRaceReference {f : Flight} (h : s.Keeps t) : s.Keeps (goRaceReference f t) := h.setRace

theorem State.Keeps.goRacePreset {f : Flight} (h : s.Keeps t) : s.Keeps (goRacePreset f t) := h.replaceOlder

theorem State.Keeps.goRaceConfirm {f : Flight} (h : s.Keeps t) : s.Keeps (goRaceConfirm f t) := h.clearUnref.ok

/-! Placement -/

theorem State.Keeps.setPoints {set : Nat} (h : s.Keeps t) : s.Keeps (t.setPoints set) := h.wrLocal.wrLocal.wrLocal.wrLocal

theorem State.Keeps.nozzleReplace {set key : Nat} {fields : List Nat} (h : s.Keeps t) : s.Keeps (t.nozzleReplace set key fields) :=
  .foldl (fun _ _ h1 => h1.setFlight) h

theorem State.Keeps.bankLeave {k : Nat} (h : s.Keeps t) : s.Keeps (t.bankLeave k) := by
  unfold State.bankLeave
  split
  · exact h
  · exact h.setPset.setPoints

theorem State.Keeps.sendBank {k set bank seq : Nat} {content : SMap Nozzle} (h : s.Keeps t) : s.Keeps (t.sendBank k set bank seq content) :=
  .foldl (fun _ _ h1 => h1.sendTo) h.setNode

theorem State.Keeps.bankService {set k : Nat} {fresh : Bool} (h : s.Keeps t) : s.Keeps (t.bankService set k fresh) := by
  unfold State.bankService
  refine .ite h ?_
  refine .ite h ?_
  split
  · exact h.setPset.sendBank
  · exact .ite h (.ite h.setPset.raise h.setPset.sendBank)

theorem State.Keeps.sendNotice {race set : Nat} {g : Segment} {gap : Nat} (h : s.Keeps t) : s.Keeps (t.sendNotice race set g gap) :=
  .ite h.putQueued h

theorem State.Keeps.bankRetry {k : Nat} (h : s.Keeps t) : s.Keeps (t.bankRetry k) := .ite h h.setNode

theorem State.Keeps.bankSwap {race set : Nat} {g : Segment} {target : Nat} (h : s.Keeps t) : s.Keeps (t.bankSwap race set g target) :=
  .ite (.foldl (fun _ _ h1 => h1.bankRetry) h) (.ite (.setPoints (.sendNotice (.raise (.finishAll (.setPset (.foldl
    (fun _ _ h1 => h1.bankRetry) h)))))) (.foldl (fun _ _ h1 => h1.bankService) (.setPoints (.raiseIf (.setPset (.foldl
    (fun _ _ h1 => h1.bankRetry) h))))))

theorem State.Keeps.goPlaceRead {f : Flight} (h : s.Keeps t) : s.Keeps (goPlaceRead f t) := by
  unfold Machine.goPlaceRead
  dsimp only
  split
  · exact h.okOut
  · exact h

theorem State.Keeps.goPlaceWrite {f : Flight} (h : s.Keeps t) : s.Keeps (goPlaceWrite f t) := by
  unfold Machine.goPlaceWrite
  dsimp only
  split
  · exact .foldl (fun _ _ h1 => h1.nozzleReplace) h.setPset
  · exact h

theorem State.Keeps.ftNewSeal {set : Nat} (h : s.Keeps t) : s.Keeps (t.ftNewSeal set) := h.upd

theorem State.Keeps.goPlaceSeal {f : Flight} (h : s.Keeps t) : s.Keeps (goPlaceSeal f t) :=
  .setPoints (.foldl (fun _ _ h1 => h1.bankService) h.setPset.setFlight.ftNewSeal)

/-! Points -/

theorem State.Keeps.takeSnapshot {k : Nat} {inputs : List Nat} (h : s.Keeps t) : s.Keeps (t.takeSnapshot k inputs) := h.setGroup

theorem State.Keeps.forcesDone {k : Nat} {fs : List Flight} (h : s.Keeps t) : s.Keeps (t.forcesDone k fs) := by
  induction fs generalizing t with
  | nil => exact h
  | cons f r ih =>
    unfold State.forcesDone
    exact ih (.ite (.ite h.finish h.setFlight) h.finish)

theorem State.Keeps.emitBy {bitNo typ lmt : Nat} {stamps : Bool} {mk : Bytes → Option (Nat × List Nat)} (h : s.Keeps t) :
    s.Keeps (t.emitBy bitNo typ lmt stamps mk) :=
  h.withRecorders.withRecorders

theorem State.Keeps.cmdWritten {as : List Nat} (h : s.Keeps t) : s.Keeps (t.cmdWritten as) := h.upd

theorem State.Keeps.gather {k : Nat} (h : s.Keeps t) : s.Keeps (t.gather k) := .foldl (fun _ _ h1 => h1.setFlight) h.upd.setGroup.cmdWritten

theorem State.Keeps.commitImage {k : Nat} (h : s.Keeps t) : s.Keeps (t.commitImage k).1 :=
  .forcesDone (.foldl (fun _ _ h1 => by split; exacts [h1.raise, h1.raiseIf, h1.raise, h1]) h.upd)

theorem State.Keeps.commitPaged (h : s.Keeps t) : s.Keeps t.commitPaged.1 :=
  .upd (.foldl (fun _ _ h1 => h1.setFlight) (.foldl (fun _ _ h1 => by split; exacts [h1.setPset, h1]) h))

theorem State.Keeps.markBanks (h : s.Keeps t) : s.Keeps t.markBanks := .ite h.upd h.mapBanks.upd.upd

theorem State.Keeps.writeThrough {k : Nat} {changed : List Nat} {paged : List (Nat × W32)} (h : s.Keeps t) :
    s.Keeps (t.writeThrough k changed paged) := by
  unfold State.writeThrough
  refine .raiseIf (.setGroup ?_)
  have hst {c : Prop} [Decidable c] {y : Sys} (hy : y.st = t.sys.st) : (if c then y else t.sys).st = t.sys.st := by split <;> simp [hy]
  split
  · exact .upd (.mapBanks (.updSys h (hst rfl) rfl))
  · exact .updSys h (hst rfl) rfl

theorem State.Keeps.durableDone {f : Flight} (h : s.Keeps t) : s.Keeps (t.durableDone f) := .ite h.setFlight h.finish

theorem State.Keeps.pagedDurable {cells : List (Nat × W32)} (h : s.Keeps t) : s.Keeps (t.pagedDurable cells) :=
  .foldl (fun _ _ h1 => by split; exacts [h1, (.ite h1.setNode.upd (.ite h1.upd h1))]) h

theorem State.Keeps.writeThroughDurable (h : s.Keeps t) : s.Keeps (writeThroughDurable t) := by
  unfold Machine.writeThroughDurable
  split
  · exact h
  · exact .foldl (fun _ _ h1 => h1.durableDone) (.ite (.upd (.pagedDurable (.upd (.mapBanks (.ite h.upd.setGroup h.upd))))) (.pagedDurable (.upd
    (.mapBanks (.ite h.upd.setGroup h.upd)))))

theorem State.Keeps.journalSettle (h : s.Keeps t) : s.Keeps (journalSettle t) := h.upd

theorem State.Keeps.goPointRead {f : Flight} (h : s.Keeps t) : s.Keeps (goPointRead f t) := .ite h.okOut h.finish

theorem State.Keeps.goPointWrite {a0 : Flight} (h : s.Keeps t) : s.Keeps (goPointWrite a0 t) := h

theorem State.Keeps.goPointMeta {f : Flight} (h : s.Keeps t) : s.Keeps (goPointMeta f t) := h.finish

theorem State.Keeps.goNodeRead {f : Flight} (h : s.Keeps t) : s.Keeps (goNodeRead f t) := h.okOut

/-! Spindle -/

theorem State.Keeps.spinOffer {n : Nat} {w : SpinWin} {u : State} (hu : t.spinOffer n w = some u) (h : s.Keeps t) : s.Keeps u := by
  simp only [State.spinOffer] at hu
  split at hu
  · simp at hu
  · split at hu
    · exact Option.some.inj hu ▸ h.setSpin
    · simp at hu

theorem State.Keeps.spinBacklog {n : Nat} (h : s.Keeps t) : s.Keeps (t.spinBacklog n) := .ite h h.setSpin.raiseIf

theorem State.Keeps.spinBad {n : Nat} (h : s.Keeps t) : s.Keeps (t.spinBad n) := h.setSpin.raiseIf

theorem State.Keeps.spinGap {n : Nat} (h : s.Keeps t) : s.Keeps (t.spinGap n) := .ite h.upd.setSpin.raise.finishOut (.ite h.setSpin.raise h)

theorem State.Keeps.spinStart {n : Nat} (h : s.Keeps t) : s.Keeps (t.spinStart n) := by
  unfold State.spinStart
  dsimp only
  split
  · exact h.setSpin
  · exact h

theorem State.Keeps.spinExec {n : Nat} {f : SpinWin → Spin → Spin} {next : Spin → Nat} (h : s.Keeps t) : s.Keeps (t.spinExec n f next) := by
  unfold State.spinExec
  dsimp only
  split
  · exact h
  · exact h.setSpin

theorem State.Keeps.spinEnd {n : Nat} (h : s.Keeps t) : s.Keeps (t.spinEnd n).1 := by
  unfold State.spinEnd
  dsimp only
  split
  · exact h
  · exact h.setSpin

theorem State.Keeps.goSpinLoad {f : Flight} (h : s.Keeps t) : s.Keeps (goSpinLoad f t) := h.setSpin

theorem State.Keeps.goSpinReadState {f : Flight} (h : s.Keeps t) : s.Keeps (goSpinReadState f t) := h.okOut

/-! Can -/

theorem State.Keeps.canObjPoint {p o : Nat} (h : s.Keeps t) : s.Keeps (t.canObjPoint p o) := h.wrLocal

theorem State.Keeps.canPoints {p : Nat} (h : s.Keeps t) : s.Keeps (t.canPoints p) := h.wrLocal.wrLocal.wrLocal.wrLocal.wrLocal.wrLocal.wrLocal.wrLocal

theorem State.Keeps.canCond {p : Nat} {b : Bytes} {i : Nat} {on : Bool} (h : s.Keeps t) : s.Keeps (t.canCond p b i on) :=
  .foldl (fun _ _ h1 => h1.setCond) h

theorem State.Keeps.canNext {p : Nat} (h : s.Keeps t) : s.Keeps (t.canNext p) := by
  unfold State.canNext
  refine .ite h ?_
  split
  · exact h.setCan
  · exact h

theorem State.Keeps.canLoad {p o : Nat} {data : Bytes} (h : s.Keeps t) : s.Keeps (t.canLoad p o data) :=
  .canObjPoint (.canNext (by split; exacts [h.setCan, h.setCan.raiseIf]))

theorem State.Keeps.canDrop {p o : Nat} {failed : Bool} (h : s.Keeps t) : s.Keeps (t.canDrop p o failed) :=
  .canObjPoint (.foldl (fun _ _ h1 => .ite h1.finish h1.finish.finishAll) h.setCan)

theorem State.Keeps.canState {p : Nat} (h : s.Keeps t) : s.Keeps (t.canState p) := .ite h.setCan.raise (.ite h.setCan.raise h)

theorem State.Keeps.canBusOff {p : Nat} (h : s.Keeps t) : s.Keeps (t.canBusOff p) := h.setCan.raise

theorem State.Keeps.canHeard {p : Nat} (h : s.Keeps t) : s.Keeps (t.canHeard p) := .ite h.setCan.raise h.setCan

theorem State.Keeps.canSync {p : Nat} (h : s.Keeps t) : s.Keeps (t.canSync p) := .ite h (.ite (.foldl (fun _ _ h1 => h1.canCond) h.setCan) h.setCan)

theorem State.Keeps.canRing {p : Nat} {w : Bytes} (h : s.Keeps t) : s.Keeps (t.canRing p w) := .ite h.setCan h.setCan.raiseIf

theorem State.Keeps.canAccept {p o : Nat} {w : Bytes} (h : s.Keeps t) : s.Keeps (t.canAccept p o w) := h.setCan.canObjPoint

theorem State.Keeps.canDeliver {p v : Nat} {w : Bytes} (h : s.Keeps t) : s.Keeps (t.canDeliver p v w) :=
  .ite (.canRing (.ite (.ite h.canAccept h.spinBad) h)) (.ite (.ite h.canAccept h.spinBad) h)

theorem State.Keeps.canVerdict {p : Nat} {w : SpinWin} {v : W32} (h : s.Keeps t) : s.Keeps (t.canVerdict p w v) :=
  .ite h.spinBad.canDeliver h.canDeliver

theorem State.Keeps.canFound {p nom data : Nat} (h : s.Keeps t) : s.Keeps (t.canFound p nom data) := h.setCan.raise.finishAll

theorem State.Keeps.canDetectFrame {p : Nat} {brs : Bool} (h : s.Keeps t) : s.Keeps (t.canDetectFrame p brs) := by
  unfold State.canDetectFrame
  dsimp only
  split
  · exact h
  · split
    · exact .ite h.setCan (.ite h.setCan h.canFound)
    · exact .ite h.canFound h

theorem State.Keeps.canReceived {p sof : Nat} {f : CanFrame} (h : s.Keeps t) : s.Keeps (t.canReceived p sof f) := h.setCan.canDeliver

theorem State.Keeps.canFrameAcknowledged {p sof : Nat} (h : s.Keeps t) : s.Keeps (canFrameAcknowledged p sof t) := by
  unfold Machine.canFrameAcknowledged
  dsimp only
  split
  · exact h.canSync
  · exact .ite h.canSync (.canPoints (.canObjPoint (.canNext (.canState (.ite (.canReceived (.finishAll
    (.ite h.canSync.setCan.canHeard.canCond h.canSync.setCan.canHeard))) (.finishAll
    (.ite h.canSync.setCan.canHeard.canCond h.canSync.setCan.canHeard)))))))

theorem State.Keeps.canArbitrationLost {p : Nat} (h : s.Keeps t) : s.Keeps (canArbitrationLost p t) := by
  unfold Machine.canArbitrationLost
  dsimp only
  split
  · exact h
  · exact .canNext (.canHeard (.ite h.setCan.canDrop h.setCan))

theorem State.Keeps.canTxError {p : Nat} {ackError : Bool} (h : s.Keeps t) : s.Keeps (canTxError p ackError t) := by
  unfold Machine.canTxError
  extract_lets c b tec acks s1 s2
  split
  · exact h
  · next o _ =>
    refine .ite h ?_
    extract_lets s3 s4 c4 s5
    have h2 : s.Keeps s2 := .ite h.setCan h.setCan.canHeard
    have h3 : s.Keeps s3 := .ite h2.canDrop (.ite h2.canDrop h2)
    have h4 : s.Keeps s4 := .ite h3.canBusOff h3.canState
    have h5 : s.Keeps s5 := .ite h4.setCan.raise h4
    exact h5.canNext.canPoints

theorem State.Keeps.canRecoveryComplete {p : Nat} (h : s.Keeps t) : s.Keeps (canRecoveryComplete p t) :=
  .ite h h.setCan.raise.finishAll.canNext.canPoints

theorem State.Keeps.canBusIntegration {p : Nat} (h : s.Keeps t) : s.Keeps (canBusIntegration p t) := .ite h.canSync.setCan.canNext.canPoints h.canSync

theorem State.Keeps.canFrameReceive {p sof : Nat} {f : CanFrame} (h : s.Keeps t) : s.Keeps (canFrameReceive p sof f t) := by
  unfold Machine.canFrameReceive
  refine .ite h.canSync (State.Keeps.canPoints (.canNext ?_))
  split
  · next hu => exact .spinOffer hu h.canSync.setCan.useFree.canHeard.canState.canDetectFrame
  · exact h.canSync.setCan.useFree.canHeard.canState.canDetectFrame.spinBacklog.canDeliver

theorem State.Keeps.canReceiveError {p : Nat} {heavy res : Bool} (h : s.Keeps t) : s.Keeps (canReceiveError p heavy res t) :=
  .ite h.canSync (.ite h.canSync.setCan.canHeard.canPoints h.canSync.setCan.canHeard.canState.canNext.canPoints)

theorem State.Keeps.canRateDetectDwell {p : Nat} (h : s.Keeps t) : s.Keeps (canRateDetectDwell p t) := by
  unfold Machine.canRateDetectDwell
  dsimp only
  split
  · exact h
  · split
    · exact .ite h.canFound.canPoints h
    · exact .ite h (.ite h.setCan (.ite h.setCan h.setCan.finishAll.canPoints))

theorem State.Keeps.canObjSnap {p o : Nat} {b : Bytes} (h : s.Keeps t) : s.Keeps (t.canObjSnap p o b).1 := by
  unfold State.canObjSnap
  refine .iteFst h.canCond ?_
  split
  · exact .canObjPoint (.setCan (.canCond (.canCond (.foldl (fun _ _ h1 => h1.wr) h))))
  · exact .canObjPoint (.raiseIf (.setCan (.ite h.canCond (.ite h.canCond h))))

theorem State.Keeps.canSnapshot {seg grp : Nat} (h : s.Keeps t) : s.Keeps (t.canSnapshot seg grp).1 := .foldlFst (fun _ _ h1 => h1.canObjSnap) h

theorem State.Keeps.canCommit {seg grp : Nat} (h : s.Keeps t) : s.Keeps (t.canCommit seg grp) := .foldl (fun _ _ h1 => .ite h1.setCan.canCond h1) h

theorem State.Keeps.canOutput {seg grp : Nat} (h : s.Keeps t) : s.Keeps (t.canOutput seg grp) :=
  .ite h.canSync (.foldl (fun _ _ h1 => .ite h1.canLoad h1) h.canSync)

theorem State.Keeps.canLoadPoint {p : Nat} (h : s.Keeps t) : s.Keeps (t.canLoadPoint p) := .ite h h.setCan.canPoints

theorem State.Keeps.canAdmit {p : Nat} {keepFound : Bool} (h : s.Keeps t) : s.Keeps (t.canAdmit p keepFound) :=
  .canPoints (.foldl (fun _ _ h1 => .ite h1.canCond.canCond h1.canCond) h.setCan)

theorem State.Keeps.canOff {p : Nat} {f : Flight} (h : s.Keeps t) : s.Keeps (t.canOff p f) :=
  .canPoints (.foldl (fun _ _ h1 => h1.canCond) h.setCan.disableUnit)

theorem State.Keeps.goCanSend {f : Flight} (h : s.Keeps t) : s.Keeps (goCanSend f t) := h.setFlight.canLoad

theorem State.Keeps.goCanRecover {f : Flight} (h : s.Keeps t) : s.Keeps (goCanRecover f t) := h.setCan.canPoints

theorem State.Keeps.goCanRateDetect {f : Flight} (h : s.Keeps t) : s.Keeps (goCanRateDetect f t) := h.setCan.canPoints

theorem State.Keeps.goCanRingRead {f : Flight} (h : s.Keeps t) : s.Keeps (goCanRingRead f t) := h.setCan.okOut

/-! Fantail -/

theorem State.Keeps.setHeadroom {c : Nat} {v : Int} (h : s.Keeps t) : s.Keeps (t.setHeadroom c v) := h.setCl.wrLocal

theorem State.Keeps.ftState {k : Nat} {new : FtState} (h : s.Keeps t) : s.Keeps (t.ftState k new) := .ite h (.emit (.setFt (.ite h.setHeadroom h)))

theorem State.Keeps.ftRelayWritten {l : Nat} (h : s.Keeps t) : s.Keeps (t.ftRelayWritten l) := .foldl (fun _ _ h1 => h1.setFt) h

theorem State.Keeps.ftWriteLoop {k : Nat} {r : List Int} (h : s.Keeps t) : s.Keeps (t.ftWriteLoop k r) :=
  .ite h.setFt (.ite h.setLoop.setFt.ftRelayWritten h.setLoop.setFt)

theorem State.Keeps.ftWriteReg {k : Nat} {r : List Int} (h : s.Keeps t) : s.Keeps (t.ftWriteReg k r) :=
  .ite h.setFt (.setFt (.ite h.setEnc h.setHeadroom))

theorem State.Keeps.ftFlush {k : Nat} (h : s.Keeps t) : s.Keeps (t.ftFlush k) := by
  unfold State.ftFlush
  split
  · exact .ite h.ftWriteLoop h.ftWriteReg
  · exact h

theorem State.Keeps.ftResult {k : Nat} {r : List Int} (h : s.Keeps t) : s.Keeps (t.ftResult k r) := .ite h.ftWriteLoop h.setFt.raise

theorem State.Keeps.ftAfterSwap {l : Nat} (h : s.Keeps t) : s.Keeps (t.ftAfterSwap l) := .foldl (fun _ _ h1 => h1.ftFlush) h

theorem State.Keeps.ftTestEnd {k : Nat} (h : s.Keeps t) : s.Keeps (t.ftTestEnd k) := h.setLoop.setFt.ftState

theorem State.Keeps.ftTestAbort {k reason : Nat} (h : s.Keeps t) : s.Keeps (t.ftTestAbort k reason) := h.ftTestEnd.raise.finishAll

theorem State.Keeps.ftTestDone {k periodN : Nat} {x : RelayTest} (h : s.Keeps t) : s.Keeps (t.ftTestDone k periodN x) := by
  unfold State.ftTestDone
  dsimp only
  split
  · exact h.ftTestEnd.raise.finishAll
  · exact h.ftTestEnd.setFt.ftResult.finishAll

theorem State.Keeps.ftLoopDisabled {l : Nat} (h : s.Keeps t) : s.Keeps (t.ftLoopDisabled l) := by
  unfold State.ftLoopDisabled
  split
  · exact h
  · exact h.ftTestEnd.finishAll

theorem State.Keeps.ftIdent {k periodN : Nat} {auto : Bool} {st : Nat} {y u : Int} (h : s.Keeps t) : s.Keeps (t.ftIdent k periodN auto st y u) :=
  .ite h (.ite h.ftState (.ite (.setFt (.ite h.setFt.ftState h)) (.ite (.setFt (.ite h.setFt.ftState h)) (.ite (.setFt (.ite h.setFt.ftState h))
    (.setFt (.ite h.setFt.ftState h))))))

theorem State.Keeps.fantailResultDue {k : Nat} (h : s.Keeps t) : s.Keeps (fantailResultDue k t) :=
  .ite (.ite h h.ftFlush) (.ite (.raiseIf (.setFt (.ite h h.ftFlush))) (.ite (.raiseIf (.raiseIf (.setFt (.ite h h.ftFlush)))) (.ftResult (.raiseIf
    (.raiseIf (.setFt (.ite h h.ftFlush)))))))

theorem State.Keeps.fantailFrozen {k : Nat} (h : s.Keeps t) : s.Keeps (fantailFrozen k t) := .ite h.setFt.raise h

theorem State.Keeps.fantailEqUpdate {k : Nat} (h : s.Keeps t) : s.Keeps (fantailEqUpdate k t) :=
  .ite (.ite h h.ftFlush) (.ite (.ftState (.ite h h.ftFlush)) (.ite (.ite (.ite (.ftWriteReg (.ftState (.ite h h.ftFlush))) (.ftState
    (.ite h h.ftFlush))) (.raise (.setFt (.ftState (.ite h h.ftFlush))))) (.ftState (.ite h h.ftFlush))))

theorem State.Keeps.fantailHeadroomUpdate {k : Nat} (h : s.Keeps t) : s.Keeps (fantailHeadroomUpdate k t) := by
  unfold Machine.fantailHeadroomUpdate
  extract_lets b u x n c s1 lo hi src x1 put
  have hu : s.Keeps u := .ite h h.ftFlush
  have h1 : s.Keeps s1 := hu.ftState
  have hp {y : State} {v : Int} (hy : s.Keeps y) : s.Keeps (put y v) := .ite (.ite hy.ftWriteReg hy) hy.setFt.raise
  exact .ite hu (.ite hu.setFt.ftState (.ite (hp h1.setFt) (.ite (hp h1.setFt) h1)))

theorem State.Keeps.ftPlace {set key : Nat} {old n : Nozzle} (h : s.Keeps t) : s.Keeps (t.ftPlace set key old n) :=
  .ite h.setPset h.nozzleReplace.setPset

theorem State.Keeps.ftRecord {k : Nat} {d : Bytes} {o : Nat} (h : s.Keeps t) : s.Keeps (t.ftRecord k d o) := by
  unfold State.ftRecord
  dsimp only
  split
  · exact h.setFt
  · exact .ite h.setFt (.ite h.setFt.raiseIf (.ite (.raiseIf (.ite h.setFt h.setFt.ftPlace)) (.ite h.setFt h.setFt.setFt.raise)))

theorem State.Keeps.fantailPlaceRecord {k : Nat} (h : s.Keeps t) : s.Keeps (fantailPlaceRecord k t) := by
  unfold Machine.fantailPlaceRecord
  split
  · exact h
  · exact .ite h (.ite h.ftRecord.finish h.ftRecord.setFlight)

theorem State.Keeps.goFtStart {f : Flight} (h : s.Keeps t) : s.Keeps (goFtStart f t) := h.setFt.ftState.ok

theorem State.Keeps.ftStop {k status : Nat} (h : s.Keeps t) : s.Keeps (t.ftStop k status) := .finishAll (.ftState (.ite h.ftTestEnd h))

theorem State.Keeps.goFtStop {f : Flight} (h : s.Keeps t) : s.Keeps (goFtStop f t) := h.ftStop.ok

theorem State.Keeps.goFtTune {a0 : Flight} (h : s.Keeps t) : s.Keeps (goFtTune a0 t) := h

theorem State.Keeps.goFtAccept {f : Flight} (h : s.Keeps t) : s.Keeps (goFtAccept f t) := by
  unfold Machine.goFtAccept
  dsimp only
  split
  · exact h
  · exact .ite h.setFt.ftWriteLoop (.ite h.setFt.ftPlace (.ite h.setFt.ftWriteReg.ok h.setFt.ftWriteReg))

theorem State.Keeps.goFtPlaceErr {f : Flight} (h : s.Keeps t) : s.Keeps (goFtPlaceErr f t) := .ite h.ok h

theorem State.Keeps.goFtStatus {f : Flight} (h : s.Keeps t) : s.Keeps (goFtStatus f t) := h.okOut

/-! Loops -/

theorem State.Keeps.frameCounts {f : Nat} (h : s.Keeps t) : s.Keeps (t.frameCounts f) := h.upd

theorem State.Keeps.driveDest {kind i : Nat} {u : Int} (h : s.Keeps t) : s.Keeps (t.driveDest kind i u) :=
  .ite h.wr (.ite h.setCl.wrLocal (.ite h.upd.wrLocal h))

theorem State.Keeps.carryQ {a : Nat} {x : Src} (h : s.Keeps t) : s.Keeps (t.carryQ a x) := h.setCond.setCond.setCond

theorem State.Keeps.loopBank {l : Nat} (h : s.Keeps t) : s.Keeps (t.loopBank l).1 :=
  .iteFst h (.iteFst h.setLoop.finishAll.ftAfterSwap h.setLoop.raiseIf)

theorem State.Keeps.loopDisable {l : Nat} (h : s.Keeps t) : s.Keeps (t.loopDisable l) := h.ftLoopDisabled.setLoop.finishAll

theorem State.Keeps.service {u : Nat} {off on : State → State} (hoff : ∀ x, s.Keeps x → s.Keeps (off x)) (hon : ∀ x, s.Keeps x → s.Keeps (on x))
    (h : s.Keeps t) : s.Keeps (t.service u off on) :=
  .foldl (fun _ _ h1 => .ite h1.ok (.ite (.disableUnit (hoff _ h1)) (.enableUnit (hon _ h1)))) h

theorem State.Keeps.loopDisables {l : Nat} (h : s.Keeps t) : s.Keeps (t.loopDisables l) := by
  unfold State.loopDisables
  extract_lets b s1 g ms s2
  have h1 : s.Keeps s1 := .service (fun _ hx => hx.loopDisable) (fun _ hx => hx.setLoop) h
  have h2 : s.Keeps s2 := .service (fun _ hx => .foldl (fun _ _ hy => hy.loopDisable) hx) (fun _ hx => hx.upd) h1
  exact .ite h1 (.ite h2.loopDisable h2)

theorem State.Keeps.loopPoints {l : Nat} {o : LoopOut} {sp pv : Src} {off limited : Bool} {st : Nat} (h : s.Keeps t) :
    s.Keeps (t.loopPoints l o sp pv off limited st) :=
  .wr (.setCond (.wr (.ite h h.wr.setCond.carryQ.wr.wr.carryQ)))

theorem State.Keeps.loopTuneStart {l : Nat} {b : Bytes} {o : LoopOut} {mode : LoopMode} {pvBad : Bool} (h : s.Keeps t) :
    s.Keeps (t.loopTuneStart l b o mode pvBad) :=
  .foldl (fun _ _ h1 => .foldl (fun _ _ h2 => .ite h2 (.ite h2.finish h2.setFt.setLoop.ftState)) h1) h

theorem State.Keeps.loopRelay {l : Nat} {b : Bytes} {k : Nat} {x : LoopIn} {asked short open' : Bool} (h : s.Keeps t) :
    s.Keeps (t.loopRelay l b k x asked short open').1 := by
  unfold State.loopRelay
  dsimp only
  split
  · exact h
  · exact .iteFst h.ftTestAbort (.iteFst h.setFt.ftTestDone h.setFt)

theorem State.Keeps.loopSample {l : Nat} (h : s.Keeps t) : s.Keeps (t.loopSample l) := by
  unfold State.loopSample
  extract_lets b p0 first src s1 bk s2 p was w pv sp ff tk fl x off rl test x1 mode p1 o v src' lp s3 s4 s5 s6 started k u i src'' s7 fin st s8 s9 e1 e2 e3
  have h2 : s.Keeps s2 := h.setLoop.loopDisables.loopBank
  have hr : s.Keeps rl.1 := by
    unfold rl
    split
    · exact .iteFst h2.ftLoopDisabled h2.loopRelay
    · exact h2
  have h6 : s.Keeps s6 := hr.setLoop.finishAll.finishAll.loopTuneStart
  have h7 : s.Keeps s7 := .ite h6.setLoop h6
  have h8 : s.Keeps s8 := h7.setLoop.loopPoints
  have h9 : s.Keeps s9 := .ite h8 h8.driveDest
  exact h9.raiseIf.raiseIf.raiseIf.raiseIf

theorem State.Keeps.loopMark {l bitNo : Nat} (h : s.Keeps t) : s.Keeps (t.loopMark l bitNo) := h.setLoop.wr

theorem State.Keeps.groupDecide {g : Nat} (h : s.Keeps t) : s.Keeps (t.groupDecide g) :=
  .raiseIf (.driveDest (.foldl (fun _ _ h1 => h1.setLoop.loopMark) (by split; exacts [h.upd.loopMark, h.upd])))

theorem State.Keeps.traceWrite {c t' : Nat} {es : List (List Nat)} (h : s.Keeps t) : s.Keeps (t.traceWrite c t' es) := .ite h h.emit

theorem State.Keeps.traceSettle {c n : Nat} (h : s.Keeps t) : s.Keeps (t.traceSettle c n) := by
  induction n generalizing t with
  | zero => exact h
  | succ n ih =>
    unfold State.traceSettle
    dsimp only
    split
    · exact .ite (ih h.setChan.traceWrite) h
    · exact h

theorem State.Keeps.traceOffer {c t' place : Nat} {e : List Nat} (h : s.Keeps t) : s.Keeps (t.traceOffer c t' place e) := by
  unfold State.traceOffer
  dsimp only
  split
  · next hu => exact (h.spinOffer hu).setChan
  · exact h.spinBacklog.setChan

theorem State.Keeps.loopTraces {ls : List Nat} (h : s.Keeps t) : s.Keeps (t.loopTraces ls) :=
  .foldl (fun _ _ h1 => .ite h1 (.ite h1.setChan (.ite (.traceSettle (.foldlFst
    (fun _ _ h2 => h2.traceOffer) h1.setChan.setChan)) h1.setChan.traceWrite))) h

theorem State.Keeps.loopSkip {l : Nat} (h : s.Keeps t) : s.Keeps (t.loopSkip l) := h.loopMark.raise

theorem State.Keeps.loopIdent {l : Nat} (h : s.Keeps t) : s.Keeps (t.loopIdent l) := .foldl (fun _ _ h1 => h1.ftIdent) h

theorem State.Keeps.goLoopMode {a0 : Flight} (h : s.Keeps t) : s.Keeps (goLoopMode a0 t) := h

theorem State.Keeps.goLoopTrim {a0 : Flight} (h : s.Keeps t) : s.Keeps (goLoopTrim a0 t) := h

theorem State.Keeps.goLoopCoefWrite {f : Flight} (h : s.Keeps t) : s.Keeps (goLoopCoefWrite f t) := h.setLoop

theorem State.Keeps.goLoopCoefSeal {f : Flight} (h : s.Keeps t) : s.Keeps (goLoopCoefSeal f t) := h.setLoop

theorem State.Keeps.goLoopReadState {f : Flight} (h : s.Keeps t) : s.Keeps (goLoopReadState f t) := h.okOut

/-! Motion -/

theorem State.Keeps.moveDone {m : Move} {status : Nat} (h : s.Keeps t) : s.Keeps (t.moveDone m status) := by
  unfold State.moveDone
  split
  · split
    · exact h.finish
    · exact h
  · exact h

theorem State.Keeps.dropMoves {x status : Nat} (h : s.Keeps t) : s.Keeps (t.dropMoves x status) := .foldl (fun _ _ h1 => h1.moveDone) h.setAxis

theorem State.Keeps.homeDone {x status : Nat} (h : s.Keeps t) : s.Keeps (t.homeDone x status) := h.finishAll

theorem State.Keeps.axStop {x : Nat} {quick toDis : Bool} (h : s.Keeps t) : s.Keeps (t.axStop x quick toDis) := h.setAxis

theorem State.Keeps.axUnhome {x : Nat} (h : s.Keeps t) : s.Keeps (t.axUnhome x) := .ite h.setAxis h

theorem State.Keeps.axOff {x : Nat} (h : s.Keeps t) : s.Keeps (t.axOff x) := h.setAxis.axUnhome.finishAll

theorem State.Keeps.axOn {x : Nat} (h : s.Keeps t) : s.Keeps (t.axOn x) := h.setAxis

theorem State.Keeps.axRedefine {x : Nat} {pos : Int} (h : s.Keeps t) : s.Keeps (t.axRedefine x pos) := h.setAxis

theorem State.Keeps.axFault {x code : Nat} (h : s.Keeps t) : s.Keeps (t.axFault x code) :=
  .raise (.ite h.setAxis.dropMoves.homeDone.finishAll.axUnhome h.setAxis.dropMoves.homeDone.finishAll)

theorem State.Keeps.axTake {x code : Nat} (h : s.Keeps t) : s.Keeps (t.axTake x code) := .ite h h.axFault

theorem State.Keeps.axFaults {x : Nat} (h : s.Keeps t) : s.Keeps (t.axFaults x) :=
  .foldl (fun _ _ h1 => .ite h1 (.ite (.ite h1 (.ite h1.axOff h1.axTake)) h1.axTake)) (.ite (.axUnhome
    (.ite h.setAxis.useFree.axUnhome h.setAxis.useFree)) (.ite h.setAxis.useFree.axUnhome h.setAxis.useFree))

theorem State.Keeps.axSteer {x : Nat} {m : Move} (h : s.Keeps t) : s.Keeps (t.axSteer x m) := h.dropMoves.setAxis

theorem State.Keeps.axDisable {x : Nat} {keep : Flight → Bool} (h : s.Keeps t) : s.Keeps (t.axDisable x keep) :=
  .ite h.dropMoves.finishAll.setAxis h.dropMoves.finishAll.setAxis.axStop

theorem State.Keeps.axAbort {x : Nat} {f : Flight} (h : s.Keeps t) : s.Keeps (t.axAbort x f) := by
  unfold State.axAbort
  dsimp only
  split
  · exact h.finish
  · exact .ite h.dropMoves.axStop.ok (.ite h.setAxis.finish.ok (.ite h.finish.axStop.ok (.ite h h.finish.ok)))

theorem State.Keeps.axApply {x : Nat} {f : Flight} (h : s.Keeps t) : s.Keeps (t.axApply x f) := by
  unfold State.axApply
  refine .ite h ?_
  refine .ite h.axAbort ?_
  refine .ite (.ite h.ok h.axDisable.disableUnit) ?_
  refine .ite (.ite h.enableUnit h.ok) ?_
  refine .ite h.finish ?_
  split
  · exact .setFlight (.ite h.axOn h)
  · exact h.axDisable.setFlight
  · exact h.axSteer.setFlight
  · exact .ite h.finish h.setAxis.setFlight
  · exact .ite h.ok (.ite (.ok (.ite h.setAxis h)) h.dropMoves.homeDone.axStop.ok)
  · exact h.setAxis.setFlight
  · exact h.setAxis.ok
  · exact .ite h.ok (.ite h.finish (.ite h (.ok (.ite h.setAxis.axOff h.setAxis))))
  · exact h

theorem State.Keeps.axRequest {x : Nat} (h : s.Keeps t) : s.Keeps (t.axRequest x) :=
  .ite h (.ite h.setAxis (.ite h.setAxis.setAxis h.setAxis.setAxis.axSteer))

theorem State.Keeps.axStall {x : Nat} (h : s.Keeps t) : s.Keeps (t.axStall x).1 := .iteFst h h.setAxis

theorem State.Keeps.axProfile {x : Nat} (h : s.Keeps t) : s.Keeps (t.axProfile x) := by
  unfold State.axProfile
  extract_lets b st a o s1 s2 s3 inside s4 a1 s5
  have h1 : s.Keeps s1 := h.axStall.setAxis
  have h2 : s.Keeps s2 := by unfold s2; split; exacts [h1.moveDone, h1]
  have h3 : s.Keeps s3 := by unfold s3; split; exacts [h2.raise, h2]
  have h4 : s.Keeps s4 := h3.raiseIf
  exact .ite h4.axFault.raise (.ite h4.setAxis.raise.homeDone (.ite (.ite h4.axOff h4.setAxis) h4))

theorem State.Keeps.axLost {x : Nat} (h : s.Keeps t) : s.Keeps (t.axLost x) := .ite h.setAxis.raise.axTake h.setAxis.raise.setAxis

theorem State.Keeps.axCompare {x : Nat} (h : s.Keeps t) : s.Keeps (t.axCompare x) := .ite h.setAxis.raiseIf.axLost h.setAxis.raiseIf

theorem State.Keeps.axBank {x : Nat} {turn : Int} (h : s.Keeps t) : s.Keeps (t.axBank x turn) := .ite h (.ite h.setAxis.finishAll h.setAxis.raiseIf)

theorem State.Keeps.axPoints {x : Nat} (h : s.Keeps t) : s.Keeps (t.axPoints x) :=
  .wr (.wr (.wr (.wr (.wr (.wr (.wr (.wr (.wr (by split; exacts [(.wr64 (.ite h.wr64.wr64 (.ite h.wr64 h.wr64.wr64))), (.ite h.wr64.wr64
    (.ite h.wr64 h.wr64.wr64))])))))))))

theorem State.Keeps.axFirst {x : Nat} (h : s.Keeps t) : s.Keeps (t.axFirst x) := .ite h.setAxis.axOn h.setAxis

theorem State.Keeps.axUpdate {x : Nat} (h : s.Keeps t) : s.Keeps (t.axUpdate x) := by
  unfold State.axUpdate
  extract_lets b s2 s3 s4 s5 turn s6 s7 a
  have h4 : s.Keeps s4 := .foldl (fun _ _ h1 => h1.axApply) h.axFirst.axRequest
  have h6 : s.Keeps s6 := h4.axFaults.axProfile.axCompare.axBank
  have h7 : s.Keeps s7 := .ite h6.finishAll h6
  exact h7.setAxis.axPoints

theorem State.Keeps.linkFrame {l brake : Nat} {late : Bool} (h : s.Keeps t) : s.Keeps (t.linkFrame l brake late) :=
  .ite h.upd (.foldl (fun _ _ h1 => h1.setAxis) h.upd)

theorem State.Keeps.linkBad {l : Nat} (h : s.Keeps t) : s.Keeps (t.linkBad l) := .foldl (fun _ _ h1 => h1.setAxis) h.upd

theorem State.Keeps.linkTake {l : Nat} (h : s.Keeps t) : s.Keeps (t.linkTake l) := .upd (.ite h h.linkBad)

theorem State.Keeps.linkAnswer {l : Nat} {fr : Bytes} (h : s.Keeps t) : s.Keeps (t.linkAnswer l fr) := by
  unfold State.linkAnswer
  dsimp only
  split
  · exact h
  · exact .ite h (.ite h.upd.setAxis h.upd)

theorem State.Keeps.driveLinkUpstream {l : Nat} {framed : Bool} {fr : Bytes} (h : s.Keeps t) : s.Keeps (driveLinkUpstream l framed fr t) :=
  .ite h (.ite h.linkBad (.linkAnswer (.foldl (fun _ _ h1 => h1.setAxis) h.upd)))

theorem State.Keeps.axisHoldDelay {x : Nat} (h : s.Keeps t) : s.Keeps (axisHoldDelay x t) := .ite h.setAxis h

theorem State.Keeps.axisQuickStop {x : Nat} (h : s.Keeps t) : s.Keeps (axisQuickStop x t) := by
  unfold Machine.axisQuickStop
  refine .ite h ?_
  dsimp only
  split
  · exact h.setAxis.dropMoves.axStop
  · exact h.setAxis.homeDone.axStop
  · exact h.setAxis.setAxis
  · exact h.setAxis

theorem State.Keeps.remoteAxes {k apply : Nat} (h : s.Keeps t) : s.Keeps (t.remoteAxes k apply) :=
  .foldl (fun _ _ h1 => by dsimp only; split; exacts [h1, (.ite h1 h1.wr64.wr.wr.setAxis)]) h

theorem State.Keeps.goAxisEnable {a0 : Flight} (h : s.Keeps t) : s.Keeps (goAxisEnable a0 t) := h

theorem State.Keeps.goAxisDisable {a0 : Flight} (h : s.Keeps t) : s.Keeps (goAxisDisable a0 t) := h

theorem State.Keeps.goAxisGoto {a0 : Flight} (h : s.Keeps t) : s.Keeps (goAxisGoto a0 t) := h

theorem State.Keeps.goAxisQueue {a0 : Flight} (h : s.Keeps t) : s.Keeps (goAxisQueue a0 t) := h

theorem State.Keeps.goAxisStop {a0 : Flight} (h : s.Keeps t) : s.Keeps (goAxisStop a0 t) := h

theorem State.Keeps.goAxisHome {a0 : Flight} (h : s.Keeps t) : s.Keeps (goAxisHome a0 t) := h

theorem State.Keeps.goAxisSetPos {f : Flight} (h : s.Keeps t) : s.Keeps (goAxisSetPos f t) := h.axRedefine.ok

theorem State.Keeps.goAxisLimits {a0 : Flight} (h : s.Keeps t) : s.Keeps (goAxisLimits a0 t) := h

theorem State.Keeps.goAxisClearFault {a0 : Flight} (h : s.Keeps t) : s.Keeps (goAxisClearFault a0 t) := h

theorem State.Keeps.goAxisTableWrite {f : Flight} (h : s.Keeps t) : s.Keeps (goAxisTableWrite f t) := h.setAxis

theorem State.Keeps.goAxisTableSeal {f : Flight} (h : s.Keeps t) : s.Keeps (goAxisTableSeal f t) := h.setAxis

/-! Fit -/

theorem State.Keeps.fitSettings {n ts : Nat} (h : s.Keeps t) : s.Keeps (t.fitSettings n ts) := .ite h.setRace h

theorem State.Keeps.fitRecord {n ts : Nat} (h : s.Keeps t) : s.Keeps (t.fitRecord n ts) := h.setRace

theorem State.Keeps.presetTo {n ts : Nat} {x : W64} (h : s.Keeps t) : s.Keeps (t.presetTo n ts x) := .foldl (fun _ _ h1 => h1.setRace) h.setRace

theorem State.Keeps.fitCommands {n ts : Nat} (h : s.Keeps t) : s.Keeps (t.fitCommands n ts) :=
  .foldl (fun _ _ h1 => h1.presetTo.clearUnref.ok) (.foldl (fun _ _ h1 => h1.setRace.ok) (.foldl (fun _ _ h1 => h1.setRace.ok) h))

theorem State.Keeps.stepLimit {n : Nat} {atMax : Bool} (h : s.Keeps t) : s.Keeps (t.stepLimit n atMax) :=
  .ite h.setRace.raiseIf (.ite h.setRace.raise h.setRace)

theorem State.Keeps.cogFound {c race : Nat} {g : Segment} {tau : Nat} (h : s.Keeps t) : s.Keeps (t.cogFound c race g tau) :=
  .ite h.setCog.bankSwap (.ite (.ite h.setCog.setFo.raise.foPoints h.setCog) h.setCog)

theorem State.Keeps.cogSkipped {c : Nat} (h : s.Keeps t) : s.Keeps (t.cogSkipped c) := h.setCog.raise

theorem State.Keeps.cogSearch {c race : Nat} {g : Segment} {stop n lo : Nat} (h : s.Keeps t) : s.Keeps (t.cogSearch c race g stop n lo) := by
  induction n generalizing t lo with
  | zero => exact h
  | succ n ih =>
    unfold State.cogSearch
    dsimp only
    split
    · exact h
    · split
      · exact h
      · exact ih (.ite h.cogSkipped h.cogFound)

theorem State.Keeps.cogsFit {race : Nat} {g : Segment} {lo : Nat} {jump : Bool} (h : s.Keeps t) : s.Keeps (t.cogsFit race g lo jump) :=
  .foldl (fun _ _ h1 => h1.cogPoints) (.foldl (fun _ _ h1 => .ite h1.cogSearch h1) (.cogOps (.ite (.foldl (fun _ _ h1 => h1.cogJump) h) h)))

theorem State.Keeps.fitSearch {n ts : Nat} {g : Segment} {jump : Bool} (h : s.Keeps t) : s.Keeps (t.fitSearch n ts g jump) :=
  .cogsFit (.ite h.setRace h)

theorem State.Keeps.fitSearchNew {n : Nat} (h : s.Keeps t) : s.Keeps (t.fitSearchNew n) := by
  unfold State.fitSearchNew
  split
  · exact h
  · exact h.fitSearch

theorem State.Keeps.fitRunning {n ts : Nat} {pre : Option W64} (h : s.Keeps t) : s.Keeps (t.fitRunning n ts pre) := h.setRace.stepLimit.pushSeg

theorem State.Keeps.fitHoldover {n ts : Nat} {pre : Option W64} (h : s.Keeps t) : s.Keeps (t.fitHoldover n ts pre) := h.pushSeg

theorem State.Keeps.fitFallen {n ts : Nat} (h : s.Keeps t) : s.Keeps (t.fitFallen n ts) := by
  unfold State.fitFallen
  dsimp only
  split
  · exact h.fitCommands.fitHoldover.fitSearchNew
  · exact .ite h h.pushSeg
  · exact h

theorem State.Keeps.fitRemote {n ts : Nat} (h : s.Keeps t) : s.Keeps (t.fitRemote n ts) := by
  unfold State.fitRemote
  dsimp only
  split
  · exact h.setRace.fitSearch
  · exact h.raceHoldover.fitFallen

theorem State.Keeps.raceToIdle {n ts : Nat} (h : s.Keeps t) : s.Keeps (t.raceToIdle n ts) :=
  .foldl (fun _ _ h1 => .ite h1 h1.setRace.pushSeg.setRace.cogsIdle.finishAll.racePoints) h

theorem State.Keeps.segmentFit {n ts : Nat} (h : s.Keeps t) : s.Keeps (segmentFit n ts t) := by
  unfold Machine.segmentFit
  refine .ite h ?_
  split
  · exact h.raceToIdle.disableUnit
  · exact .ite h.fitSettings (.ite h.fitSettings.setRace.fitRecord.fitFallen
    (.ite h.fitSettings.setRace.fitRecord.fitRemote h.fitSettings.setRace.fitRecord.fitCommands.fitRunning.fitSearchNew))

/-! Ptp -/

theorem State.Keeps.domPoints {d : Nat} (h : s.Keeps t) : s.Keeps (t.domPoints d) := h.wr.wr.wr.wr.wr64.wr64.wr

theorem State.Keeps.ptpSyncReceive {port d : Nat} {offset pathDelay : Int} {gm : List Nat} (h : s.Keeps t) :
    s.Keeps (ptpSyncReceive port d offset pathDelay gm t) :=
  .ite h h.setDom.raiseIf.raiseIf.raiseIf.raiseIf.domPoints

theorem State.Keeps.ptpSend {port d mtype : Nat} {body : List Nat} (h : s.Keeps t) : s.Keeps (t.ptpSend port d mtype body) := h.put

theorem State.Keeps.ptpMessageAt {rx port d mtype : Nat} {data : List Nat} (h : s.Keeps t) : s.Keeps (ptpMessageAt rx port d mtype data t) :=
  .ite h (.ite h.setDom (.ite h.setDom.domPoints (.ite h.ptpSend (.ite (.ite h.ptpSend h.ptpSend.ptpSend) h))))

theorem State.Keeps.ptpSyncTimeout {d : Nat} (h : s.Keeps t) : s.Keeps (ptpSyncTimeout d t) := .ite h.setDom.raise.domPoints h

theorem State.Keeps.ptpSyncSend {port d : Nat} (h : s.Keeps t) : s.Keeps (ptpSyncSend port d t) :=
  .ite h (.ite (.domPoints (.setDom (.ptpSend (.ite h.ptpSend h.ptpSend.ptpSend)))) (.domPoints (.ptpSend (.ite h.ptpSend h.ptpSend.ptpSend))))

theorem State.Keeps.ptpDelayRequestSend {port d : Nat} (h : s.Keeps t) : s.Keeps (ptpDelayRequestSend port d t) :=
  .ite h (.ite h.ptpSend (.ite h.ptpSend h))

/-! Capture -/

theorem State.Keeps.capArm {u : Nat} (h : s.Keeps t) : s.Keeps (t.capArm u) := h.setCap.setSpin

theorem State.Keeps.capClose {u : Nat} {truncated : Bool} {trig : CapTrig} (h : s.Keeps t) : s.Keeps (t.capClose u truncated trig) :=
  h.setCap.raise.emit

theorem State.Keeps.capOverwrite {u : Nat} (h : s.Keeps t) : s.Keeps (t.capOverwrite u) := .ite h (.ite h.setCap.raise h)

theorem State.Keeps.capRearmGroup {m : Nat} (h : s.Keeps t) : s.Keeps (t.capRearmGroup m) :=
  .ite h (.foldl (fun _ _ h1 => .ite h1.capOverwrite.capArm h1.capOverwrite.setCap) h)

theorem State.Keeps.capRearm {u : Nat} (h : s.Keeps t) : s.Keeps (t.capRearm u) := h.setCap.capRearmGroup

theorem State.Keeps.capCommit {op u : Nat} (h : s.Keeps t) : s.Keeps (t.capCommit op u) := .foldl (fun _ _ h1 => h1.finish) h

theorem State.Keeps.capFill {u : Nat} {x : CapSample} (h : s.Keeps t) : s.Keeps (t.capFill u x) := .ite h.setCap.capClose.capRearm h.setCap

theorem State.Keeps.capEnter {u : Nat} {g : CapTrig} (h : s.Keeps t) : s.Keeps (t.capEnter u g) :=
  .foldl (fun _ _ h1 => .ite h1.capFill h1) h.setCap.capCommit

theorem State.Keeps.capLook {u : Nat} (h : s.Keeps t) : s.Keeps (t.capLook u) := by
  unfold State.capLook
  dsimp only
  split
  · exact h
  · refine .ite ?_ h
    split
    · exact h.capEnter
    · exact h

theorem State.Keeps.capTrigger {u : Nat} {g : CapTrig} (h : s.Keeps t) : s.Keeps (t.capTrigger u g) := .ite h.setCap.capLook h.setCap

theorem State.Keeps.capFireGroup {u : Nat} {g : CapTrig} (h : s.Keeps t) : s.Keeps (t.capFireGroup u g) :=
  .foldl (fun _ _ h1 => .ite h1.capTrigger h1) h

theorem State.Keeps.capQualify {u : Nat} {x : CapSample} (h : s.Keeps t) : s.Keeps (t.capQualify u x) := by
  unfold State.capQualify
  refine .ite h ?_
  split
  · next hu => exact h.spinOffer hu
  · exact h.spinBacklog

theorem State.Keeps.capSample {u : Nat} (h : s.Keeps t) : s.Keeps (capSample u t) := by
  unfold Machine.capSample
  split
  · exact h
  · refine .ite h ?_
    dsimp only
    split
    · exact .ite (.capQualify (.capLook (.setCap (.ite h.capArm.capCommit h)))) (.capLook (.setCap (.ite h.capArm.capCommit h)))
    · exact .capFill (.ite h.capArm.capCommit h)
    · exact .ite h.capArm.capCommit h

theorem State.Keeps.capGroupTrigger {u : Nat} (h : s.Keeps t) : s.Keeps (capGroupTrigger u t) :=
  .capRearmGroup (.foldl (fun _ _ h1 => h1.capFireGroup) h.setCap)

theorem State.Keeps.goCapArm {f : Flight} (h : s.Keeps t) : s.Keeps (goCapArm f t) := .foldl (fun _ _ h1 => h1.setCap) h

theorem State.Keeps.goCapDisarm {f : Flight} (h : s.Keeps t) : s.Keeps (goCapDisarm f t) := .ite h.setCap.finishAll.capRearmGroup.ok h.setCap.ok

theorem State.Keeps.goCapTrigger {f : Flight} (h : s.Keeps t) : s.Keeps (goCapTrigger f t) := h.capTrigger

theorem State.Keeps.runCapTrigger {h' : CmdHdr} (h : s.Keeps t) : s.Keeps (runCapTrigger h' t) :=
  .start (fun _ _ h1 => h1.goCapTrigger) (.ite h.setCap h)

theorem State.Keeps.goCapRead {f : Flight} (h : s.Keeps t) : s.Keeps (goCapRead f t) := h.okOut

theorem State.Keeps.goCapRelease {f : Flight} (h : s.Keeps t) : s.Keeps (goCapRelease f t) := .ok (.ite h.setCap.capArm h.setCap)

theorem State.Keeps.capDisableOne {u : Nat} (h : s.Keeps t) : s.Keeps (t.capDisableOne u) :=
  .finishAll (.setCap (by split; exacts [h.capClose, h.capClose, h]))

theorem State.Keeps.capDisable {u : Nat} (h : s.Keeps t) : s.Keeps (t.capDisable u) :=
  .ite h.capDisableOne.capRearmGroup (.foldl (fun _ _ h1 => h1.capDisableOne) h)

theorem State.Keeps.capPoints (h : s.Keeps t) : s.Keeps t.capPoints := .foldl (fun _ _ h1 => h1.wrLocal.wrLocal.wrLocal.wrLocal) h

/-! Recording -/

theorem State.Keeps.trFlush {c : Nat} {flushed : Bool} (h : s.Keeps t) : s.Keeps (t.trFlush c flushed) := by
  unfold State.trFlush
  split
  · exact h
  · exact .ite h h.upd

theorem State.Keeps.trFlushTimeout {c : Nat} (h : s.Keeps t) : s.Keeps (trFlushTimeout c t) := by
  unfold Machine.trFlushTimeout
  split
  · exact .ite h.trFlush h
  · exact h

theorem State.Keeps.trSpillStart {c : Nat} (h : s.Keeps t) : s.Keeps (trSpillStart c t) := .ite h.setChan.raise h

theorem State.Keeps.trDrain {c n : Nat} (h : s.Keeps t) : s.Keeps (t.trDrain c n) := by
  induction n generalizing t with
  | zero => exact h
  | succ n ih =>
    unfold State.trDrain
    split
    · exact h
    · exact .ite (ih h.upd) h

theorem State.Keeps.trBuffers {c : Nat} (h : s.Keeps t) : s.Keeps (t.trBuffers c) := .ite h.setChan.trDrain h

theorem State.Keeps.trDrainDone {c : Nat} (h : s.Keeps t) : s.Keeps (trDrainDone c t) := .ite (.ite h.trDrain.setChan.raise h.trDrain) h

theorem State.Keeps.trStart {c : Nat} (h : s.Keeps t) : s.Keeps (t.trStart c) := .ite (.ite (.ite h.setChan h.setChan.trDrain) h.setChan) h

theorem State.Keeps.goTrStart {f : Flight} (h : s.Keeps t) : s.Keeps (goTrStart f t) := h.trStart.ok

theorem State.Keeps.goTrStop {f : Flight} (h : s.Keeps t) : s.Keeps (goTrStop f t) := h.trFlush.setChan.ok

theorem State.Keeps.goTrFlush {f : Flight} (h : s.Keeps t) : s.Keeps (goTrFlush f t) := h.trFlush.ok

theorem State.Keeps.setLog {l : EvLog} (h : s.Keeps t) : s.Keeps (t.setLog l) := h.upd

theorem State.Keeps.logRecordDurable (h : s.Keeps t) : s.Keeps (logRecordDurable t) := h.setLog

theorem State.Keeps.logRateSecond (h : s.Keeps t) : s.Keeps (logRateSecond t) := h.setLog

theorem State.Keeps.thawFor {dur : Nat} (h : s.Keeps t) : s.Keeps (t.thawFor dur) := .foldl (fun _ _ h1 => h1.setLog.raiseIf) h.setLog.raiseReq

theorem State.Keeps.thaw (h : s.Keeps t) : s.Keeps t.thaw := h.thawFor

theorem State.Keeps.logFreezeExpiry (h : s.Keeps t) : s.Keeps (logFreezeExpiry t) := .ite h.thaw h

theorem State.Keeps.goLogRead {f : Flight} (h : s.Keeps t) : s.Keeps (goLogRead f t) := h.okOut

theorem State.Keeps.goLogClear {f : Flight} (h : s.Keeps t) : s.Keeps (goLogClear f t) := h.setLog.raiseReq.ok

theorem State.Keeps.goLogCatalogue {f : Flight} (h : s.Keeps t) : s.Keeps (goLogCatalogue f t) := h.okOut

theorem State.Keeps.goRecFreeze {f : Flight} (h : s.Keeps t) : s.Keeps (goRecFreeze f t) := h.setLog.ok

theorem State.Keeps.goRecThaw {f : Flight} (h : s.Keeps t) : s.Keeps (goRecThaw f t) := h.thaw.ok

theorem State.Keeps.recPoints (h : s.Keeps t) : s.Keeps t.recPoints :=
  .wrLocal (.wr64 (.wrLocal (.wrLocal (.wrLocal (.wrLocal (.foldl (fun _ _ h1 => h1.wrLocal.wrLocal.wrLocal.wrLocal.wrLocal) h))))))

/-! Hopper -/

theorem State.Keeps.dispatch {t' core : Nat} (h : s.Keeps t) : s.Keeps (t.dispatch t' core).1 := by
  unfold State.dispatch
  extract_lets cur best a
  clear_value cur best
  have ha : s.Keeps a.1 := by
    unfold a
    split
    · exact h
    · refine .iteFst ?_ h
      split
      · exact h.setHopT
      · exact h
  refine .iteFst h ?_
  split
  · exact ha.upd
  · exact ha.setHopT.upd

theorem State.Keeps.applyDeal {n : Nat} {c : HopCfg} {t' : Nat} {o : DealOut} (h : s.Keeps t) : s.Keeps (t.applyDeal n c t' o) :=
  .raiseIf (.ite (.setEng (.ite h.setHopT.upd h.setHopT)) (.ite h.setHopT.upd h.setHopT))

theorem State.Keeps.dealDone {s0 : State} (h : s.Keeps t) : s.Keeps (t.dealDone s0) := .foldl (fun _ _ h1 => h1.finish) h

theorem State.Keeps.deal {t' : Nat} (h : s.Keeps t) : s.Keeps (t.deal t') := by
  unfold State.deal
  exact .dealDone (.upd (.foldlFst (fun _ _ h1 => h1.dispatch) (.foldl (fun _ _ h1 => .ite h1 h1.setHopT) (.foldlFst
    (fun _ _ h1 => by split; exacts [h1, (.iteFst h1 h1.applyDeal)]) h))))

theorem State.Keeps.hopperDeal {t' : Nat} (h : s.Keeps t) : s.Keeps (hopperDeal t' t) := .ite h.deal h

theorem State.Keeps.hopAsk {r : HopReq} (h : s.Keeps t) : s.Keeps (t.hopAsk r) := h.upd

theorem State.Keeps.extRunEnd {core : Nat} (h : s.Keeps t) : s.Keeps (extRunEnd core t) := by
  unfold Machine.extRunEnd
  split
  · exact h.hopAsk
  · exact h

theorem State.Keeps.extBudgetOverrun {core : Nat} (h : s.Keeps t) : s.Keeps (extBudgetOverrun core t) := by
  unfold Machine.extBudgetOverrun
  split
  · exact .ite h (.ite h.hopAsk.raise h)
  · exact h

theorem State.Keeps.extFault {core cause addr : Nat} (h : s.Keeps t) : s.Keeps (extFault core cause addr t) := by
  unfold Machine.extFault
  split
  · exact h.setHopT.hopAsk.upd.raise
  · exact h

theorem State.Keeps.setCore {core : Nat} {f : EcCore → EcCore} (h : s.Keeps t) : s.Keeps (t.setCore core f) := h.upd

theorem State.Keeps.ecClaim {core : Nat} (h : s.Keeps t) : s.Keeps (ecClaim core t) := by
  unfold Machine.ecClaim
  split
  · exact h.setCore
  · exact h.upd.setCore

theorem State.Keeps.ecComplete {a0 src : Nat} (h : s.Keeps t) : s.Keeps (ecComplete a0 src t) := .ite h.upd h

theorem State.Keeps.setSource {n : Nat} {x : EcSource} (h : s.Keeps t) : s.Keeps (t.setSource n x) := h.upd

theorem State.Keeps.ecLatch {src : Nat} (h : s.Keeps t) : s.Keeps (ecLatch src t) := by
  unfold Machine.ecLatch
  dsimp only
  split
  · exact .ite h.upd.raiseIf h.upd
  · exact .ite h.upd.setCore.raiseIf h.upd

theorem State.Keeps.ecEdge {src : Nat} {up : Bool} (h : s.Keeps t) : s.Keeps (ecEdge src up t) := .ite h (.ite h.setSource (.ite h h.ecLatch))

theorem State.Keeps.ecHold {src : Nat} {up : Bool} (h : s.Keeps t) : s.Keeps (ecHold src up t) := .ite h h.setSource

theorem State.Keeps.ecRaise {core ofs val : Nat} (h : s.Keeps t) : s.Keeps (ecRaise core ofs val t) := .ite h.setCore (.ite h.ecLatch h)

theorem State.Keeps.ecOverrunsRead {core ofs : Nat} (h : s.Keeps t) : s.Keeps (ecOverrunsRead core ofs t) := h.setCore

theorem State.Keeps.goHopDeal {f : Flight} (h : s.Keeps t) : s.Keeps (goHopDeal f t) := h.setFlight

theorem State.Keeps.goHopTraceRead {f : Flight} (h : s.Keeps t) : s.Keeps (goHopTraceRead f t) := by
  unfold Machine.goHopTraceRead
  dsimp only
  split
  · exact h.raiseIf.okOut
  · exact h.raiseIf.useFree.okOut

theorem State.Keeps.goExtLoad {f : Flight} (h : s.Keeps t) : s.Keeps (goExtLoad f t) := h.upd.setFlight

theorem State.Keeps.goExtStart {f : Flight} (h : s.Keeps t) : s.Keeps (goExtStart f t) := h.setFlight

theorem State.Keeps.hopStop {n : Nat} (h : s.Keeps t) : s.Keeps (t.hopStop n) := .ite h.setHopT.upd h.setHopT.upd.hopAsk

theorem State.Keeps.goExtStop {f : Flight} (h : s.Keeps t) : s.Keeps (goExtStop f t) := .ok (.foldl (fun _ _ h1 => h1.hopStop) h)

theorem State.Keeps.goHopReadState {f : Flight} (h : s.Keeps t) : s.Keeps (goHopReadState f t) := h.okOut

/-! Redundancy -/

theorem State.Keeps.extAuto (h : s.Keeps t) : s.Keeps t.extAuto := .foldl (fun _ _ h1 => by split; exacts [(.ite h1.setHopT h1), h1]) h

theorem State.Keeps.extQuit (h : s.Keeps t) : s.Keeps t.extQuit := .foldl (fun _ _ h1 => by split; exacts [(.ite h1.hopStop h1), h1]) h

theorem State.Keeps.setRole {r : Role} (hr : s.RoleFree ∨ r.inert) (h : s.Keeps t) : s.Keeps (t.setRole r) := by
  unfold State.setRole
  have h1 : s.Keeps { t with red := { t.red with role := r, goodSince := none, asking := false, gaveAt := none, driveActive := r == .active } } :=
    ⟨h.queue, h.state, fun hf hi => hr.resolve_left fun hn => hn hf hi⟩
  exact .ite h1.extAuto (.ite h1.extQuit h1)

theorem State.Keeps.pairHb {port : Nat} {announce : Bool} (h : s.Keeps t) : s.Keeps (t.pairHb port announce) := .updSys h.put rfl rfl

theorem State.Keeps.announce (h : s.Keeps t) : s.Keeps t.announce := .foldl (fun _ _ h1 => h1.pairHb) h

theorem State.Keeps.canTakeover (h : s.Keeps t) : s.Keeps t.canTakeover := h.upd

theorem State.Keeps.canStandby (h : s.Keeps t) : s.Keeps t.canStandby := h.upd

theorem State.Keeps.nalatTakeover (h : s.Keeps t) : s.Keeps t.nalatTakeover := h.upd

theorem State.Keeps.connDelta {n j v : Nat} (h : s.Keeps t) : s.Keeps (t.connDelta n j v) := h.upd

theorem State.Keeps.dropCycles (h : s.Keeps t) : s.Keeps t.dropCycles := h.upd

theorem State.Keeps.becomeActive {cause : Nat} (hb : t.red.role = .standby) (h : s.Keeps t) : s.Keeps (t.becomeActive cause) := by
  unfold State.becomeActive
  have h1 := h.setRole (r := .active) (.inl (h.roleFree (by simp [hb, Role.inert])))
  exact .raise (.nalatTakeover (.canTakeover (.announce (.updSys (.ite h1.dropCycles h1) rfl rfl))))

theorem State.Keeps.standbyConfirm (h : s.Keeps t) : s.Keeps t.standbyConfirm := .foldl (fun _ _ h1 => h1.finish) h.mapBanks.upd

theorem State.Keeps.declareFailed (h : s.Keeps t) : s.Keeps t.declareFailed := by
  unfold State.declareFailed
  refine .ite h ?_
  dsimp only
  split
  · next hb => exact .becomeActive hb (.updSys h rfl rfl)
  · exact .raise (.standbyConfirm (.updSys h rfl rfl))
  · exact .raise (.updSys h rfl rfl)
  · exact .raise (.updSys h rfl rfl)
  · exact .updSys h rfl rfl

theorem State.Keeps.pathHeard {path : Nat} (h : s.Keeps t) : s.Keeps (t.pathHeard path) := .raiseIf (.ite (.updSys h rfl rfl) (.updSys h rfl rfl))

theorem State.Keeps.refusePairing {p : Partner} {mismatch : Nat} (hp : t.red.role ≠ .single) (h : s.Keeps t) :
    s.Keeps (t.refusePairing p mismatch) := by
  unfold State.refusePairing
  refine .raiseIf (.updSys ?_ rfl rfl)
  have hr : s.RoleFree ∨ (if t.red.role == .blocked || !t.preferred p.unit p.mac then Role.blocked else .active).inert := by
    by_cases hb : t.red.role = .blocked
    · exact .inr (by simp [hb, Role.inert])
    · exact .inl (h.roleFree (by simp [hb, hp, Role.inert]))
  exact .ite h (.ite (h.setRole hr) (h.setRole hr).canStandby)

theorem State.Keeps.startPairing {p : Partner} (h : s.Keeps t) : s.Keeps (t.startPairing p) := by
  unfold State.startPairing
  split
  · exact h
  · next hc =>
    have hs : t.red.role = .starting := by simpa using hc
    have hn : s.RoleFree := h.roleFree (by simp [hs, Role.inert])
    exact .ite (h.setRole (.inl hn)).raise (h.setRole (.inl hn)).raise

theorem State.Keeps.dualActive {p : Partner} (h : s.Keeps t) : s.Keeps (t.dualActive p) := by
  unfold State.dualActive
  split
  · next hc =>
    have ha : t.red.role = .active := by simp_all
    exact (h.setRole (.inl (h.roleFree (by simp [ha, Role.inert])))).canStandby.raise
  · exact h

theorem State.Keeps.trackGood (h : s.Keeps t) : s.Keeps t.trackGood := .updSys h rfl rfl

theorem State.Keeps.formatGate {p : Partner} (h : s.Keeps t) : s.Keeps (t.formatGate p) := by
  unfold State.formatGate
  split
  · exact h
  · split
    · split
      · next hc =>
        have hn : t.sys.st ≠ .faultHalt := by simp at hc; exact hc.2
        exact ⟨h.queue, h.state, fun hf _ => absurd (h.state.trans hf) hn⟩
      · exact h
    · exact .ite (.updSys (h.setRole (.inr (.inr rfl))) rfl rfl) h

theorem State.Keeps.heartbeat {path : Nat} {p : Partner} (h : s.Keeps t) : s.Keeps (t.heartbeat path p) := by
  unfold State.heartbeat
  split
  · exact h
  · next hn =>
    have hr : (t.pathHeard path).red.role ≠ .single := by simpa [State.pathHeard_role] using hn
    extract_lets s1 src s2 mm src' s3 s4
    have h3 : s.Keeps s3 := .ite (.dualActive (.startPairing (.formatGate (.updSys (.updSys h.pathHeard rfl rfl) rfl rfl)))) (.refusePairing hr
      (.updSys h.pathHeard rfl rfl))
    have h4 : s.Keeps s4 := .ite h3.declareFailed h3
    exact .trackGood (.ite h4.standbyConfirm h4)

theorem State.Keeps.pairHeartbeatReceive {src : Nat} {b : Bytes} (h : s.Keeps t) : s.Keeps (pairHeartbeatReceive src b t) :=
  .ite h.heartbeat (.updSys h.heartbeat rfl rfl)

theorem State.Keeps.switchAsked {ask : Bool} (h : s.Keeps t) : s.Keeps (t.switchAsked ask) := .ite (.updSys h rfl rfl) h

theorem State.Keeps.redLinkHeartbeatReceive {hb : Heartbeat} (h : s.Keeps t) : s.Keeps (redLinkHeartbeatReceive hb t) := h.heartbeat.switchAsked

theorem State.Keeps.sendHeartbeat {path : Nat} (h : s.Keeps t) : s.Keeps (t.sendHeartbeat path) :=
  .ite h (.ite (.pairHb (.updSys h rfl rfl)) (.updSys (.updSys h rfl rfl) rfl rfl))

theorem State.Keeps.redPathSilence {path : Nat} (h : s.Keeps t) : s.Keeps (redPathSilence path t) :=
  .ite h (.ite (.declareFailed (.trackGood (.raise (.ite (.updSys h rfl rfl) (.updSys h rfl rfl))))) (.trackGood (.raise (.ite (.updSys h rfl rfl)
    (.updSys h rfl rfl)))))

theorem State.Keeps.pairWaitExpiry (h : s.Keeps t) : s.Keeps (pairWaitExpiry t) := by
  unfold Machine.pairWaitExpiry
  split
  · next hc =>
    have hs : t.red.role = .starting := by simp_all
    exact h.setRole (.inl (h.roleFree (by simp [hs, Role.inert])))
  · exact h

theorem State.Keeps.unitDelta {i : Nat} {a2 : UnitState} (h : s.Keeps t) : s.Keeps (t.unitDelta i a2) := by
  unfold State.unitDelta
  split
  · exact h.setRace
  · exact h.setCog
  · exact h.setLoop
  · exact h.upd
  · exact h.upd
  · exact h.setAxis
  · exact h.setEng
  · exact h.setCap
  · exact h.setCan
  · exact h.setNode
  · exact h.upd
  · exact h.setPset
  · exact h.setSpin
  · exact h
  · exact .ite h.setDom h
  · exact h.upd

theorem State.Keeps.redDeltaReceive {kind key cycle : Nat} {ok last : Bool} {data : List (Nat × Nat)} {units : List (Nat × UnitState)}
    (h : s.Keeps t) : s.Keeps (redDeltaReceive kind key cycle ok last data units t) :=
  .ite (.updSys h rfl rfl) (.ite h (.ite (.updSys h rfl rfl) (.foldl (fun _ _ h1 => h1.unitDelta) (by split; exacts [(.setGroup
    (.updSys h rfl rfl)), (.upd (.updSys h rfl rfl)), (.foldl (fun _ _ h1 => h1.connDelta) (.updSys h rfl rfl)), (.upd (.updSys h rfl rfl))]))))

theorem State.Keeps.redFullCopyDone (h : s.Keeps t) : s.Keeps (redFullCopyDone t) := by
  unfold Machine.redFullCopyDone
  split
  · next hc =>
    have hs : t.red.role = .syncing := by simp_all
    exact .raise (.updSys (h.setRole (.inl (h.roleFree (by simp [hs, Role.inert])))) rfl rfl)
  · exact h

theorem State.Keeps.redPlannedSwitchInstant (h : s.Keeps t) : s.Keeps (redPlannedSwitchInstant t) := by
  unfold Machine.redPlannedSwitchInstant
  split
  · next ha =>
    split
    · have h1 := h.setRole (r := .standby) (.inl (h.roleFree (by simp [ha, Role.inert])))
      exact .ite (.foldl (fun _ _ h2 => h2.finish) (.raise (.updSys h1.canStandby rfl rfl))) h
    · exact h
  · next hb => exact .becomeActive hb h
  · exact h

theorem State.Keeps.redRevertHoldExpiry (h : s.Keeps t) : s.Keeps (redRevertHoldExpiry t) := .ite (.raise (.updSys h rfl rfl)) h

theorem State.Keeps.goRedStatus {f : Flight} (h : s.Keeps t) : s.Keeps (goRedStatus f t) := h.okOut

theorem State.Keeps.goRedSwitch {f : Flight} (h : s.Keeps t) : s.Keeps (goRedSwitch f t) := .setFlight (.updSys h rfl rfl)

theorem State.Keeps.goRedRevertInhibit {f : Flight} (h : s.Keeps t) : s.Keeps (goRedRevertInhibit f t) := .ok (.updSys h rfl rfl)

theorem State.Keeps.redPoints (h : s.Keeps t) : s.Keeps t.redPoints := .ite h.wrLocal.wrLocal.wrLocal.wrLocal h

/-! Analogue -/

theorem State.Keeps.setPwm {n : Nat} {x : Pwm} (h : s.Keeps t) : s.Keeps (t.setPwm n x) := h.upd

theorem State.Keeps.seqPoints {n : Nat} (h : s.Keeps t) : s.Keeps (t.seqPoints n) := h.wr.wr

theorem State.Keeps.seqBegin {n at' : Nat} (h : s.Keeps t) : s.Keeps (t.seqBegin n at') := .foldl (fun _ _ h1 => h1.setFlight) h.setSeq.seqPoints

theorem State.Keeps.seqHit {n at' : Nat} (h : s.Keeps t) : s.Keeps (t.seqHit n at') := .ite h.setSeq.raiseIf.seqPoints h.seqBegin

theorem State.Keeps.seqDue {n : Nat} (h : s.Keeps t) : s.Keeps (t.seqDue n) := .ite h (.foldl (fun _ _ h1 => h1.seqHit) h.setSeq)

theorem State.Keeps.seqStart {n delay : Nat} (h : s.Keeps t) : s.Keeps (t.seqStart n delay) := .ite h (.ite h.seqDue.seqHit h.seqDue.setSeq)

theorem State.Keeps.seqDisable {n : Nat} (h : s.Keeps t) : s.Keeps (t.seqDisable n) := .seqPoints (.foldl (fun _ _ h1 => h1.disableUnit) h.setSeq)

theorem State.Keeps.adcEntryEnd {n : Nat} {codes : List Int} (h : s.Keeps t) : s.Keeps (adcEntryEnd n codes t) := by
  unfold Machine.adcEntryEnd
  extract_lets u q b
  split
  · exact h.seqDue
  · extract_lets code unset ovr w s1 a s2 s3 q3 s4 s5
    have h1 : s.Keeps s1 := h.seqDue.setSeq
    have h2 : s.Keeps s2 := .ite h1 (.ite h1.setCond h1.wr.setCond)
    have h3 : s.Keeps s3 := h2.raiseIf
    have h5 : s.Keeps s5 := h3.setSeq.finishAll
    exact .ite h3.seqDisable (.ite h3.setSeq (.ite h5.seqBegin h5.seqPoints))

theorem State.Keeps.vrefPoint (h : s.Keeps t) : s.Keeps t.vrefPoint := h.wr

theorem State.Keeps.vrefPoints (h : s.Keeps t) : s.Keeps t.vrefPoints := .foldl (fun _ _ h1 => h1.seqPoints) h.vrefPoint

theorem State.Keeps.vrefSwitch {on : Bool} (h : s.Keeps t) : s.Keeps (t.vrefSwitch on) := .ite h (.vrefPoints (.updSys h rfl rfl))

theorem State.Keeps.vrefSettled (h : s.Keeps t) : s.Keeps (vrefSettled t) := .ite (.vrefPoints (.updSys h rfl rfl)) h

theorem State.Keeps.vrefCheck {code : Int} (h : s.Keeps t) : s.Keeps (vrefCheck code t) := h.upd.raiseIf.vrefPoint

theorem State.Keeps.pwmStart {n : Nat} (h : s.Keeps t) : s.Keeps (t.pwmStart n) := .ite h.setPwm (.foldl (fun _ _ h1 => h1.seqStart) h.setPwm)

theorem State.Keeps.pwmPeriodStart {n : Nat} (h : s.Keeps t) : s.Keeps (pwmPeriodStart n t) := .ite h (.ite h.pwmStart h)

theorem State.Keeps.timerTick {n : Nat} (h : s.Keeps t) : s.Keeps (timerTick n t) := by
  unfold Machine.timerTick
  split
  · exact h
  · exact .ite h (.foldl (fun _ _ h1 => h1.pwmStart) (.foldl (fun _ _ h1 => h1.seqStart) h.upd))

theorem State.Keeps.clAlmsel {n : Nat} (h : s.Keeps t) : s.Keeps (t.clAlmsel n) := .ite (.ite h.setCl h.setCl.raiseIf) h.setCl

theorem State.Keeps.clPoints {n : Nat} (h : s.Keeps t) : s.Keeps (t.clPoints n) :=
  .ite (.foldl (fun _ _ h1 => h1.setCond) h) (.wr (.wr (.wr (.wr (.wr (.wr (.ite (.setCond (.foldl (fun _ _ h1 => h1.setCond) h)) (.setCond (.wr
    (.foldl (fun _ _ h1 => h1.setCond) h))))))))))

theorem State.Keeps.calRefuse {n : Nat} (h : s.Keeps t) : s.Keeps (t.calRefuse n) := by
  unfold State.calRefuse
  split
  · exact h
  · exact .ite h.setCl.raise h.setCl.finishAll

theorem State.Keeps.clDisable {n : Nat} (h : s.Keeps t) : s.Keeps (t.clDisable n) := .service (fun _ h1 => h1.setCl) (fun _ h1 => h1) h

theorem State.Keeps.clThermal {n : Nat} (h : s.Keeps t) : s.Keeps (t.clThermal n) := .ite h.setCl.raise (.ite h.setCl h)

theorem State.Keeps.clInput {n : Nat} {b : Bytes} (h : s.Keeps t) : s.Keeps (t.clInput n b) := .ite h.setCl.calRefuse h.setCl

theorem State.Keeps.clOutput {n : Nat} {b : Bytes} (h : s.Keeps t) : s.Keeps (t.clOutput n b) :=
  .ite h.setCl (.ite h.setCl (.ite h.setCl h.setCl.raiseIf))

theorem State.Keeps.clZeroSpan {n : Nat} (h : s.Keeps t) : s.Keeps (t.clZeroSpan n) := .foldl (fun _ _ h1 => h1.setCl.ok) h

theorem State.Keeps.clUpdate {n : Nat} {raw vterm vsup temp : Int} (h : s.Keeps t) : s.Keeps (clUpdate n raw vterm vsup temp t) :=
  .ite h (.ite h (.ite h.clDisable.clZeroSpan.setCl.clPoints (.ite h.clDisable.clZeroSpan.clPoints (.clPoints
    (.ite h.clDisable.clZeroSpan.setCl.clThermal.clOutput h.clDisable.clZeroSpan.setCl.clThermal.clInput)))))

theorem State.Keeps.clFaultClass {n : Nat} (h : s.Keeps t) : s.Keeps (clFaultClass n t) :=
  .ite h (.ite h.setCl.raise.clPoints (.ite h.setCl.raise.clPoints (.ite h.setCl.clPoints h)))

theorem State.Keeps.clComplianceDetect {n : Nat} (h : s.Keeps t) : s.Keeps (clComplianceDetect n t) := by
  unfold Machine.clComplianceDetect
  refine .ite h ?_
  split
  · exact .ite (.clPoints (.ite h.setCl.raise h.setCl.raise)) h
  · exact .ite h.setCl.raise.clPoints (.ite h.setCl.raise.raise.clPoints h)
  · exact .ite h.setCl.raise.clPoints h

theorem State.Keeps.clCmdTimeout {n : Nat} (h : s.Keeps t) : s.Keeps (clCmdTimeout n t) := .ite h.setCl h

theorem State.Keeps.clWatchdog (h : s.Keeps t) : s.Keeps (clWatchdog t) := .ite h h.upd

theorem State.Keeps.almselSample {high : Bool} (h : s.Keeps t) : s.Keeps (almselSample high t) :=
  .ite h (.wr (.foldl (fun _ _ h1 => h1.clAlmsel) h.upd))

theorem State.Keeps.clModeChangeDone {n : Nat} (h : s.Keeps t) : s.Keeps (clModeChangeDone n t) := by
  unfold Machine.clModeChangeDone
  split
  · exact .ite h.setCl h
  · exact h

theorem State.Keeps.clAdmit {n : Nat} (h : s.Keeps t) : s.Keeps (t.clAdmit n) := .ite h.setCl h.setCl.calRefuse

theorem State.Keeps.calButtonHeld {z sp : Bool} (h : s.Keeps t) : s.Keeps (calButtonHeld z sp t) := .ite h (.ite h.raise (.ite h.setCl.raise h.setCl))

theorem State.Keeps.calAveragingDone {n : Nat} (h : s.Keeps t) : s.Keeps (calAveragingDone n t) := by
  unfold Machine.calAveragingDone
  dsimp only
  split
  · exact h
  · exact .ite h (.ite h.useFree.calRefuse (.ite h.useFree.setCl.raise h.useFree.setCl.raise.finishAll))

theorem State.Keeps.dioPoints {n : Nat} (h : s.Keeps t) : s.Keeps (t.dioPoints n) := h.wr.wr.wr

theorem State.Keeps.dioSample {levels : Nat} (h : s.Keeps t) : s.Keeps (dioSample levels t) :=
  .ite h (.foldl (fun _ _ h1 => .ite h1 (.ite h1.setDio.dioPoints h1.setDio.dioPoints)) h)

theorem State.Keeps.dioApply {n : Nat} (h : s.Keeps t) : s.Keeps (t.dioApply n) := h.setDio.dioPoints

theorem State.Keeps.dioOutput {g : Nat} (h : s.Keeps t) : s.Keeps (t.dioOutput g) := .foldl (fun _ _ h1 => h1.dioApply) h

theorem State.Keeps.dioOverload {n : Nat} (h : s.Keeps t) : s.Keeps (dioOverload n t) := .ite h h.setDio.raise.dioPoints

theorem State.Keeps.dioRestart {n : Nat} (h : s.Keeps t) : s.Keeps (t.dioRestart n) := h.setDio.dioPoints

theorem State.Keeps.dioAutoRestart {n : Nat} (h : s.Keeps t) : s.Keeps (dioAutoRestart n t) := .ite h.dioRestart h

theorem State.Keeps.fieldPoints (h : s.Keeps t) : s.Keeps t.fieldPoints := .foldl (fun _ _ h1 => h1.dioPoints) (.foldl (fun _ _ h1 => h1.clPoints) h)

theorem State.Keeps.fieldDown (h : s.Keeps t) : s.Keeps t.fieldDown := .ite h h.upd.raise.fieldPoints

theorem State.Keeps.fieldRestored (h : s.Keeps t) : s.Keeps (fieldRestored t) := .ite h h.upd.upd.fieldPoints

theorem State.Keeps.goAdcStart {f : Flight} (h : s.Keeps t) : s.Keeps (goAdcStart f t) := .ite h.seqHit.finish h.seqStart

theorem State.Keeps.goAnaVref {f : Flight} (h : s.Keeps t) : s.Keeps (goAnaVref f t) := h.vrefSwitch.ok

theorem State.Keeps.goClZeroSpan {a0 : Flight} (h : s.Keeps t) : s.Keeps (goClZeroSpan a0 t) := h

theorem State.Keeps.goClCalCapture {f : Flight} (h : s.Keeps t) : s.Keeps (goClCalCapture f t) := h.setCl

theorem State.Keeps.goDioReset {f : Flight} (h : s.Keeps t) : s.Keeps (goDioReset f t) := h.dioRestart.ok

/-! Safety -/

theorem State.Keeps.safeRequest {want : List Nat} (h : s.Keeps t) : s.Keeps (t.safeRequest want) := h.upd

theorem State.Keeps.channelFault (h : s.Keeps t) : s.Keeps t.channelFault := .ite h (.raise (.safeRequest (.updSys h rfl rfl)))

theorem State.Keeps.safeStart (h : s.Keeps t) : s.Keeps t.safeStart := .ite h.upd.raise h.upd.safeRequest

theorem State.Keeps.safetySelfTestDone {channel : Nat} {ok : Bool} (h : s.Keeps t) : s.Keeps (safetySelfTestDone channel ok t) :=
  .ite h (.ite h.channelFault (.ite h.upd.safeStart h.upd))

theorem State.Keeps.clearNode3 {fns conns : List Bytes} (h : s.Keeps t) : s.Keeps (t.clearNode3 fns conns) :=
  .foldl (fun _ _ h1 => h1.wrLocal.wrLocal) (.foldl (fun _ _ h1 => .foldl (fun _ _ h2 => h2.wrLocal) h1) h)

theorem State.Keeps.safeAccept (h : s.Keeps t) : s.Keeps t.safeAccept := by
  unfold State.safeAccept
  refine .ite h ?_
  split
  · exact h
  · exact h.upd.clearNode3.raise.finishAll

theorem State.Keeps.nalatRead (h : s.Keeps t) : s.Keeps t.nalatRead := .ite h (.foldl (fun _ _ h1 => .foldl (fun _ _ h2 => h2.raise) h1.upd) h)

theorem State.Keeps.nalatBuild (h : s.Keeps t) : s.Keeps t.nalatBuild := .ite h (.foldl (fun _ _ h1 => .foldl (fun _ _ h2 => h2.wr) h1.upd) h)

theorem State.Keeps.safeEval {inp : SafeIn} (h : s.Keeps t) : s.Keeps (State.safeEval inp t) :=
  .ite (.channelFault (.safeRequest (.foldl (fun _ _ h1 => h1.raise) (.foldl (fun _ _ h1 => h1.raise) (.foldl
    (fun _ _ h1 => h1.raise) h.nalatRead.upd))))) (.nalatBuild (.safeRequest (.foldl (fun _ _ h1 => h1.raise) (.foldl (fun _ _ h1 => h1.raise)
    (.foldl (fun _ _ h1 => h1.raise) h.nalatRead.upd)))))

theorem State.Keeps.safetyCycle {inp : SafeIn} (h : s.Keeps t) : s.Keeps (safetyCycle inp t) :=
  .ite h (.ite h.safeAccept.upd h.safeAccept.upd.safeEval)

theorem State.Keeps.safetyDiscrepancyCount {p : Nat} (h : s.Keeps t) : s.Keeps (safetyDiscrepancyCount p t) := .ite h.upd.raise.safeRequest h

theorem State.Keeps.safeResetLong {src : Nat} (h : s.Keeps t) : s.Keeps (safeResetLong src t) := by
  unfold Machine.safeResetLong
  split
  · exact h
  · exact .ite h.upd.raise h

theorem State.Keeps.safetyStopDelayExpiry {fn : Nat} (h : s.Keeps t) : s.Keeps (safetyStopDelayExpiry fn t) := by
  unfold Machine.safetyStopDelayExpiry
  split
  · exact h
  · exact .ite h.upd h

theorem State.Keeps.nalatWatchdogExpiry {conn : Nat} (h : s.Keeps t) : s.Keeps (nalatWatchdogExpiry conn t) := by
  unfold Machine.nalatWatchdogExpiry
  split
  · exact h
  · exact .ite h.upd.raise h

theorem State.Keeps.axisQuickStopRequest {x : Nat} (h : s.Keeps t) : s.Keeps (axisQuickStopRequest x t) := .ite h.axisQuickStop h

theorem State.Keeps.siStandardSample {levels : Nat} (h : s.Keeps t) : s.Keeps (siStandardSample levels t) :=
  .ite h (.foldl (fun _ _ h1 => h1.wrLocal) h.upd)

theorem State.Keeps.safeFieldLow (h : s.Keeps t) : s.Keeps t.safeFieldLow := .ite h.upd.safeRequest h

theorem State.Keeps.fieldLowEvent (h : s.Keeps t) : s.Keeps (fieldLowEvent t) := .ite h h.fieldDown.safeFieldLow

theorem State.Keeps.safePoints (h : s.Keeps t) : s.Keeps t.safePoints :=
  .ite h.wrLocal (.foldl (fun _ _ h1 => h1.wrLocal.wrLocal) (.wrLocal (.foldl (fun _ _ h1 => h1.wrLocal) (.foldl (fun _ _ h1 => h1.wrLocal) (.foldl
    (fun _ _ h1 => .ite h1.wrLocal h1.wrLocal.useFree) (.foldl (fun _ _ h1 => h1.wrLocal) (.foldl
    (fun _ _ h1 => h1.wrLocal.wrLocal.wrLocal.wrLocal) h.wrLocal)))))))

theorem State.Keeps.goSafeStatus {f : Flight} (h : s.Keeps t) : s.Keeps (goSafeStatus f t) := .ite h.okOut h.okOut

theorem State.Keeps.goSafeDiagRead {f : Flight} (h : s.Keeps t) : s.Keeps (goSafeDiagRead f t) := .ite h.okOut h.okOut

theorem State.Keeps.goSafeConnRestart {f : Flight} (h : s.Keeps t) : s.Keeps (goSafeConnRestart f t) := h.upd.ok

/-! Logic -/

theorem State.Keeps.enginePoints {n : Nat} (h : s.Keeps t) : s.Keeps (t.enginePoints n) := h.wr.wr.wr.wr.wr.wr.wr

theorem State.Keeps.enginesPoints (h : s.Keeps t) : s.Keeps t.enginesPoints := .foldl (fun _ _ h1 => h1.enginePoints) h

theorem State.Keeps.leCycle {k : Nat} (h : s.Keeps t) : s.Keeps (t.leCycle k) :=
  .foldl (fun _ _ h1 => .foldl (fun _ _ h2 => .ite h2 (.ite h2.setEng h2.setEng)) h1) h

theorem State.Keeps.leStart {n : Nat} (h : s.Keeps t) : s.Keeps (t.leStart n) := by
  unfold State.leStart
  split
  · exact h
  · exact .enginePoints (.ite h.setEng h.setEng.hopAsk)

theorem State.Keeps.logicRunStart {n : Nat} (h : s.Keeps t) : s.Keeps (logicRunStart n t) := .ite h h.leStart

theorem State.Keeps.leDiscard {n : Nat} (h : s.Keeps t) : s.Keeps (t.leDiscard n) := by
  unfold State.leDiscard
  dsimp only
  split
  · exact h
  · split
    · exact .ite h.setEng.hopAsk h.setEng
    · exact h.setEng

theorem State.Keeps.stepDone {n addr : Nat} (h : s.Keeps t) : s.Keeps (t.stepDone n addr) := h.setEng.finishAll

theorem State.Keeps.leMode {n : Nat} {m : LogicMode} {reason : Nat} (h : s.Keeps t) : s.Keeps (t.leMode n m reason) :=
  .ite (.ite h.stepDone h) (.enginePoints (.raise (.setEng (.ite (.leDiscard (.ite h.stepDone h)) (.ite h.stepDone h)))))

theorem State.Keeps.leHandIn {n : Nat} {r : Run} (h : s.Keeps t) : s.Keeps (t.leHandIn n r) := by
  unfold State.leHandIn
  extract_lets e f cyc f1 hi s1 src s2 s3 s4 s5
  have h3 : s.Keeps s3 := .foldl (fun _ _ h1 => h1.hopAsk) h.setEng.upd.cmdWritten
  have h4 : s.Keeps s4 := .foldl (fun _ _ h1 => h1.raise) h3
  have h5 : s.Keeps s5 := by unfold s5; split; exacts [.ite h4.hopAsk h4, h4]
  exact h5.enginePoints

theorem State.Keeps.leStep {n op opnd : Nat} {f : Nat → Engine → Run → Engine × Run} (h : s.Keeps t) : s.Keeps (t.leStep n op opnd f) := by
  unfold State.leStep
  dsimp only
  split
  · exact h
  · exact .ite h (.ite h.setEng.leMode.setEng.raise.stepDone.enginePoints (.ite (.ite h.setEng.leHandIn h.setEng) (.ite (.stepDone (.setEng
    (.ite h.setEng.leHandIn h.setEng))) (.setEng (.ite h.setEng.leHandIn h.setEng)))))

theorem State.Keeps.leBitOp {n op opnd : Nat} {g : Bool → Bool → Bool} (h : s.Keeps t) : s.Keeps (t.leBitOp n op opnd g) := h.leStep

theorem State.Keeps.leWordOp {n op opnd : Nat} {g : Run → W32 → Run} (h : s.Keeps t) : s.Keeps (t.leWordOp n op opnd g) := h.leStep

theorem State.Keeps.leRunOp {n op opnd : Nat} {g : Run → Run} (h : s.Keeps t) : s.Keeps (t.leRunOp n op opnd g) := h.leStep

theorem State.Keeps.leBitStore {n op opnd : Nat} {g : Run → Option Bool} (h : s.Keeps t) : s.Keeps (t.leBitStore n op opnd g) := h.leStep

theorem State.Keeps.leTimer {n op opnd : Nat} {q : Bool} {g : Timer → Run → Timer} (h : s.Keeps t) : s.Keeps (t.leTimer n op opnd q g) := h.leStep

theorem State.Keeps.leCounter {n op opnd : Nat} {q : Bool} {g : Counter → Run → Counter} (h : s.Keeps t) : s.Keeps (t.leCounter n op opnd q g) :=
  h.leStep

theorem State.Keeps.leEdge {n op opnd : Nat} {g : Bool → Bool → Bool} (h : s.Keeps t) : s.Keeps (t.leEdge n op opnd g) := h.leStep

theorem State.Keeps.engineOff {n : Nat} {f : Flight} (h : s.Keeps t) : s.Keeps (t.engineOff n f) :=
  h.leDiscard.setEng.leMode.setEng.disableUnit.enginePoints

theorem State.Keeps.taskOff {n k : Nat} {f : Flight} (h : s.Keeps t) : s.Keeps (t.taskOff n k f) := .disableUnit (.setEng (.ite h.leDiscard h))

theorem State.Keeps.leOverruns {k : Nat} (h : s.Keeps t) : s.Keeps (t.leOverruns k).1 :=
  .foldlFst (fun _ _ h1 => .foldlFst (fun _ _ h2 => .iteFst (.ite h2 h2.setEng) (.ite h2.setEng.raise.leMode.raise h2.setEng.raise)) h1) h

theorem State.Keeps.initPoint {p : PointDef} (h : s.Keeps t) : s.Keeps (t.initPoint p) := h.upd

theorem State.Keeps.dropForces {old : SMap PointDef} (h : s.Keeps t) : s.Keeps (t.dropForces old) := .foldl (fun _ _ h1 => h1.upd.raise) h

theorem State.Keeps.swapVars {n : Nat} {img : Bytes} (h : s.Keeps t) : s.Keeps (t.swapVars n img) := by
  unfold State.swapVars
  exact .dropForces (.foldl (fun _ _ h1 => h1.initPoint) h.upd)

theorem State.Keeps.leBoundary {n k : Nat} (h : s.Keeps t) : s.Keeps (t.leBoundary n k) :=
  .ite h (.ite h.setEng.swapVars.raise.finishOut.enginePoints h.setEng.raiseIf)

theorem State.Keeps.goLogicLoad {f : Flight} (h : s.Keeps t) : s.Keeps (goLogicLoad f t) := h.setEng

theorem State.Keeps.goLogicMode {f : Flight} (h : s.Keeps t) : s.Keeps (goLogicMode f t) := h.leMode.ok

theorem State.Keeps.goLogicStep {f : Flight} (h : s.Keeps t) : s.Keeps (goLogicStep f t) := .ite h.setEng.enginePoints h.setEng.leStart

theorem State.Keeps.goLogicBreak {f : Flight} (h : s.Keeps t) : s.Keeps (goLogicBreak f t) := h.setEng.ok

theorem State.Keeps.goLogicForce {a0 : Flight} (h : s.Keeps t) : s.Keeps (goLogicForce a0 t) := h

theorem State.Keeps.goLogicUnforce {a0 : Flight} (h : s.Keeps t) : s.Keeps (goLogicUnforce a0 t) := h

theorem State.Keeps.goLogicForceClear {f : Flight} (h : s.Keeps t) : s.Keeps (goLogicForceClear f t) := .ite h.ok h.setFlight

theorem State.Keeps.goLogicForceList {f : Flight} (h : s.Keeps t) : s.Keeps (goLogicForceList f t) := h.okOut

theorem State.Keeps.goLogicReadState {f : Flight} (h : s.Keeps t) : s.Keeps (goLogicReadState f t) := .ite h.okOut h.okOut

/-! Net -/

theorem State.Keeps.raiseNode {code : Nat} {b : Bytes} (h : s.Keeps t) : s.Keeps (t.raiseNode code b) := h.raiseReq

theorem State.Keeps.nodeCond {b : Bytes} {slots : List Nat} {i : Nat} {on : Bool} (h : s.Keeps t) : s.Keeps (t.nodeCond b slots i on) :=
  .foldl (fun _ _ h1 => by split; exacts [(.ite h1.setCond h1), h1]) h

theorem State.Keeps.nodePq {b : Bytes} {slots : List Nat} {q : Nat} (h : s.Keeps t) : s.Keeps (t.nodePq b slots q) := h.upd

theorem State.Keeps.nodeAbsent {b : Bytes} (h : s.Keeps t) : s.Keeps (t.nodeAbsent b) := h.nodeCond.nodePq

theorem State.Keeps.sendBind {b : Bytes} (h : s.Keeps t) : s.Keeps (t.sendBind b) := h.sendTo

theorem State.Keeps.sendRelease {seg node bindId mac : Nat} (h : s.Keeps t) : s.Keeps (t.sendRelease seg node bindId mac) := h.sendTo

theorem State.Keeps.startBind {b p : Bytes} {src : Nat} (h : s.Keeps t) : s.Keeps (t.startBind b p src) := h.setNode.nodeAbsent.bankLeave.sendBind

theorem State.Keeps.helloReceive {port src : Nat} {p : Bytes} (h : s.Keeps t) : s.Keeps (helloReceive port src p t) := by
  unfold Machine.helloReceive
  refine .ite h ?_
  dsimp only
  split
  · exact h.setPort.raiseIf
  · exact .ite (.ite h.setNode.raiseNode h) (.ite h (.ite h.raiseNode h.startBind))

theorem State.Keeps.pageSend {b : Bytes} {write : Bool} {c : Nat × Nat} (h : s.Keeps t) : s.Keeps (t.pageSend b write c) := h.setNode.upd.sendTo

theorem State.Keeps.pageService {b : Bytes} (h : s.Keeps t) : s.Keeps (t.pageService b) := .ite h (.foldl (fun _ _ h1 => h1.pageSend) h)

theorem State.Keeps.sweepStale {b : Bytes} (h : s.Keeps t) : s.Keeps (t.sweepStale b) := .ite h.nodePq h

theorem State.Keeps.sweepClose {seg : Nat} (h : s.Keeps t) : s.Keeps (t.sweepClose seg) := .ite h.setPort h

theorem State.Keeps.sweepStart {seg : Nat} (h : s.Keeps t) : s.Keeps (t.sweepStart seg) :=
  .sweepClose (.foldl (fun _ _ h1 => .ite (.foldl (fun _ _ h2 => h2.pageSend) h1) h1) (.foldl (fun _ _ h1 => h1.pageService) h.setPort))

theorem State.Keeps.sweepDone {seg : Nat} (h : s.Keeps t) : s.Keeps (t.sweepDone seg) := .ite h.sweepClose.sweepStart h.sweepClose

theorem State.Keeps.pagedSweep {seg : Nat} (h : s.Keeps t) : s.Keeps (pagedSweep seg t) :=
  .ite h (.ite (.raiseIf (.setPort (.foldl (fun _ _ h1 => h1.sweepStale) h))) (.sweepStart (.foldl (fun _ _ h1 => h1.sweepStale) h)))

theorem State.Keeps.pageRspReceive {port src : Nat} {p : Bytes} (h : s.Keeps t) : s.Keeps (pageRspReceive port src p t) := by
  unfold Machine.pageRspReceive
  refine .ite h ?_
  split
  · exact h
  · dsimp only
    split
    · exact h
    · exact .sweepDone (.ite h.setNode (.ite h.setNode.nodePq.pageService h.setNode.upd.nodePq))

theorem State.Keeps.pageReqRetry {seg node : Nat} (h : s.Keeps t) : s.Keeps (pageReqRetry seg node t) := by
  unfold Machine.pageReqRetry
  split
  · exact h
  · exact .sweepDone (.foldl (fun _ _ h1 => .ite h1.setNode.sendTo h1.setNode) h)

theorem State.Keeps.enterPreop {b : Bytes} (h : s.Keeps t) : s.Keeps (t.enterPreop b) := h.setNode.nodePq.pageService

theorem State.Keeps.bindAckReceive {port src : Nat} {p : Bytes} (h : s.Keeps t) : s.Keeps (bindAckReceive port src p t) := by
  unfold Machine.bindAckReceive
  refine .ite h ?_
  split
  · exact h
  · exact .ite h (.ite h.setNode.enterPreop h.setNode.raiseNode)

theorem State.Keeps.bindRetry {seg node : Nat} (h : s.Keeps t) : s.Keeps (bindRetry seg node t) := by
  unfold Machine.bindRetry
  split
  · exact h
  · exact .ite h (.ite h.setNode.sendBind h.setNode.raiseNode)

theorem State.Keeps.nodeToDropped {b : Bytes} (h : s.Keeps t) : s.Keeps (t.nodeToDropped b) := .ite h.setNode.nodeAbsent.bankLeave.raiseNode h

theorem State.Keeps.nodeToAbsent {b : Bytes} (h : s.Keeps t) : s.Keeps (t.nodeToAbsent b) :=
  .ite h h.setNode.nodeAbsent.bankLeave.sendRelease.raiseNode

theorem State.Keeps.nodeDrop {seg node : Nat} (h : s.Keeps t) : s.Keeps (nodeDrop seg node t) := by
  unfold Machine.nodeDrop
  split
  · exact h
  · exact .ite h.nodeToDropped h

theorem State.Keeps.nodeReleaseTimeout {seg node : Nat} (h : s.Keeps t) : s.Keeps (nodeReleaseTimeout seg node t) := by
  unfold Machine.nodeReleaseTimeout
  split
  · exact h
  · exact .ite h.nodeToAbsent h

theorem State.Keeps.portDown {port : Nat} (h : s.Keeps t) : s.Keeps (t.portDown port) := .foldl (fun _ _ h1 => h1.nodeToDropped) h.setPort

theorem State.Keeps.portLinkLoss {port : Nat} (h : s.Keeps t) : s.Keeps (portLinkLoss port t) := .ite h.portDown h

theorem State.Keeps.portTx {port : Nat} (h : s.Keeps t) : s.Keeps (t.portTx port) := h.setPort

theorem State.Keeps.opticsPresenceChange {port : Nat} {absent identified : Bool} (h : s.Keeps t) :
    s.Keeps (opticsPresenceChange port absent identified t) :=
  .ite (.portDown (.updSys h.setPort.portTx rfl rfl)) (.updSys h.setPort.portTx rfl rfl)

theorem State.Keeps.fieldPortLinkUp {port : Nat} (h : s.Keeps t) : s.Keeps (fieldPortLinkUp port t) := .ite h h.setPort

theorem State.Keeps.foregroundLoad {set k : Nat} {fresh : Bool} (h : s.Keeps t) : s.Keeps (t.foregroundLoad set k fresh) := by
  unfold State.foregroundLoad
  refine .ite h ?_
  split
  · exact .ite h.setNode h.setNode.sendBank.sendBank
  · exact .ite h.setNode (.ite h (.ite h.setNode.raise h.setNode.sendBank.sendBank))

theorem State.Keeps.nodeBanks {b : Bytes} {fresh : Bool} (h : s.Keeps t) : s.Keeps (t.nodeBanks b fresh) := by
  unfold State.nodeBanks
  dsimp only
  split
  · exact h
  · exact .bankService (.foregroundLoad (.ite h.setPset.setPoints h))

theorem State.Keeps.inputFrameReceive {port src : Nat} {p : Bytes} (h : s.Keeps t) : s.Keeps (inputFrameReceive port src p t) := by
  unfold Machine.inputFrameReceive
  refine .ite h ?_
  dsimp only
  split
  · exact h.sendRelease
  · exact .ite h.sendRelease (.nodeBanks (.ite (.setNode (.ite h.setNode.setNode.enterPreop h.setNode)) (.ite
    (.ite h.setNode.setNode.enterPreop h.setNode) (.setNode (.ite h.setNode.setNode.enterPreop h.setNode)))))

theorem State.Keeps.tryOperate {b : Bytes} (h : s.Keeps t) : s.Keeps (t.tryOperate b) :=
  .ite (.ite h.setNode.nodeCond.raiseNode.raiseNode h.setNode.nodeCond.raiseNode) h

theorem State.Keeps.recordStatus {grp : Nat} {b : Bytes} (h : s.Keeps t) : s.Keeps (t.recordStatus grp b) := .ite h h.emitBy.upd

theorem State.Keeps.nodeSnapshot {grp : Nat} {b : Bytes} (h : s.Keeps t) : s.Keeps (t.nodeSnapshot grp b).1 := by
  unfold State.nodeSnapshot
  exact .iteFst h.recordStatus (.tryOperate (.nodeCond (.ite (.nodeCond (.nodeCond (.foldl (fun _ _ h1 => h1.wr) h.recordStatus.setNode)))
    (.ite h.recordStatus.setNode.nodeCond h.recordStatus.setNode))))

theorem State.Keeps.netSnapshot {seg grp : Nat} (h : s.Keeps t) : s.Keeps (t.netSnapshot seg grp).1 := .foldlFst (fun _ _ h1 => h1.nodeSnapshot) h

theorem State.Keeps.nodeOutput {grp : Nat} {b : Bytes} (h : s.Keeps t) : s.Keeps (t.nodeOutput grp b) := .ite h h.setNode.putLaunched

theorem State.Keeps.netOutput {seg grp : Nat} (h : s.Keeps t) : s.Keeps (t.netOutput seg grp) := .ite (.foldl (fun _ _ h1 => h1.nodeOutput) h) h

theorem State.Keeps.oczonInvalidFrame {port src : Nat} {p : Bytes} (h : s.Keeps t) : s.Keeps (oczonInvalidFrame port src p t) :=
  .ite (.dualActive (.ite h.setPort h)) (.ite h.setPort h)

theorem State.Keeps.lldpSend {port : Nat} (h : s.Keeps t) : s.Keeps (lldpSend port t) := .ite h h.setPort.put

theorem State.Keeps.lldpReceive {port chassisSub chassis portSub : Nat} {portId : Bytes} (h : s.Keeps t) :
    s.Keeps (lldpReceive port chassisSub chassis portSub portId t) :=
  h.setPort

/-! Sluice -/

theorem State.Keeps.under {c : Cfg} (h : s.Keeps t) : s.Keeps (t.under c) := h.upd

theorem State.Keeps.sluice {c : Cfg} {safe : List (Nat × Bytes)} (h : s.Keeps t) : s.Keeps (t.sluice c safe).2 := h.useFree

theorem State.Keeps.sluiceRefuse {f : Flight} {r : Report} {out : List Nat} (h : s.Keeps t) : s.Keeps (t.sluiceRefuse f r out) := h.raise.finish

/-! Admit -/

theorem State.Keeps.dropUnit {u : Nat} (h : s.Keeps t) : s.Keeps (t.dropUnit u) := h.finishAll

theorem State.Keeps.removeNode {k : Nat} (h : s.Keeps t) : s.Keeps (t.removeNode k) := by
  unfold State.removeNode
  split
  · exact h
  · exact h.nodeToAbsent.upd

theorem State.Keeps.removeCap {u : Nat} (h : s.Keeps t) : s.Keeps (t.removeCap u) := h.capDisableOne.upd

theorem State.Keeps.removeLoop {l : Nat} (h : s.Keeps t) : s.Keeps (t.removeLoop l) := h.loopDisable.dropUnit.upd

theorem State.Keeps.removeFt {k : Nat} (h : s.Keeps t) : s.Keeps (t.removeFt k) := h.ftStop.finishAll.upd

theorem State.Keeps.removeCl {n : Nat} (h : s.Keeps t) : s.Keeps (t.removeCl n) := h.setCl.dropUnit

theorem State.Keeps.removeCan {p : Nat} (h : s.Keeps t) : s.Keeps (t.removeCan p) := h.dropUnit.upd

theorem State.Keeps.removeTr {c : Nat} (h : s.Keeps t) : s.Keeps (t.removeTr c) := h.trFlush.upd

theorem State.Keeps.removeTime {n : Cfg} (h : s.Keeps t) : s.Keeps (State.removeTime n t) :=
  .upd (.foldl (fun _ _ h1 => h1.dropUnit.upd) (.foldl (fun _ _ h1 => h1.dropUnit.upd) h))

theorem State.Keeps.removeNet {n : Cfg} (h : s.Keeps t) : s.Keeps (State.removeNet n t) :=
  .upd (.foldl (fun _ _ h1 => h1.removeCan) (.foldl (fun _ _ h1 => h1.dropUnit) (.foldl (fun _ _ h1 => h1.removeNode) h)))

theorem State.Keeps.removeControl {n : Cfg} (h : s.Keeps t) : s.Keeps (State.removeControl n t) :=
  .foldl (fun _ _ h1 => h1.dropUnit.upd) (.foldl (fun _ _ h1 => h1.dropUnit.upd) (.foldl (fun _ _ h1 => h1.removeLoop) (.foldl
    (fun _ _ h1 => h1.removeFt) h)))

theorem State.Keeps.removeRest {n : Cfg} (h : s.Keeps t) : s.Keeps (State.removeRest n t) :=
  .foldl (fun _ _ h1 => h1.hopStop.upd) (.foldl (fun _ _ h1 => h1.removeTr) (.foldl (fun _ _ h1 => h1.removeCap) (.upd (.foldl
    (fun _ _ h1 => h1.removeCl) (.foldl (fun _ _ h1 => h1.dropUnit.upd) h)))))

theorem State.Keeps.dropDisabled {n : Cfg} (h : s.Keeps t) : s.Keeps (State.dropDisabled n t) := h.upd

theorem State.Keeps.takeDomains {o : Cfg} (h : s.Keeps t) : s.Keeps (State.takeDomains o t) := .foldl (fun _ _ h1 => .ite h1 h1.setDom.domPoints) h

theorem State.Keeps.takeRaces (h : s.Keeps t) : s.Keeps t.takeRaces := .foldl (fun _ _ h1 => .ite h1 h1.raceStartTree) h

theorem State.Keeps.takeCogs {o : Cfg} (h : s.Keeps t) : s.Keeps (State.takeCogs o t) :=
  .foldl (fun _ _ h1 => h1.setFo.foPoints) (.upd (.foldl (fun _ _ h1 => h1.setCog.cogPoints) h))

theorem State.Keeps.takeNet {o : Cfg} (h : s.Keeps t) : s.Keeps (State.takeNet o t) :=
  .foldl (fun _ _ h1 => .ite h1 h1.nodeAbsent) (.foldl (fun _ _ h1 => h1.setPort.portTx) (.foldl (fun _ _ h1 => h1.setGroup) h))

theorem State.Keeps.takeAxis {x : Nat} (h : s.Keeps t) : s.Keeps (t.takeAxis x) := h.setAxis

theorem State.Keeps.takeFt {k : Nat} (h : s.Keeps t) : s.Keeps (t.takeFt k) := .ite h.setFt.ftStop (.ite h.setFt.ftState h.setFt)

theorem State.Keeps.takeCoef {l : Nat} (h : s.Keeps t) : s.Keeps (t.takeCoef l) := .ite h.setLoop h

theorem State.Keeps.takeControl {o : Cfg} (h : s.Keeps t) : s.Keeps (State.takeControl o t) :=
  .foldl (fun _ _ h1 => h1.takeAxis) (.foldl (fun _ _ h1 => h1.setAxis) (.foldl (fun _ _ h1 => h1.takeFt) (.foldl (fun _ _ h1 => h1.setLoop) (.foldl
    (fun _ _ h1 => h1.takeCoef) h))))

theorem State.Keeps.takeSeqs {o : Cfg} (h : s.Keeps t) : s.Keeps (State.takeSeqs o t) :=
  .foldl (fun _ _ h1 => .ite h1.setSeq.seqBegin h1.setSeq.seqPoints) h

theorem State.Keeps.takeAnalogue {o : Cfg} {named : List Nat} (h : s.Keeps t) : s.Keeps (State.takeAnalogue o named t) :=
  .upd (.foldl (fun _ _ h1 => h1.setPwm) (.foldl (fun _ _ h1 => h1.setDio.dioPoints) (.foldl (fun _ _ h1 => h1.clAdmit) h.upd)))

theorem State.Keeps.takeCaps {o : Cfg} (h : s.Keeps t) : s.Keeps (State.takeCaps o t) :=
  .foldl (fun _ _ h1 => .ite h1.setCap h1) (.foldl (fun _ _ h1 => by dsimp only; split; exacts [h1.capClose, h1.capArm, h1]) h)

theorem State.Keeps.takeTr {o : Cfg} (h : s.Keeps t) : s.Keeps (State.takeTr o t) := .foldl (fun _ _ h1 => .ite h1.trStart h1) h

theorem State.Keeps.takeCan {o : Cfg} (h : s.Keeps t) : s.Keeps (State.takeCan o t) :=
  .foldl (fun _ _ h1 => .setCan (.foldl (fun _ _ h2 => h2.finishAll) h1)) (.foldl (fun _ _ h1 => h1.canAdmit.setCan.canPoints) h)

theorem State.Keeps.takePair (hn : s.RoleFree) (h : s.Keeps t) : s.Keeps t.takePair := by
  unfold State.takePair
  exact .ite (h.setRole (.inl hn)) (.ite (h.setRole (.inl hn)) h)

theorem State.Keeps.takeHopper {o : Cfg} (h : s.Keeps t) : s.Keeps (State.takeHopper o t) :=
  .foldl (fun _ _ h1 => by split; exacts [h1, (.ite (.ite h1.setHopT h1) (.ite h1.setHopT h1))]) h

theorem State.Keeps.takeProgram {o : Cfg} {n : Nat} (h : s.Keeps t) : s.Keeps (State.takeProgram o t n) :=
  .ite h (.ite h.leDiscard.setEng h.setEng.enginePoints)

theorem State.Keeps.takeLoads (h : s.Keeps t) : s.Keeps t.takeLoads := .foldl (fun _ _ h1 => .ite h1 h1.setEng.enginePoints) h

theorem State.Keeps.takePrograms {o : Cfg} (h : s.Keeps t) : s.Keeps (State.takePrograms o t) :=
  .foldl (fun _ _ h1 => .ite h1 h1.setSpin) (.takeHopper (.takeLoads (.foldl (fun _ _ h1 => h1.takeProgram) h)))

theorem State.Keeps.takeBanks {p : Package} (h : s.Keeps t) : s.Keeps (State.takeBanks p t) :=
  .foldl (fun _ _ h1 => by split; exacts [h1, (.ite h1 h1.setPset.setPoints)]) (.foldl (fun _ _ h1 => .ite h1 h1.setAxis) h)

theorem State.Keeps.takePoints {o : Cfg} (h : s.Keeps t) : s.Keeps (State.takePoints o t) :=
  .dropForces (.upd (.foldl (fun _ _ h1 => h1.initPoint) h.upd))

theorem State.Keeps.refuseNow (h : s.Keeps t) : s.Keeps t.refuseNow := h.finishAll

theorem State.Keeps.applyCfg {n : Cfg} {cls : List Nat} (hn : s.RoleFree) (h : s.Keeps t) : s.Keeps (t.applyCfg n cls) := by
  unfold State.applyCfg
  exact (h.removeTime.removeNet.removeControl.removeRest.dropDisabled.upd.takePoints.takeDomains.takeRaces.takeCogs.takeNet.takeControl.takeSeqs.takeAnalogue.takeCaps.takeTr.takeCan.takePair hn).takePrograms

theorem State.Keeps.applyPackage {p : Package} (hn : s.RoleFree) (h : s.Keeps t) : s.Keeps (t.applyPackage p) := (h.applyCfg hn).takeBanks.refuseNow

theorem State.Keeps.mirrorConfig {x : Cfg} (hn : s.RoleFree) (h : s.Keeps t) : s.Keeps (t.mirrorConfig x) := (h.applyCfg hn).upd

theorem State.Keeps.mirrorConfigs {kind : Nat} {ok : Bool} {units : List (Nat × UnitState)} (h : s.Keeps t) :
    s.Keeps (t.mirrorConfigs kind ok units) := by
  unfold State.mirrorConfigs
  split
  · exact h
  · next hc =>
    have hn : s.RoleFree := h.roleFree (by rintro (hr | hr) <;> simp [hr] at hc)
    exact .foldl (fun _ _ h1 => by split; exacts [h1.mirrorConfig hn, h1]) h

/-! Commands -/

theorem State.Keeps.goCfgLoad {f : Flight} (h : s.Keeps t) : s.Keeps (goCfgLoad f t) := by
  unfold Machine.goCfgLoad
  split
  · exact h
  · exact h.upd.setFlight.raise

theorem State.Keeps.goCfgCheck {f : Flight} (h : s.Keeps t) : s.Keeps (goCfgCheck f t) := by
  unfold Machine.goCfgCheck
  split
  · exact h
  · exact .ite h.sluice.sluiceRefuse h.sluice.okOut

theorem State.Keeps.pend {f : Flight} {p : Package} {r : Report} {out : List Nat} (h : s.Keeps t) : s.Keeps (t.pend f p r out) := h.upd

theorem State.Keeps.goCfgAdmit {f : Flight} (h : s.Keeps t) : s.Keeps (goCfgAdmit f t) := by
  unfold Machine.goCfgAdmit
  split
  · exact h
  · exact .ite h.sluice.sluiceRefuse h.sluice.pend

theorem State.Keeps.goCfgRecord {f : Flight} (h : s.Keeps t) : s.Keeps (goCfgRecord f t) := by
  unfold Machine.goCfgRecord
  split
  · exact h
  · exact .ite h.sluice.sluiceRefuse h.sluice.pend

theorem State.Keeps.goCfgRead {f : Flight} (h : s.Keeps t) : s.Keeps (goCfgRead f t) := by
  unfold Machine.goCfgRead
  exact .ite h.upd.finish h.upd.okOut

theorem State.Keeps.goSluiceRead {f : Flight} (h : s.Keeps t) : s.Keeps (goSluiceRead f t) := h.sluice.okOut

theorem State.Keeps.goLogicSeal {f : Flight} (h : s.Keeps t) : s.Keeps (goLogicSeal f t) := by
  unfold Machine.goLogicSeal
  exact .ite h.sluice.sluiceRefuse h.sluice.setEng.setFlight.enginePoints

theorem State.Keeps.goSpinSeal {f : Flight} (h : s.Keeps t) : s.Keeps (goSpinSeal f t) := by
  unfold Machine.goSpinSeal
  exact .ite h.sluice.sluiceRefuse h.sluice.setSpin.setFlight

theorem State.Keeps.stageSafety {sec : Option Bytes} (h : s.Keeps t) : s.Keeps (t.stageSafety sec) := by
  unfold State.stageSafety
  split
  · exact h
  · exact .ite h.upd h

theorem State.Keeps.goSafeConfigStage {f : Flight} (h : s.Keeps t) : s.Keeps (goSafeConfigStage f t) := by
  unfold Machine.goSafeConfigStage
  split
  · exact h
  · exact .ite h.sluice.sluiceRefuse h.sluice.upd.ok

theorem State.Keeps.goSafeConfigAccept {f : Flight} (h : s.Keeps t) : s.Keeps (goSafeConfigAccept f t) := by
  unfold Machine.goSafeConfigAccept
  split
  · exact h
  · exact .ite h.sluice.sluiceRefuse h.sluice.upd

theorem State.Keeps.ftOff {u : Nat} {f : Flight} (h : s.Keeps t) : s.Keeps (t.ftOff u f) := .disableUnit (.foldl (fun _ _ h1 => h1.ftStop) h)

theorem State.Keeps.spinOff {n : Nat} {f : Flight} (h : s.Keeps t) : s.Keeps (t.spinOff n f) := h.setSpin.disableUnit

theorem State.Keeps.hopSleep (h : s.Keeps t) : s.Keeps t.hopSleep := .foldl (fun _ _ h1 => by split; exacts [(.ite h1.setHopT h1), h1]) h

theorem State.Keeps.goUnitDisable {f : Flight} (h : s.Keeps t) : s.Keeps (goUnitDisable f t) := by
  unfold Machine.goUnitDisable
  refine .ite (.ite h.ok h) ?_
  split
  · exact .ite h.disableUnit h
  · exact .ite h.setCog.disableUnit h
  · exact h.capDisable.disableUnit
  · exact .hopSleep (.ite h.engineOff h.taskOff)
  · exact h.canOff
  · exact .ite h.disableUnit h
  · exact .ite h.setSeq h.seqDisable
  · exact h.ftOff
  · exact .ite h h.spinOff
  · exact h

theorem State.Keeps.hopWake (h : s.Keeps t) : s.Keeps t.hopWake := .foldl (fun _ _ h1 => by split; exacts [(.ite h1.setHopT h1), h1]) h

theorem State.Keeps.unitBack {u : Nat} (h : s.Keeps t) : s.Keeps (t.unitBack u) := by
  unfold State.unitBack
  dsimp only
  split
  · exact .ite h h.raceStartTree
  · exact .ite h.setCap h
  · exact .ite h.setEng.enginePoints.hopWake h.hopWake
  · exact h.canAdmit
  · exact .ite h.seqBegin h.seqPoints
  · exact .foldl (fun _ _ h1 => .ite h1.setFt.ftState h1) h
  · exact h

theorem State.Keeps.goUnitEnable {f : Flight} (h : s.Keeps t) : s.Keeps (goUnitEnable f t) := .ite h.ok (.ite h h.upd.unitBack.enableUnit)

theorem State.Keeps.abortCase {g : Flight} (h : s.Keeps t) : s.Keeps (t.abortCase g).left := by
  unfold State.abortCase
  dsimp only
  split
  · exact h
  · split
    · exact h.upd
    · exact h.upd
    · exact .ite h.setSeq h
    · exact h.setRace
    · exact h.setPset.setPoints
    · exact h.setLoop
    · exact .ite h.ftTestEnd h
    · exact h.setAxis
    · exact h.setCl
    · exact .foldl (fun _ _ h1 => h1.setCap) h
    · exact .foldl (fun _ _ h1 => h1.setCap) h
    · exact h.setEng.enginePoints
    · exact h.setEng
    · exact h.setSpin
    · split
      · exact h.setCan
      · exact h.setCan.canObjPoint
    · exact h.setCan.canPoints
    · exact h.setCan.canPoints
    · exact h.upd
    · exact h
    · exact .updSys h rfl rfl
    · exact h

theorem State.Keeps.goAbort {f : Flight} (h : s.Keeps t) : s.Keeps (goAbort f t) := by
  unfold Machine.goAbort
  split
  · exact h.finish
  · next g _ =>
    have hc := h.abortCase (g := g)
    refine .ite h.finish (.ite h.finish.ok ?_)
    split
    · next e => exact (e ▸ hc :).finish.ok
    · next e => exact (e ▸ hc :)

theorem State.Keeps.abortsLate (h : s.Keeps t) : s.Keeps t.abortsLate := .foldl (fun _ _ h1 => .ite h1 h1.finish) h

theorem State.Keeps.admitOne {q : PendCfg} (hn : s.RoleFree) (h : s.Keeps t) : s.Keeps (t.admitOne q) := by
  unfold State.admitOne
  refine .ite ?_ ?_
  · split
    · exact h.sluice.sluiceRefuse.upd
    · exact h.sluice.upd
  · dsimp only
    split
    · exact (h.applyPackage hn).upd.stageSafety.raise
    · exact .ite (.setFlight (.ite (h.applyPackage hn).upd.stageSafety.raise.upd (h.applyPackage hn).upd.stageSafety.raise)) (.okOut (.ite
      (h.applyPackage hn).upd.stageSafety.raise.upd (h.applyPackage hn).upd.stageSafety.raise))

theorem State.Keeps.admitAll (hn : s.RoleFree) (h : s.Keeps t) : s.Keeps t.admitAll :=
  .foldl (fun _ _ h1 => by split; exacts [(h1.admitOne hn), h1]) h

/-! Host -/

theorem State.Keeps.lmtLoRead (h : s.Keeps t) : s.Keeps (lmtLoRead t) := h.upd

theorem State.Keeps.quiesceWrite {on : Bool} (h : s.Keeps t) : s.Keeps (quiesceWrite on t) := h.upd

theorem State.Keeps.sulockLock (h : s.Keeps t) : s.Keeps (sulockLock t) := h.upd

theorem State.Keeps.adminEnSet (h : s.Keeps t) : s.Keeps (adminEnSet t) := .ite h (.ite h.upd (.upd (by split; exacts [h.upd.upd.raise, h.upd])))

theorem State.Keeps.functionReset {cause : Nat} {pci : Bool} (h : s.Keeps t) : s.Keeps (t.functionReset cause pci) := h.upd

theorem State.Keeps.functionResetEvent {cause : Nat} (h : s.Keeps t) : s.Keeps (functionResetEvent cause t) := h.functionReset

theorem State.Keeps.adminEnClear (h : s.Keeps t) : s.Keeps (adminEnClear t) := .ite h h.functionReset.useFree

theorem State.Keeps.registerWrite {ofs size : Nat} {val : W32} (h : s.Keeps t) : s.Keeps (registerWrite ofs size val t) :=
  .ite h (.ite (.ite h.quiesceWrite.adminEnSet (.ite h.quiesceWrite.adminEnClear h.quiesceWrite)) (.ite h h.upd))

theorem State.Keeps.trRingDelete {c : Nat} (h : s.Keeps t) : s.Keeps (t.trRingDelete c) := .ite h.upd.upd.setChan.raiseIf h.upd.upd.setChan

theorem State.Keeps.evRingDelete {n : Nat} (h : s.Keeps t) : s.Keeps (t.evRingDelete n) := h.upd.raiseIf

theorem State.Keeps.ringCmd {f : Flight} (h : s.Keeps t) : s.Keeps (t.ringCmd f) := by
  unfold State.ringCmd
  refine .ite h.upd.ok ?_
  refine .ite ?_ ?_
  · split
    · exact h.upd.ok
    · exact h.finish
  · split
    · exact h.finish
    · exact h.upd.setFlight
    · exact h.upd.ok
    · exact h.evRingDelete.ok
    · exact h.trRingDelete.ok

theorem State.Keeps.ringDeletes (h : s.Keeps t) : s.Keeps t.ringDeletes := .foldl (fun _ _ h1 => .ite h1 h1.upd.ok) h

theorem State.Keeps.ringError {k v : Nat} (h : s.Keeps t) : s.Keeps (t.ringError k v) := by
  unfold State.ringError
  split
  · exact h
  · exact h.upd.raise

theorem State.Keeps.doorbell {block : Bytes} {k : Nat} (h : s.Keeps t) : s.Keeps (t.doorbell block k) := by
  unfold State.doorbell
  split
  · exact h
  · exact .ite h (.ite h.ringError (.ite h.upd (.ite h.ringError h.upd)))

theorem State.Keeps.trDesc {x : Nat × Bytes} (h : s.Keeps t) : s.Keeps (t.trDesc x) := by
  unfold State.trDesc
  dsimp only
  split
  · exact h
  · exact .ite h (.ite h.ringError h.upd.trBuffers)

theorem State.Keeps.hbWordRead {w : W32} (h : s.Keeps t) : s.Keeps (t.hbWordRead w) := .ite h.upd (.ite h h.upd.raiseIf)

theorem State.Keeps.sweepEvent {block : Bytes} {descs : List (Nat × Bytes)} {ok : Bool} (h : s.Keeps t) : s.Keeps (sweepEvent block descs ok t) :=
  .ite h (.ite h.raise (.hbWordRead (.upd (.foldl (fun _ _ h1 => h1.trDesc) (.foldl (fun _ _ h1 => h1.doorbell) (.foldl
    (fun _ _ h1 => h1.ringCmd) h.upd))))))

theorem State.Keeps.descriptorFetch {t' ring : Nat} {desc : Bytes} {ok : Bool} (h : s.Keeps t) : s.Keeps (descriptorFetch t' ring desc ok t) :=
  .ite h (.ite h.raise (.ite (.hostRow (fun _ _ h1 => .start (fun _ _ h2 => h2) h1) h) h.fetchOne.upd))

theorem State.Keeps.hostHeartbeatTimeout (h : s.Keeps t) : s.Keeps (hostHeartbeatTimeout t) := .ite h.upd.raise h

theorem State.Keeps.msixModerationTimeout {vec : Nat} (h : s.Keeps t) : s.Keeps (msixModerationTimeout vec t) := .ite h.upd h

theorem State.Keeps.msixUnmask {vec : Option Nat} (h : s.Keeps t) : s.Keeps (msixUnmask vec t) := h.upd

theorem State.Keeps.trLink (h : s.Keeps t) : s.Keeps t.trLink := .foldl (fun _ _ h1 => .ite h1.trBuffers h1.trSpillStart) h

theorem State.Keeps.powerStateChange {pst : Nat} {pmeEn pmeClr : Bool} (h : s.Keeps t) : s.Keeps (powerStateChange pst pmeEn pmeClr t) :=
  .trLink (.upd (.raiseIf (.upd (.ite h.functionReset.useFree h))))

theorem State.Keeps.busMasterEnableChange {on : Bool} (h : s.Keeps t) : s.Keeps (busMasterEnableChange on t) := h.upd.upd.trLink

theorem State.Keeps.pmeRepeat (h : s.Keeps t) : s.Keeps (pmeRepeat t) := .ite h.upd h

theorem State.Keeps.hostLinkTrained {rate width : Nat} (h : s.Keeps t) : s.Keeps (hostLinkTrained rate width t) := h.upd.raiseIf

theorem State.Keeps.perstDeassertion (h : s.Keeps t) : s.Keeps (perstDeassertion t) := h.upd

theorem State.Keeps.goNop {f : Flight} (h : s.Keeps t) : s.Keeps (goNop f t) := h.ok

theorem State.Keeps.goRingCreate {a0 : Flight} (h : s.Keeps t) : s.Keeps (goRingCreate a0 t) := h

theorem State.Keeps.goRingModify {a0 : Flight} (h : s.Keeps t) : s.Keeps (goRingModify a0 t) := h

theorem State.Keeps.goRingDelete {a0 : Flight} (h : s.Keeps t) : s.Keeps (goRingDelete a0 t) := h

theorem State.Keeps.goSysInfo {f : Flight} (h : s.Keeps t) : s.Keeps (goSysInfo f t) := h.okOut

/-! Cycle -/

theorem State.Keeps.segLeaves {seg grp : Nat} (h : s.Keeps t) : s.Keeps (t.segLeaves seg grp) := by
  unfold State.segLeaves
  split
  · exact h
  · exact .ite (.disableUnit (.foldl (fun _ _ h1 => h1.nodeToAbsent) h)) (.setFlight (.foldl (fun _ _ h1 => h1.nodeToAbsent) h))

theorem State.Keeps.latchInputs {seg grp : Nat} (h : s.Keeps t) : s.Keeps (t.latchInputs seg grp).1 :=
  .iteFst h (.iteFst h.netSnapshot (.iteFst h.canSnapshot h))

theorem State.Keeps.groupBegin {seg grp : Nat} (h : s.Keeps t) : s.Keeps (t.groupBegin seg grp) :=
  .ite h.segLeaves.latchInputs.takeSnapshot.setGroup.leCycle h.segLeaves.latchInputs.takeSnapshot.setGroup

theorem State.Keeps.groupCycleStart {seg grp : Nat} (h : s.Keeps t) : s.Keeps (groupCycleStart seg grp t) := by
  unfold Machine.groupCycleStart
  split
  · exact h
  · exact .ite h.groupBegin h

theorem State.Keeps.pacedStart {seg grp at' : Nat} (h : s.Keeps t) : s.Keeps (t.pacedStart seg grp at') := by
  unfold State.pacedStart
  split
  · exact h
  · exact .ite h (.ite h.raise (.ite h.setGroup h.groupBegin))

theorem State.Keeps.groupPacingTimeout {seg grp : Nat} (h : s.Keeps t) : s.Keeps (groupPacingTimeout seg grp t) := by
  unfold Machine.groupPacingTimeout
  split
  · exact h
  · exact .ite h.groupBegin h

theorem State.Keeps.measure (h : s.Keeps t) : s.Keeps t.measure := .updSys h rfl rfl

theorem State.Keeps.sysPoints (h : s.Keeps t) : s.Keeps t.sysPoints := .foldl (fun _ _ h1 => h1.wrLocal.wrLocal) (.foldl (fun _ _ h1 => h1.wrLocal) h)

theorem State.Keeps.localPoints (h : s.Keeps t) : s.Keeps t.localPoints :=
  .foldl (fun _ _ h1 => h1.canLoadPoint) (.foldl (fun _ _ h1 => h1.setPoints) (.foldl
    (fun _ _ h1 => h1.cogPoints) h.measure.sysPoints.safePoints.redPoints.recPoints.capPoints.enginesPoints.fieldPoints.vrefPoints))

theorem State.Keeps.standbyDrop {k : Nat} (h : s.Keeps t) : s.Keeps (t.standbyDrop k) := .ite h.upd h

theorem State.Keeps.deltaLate {k : Nat} (h : s.Keeps t) : s.Keeps (t.deltaLate k) := by
  unfold State.deltaLate
  dsimp only
  split
  · next hc =>
    have hb : t.red.role = .standby := by simp_all
    exact .raise (.updSys (h.setRole (.inl (h.roleFree (by simp [hb, Role.inert])))) rfl rfl)
  · exact h

theorem State.Keeps.leBoundaries {k : Nat} (h : s.Keeps t) : s.Keeps (t.leBoundaries k) := .takeLoads (.foldl (fun _ _ h1 => h1.leBoundary) h)

theorem State.Keeps.localCommit (hn : s.RoleFree) (h : s.Keeps t) : s.Keeps t.localCommit.1 := (h.admitAll hn).commitPaged.markBanks

theorem State.Keeps.foCommand {t' o : Nat} (h : s.Keeps t) : s.Keeps (State.foCommand t' t o) :=
  .ite h (.ite h.setFo (.ite h.setFo.setFo.raise.foPoints h.setFo.setFo))

theorem State.Keeps.foOutput {k t' : Nat} {early : Bool} (h : s.Keeps t) : s.Keeps (t.foOutput k t' early) :=
  .foFlush (.foldl (fun _ _ h1 => h1.foCommand) h)

theorem State.Keeps.foEarly {seg grp : Nat} (h : s.Keeps t) : s.Keeps (t.foEarly seg grp) := .ite h.foOutput h

theorem State.Keeps.asActive {f : State → State} (hf : ∀ {a : State} b, a.Keeps b → a.Keeps (f b)) (h : s.Keeps t) : s.Keeps (t.asActive f) := by
  unfold State.asActive
  split
  · exact hf t h
  · have h1 := hf _ (State.Keeps.refl { t with red := { t.red with role := .active } })
    exact ⟨h1.queue.trans h.queue, h1.state.trans h.state, h.inert⟩

theorem State.Keeps.groupOutputLaunch {seg grp : Nat} (h : s.Keeps t) : s.Keeps (groupOutputLaunch seg grp t) := by
  unfold Machine.groupOutputLaunch
  split
  · exact h
  · exact .ite (.setGroup (.ite h (.ite (.ite h.foOutput.dioOutput h) (.ite (.asActive (fun _ h1 => h1.netOutput) h) (.ite h.canOutput h))))) h

theorem State.Keeps.cogPerform {c : Nat} {x : Firing} {d : Nat} (h : s.Keeps t) : s.Keeps (t.cogPerform c x d) := by
  unfold State.cogPerform
  extract_lets b k s1 o f e l p s2
  have h1 : s.Keeps s1 := h.setCog.cogPoints
  have h2 : s.Keeps s2 := by
    unfold s2
    split
    · exact .ite h1 h1.setFo
    · exact .ite h1.seqStart h1
    · exact .ite h1.capTrigger h1
    · exact h1.hopAsk
    · exact h1.setLoop
    · exact h1.pacedStart
    · exact h1
  exact .ite h2.emit h2

theorem State.Keeps.cogActionAt {c : Nat} (h : s.Keeps t) : s.Keeps (cogActionAt c t) := by
  unfold Machine.cogActionAt
  dsimp only
  split
  · exact h
  · exact .foFlush (.foldl (fun _ _ h1 => h1.cogPerform) h)

theorem State.Keeps.bankCatchupDone {kind unit : Nat} (h : s.Keeps t) : s.Keeps (bankCatchupDone kind unit t) := by
  unfold Machine.bankCatchupDone
  dsimp only
  split
  · exact h.setPset.setPoints
  · exact h.setAxis
  · exact h.setLoop
  · exact h.setEng
  · exact h.setSpin
  · exact h

/-! Boot -/

theorem State.Keeps.replay (hn : s.RoleFree) (h : s.Keeps t) : s.Keeps t.replay := by
  unfold State.replay
  exact .raise ⟨h.queue, h.state, fun hf hi => absurd hi (hn hf)⟩

theorem State.Keeps.resumePoints (h : s.Keeps t) : s.Keeps t.resumePoints := h.upd

theorem State.Keeps.resumeRaces {o : Cfg} (h : s.Keeps t) : s.Keeps (State.resumeRaces o t) := h.upd.takeDomains.takeRaces.takeCogs

theorem State.Keeps.resumeNet {o : Cfg} (h : s.Keeps t) : s.Keeps (State.resumeNet o t) := h.upd.takeNet

theorem State.Keeps.resumeControl (h : s.Keeps t) : s.Keeps t.resumeControl := .foldl (fun _ _ h1 => .ite h1.ftState h1) h.upd

theorem State.Keeps.resumeAxes (h : s.Keeps t) : s.Keeps t.resumeAxes := .foldl (fun _ _ h1 => h1.raise) h.upd

theorem State.Keeps.resumeAnalogue {o : Cfg} (h : s.Keeps t) : s.Keeps (State.resumeAnalogue o t) := h.upd.takeSeqs.takeAnalogue.upd

theorem State.Keeps.resumeCaps {o : Cfg} (h : s.Keeps t) : s.Keeps (State.resumeCaps o t) := .takeCaps (.foldl (fun _ _ h1 => h1.raiseIf) h.upd)

theorem State.Keeps.resumeTr {o : Cfg} (h : s.Keeps t) : s.Keeps (State.resumeTr o t) := h.upd.takeTr

theorem State.Keeps.resumePrograms (h : s.Keeps t) : s.Keeps t.resumePrograms := h.upd.enginesPoints.raise

theorem State.Keeps.resumeCan (h : s.Keeps t) : s.Keeps t.resumeCan := .foldl (fun _ _ h1 => h1.canAdmit) h.upd

theorem State.Keeps.resumeHopper (h : s.Keeps t) : s.Keeps t.resumeHopper := .foldl (fun _ _ h1 => by split; exacts [h1, h1.setHopT]) h.upd

theorem State.Keeps.updSkip (h : s.Keeps t) : s.Keeps t.updSkip := .raise (.updSys h rfl rfl)

theorem State.Keeps.outputsOff (h : s.Keeps t) : s.Keeps t.outputsOff := h.upd

theorem State.Keeps.outputsOn (h : s.Keeps t) : s.Keeps t.outputsOn := h.upd

theorem State.Keeps.roleChange {old : State} (h : s.Keeps t) : s.Keeps (t.roleChange old) :=
  .ite h (.ite (.foldl (fun _ _ h1 => .ite h1.leMode h1) (.ite h.outputsOn (.ite h.outputsOff h))) (.ite h.outputsOn (.ite h.outputsOff h)))

theorem State.Keeps.resume (h : s.Keeps t) : s.Keeps t.resume := by
  unfold State.resume
  extract_lets src s0 src' o src'' s1 s2 s3 s4 s5 s6
  have h2 : s.Keeps s2 := (State.Keeps.updSys (t := s0) h.upd rfl rfl : s.Keeps s1).resumePoints.resumeRaces.resumeNet.resumeControl
  have h5 : s.Keeps s5 := h2.resumeAxes.resumeAnalogue.resumeCaps.resumeTr.resumePrograms.resumeCan.resumeHopper.takeLoads
  have h6 : s.Keeps s6 := .ite h5 h5.outputsOff
  exact .ite h6.updSkip h6

theorem State.Keeps.updReady (h : s.Keeps t) : s.Keeps t.updReady := by
  unfold State.updReady
  refine .ite (.raise (.updSys h ?_ rfl)) (.updSys h rfl rfl)
  dsimp only
  split
  · split
    · exact Sys.mark_st ..
    · rfl
  · rfl

/-! Update -/

theorem State.Keeps.goUpdStage {a0 : Flight} (h : s.Keeps t) : s.Keeps (goUpdStage a0 t) := h

theorem State.Keeps.updStageDurable {ok : Bool} (h : s.Keeps t) : s.Keeps (updStageDurable ok t) := by
  unfold Machine.updStageDurable
  split
  · exact h
  · exact .ite h.finish (.ite h.finish (.ok (.raise (.updSys h rfl rfl))))

theorem State.Keeps.goUpdArm {a0 : Flight} (h : s.Keeps t) : s.Keeps (goUpdArm a0 t) := h.useFree

theorem State.Keeps.updPreloadDone (h : s.Keeps t) : s.Keeps (updPreloadDone t) := by
  unfold Machine.updPreloadDone
  split
  · exact h
  · exact .ite h.finish (.ok (.raise (.updSys h rfl rfl)))

theorem State.Keeps.goUpdCancel {f : Flight} (h : s.Keeps t) : s.Keeps (goUpdCancel f t) := by
  unfold Machine.goUpdCancel
  refine .ok (.updSys h ?_ rfl)
  dsimp only
  split
  · dsimp only
    split <;> rfl
  all_goals rfl

theorem State.Keeps.commitKey {f : Flight} (h : s.Keeps t) : s.Keeps (t.commitKey f) := .ok (.raise (.updSys h.useFree rfl rfl))

theorem State.Keeps.goUpdCommit {f : Flight} (h : s.Keeps t) : s.Keeps (goUpdCommit f t) := .ite h.commitKey h.upd.setFlight

theorem State.Keeps.commitTrial {f : Flight} (h : s.Keeps t) : s.Keeps (t.commitTrial f) := .ok (.raise (.updSys h rfl rfl))

theorem State.Keeps.updCommits (h : s.Keeps t) : s.Keeps t.updCommits := .foldl (fun _ _ h1 => .ite h1 (.ite h1.commitTrial h1.finish)) h

theorem State.Keeps.goUpdStatus {f : Flight} (h : s.Keeps t) : s.Keeps (goUpdStatus f t) := h.okOut

theorem State.Keeps.updSearch {n ts : Nat} (h : s.Keeps t) : s.Keeps (updSearch n ts t) := by
  unfold Machine.updSearch
  split
  · exact h
  · refine .ite h ?_
    extract_lets found
    clear_value found
    split
    · exact h
    · dsimp only
      split
      · exact h
      · exact .updSys h rfl rfl

theorem State.Keeps.swapEngines {p : Nat → Bool} (h : s.Keeps t) : s.Keeps (t.swapEngines p) := .ite h (.updSys h rfl rfl)

theorem State.Keeps.swapLogic {k : Nat} (h : s.Keeps t) : s.Keeps (t.swapLogic k) := h.swapEngines

theorem State.Keeps.swapSpins (h : s.Keeps t) : s.Keeps t.swapSpins := h.swapEngines

theorem State.Keeps.safeReload (h : s.Keeps t) : s.Keeps t.safeReload := .ite h h.upd.safeRequest

theorem State.Keeps.updHitless (h : s.Keeps t) : s.Keeps t.updHitless := by
  unfold State.updHitless
  extract_lets s1 src s2
  have h1 : s.Keeps s1 := .foldl (fun _ _ h1 => .ite h1.leMode h1) h
  clear_value s1
  have h2 : s.Keeps s2 := ⟨h1.queue, h1.state, h1.inert⟩
  exact .ite h2.safeReload h2

theorem State.Keeps.deliverHeld (h : s.Keeps t) : s.Keeps t.deliverHeld := .foldl (fun _ _ h1 => h1.withRecorders) h.setLog

theorem State.Keeps.updRestartDone (h : s.Keeps t) : s.Keeps (updRestartDone t) := by
  unfold Machine.updRestartDone
  refine .ite h (.raiseIf (.deliverHeld (.updSys h ?_ rfl)))
  dsimp only
  split
  · rfl
  · split <;> rfl

/-! Power -/

theorem State.Keeps.eccCorrected {array : Nat} (h : s.Keeps t) : s.Keeps (t.eccCorrected array) := .raise (.updSys h rfl rfl)

theorem State.Keeps.dramCorrupt {unit item : Nat} (h : s.Keeps t) : s.Keeps (t.dramCorrupt unit item) :=
  .raise (.ite h.setCap (by dsimp only; split; exacts [h, h.setChan]))

theorem State.Keeps.pairFails (h : s.Keeps t) : s.Keeps t.pairFails := .ite (.sendHeartbeat (.sendHeartbeat (.updSys h rfl rfl))) h

theorem State.Keeps.powerFailStart (h : s.Keeps t) : s.Keeps t.powerFailStart := .raise (.pairFails (.safeRequest (.updSys h rfl rfl)))

theorem State.Keeps.powerFail {mv : Nat} (h : s.Keeps t) : s.Keeps (powerFail mv t) := .ite h (.powerFailStart (.updSys h rfl rfl))

theorem State.Keeps.resetPin (h : s.Keeps t) : s.Keeps (resetPin t) := .ite h (.ite (.updSys h rfl rfl) (.powerFailStart (.updSys h rfl rfl)))

theorem State.Keeps.finalCommit (h : s.Keeps t) : s.Keeps t.finalCommit := .ite h.writeThrough h

theorem State.Keeps.sealAll (h : s.Keeps t) : s.Keeps t.sealAll := h.upd

theorem State.Keeps.stopOutputs (h : s.Keeps t) : s.Keeps t.stopOutputs := h.upd

theorem State.Keeps.stopClocks (h : s.Keeps t) : s.Keeps t.stopClocks := .updSys h rfl rfl

theorem State.Keeps.maintLinkChange {port : Nat} {up : Bool} (h : s.Keeps t) : s.Keeps (maintLinkChange port up t) := .ite (.updSys h rfl rfl) h

/-! ExtCalls -/

theorem State.Keeps.extRet {core status : Nat} {v : Option Nat} (h : s.Keeps t) : s.Keeps (t.extRet core status v) := h.setCore

theorem State.Keeps.extCall {core : Nat} {f : State → State} (hf : ∀ x, s.Keeps x → s.Keeps (f x)) (h : s.Keeps t) : s.Keeps (t.extCall core f) :=
  .ite (hf _ h) h

theorem State.Keeps.extPointRead {core addr : Nat} (h : s.Keeps t) : s.Keeps (extPointRead core addr t) :=
  .extCall (fun _ h1 => .ite h1.extRet h1.extRet) h

theorem State.Keeps.extWrite {a : Nat} {v : W64} (h : s.Keeps t) : s.Keeps (t.extWrite a v) := by
  unfold State.extWrite
  split
  · exact h
  · split
    · exact h.setPset
    · exact .ite (.ite h.wr64 h.wr) h.upd

theorem State.Keeps.extPointWrite {core addr : Nat} {v : W64} (h : s.Keeps t) : s.Keeps (extPointWrite core addr v t) :=
  .extCall (fun _ h1 => .extRet (.ite h1.extWrite h1)) h

theorem State.Keeps.extFlagSet {core task : Nat} {flags : W32} (h : s.Keeps t) : s.Keeps (extFlagSet core task flags t) :=
  .extCall (fun _ h1 => .ite h1.hopAsk.extRet h1.extRet) h

theorem State.Keeps.extRaise {core src : Nat} (h : s.Keeps t) : s.Keeps (extRaise core src t) :=
  .extCall (fun _ h1 => .ite h1.ecLatch.extRet h1.extRet) h

theorem State.Keeps.extLmt {core : Nat} (h : s.Keeps t) : s.Keeps (extLmt core t) := .extCall (fun _ h1 => h1.extRet) h

/-! SpinDone -/

theorem State.Keeps.ethHandle {port src : Nat} {p : Bytes} (h : s.Keeps t) : s.Keeps (t.ethHandle port src p) := by
  unfold State.ethHandle
  refine .ite h.oczonInvalidFrame ?_
  split
  · exact h.inputFrameReceive
  · exact h.helloReceive
  · exact h.bindAckReceive
  · exact h.pageRspReceive
  · exact h.remoteSegmentReceive
  · exact .ite h.pairHeartbeatReceive h
  · exact h

theorem State.Keeps.ethMessage {port rx : Nat} {a3 : EthMsg} (h : s.Keeps t) : s.Keeps (t.ethMessage port rx a3) := by
  unfold State.ethMessage
  split
  · exact h
  · exact h.ptpSyncReceive
  · exact h.ptpMessageAt
  · exact h.lldpReceive

theorem State.Keeps.ethOffer {port : Nat} {fb : Bytes} {msg : EthMsg} {direct : State → State} (hdirect : ∀ x, s.Keeps x → s.Keeps (direct x)) (h : s.Keeps t) :
    s.Keeps (t.ethOffer port fb msg direct) := by
  unfold State.ethOffer
  split
  · next hu => exact h.spinOffer hu
  · exact hdirect _ h.spinBacklog

theorem State.Keeps.ethIn {port src : Nat} {p : Bytes} {direct : State → State} (hdirect : ∀ x, s.Keeps x → s.Keeps (direct x)) (h : s.Keeps t) :
    s.Keeps (t.ethIn port src p direct) :=
  .ethOffer (fun _ h1 => hdirect _ h1) h

theorem State.Keeps.ethOther {port : Nat} {frame : Bytes} {msg : EthMsg} (h : s.Keeps t) : s.Keeps (t.ethOther port frame msg) :=
  .ethOffer (fun _ h1 => h1.ethMessage) h

theorem State.Keeps.ethVerdict {port : Nat} {w : SpinWin} {v : Nat} (h : s.Keeps t) : s.Keeps (t.ethVerdict port w v) :=
  .ite h.setPort (.ite h.ethHandle h.ethMessage)

theorem State.Keeps.qualVerdict {u : Nat} {w : SpinWin} {v : Nat} (h : s.Keeps t) : s.Keeps (t.qualVerdict u w v) := .ite h.capTrigger h

theorem State.Keeps.reduceVerdict {c v : Nat} (h : s.Keeps t) : s.Keeps (t.reduceVerdict c v) := h.setChan.traceSettle

theorem State.Keeps.spinVerdict {n : Nat} {w : SpinWin} {v : W32} (h : s.Keeps t) : s.Keeps (t.spinVerdict n w v) :=
  .ite h.canVerdict (.ite (.ethVerdict (.ite h.spinBad h)) (.ite (.qualVerdict (.ite h.spinBad h)) (.reduceVerdict (.ite h.spinBad h))))

theorem State.Keeps.spinDefaults {n : Nat} (h : s.Keeps t) : s.Keeps (t.spinDefaults n) :=
  .ite h (.foldl (fun _ _ h1 => .ite h1.canDeliver h1.spinVerdict) h.setSpin)

theorem State.Keeps.spinExit {n : Nat} (h : s.Keeps t) : s.Keeps (t.spinExit n) := by
  unfold State.spinExit
  dsimp only
  split
  · exact h
  · exact .spinDefaults (.spinGap (by split; exacts [h.spinEnd.spinVerdict.spinOff, h.spinEnd.spinVerdict]))

theorem State.Keeps.spindleWindowRun {n : Nat} (h : s.Keeps t) : s.Keeps (spindleWindowRun n t) :=
  .ite h.spinGap.spinDefaults.spinStart h.spinGap.spinDefaults

theorem State.Keeps.spinStep {n op opnd : Nat} {f : SpinWin → Spin → Spin} {next : Spin → Nat} (h : s.Keeps t) :
    s.Keeps (t.spinStep n op opnd f next) :=
  .ite h (.ite h.spinExec.spinExit h.spinExec)

theorem State.Keeps.spinD {n op opnd : Nat} {g : SpinWin → Spin → W32} (h : s.Keeps t) : s.Keeps (t.spinD n op opnd g) := h.spinStep

theorem State.Keeps.spinA {n op opnd : Nat} {g : W32 → W32 → W32} (h : s.Keeps t) : s.Keeps (t.spinA n op opnd g) := h.spinD

theorem State.Keeps.spinI {n op opnd : Nat} {g : W32 → W32} (h : s.Keeps t) : s.Keeps (t.spinI n op opnd g) := h.spinD

theorem State.Keeps.spinLoad {n op opnd : Nat} {g : SpinWin → Int → W32} (h : s.Keeps t) : s.Keeps (t.spinLoad n op opnd g) := h.spinD

theorem State.Keeps.spinBr {n op opnd : Nat} {c : Spin → Bool} (h : s.Keeps t) : s.Keeps (t.spinBr n op opnd c) := h.spinStep

theorem State.Keeps.spinBrR {n op opnd : Nat} {c : W32 → W32 → Bool} (h : s.Keeps t) : s.Keeps (t.spinBrR n op opnd c) := h.spinBr

theorem State.Keeps.spinBrI {n op opnd : Nat} {c : Int → Int → Bool} (h : s.Keeps t) : s.Keeps (t.spinBrI n op opnd c) := h.spinBr

/-! Start -/

theorem State.Keeps.cmdRule {op : Nat} {h' : CmdHdr} (h : s.Keeps t) : s.Keeps (cmdRule op h' t) := by
  unfold Machine.cmdRule
  split
  · exact .start (fun _ _ h1 => h1.goNop) h
  · exact .start (fun _ _ h1 => h1.goRingCreate) h
  · exact .start (fun _ _ h1 => h1.goRingModify) h
  · exact .start (fun _ _ h1 => h1.goRingDelete) h
  · exact .start (fun _ _ h1 => h1.goAbort) h
  · exact .start (fun _ _ h1 => h1.goSysInfo) h
  · exact .start (fun _ _ h1 => h1.goCfgLoad) h
  · exact .start (fun _ _ h1 => h1.goCfgCheck) h
  · exact .start (fun _ _ h1 => h1.goCfgAdmit) h
  · exact .start (fun _ _ h1 => h1.goCfgRecord) h
  · exact .start (fun _ _ h1 => h1.goCfgRead) h
  · exact .start (fun _ _ h1 => h1.goUnitDisable) h
  · exact .start (fun _ _ h1 => h1.goUnitEnable) h
  · exact .start (fun _ _ h1 => h1.goSluiceRead) h
  · exact .start (fun _ _ h1 => h1.goRaceVmSet) h
  · exact .start (fun _ _ h1 => h1.goRaceTimeSet) h
  · exact .start (fun _ _ h1 => h1.goRaceReference) h
  · exact .start (fun _ _ h1 => h1.goRacePreset) h
  · exact .start (fun _ _ h1 => h1.goRaceConfirm) h
  · exact .start (fun _ _ h1 => h1.goCogArm) h
  · exact .start (fun _ _ h1 => h1.goCogDisarm) h
  · exact .start (fun _ _ h1 => h1.goPlaceRead) h
  · exact .start (fun _ _ h1 => h1.goPlaceWrite) h
  · exact .start (fun _ _ h1 => h1.goPlaceSeal) h
  · exact .start (fun _ _ h1 => h1.goPointRead) h
  · exact .start (fun _ _ h1 => h1.goPointWrite) h
  · exact .start (fun _ _ h1 => h1.goPointMeta) h
  · exact .start (fun _ _ h1 => h1.goNodeRead) h
  · exact .start (fun _ _ h1 => h1.goLoopMode) h
  · exact .start (fun _ _ h1 => h1.goLoopTrim) h
  · exact .start (fun _ _ h1 => h1.goLoopCoefWrite) h
  · exact .start (fun _ _ h1 => h1.goLoopCoefSeal) h
  · exact .start (fun _ _ h1 => h1.goLoopReadState) h
  · exact .start (fun _ _ h1 => h1.goFtStart) h
  · exact .start (fun _ _ h1 => h1.goFtStop) h
  · exact .start (fun _ _ h1 => h1.goFtTune) h
  · exact .start (fun _ _ h1 => h1.goFtAccept) h
  · exact .start (fun _ _ h1 => h1.goFtPlaceErr) h
  · exact .start (fun _ _ h1 => h1.goFtStatus) h
  · exact .start (fun _ _ h1 => h1.goAxisEnable) h
  · exact .start (fun _ _ h1 => h1.goAxisDisable) h
  · exact .start (fun _ _ h1 => h1.goAxisGoto) h
  · exact .start (fun _ _ h1 => h1.goAxisQueue) h
  · exact .start (fun _ _ h1 => h1.goAxisStop) h
  · exact .start (fun _ _ h1 => h1.goAxisHome) h
  · exact .start (fun _ _ h1 => h1.goAxisSetPos) h
  · exact .start (fun _ _ h1 => h1.goAxisLimits) h
  · exact .start (fun _ _ h1 => h1.goAxisClearFault) h
  · exact .start (fun _ _ h1 => h1.goAxisTableWrite) h
  · exact .start (fun _ _ h1 => h1.goAxisTableSeal) h
  · exact .start (fun _ _ h1 => h1.goAdcStart) h
  · exact .start (fun _ _ h1 => h1.goAnaVref) h
  · exact .start (fun _ _ h1 => h1.goClZeroSpan) h
  · exact .start (fun _ _ h1 => h1.goClCalCapture) h
  · exact .start (fun _ _ h1 => h1.goDioReset) h
  · exact .start (fun _ _ h1 => h1.goCapArm) h
  · exact .start (fun _ _ h1 => h1.goCapDisarm) h
  · exact h.runCapTrigger
  · exact .start (fun _ _ h1 => h1.goCapRead) h
  · exact .start (fun _ _ h1 => h1.goCapRelease) h
  · exact .start (fun _ _ h1 => h1.goTrStart) h
  · exact .start (fun _ _ h1 => h1.goTrStop) h
  · exact .start (fun _ _ h1 => h1.goTrFlush) h
  · exact .start (fun _ _ h1 => h1.goLogRead) h
  · exact .start (fun _ _ h1 => h1.goLogClear) h
  · exact .start (fun _ _ h1 => h1.goLogCatalogue) h
  · exact .start (fun _ _ h1 => h1.goRecFreeze) h
  · exact .start (fun _ _ h1 => h1.goRecThaw) h
  · exact .start (fun _ _ h1 => h1.goLogicLoad) h
  · exact .start (fun _ _ h1 => h1.goLogicSeal) h
  · exact .start (fun _ _ h1 => h1.goLogicMode) h
  · exact .start (fun _ _ h1 => h1.goLogicStep) h
  · exact .start (fun _ _ h1 => h1.goLogicBreak) h
  · exact .start (fun _ _ h1 => h1.goLogicForce) h
  · exact .start (fun _ _ h1 => h1.goLogicUnforce) h
  · exact .start (fun _ _ h1 => h1.goLogicForceClear) h
  · exact .start (fun _ _ h1 => h1.goLogicForceList) h
  · exact .start (fun _ _ h1 => h1.goLogicReadState) h
  · exact .start (fun _ _ h1 => h1.goSpinLoad) h
  · exact .start (fun _ _ h1 => h1.goSpinSeal) h
  · exact .start (fun _ _ h1 => h1.goSpinReadState) h
  · exact .start (fun _ _ h1 => h1.goCanSend) h
  · exact .start (fun _ _ h1 => h1.goCanRecover) h
  · exact .start (fun _ _ h1 => h1.goCanRateDetect) h
  · exact .start (fun _ _ h1 => h1.goCanRingRead) h
  · exact .start (fun _ _ h1 => h1.goSafeStatus) h
  · exact .start (fun _ _ h1 => h1.goSafeDiagRead) h
  · exact .start (fun _ _ h1 => h1.goSafeConfigStage) h
  · exact .start (fun _ _ h1 => h1.goSafeConfigAccept) h
  · exact .start (fun _ _ h1 => h1.goSafeConnRestart) h
  · exact .start (fun _ _ h1 => h1.goRedStatus) h
  · exact .start (fun _ _ h1 => h1.goRedSwitch) h
  · exact .start (fun _ _ h1 => h1.goRedRevertInhibit) h
  · exact .start (fun _ _ h1 => h1.goHopDeal) h
  · exact .start (fun _ _ h1 => h1.goHopDeal) h
  · exact .start (fun _ _ h1 => h1.goHopTraceRead) h
  · exact .start (fun _ _ h1 => h1.goExtLoad) h
  · exact .start (fun _ _ h1 => h1.goExtStart) h
  · exact .start (fun _ _ h1 => h1.goExtStop) h
  · exact .start (fun _ _ h1 => h1.goHopReadState) h
  · exact .start (fun _ _ h1 => h1.goUpdStage) h
  · exact .start (fun _ _ h1 => h1.goUpdArm) h
  · exact .start (fun _ _ h1 => h1.goUpdCancel) h
  · exact .start (fun _ _ h1 => h1.goUpdCommit) h
  · exact .start (fun _ _ h1 => h1.goUpdStatus) h
  · exact .start (fun _ _ h1 => h1) h

theorem State.Keeps.shownHome (h : s.Keeps t) : s.Keeps t.shownHome := h.upd.upd

theorem State.Keeps.plain (h : s.Keeps t) : s.Keeps t.plain := h.upd

theorem State.Keeps.shown (h : s.Keeps t) : s.Keeps t.shown := h.shownHome.localPoints.plain

theorem State.Keeps.runShown {run : CmdHdr → State → State} {h' : CmdHdr} (hrun : ∀ a0 x, s.Keeps x → s.Keeps (run a0 x)) (h : s.Keeps t) :
    s.Keeps (runShown run h' t) :=
  .ite (.upd (hrun _ _ h.shown)) (hrun _ _ h)

theorem State.Keeps.startCmd {op : Nat} {h' : CmdHdr} (h : s.Keeps t) : s.Keeps (startCmd op h' t) := .runShown (fun _ _ h1 => h1.cmdRule) h

theorem State.Keeps.disablesDone (h : s.Keeps t) : s.Keeps t.disablesDone := .foldl (fun _ _ h1 => h1.ok) h

theorem State.Keeps.spinGaps (h : s.Keeps t) : s.Keeps t.spinGaps := .swapSpins (.foldl (fun _ _ h1 => h1.spinGap.spinDefaults) h)

theorem State.Keeps.settle (h : s.Keeps t) : s.Keeps t.settle := h.spinGaps.disablesDone.ringDeletes.abortsLate

theorem State.Keeps.startHeld {n : Nat} (h : s.Keeps t) : s.Keeps (t.startHeld n) := by
  induction n generalizing t with
  | zero => exact h
  | succ n ih =>
    unfold State.startHeld
    split
    · exact h
    · refine ih (.settle ?_)
      split
      · exact .startCmd h.upd
      · exact .upd (.startCmd h.upd)

theorem State.Keeps.afterStep (h : s.Keeps t) : s.Keeps t.afterStep := h.settle.startHeld

end Sys2Proof.Machine
end

section
/-! SUPPORT. The functions that move HSTAT.STATE, each within the table of R469. -/

namespace Sys2Proof.Machine

variable {s t : State}

/-- The queue as it was, a move of HSTAT.STATE that R469 lists, and in FAULT_HALT a role that it allows, wherever that held before (R384, R472). -/
structure State.Moves (s t : State) : Prop where
  queue : t.pending = s.pending
  state : s.sys.st.mayMove t.sys.st = true
  inert : (s.sys.st = .faultHalt → s.red.role.inert) → t.sys.st = .faultHalt → t.red.role.inert

theorem HState.mayMove_refl (x : HState) : x.mayMove x = true := by cases x <;> rfl

theorem HState.mayMove_boot (x : HState) : x.mayMove .boot = true := by cases x <;> rfl

theorem State.Keeps.moves (h : s.Keeps t) : s.Moves t :=
  ⟨h.queue, h.state ▸ HState.mayMove_refl _, fun hi hf => h.inert (h.state ▸ hf) (hi (h.state ▸ hf))⟩

namespace State.Moves

variable {u : State}

theorem keeps (h : s.Moves t) (hu : t.Keeps u) : s.Moves u :=
  ⟨hu.queue.trans h.queue, hu.state ▸ h.state, fun hi hf => hu.inert (hu.state ▸ hf) (h.inert hi (hu.state ▸ hf))⟩

theorem of_keeps (h : s.Keeps t) (hu : t.Moves u) : s.Moves u :=
  ⟨hu.queue.trans h.queue, h.state ▸ hu.state, fun hi => hu.inert fun hf => h.inert (h.state ▸ hf) (hi (h.state ▸ hf))⟩

theorem ite {c : Prop} [Decidable c] {a b : State} (ha : c → s.Moves a) (hb : ¬ c → s.Moves b) : s.Moves (if c then a else b) := by
  split
  · exact ha ‹_›
  · exact hb ‹_›

theorem setSt {x : HState} (hx : s.sys.st.mayMove x = true) (hn : x ≠ .faultHalt) (h : s.Keeps t) : s.Moves (t.setSt x) :=
  ⟨h.queue, hx, fun _ hf => absurd hf hn⟩

/-- FAULT_HALT blocks a module of a pair (R384). -/
theorem faultHalt {code detail : Nat} (hx : s.sys.st.mayMove .faultHalt = true) (h : s.Moves t) : s.Moves (t.faultHalt code detail) := by
  unfold State.faultHalt
  refine ite (fun _ => h) fun _ => ?_
  exact ⟨h.queue, hx, fun _ _ => by
    show Role.inert (Red.role (if t.red.role = .single then t.red else _))
    split
    · exact .inl ‹_›
    · exact .inr rfl⟩

/-- A start keeps the queue and stands in BOOT (R469). -/
theorem boot {t' strapMode : Nat} {strapPair cold : Bool} (hq : t.pending = s.pending) : s.Moves (t.boot t' strapMode strapPair cold) := by
  unfold State.boot
  extract_lets y failed s1 s2
  have h1 : s.Moves s1 := ⟨hq, HState.mayMove_boot _, fun _ hf => nomatch hf⟩
  have h2 : s.Moves s2 := ite (fun _ => h1.keeps (State.Keeps.refl s1).useFree.thawFor) fun _ => h1
  exact h2.keeps (State.Keeps.refl s2).raiseIf

end State.Moves

/-! The rows of the start, of faults and of power (R469 to R472, R480, R518). -/

theorem bootRomDone_moves (warmAt : Nat) (s : State) : s.Moves (bootRomDone warmAt s) := by
  unfold bootRomDone
  refine .ite (fun hb => ?_) fun _ => (State.Keeps.refl s).moves
  have hb : s.sys.st = .boot := by simpa using hb
  exact .setSt (by rw [hb]; rfl) (by decide) (.upd (.vrefSwitch (.updSys (.refl s) rfl rfl)))

theorem Sys.rollback_st (y : Sys) : y.rollback.st = y.st := by
  unfold Sys.rollback
  split <;> rfl

theorem State.slotFails_moves (k : Nat) (hv : s.sys.st = .verify) : s.Moves (s.slotFails k) := by
  unfold State.slotFails
  refine .ite (fun _ => ?_) fun _ => .faultHalt (by rw [hv]; rfl) (State.Keeps.refl s).moves
  exact State.Keeps.moves (.raiseIf (.raise (.updSys (.refl s) (by dsimp only; split <;> simp [Sys.rollback_st]) rfl)))

theorem slotVerifyDone_moves (code : Nat) (s : State) : s.Moves (slotVerifyDone code s) := by
  unfold slotVerifyDone
  refine .ite (fun _ => (State.Keeps.refl s).moves) fun hv => ?_
  have hv : s.sys.st = .verify := by simpa using hv
  exact .ite (fun _ => .ite (fun _ => s.slotFails_moves 0 hv) fun _ => .setSt (by rw [hv]; rfl) (by decide) (.refl s)) fun _ => s.slotFails_moves _ hv

/-- LOAD and the holdup store done, the module is READY; a recovery start or test mode leaves a module of a pair BLOCKED (R469, R470). -/
theorem State.tryReady_moves (h : s.Keeps t) : s.Moves t.tryReady := by
  unfold State.tryReady
  refine .ite (fun hl => ?_) fun _ => h.moves
  have hl : s.sys.st = .load := h.state ▸ by simp_all
  have h1 : s.Moves (t.setSt .ready) := .setSt (by rw [hl]; rfl) (by decide) h
  unfold State.ready
  extract_lets s1 src s2
  have k2 : s1.Keeps s2 := State.Keeps.updReady (.updSys (.refl s1) rfl rfl)
  refine h1.keeps (.ite (.ite k2.resume k2) (.ite ?_ k2))
  exact ⟨k2.queue, k2.state, fun _ _ => .inr rfl⟩

theorem loadDone_moves (code : Nat) (s : State) : s.Moves (loadDone code s) := by
  unfold loadDone
  refine .ite (fun _ => (State.Keeps.refl s).moves) fun hl => ?_
  have hl : s.sys.st = .load := by simp_all
  have hx : s.sys.st.mayMove .faultHalt = true := by rw [hl]; rfl
  refine .ite (fun _ => .faultHalt hx (State.Keeps.refl s).useFree.moves) fun _ => .ite (fun _ => .faultHalt hx (State.Keeps.refl s).moves) fun _ => ?_
  exact State.tryReady_moves (.updSys (State.Keeps.replay (.of_st s (by rw [hl]; decide)) (.refl s)) rfl rfl)

theorem holdupCharged_moves (s : State) : s.Moves (holdupCharged s) := State.tryReady_moves (.updSys (.refl s) rfl rfl)

theorem holdupChargeTimeout_moves (s : State) : s.Moves (holdupChargeTimeout s) := by
  unfold holdupChargeTimeout
  refine .ite (fun hl => ?_) fun _ => (State.Keeps.refl s).moves
  have hl : s.sys.st = .load := by simp_all
  exact .faultHalt (by rw [hl]; rfl) (State.Keeps.refl s).useFree.moves

theorem State.mayFault_mayMove (h : s.mayFault = true) : s.sys.st.mayMove .faultHalt = true := by
  unfold State.mayFault at h
  revert h
  cases s.sys.st <;> decide

theorem State.fault_moves {code detail : Nat} (h : s.Keeps t) : s.Moves (t.fault code detail) := by
  unfold State.fault
  exact .ite (fun hm => .faultHalt (h.state ▸ State.mayFault_mayMove hm) h.moves) fun _ => h.moves

theorem faultHaltEntry_moves (code detail : Nat) (s : State) : s.Moves (faultHaltEntry code detail s) :=
  .ite (fun _ => State.fault_moves (.refl s)) fun _ => (State.Keeps.refl s).moves

theorem eccError_moves (array : Nat) (double : Bool) (unit item : Nat) (s : State) : s.Moves (eccError array double unit item s) := by
  unfold eccError
  refine .ite (fun _ => (State.Keeps.refl s).moves) fun _ => .ite (fun _ => (State.Keeps.refl s).eccCorrected.moves) fun _ => ?_
  split
  · exact State.fault_moves (.refl s)
  · exact State.fault_moves (.refl s)
  · exact (State.Keeps.refl s).dramCorrupt.moves
  · exact State.fault_moves (.refl s)

theorem powerFailFinalCommit_moves (s : State) : s.Moves (powerFailFinalCommit s) := by
  unfold powerFailFinalCommit
  refine .ite (fun _ => ?_) fun _ => (State.Keeps.refl s).moves
  dsimp only
  split
  · exact .boot (State.Keeps.queue (.stopClocks (.stopOutputs (.sealAll (.finalCommit (.setLog (.refl s)))))))
  · exact State.Keeps.moves (.stopClocks (.stopOutputs (.sealAll (.finalCommit (.setLog (.refl s))))))

theorem logicRegulationReached_moves (strapMode : Nat) (strapPair : Bool) (s : State) : s.Moves (logicRegulationReached strapMode strapPair s) :=
  .ite (fun _ => (State.Keeps.refl s).moves) fun _ => .ite (fun _ => State.Keeps.moves (.updSys (.refl s) rfl rfl)) fun _ => .boot rfl

theorem powerRestored_moves (strapMode : Nat) (strapPair : Bool) (s : State) : s.Moves (powerRestored strapMode strapPair s) :=
  .ite (fun _ => .ite (fun _ => State.Keeps.moves (.updSys (.refl s) rfl rfl)) fun _ => .boot rfl) fun _ => (State.Keeps.refl s).moves

theorem resetRelease_moves {t' strapMode : Nat} {strapPair : Bool} (h : s.Keeps t) : s.Moves (resetRelease t' strapMode strapPair t) :=
  .ite (fun _ => h.moves) fun _ => .ite (fun _ => .boot h.queue) fun _ =>
    .ite (fun _ => State.Keeps.moves (.updSys h rfl rfl)) fun _ => State.Keeps.moves (.updSys h rfl rfl)

theorem updActivation_moves (s : State) : s.Moves (updActivation s) := by
  have h := State.Keeps.refl s
  unfold updActivation
  exact .ite (fun _ => h.moves) fun _ => .ite (fun _ => h.updSkip.moves) fun _ => .ite (fun _ => h.updSkip.moves) fun _ =>
    .ite (fun _ => .boot rfl) fun _ => h.updHitless.moves

/-! The frames of the loops and of motion, whose fourth overrun in a row is a module fault (R134, R209): the engines run in RUNNING. -/

theorem State.enginesRun_running (h : s.enginesRun = true) : s.sys.st = .running := by
  simp only [State.enginesRun, Bool.and_eq_true, beq_iff_eq] at h
  exact h.1

theorem State.Moves.foldl {α : Type} {f : State → α → State} {l : List α} (hf : ∀ x a, s.Moves x → s.Moves (f x a)) (h : s.Moves t) :
    s.Moves (l.foldl f t) := by
  induction l generalizing t with
  | nil => exact h
  | cons a l ih => exact ih (hf t a h)

theorem State.laneCount_moves {f : Nat} {late : List Nat} (hr : s.sys.st = .running) (h : s.Keeps t) : s.Moves (t.laneCount f late) := by
  unfold State.laneCount
  refine .foldl (fun x n hx => ?_) h.moves
  exact .ite (fun _ => .faultHalt (by rw [hr]; rfl) (hx.keeps (.upd (.refl x)))) fun _ => hx.keeps (.upd (.refl x))

theorem loopFrame_moves (late : List Nat) (s : State) : s.Moves (loopFrame late s) := by
  have h := State.Keeps.refl s
  unfold loopFrame
  refine .ite (fun _ => h.moves) fun _ => .ite (fun _ => h.frameCounts.moves) fun he => State.laneCount_moves ?_ (.loopTraces (.foldl (fun _ _ h1 => h1.loopIdent)
    (.foldl (fun _ _ h1 => h1.groupDecide) (.foldl (fun _ _ h1 => h1.loopSkip) (.foldl (fun _ _ h1 => h1.loopSample) h.frameCounts)))))
  exact State.enginesRun_running (by simpa using he)

theorem State.engineCount_moves {late : List Nat} (hr : s.sys.st = .running) (h : s.Keeps t) : s.Moves (t.engineCount late) := by
  unfold State.engineCount
  refine .foldl (fun x n hx => ?_) h.moves
  exact .ite (fun _ => .faultHalt (by rw [hr]; rfl) (hx.keeps (.raiseIf (.upd (.refl x))))) fun _ => hx.keeps (.raiseIf (.upd (.refl x)))

theorem motionUpdate_moves (late : List Nat) (s : State) : s.Moves (motionUpdate late s) := by
  have h := State.Keeps.refl s
  unfold motionUpdate
  refine .ite (fun _ => h.moves) fun he => State.engineCount_moves ?_ (.useFree (.foldl (fun _ _ h1 => h1.linkFrame) (.foldl (fun _ _ h1 => h1.axUpdate)
    (.upd (.foldl (fun _ _ h1 => h1.linkTake) h)))))
  simp only [Bool.or_eq_true, Bool.not_eq_true', not_or] at he
  exact State.enginesRun_running (by simpa using he.1)

/-! The commit, whose first makes a READY module RUNNING (R85, R469). -/

/-- What commits do to a module that is not in FAULT_HALT. -/
structure State.Commits (s t : State) : Prop where
  queue : t.pending = s.pending
  state : t.sys.st = s.sys.st ∨ (s.sys.st = .ready ∧ t.sys.st = .running)
  on : t.sys.st ≠ .faultHalt

namespace State.Commits

variable {u : State}

theorem moves (h : s.Commits t) : s.Moves t where
  queue := h.queue
  state := h.state.elim (fun e => e ▸ HState.mayMove_refl _) fun ⟨hs, ht⟩ => by rw [hs, ht]; rfl
  inert _ hf := absurd hf h.on

theorem keeps (h : s.Commits t) (hu : t.Keeps u) : s.Commits u :=
  ⟨hu.queue.trans h.queue, hu.state ▸ h.state, hu.state ▸ h.on⟩

theorem runningNow (h : s.Commits t) : s.Commits t.runningNow := by
  unfold State.runningNow
  split
  · next hr =>
    have hr : t.sys.st = .ready := by simp_all
    exact ⟨h.queue, .inr ⟨h.state.elim (fun e => e ▸ hr) fun hs => hs.1, rfl⟩, nofun⟩
  · exact h

theorem ite {c : Prop} [Decidable c] {a b : State} (ha : s.Commits a) (hb : s.Commits b) : s.Commits (if c then a else b) := by
  split <;> assumption

theorem groupCommitNow {seg grp : Nat} (h : s.Commits t) : s.Commits (t.groupCommitNow seg grp) := by
  have k := State.Keeps.refl t
  have hn := State.RoleFree.of_st t h.on
  unfold State.groupCommitNow
  extract_lets key o src src' s1 s2 s3 s4 b s5 x s6 y s7 s8 g s9
  have k0 : t.Keeps o.1 := k.leOverruns
  clear_value o
  have k1 : t.Keeps s1 := .updSys k0 rfl rfl
  clear_value s1
  have k3 : t.Keeps s3 := .ite k1.deltaLate.gather.localPoints k1.deltaLate.gather
  clear_value s3
  have k4 : t.Keeps s4 := .ite k3.canCommit k3
  clear_value s4
  have k6 : t.Keeps s6 := k4.remoteAxes.standbyDrop.commitImage.leBoundaries
  clear_value s6
  have ky : t.Keeps y.1 := .iteFst (k6.localCommit hn) k6
  clear_value y
  have k9 : t.Keeps s9 := ky.writeThrough.emitBy.emitBy.setGroup
  clear_value s9
  refine keeps ?_ (State.Keeps.refl _).foEarly
  exact .ite (h.keeps k9).runningNow (h.keeps k9)

theorem groupCommit {seg grp : Nat} (h : s.Commits t) : s.Commits (groupCommit seg grp t) := by
  have k := State.Keeps.refl t
  have hn := State.RoleFree.of_st t h.on
  unfold Machine.groupCommit
  split
  · exact h
  · split
    · exact (h.keeps (State.Keeps.upd (.writeThrough (k.localCommit hn)))).runningNow
    · split
      · exact h
      · split
        · exact h.groupCommitNow
        · exact h

theorem foldl {α : Type} {f : State → α → State} {l : List α} (hf : ∀ x a, s.Commits x → s.Commits (f x a)) (h : s.Commits t) : s.Commits (l.foldl f t) := by
  induction l generalizing t with
  | nil => exact h
  | cons a l ih => exact ih (hf t a h)

end State.Commits

theorem groupCommits_moves (seg grp : Nat) (hn : s.sys.st ≠ .faultHalt) : s.Moves (groupCommits seg grp s) :=
  State.Commits.moves (.foldl (fun _ _ hx => hx.groupCommit.keeps (State.Keeps.refl _).swapLogic) ⟨rfl, .inl rfl, hn⟩)

end Sys2Proof.Machine
end

section
/-! What one row of the table can do, said once for every command: the dispatch is walked through here and nowhere else. -/

namespace Sys2Proof.Machine

variable {s t : State}

/-- The rows that act with the clocks stopped: supplies, reset, the front end and the event controller's edges. -/
def Instr.Apart (c : Instr) : Prop :=
  (∃ x m p, c = .logicRegulationReached x m p ∨ c = .powerRestored x m p ∨ c = .resetRelease x m p) ∨ (∃ x, c = .resetPin x ∨ c = .clFrontendWatchdog x) ∨
    ∃ x i, c = .ecSourceEdge x i

/-- The answer of command `c` on `s`: an instant's effect with what follows it, a host command's rule, or one of the rows that act without clocks. -/
inductive Row (c : Instr) (s : State) : Host.Outcome State Fault Refusal → Prop
  | event {n f} (hf : ∀ x : State, x.Moves (f x)) : Row c s (eventRow s n f)
  | command {op h run} (hr : run = cmdRule op) : Row c s (commandRow op h run s)
  | apart {u} (hc : Instr.Apart c) (h : s.Moves u) : Row c s (.next u)

namespace Row

variable {c : Instr} {s : State} {n : Nat} {f : State → State}

theorem ofEvent (hf : ∀ {x y : State}, x.Keeps y → x.Keeps (f y)) : Row c s (eventRow s n f) := .event fun x => (hf (.refl x)).moves

/-- An engine does nothing in FAULT_HALT, so its effect is asked for outside it only. -/
theorem ofEngineMoves (hf : ∀ x : State, x.sys.st ≠ .faultHalt → x.Moves (f x)) : Row c s (engineRow s n f) :=
  .event fun x => .ite (fun _ => (State.Keeps.refl x).moves) fun hn => hf x (by simpa using hn)

theorem ofEngine (hf : ∀ {x y : State}, x.Keeps y → x.Keeps (f y)) : Row c s (engineRow s n f) := ofEngineMoves fun x _ => (hf (.refl x)).moves

end Row

theorem exec_row (c : Instr) (s : State) : Row c s (exec c s) := by
  have k := State.Keeps.refl s
  cases c with dsimp only [exec]
  | logicRegulationReached t m p => exact .apart (.inl ⟨t, m, p, .inl rfl⟩) (logicRegulationReached_moves _ _ s)
  | powerRestored t m p => exact .apart (.inl ⟨t, m, p, .inr (.inl rfl)⟩) (powerRestored_moves _ _ s)
  | resetRelease t m p => exact .apart (.inl ⟨t, m, p, .inr (.inr rfl)⟩) (resetRelease_moves (.ite k.tick k))
  | clFrontendWatchdog t => exact .apart (.inr (.inl ⟨t, .inr rfl⟩)) k.tick.clWatchdog.moves
  | resetPin t =>
    show Row _ _ (if _ then _ else _)
    split
    · exact .ofEvent fun h => h.resetPin
    · exact .apart (.inr (.inl ⟨t, .inl rfl⟩)) (State.Keeps.moves (.updSys k rfl rfl))
  | ecSourceEdge t i =>
    show Row _ _ (if _ then _ else _)
    split
    · exact .ofEvent fun h => h.ecEdge
    · exact .apart (.inr (.inr ⟨t, i, rfl⟩)) k.ecHold.moves
  | bootRomDone => exact .event (bootRomDone_moves _)
  | slotVerifyDone => exact .event (slotVerifyDone_moves _)
  | loadDone => exact .event (loadDone_moves _)
  | holdupCharged => exact .event holdupCharged_moves
  | holdupChargeTimeout => exact .event holdupChargeTimeout_moves
  | faultHaltEntry => exact .event (faultHaltEntry_moves _ _)
  | eccError => exact .event (eccError_moves _ _ _ _)
  | fabricFault => exact .event fun x => State.fault_moves (State.Keeps.refl x).useFree
  | runtimeWatchdog => exact .event fun x => State.fault_moves (State.Keeps.refl x).useFree
  | baseplateOvertemp => exact .event fun x => State.fault_moves (State.Keeps.refl x).useFree
  | powerFail => exact .ofEvent fun h => h.powerFail
  | powerFailFinalCommit => exact .event powerFailFinalCommit_moves
  | groupCycleStart => exact .ofEngine fun h => h.groupCycleStart
  | nodeDrop => exact .ofEvent fun h => h.nodeDrop
  | groupCommit => exact .ofEngineMoves fun _ hn => groupCommits_moves _ _ hn
  | groupOutputLaunch => exact .ofEngine fun h => h.groupOutputLaunch
  | writeThroughDurable => exact .ofEvent fun h => h.writeThroughDurable.updCommits
  | journalSettle => exact .ofEvent fun h => h.journalSettle
  | encoderSample => exact .ofEvent fun h => h.encoderSample
  | ssiRead => exact .ofEvent fun h => h.ssiRead
  | indexCapture => exact .ofEvent fun h => h.indexCapture
  | raceHoldoverExpiry => exact .ofEvent fun h => h.raceHoldoverExpiry
  | segmentFit => exact .ofEvent fun h => h.segmentFit.updSearch.swapEngines
  | segmentFrameLaunch => exact .ofEngine fun h => h.segmentFrameLaunch
  | remoteSegmentReceive => exact .ofEvent fun h => .ite (.ethIn (fun _ h1 => h1.remoteSegmentReceive) h) h
  | cogAction => exact .ofEngine fun h => h.cogActionAt
  | groupPacingTimeout => exact .ofEngine fun h => h.groupPacingTimeout
  | bankCatchupDone => exact .ofEvent fun h => h.bankCatchupDone
  | ptpSyncReceive => exact .ofEvent fun h => h.ethOther
  | ptpMessageReceive => exact .ofEvent fun h => h.ethOther
  | ptpSyncTimeout => exact .ofEvent fun h => h.ptpSyncTimeout
  | ptpSyncSend => exact .ofEngine fun h => h.ptpSyncSend
  | inputFrameReceive => exact .ofEvent fun h => .ite (.ethIn (fun _ h1 => h1.inputFrameReceive) h) h
  | helloReceive => exact .ofEvent fun h => .ite (.ethIn (fun _ h1 => h1.helloReceive) h) h
  | bindAckReceive => exact .ofEvent fun h => .ite (.ethIn (fun _ h1 => h1.bindAckReceive) h) h
  | bindRetry => exact .ofEngine fun h => h.bindRetry
  | pageRspReceive => exact .ofEvent fun h => .ite (.ethIn (fun _ h1 => h1.pageRspReceive) h) h
  | pageReqRetry => exact .ofEngine fun h => h.pageReqRetry
  | pagedSweep => exact .ofEngine fun h => h.pagedSweep
  | nodeReleaseTimeout => exact .ofEvent fun h => h.nodeReleaseTimeout
  | portLinkLoss => exact .ofEvent fun h => h.portLinkLoss
  | opticsPresenceChange => exact .ofEvent fun h => h.opticsPresenceChange
  | oczonInvalidFrame => exact .ofEvent fun h => .ite (.ethIn (fun _ h1 => h1.oczonInvalidFrame) h) h
  | lldpSend => exact .ofEngine fun h => h.lldpSend
  | lldpReceive => exact .ofEvent fun h => h.ethOther
  | pairHeartbeatSend => exact .ofEvent fun h => h.sendHeartbeat
  | pairHeartbeatReceive => exact .ofEvent fun h => .ite (.ethIn (fun _ h1 => h1.pairHeartbeatReceive) h) h
  | redLinkHeartbeatSend => exact .ofEvent fun h => h.sendHeartbeat
  | redLinkHeartbeatReceive => exact .ofEvent fun h => h.redLinkHeartbeatReceive
  | redPathSilence => exact .ofEvent fun h => h.redPathSilence
  | pairWaitExpiry => exact .ofEvent fun h => h.pairWaitExpiry
  | redDeltaReceive => exact .ofEvent fun h => h.redDeltaReceive.mirrorConfigs
  | redFullCopyDone => exact .ofEvent fun h => h.redFullCopyDone
  | redPlannedSwitchInstant => exact .ofEvent fun h => h.redPlannedSwitchInstant
  | redRevertHoldExpiry => exact .ofEvent fun h => h.redRevertHoldExpiry
  | loopFrame => exact .ofEngineMoves fun x _ => (loopFrame_moves _ x).keeps (State.Keeps.refl _).swapEngines
  | fantailResultDue => exact .ofEngine fun h => h.fantailResultDue.swapEngines
  | fantailEqUpdate => exact .ofEngine fun h => .swapEngines (.ite h.fantailEqUpdate h)
  | fantailHeadroomUpdate => exact .ofEngine fun h => h.fantailHeadroomUpdate.swapEngines
  | fantailPlaceRecord => exact .ofEngine fun h => h.fantailPlaceRecord.swapEngines
  | evFtFrozen => exact .ofEngine fun h => h.fantailFrozen
  | motionUpdate => exact .ofEngineMoves fun x _ => (motionUpdate_moves _ x).keeps (State.Keeps.refl _).swapEngines
  | driveLinkUpstream => exact .ofEngine fun h => h.driveLinkUpstream
  | axisHoldDelayExpiry => exact .ofEngine fun h => h.axisHoldDelay
  | axisQuickStopRequest => exact .ofEngine fun h => h.axisQuickStopRequest
  | timerTick => exact .ofEngine fun h => h.timerTick
  | pwmPeriodStart => exact .ofEngine fun h => h.pwmPeriodStart
  | adcEntryEnd => exact .ofEvent fun h => h.adcEntryEnd
  | vrefCheck => exact .ofEvent fun h => h.vrefCheck
  | vrefSettled => exact .ofEvent fun h => h.vrefSettled
  | clUpdate => exact .ofEngine fun h => h.clUpdate
  | clFaultClass => exact .ofEngine fun h => h.clFaultClass
  | clComplianceDetect => exact .ofEngine fun h => h.clComplianceDetect
  | clCmdTimeout => exact .ofEngine fun h => h.clCmdTimeout
  | almselSample => exact .ofEvent fun h => h.almselSample
  | clModeChangeDone => exact .ofEngine fun h => h.clModeChangeDone
  | calButtonHeld => exact .ofEngine fun h => h.calButtonHeld
  | calAveragingDone => exact .ofEngine fun h => h.calAveragingDone
  | dioSample => exact .ofEvent fun h => h.dioSample
  | dioOverload => exact .ofEvent fun h => h.dioOverload
  | dioAutoRestart => exact .ofEngine fun h => h.dioAutoRestart
  | fieldLow => exact .ofEvent fun h => h.fieldLowEvent
  | fieldRestored => exact .ofEvent fun h => h.fieldRestored
  | captureSample => exact .ofEvent fun h => h.capSample
  | captureGroupTrigger => exact .ofEvent fun h => h.capGroupTrigger
  | spindleWindowRun => exact .ofEngine fun h => h.spindleWindowRun
  | tailraceFlushTimeout => exact .ofEvent fun h => h.trFlushTimeout
  | tailraceSpill => exact .ofEvent fun h => h.trSpillStart
  | tailraceDrainDone => exact .ofEvent fun h => h.trDrainDone
  | logRecordDurable => exact .ofEvent fun h => h.logRecordDurable
  | logFreezeExpiry => exact .ofEvent fun h => h.logFreezeExpiry
  | logRateSecond => exact .ofEvent fun h => h.logRateSecond
  | logicRunStart => exact .ofEngine fun h => h.logicRunStart
  | leNop => exact .ofEngine fun h => h.leRunOp
  | leLd => exact .ofEngine fun h => h.leBitOp
  | leLdn => exact .ofEngine fun h => h.leBitOp
  | leAnd => exact .ofEngine fun h => h.leBitOp
  | leAndn => exact .ofEngine fun h => h.leBitOp
  | leOr => exact .ofEngine fun h => h.leBitOp
  | leOrn => exact .ofEngine fun h => h.leBitOp
  | leXor => exact .ofEngine fun h => h.leBitOp
  | leXorn => exact .ofEngine fun h => h.leBitOp
  | leNot => exact .ofEngine fun h => h.leRunOp
  | leLdt => exact .ofEngine fun h => h.leRunOp
  | lePsha => exact .ofEngine fun h => h.leRunOp
  | lePsho => exact .ofEngine fun h => h.leRunOp
  | lePshx => exact .ofEngine fun h => h.leRunOp
  | lePop => exact .ofEngine fun h => h.leRunOp
  | leSt => exact .ofEngine fun h => h.leBitStore
  | leStn => exact .ofEngine fun h => h.leBitStore
  | leSet => exact .ofEngine fun h => h.leBitStore
  | leRst => exact .ofEngine fun h => h.leBitStore
  | leFp => exact .ofEngine fun h => h.leEdge
  | leFn => exact .ofEngine fun h => h.leEdge
  | leTon => exact .ofEngine fun h => h.leTimer
  | leTof => exact .ofEngine fun h => h.leTimer
  | leTp => exact .ofEngine fun h => h.leTimer
  | leTpt => exact .ofEngine fun h => h.leTimer
  | leTrst => exact .ofEngine fun h => h.leTimer
  | leCtu => exact .ofEngine fun h => h.leCounter
  | leCtd => exact .ofEngine fun h => h.leCounter
  | leCres => exact .ofEngine fun h => h.leCounter
  | leCld => exact .ofEngine fun h => h.leCounter
  | leCpv => exact .ofEngine fun h => h.leCounter
  | leL => exact .ofEngine fun h => h.leWordOp
  | leT => exact .ofEngine fun h => h.leStep
  | leTc => exact .ofEngine fun h => h.leStep
  | leLi => exact .ofEngine fun h => h.leRunOp
  | leLih => exact .ofEngine fun h => h.leRunOp
  | leAdd => exact .ofEngine fun h => h.leWordOp
  | leSub => exact .ofEngine fun h => h.leWordOp
  | leMul => exact .ofEngine fun h => h.leWordOp
  | leDiv => exact .ofEngine fun h => h.leWordOp
  | leMod => exact .ofEngine fun h => h.leWordOp
  | leNeg => exact .ofEngine fun h => h.leRunOp
  | leAbs => exact .ofEngine fun h => h.leRunOp
  | leWand => exact .ofEngine fun h => h.leWordOp
  | leWor => exact .ofEngine fun h => h.leWordOp
  | leWxor => exact .ofEngine fun h => h.leWordOp
  | leShl => exact .ofEngine fun h => h.leWordOp
  | leShr => exact .ofEngine fun h => h.leWordOp
  | leAsr => exact .ofEngine fun h => h.leWordOp
  | leCeq => exact .ofEngine fun h => h.leWordOp
  | leCne => exact .ofEngine fun h => h.leWordOp
  | leCgt => exact .ofEngine fun h => h.leWordOp
  | leCge => exact .ofEngine fun h => h.leWordOp
  | leClt => exact .ofEngine fun h => h.leWordOp
  | leCle => exact .ofEngine fun h => h.leWordOp
  | leFadd => exact .ofEngine fun h => h.leWordOp
  | leFsub => exact .ofEngine fun h => h.leWordOp
  | leFmul => exact .ofEngine fun h => h.leWordOp
  | leFdiv => exact .ofEngine fun h => h.leWordOp
  | leItof => exact .ofEngine fun h => h.leRunOp
  | leFtoi => exact .ofEngine fun h => h.leRunOp
  | leFclt => exact .ofEngine fun h => h.leWordOp
  | leFcgt => exact .ofEngine fun h => h.leWordOp
  | leJmp => exact .ofEngine fun h => h.leRunOp
  | leJc => exact .ofEngine fun h => h.leRunOp
  | leJnc => exact .ofEngine fun h => h.leRunOp
  | leCall => exact .ofEngine fun h => h.leRunOp
  | leRet => exact .ofEngine fun h => h.leRunOp
  | leEnd => exact .ofEngine fun h => h.leRunOp
  | leHflag => exact .ofEngine fun h => h.leRunOp
  | leEvt => exact .ofEngine fun h => h.leRunOp
  | spinNop => exact .ofEngine fun h => h.spinStep
  | spinAdd => exact .ofEngine fun h => h.spinA
  | spinSub => exact .ofEngine fun h => h.spinA
  | spinAnd => exact .ofEngine fun h => h.spinA
  | spinOr => exact .ofEngine fun h => h.spinA
  | spinXor => exact .ofEngine fun h => h.spinA
  | spinShl => exact .ofEngine fun h => h.spinA
  | spinShr => exact .ofEngine fun h => h.spinA
  | spinAsr => exact .ofEngine fun h => h.spinA
  | spinMul => exact .ofEngine fun h => h.spinA
  | spinMin => exact .ofEngine fun h => h.spinA
  | spinMax => exact .ofEngine fun h => h.spinA
  | spinMinu => exact .ofEngine fun h => h.spinA
  | spinMaxu => exact .ofEngine fun h => h.spinA
  | spinAbs => exact .ofEngine fun h => h.spinD
  | spinAddi => exact .ofEngine fun h => h.spinI
  | spinAndi => exact .ofEngine fun h => h.spinI
  | spinOri => exact .ofEngine fun h => h.spinI
  | spinXori => exact .ofEngine fun h => h.spinI
  | spinShli => exact .ofEngine fun h => h.spinI
  | spinShri => exact .ofEngine fun h => h.spinI
  | spinAsri => exact .ofEngine fun h => h.spinI
  | spinLi => exact .ofEngine fun h => h.spinD
  | spinLui => exact .ofEngine fun h => h.spinD
  | spinLdb => exact .ofEngine fun h => h.spinLoad
  | spinLdh => exact .ofEngine fun h => h.spinLoad
  | spinLdw => exact .ofEngine fun h => h.spinLoad
  | spinLdhl => exact .ofEngine fun h => h.spinLoad
  | spinLdwl => exact .ofEngine fun h => h.spinLoad
  | spinLdhls => exact .ofEngine fun h => h.spinLoad
  | spinBeq => exact .ofEngine fun h => h.spinBrR
  | spinBne => exact .ofEngine fun h => h.spinBrR
  | spinBlt => exact .ofEngine fun h => h.spinBrR
  | spinBge => exact .ofEngine fun h => h.spinBrR
  | spinBltu => exact .ofEngine fun h => h.spinBrR
  | spinBgeu => exact .ofEngine fun h => h.spinBrR
  | spinBeqi => exact .ofEngine fun h => h.spinBrI
  | spinBnei => exact .ofEngine fun h => h.spinBrI
  | spinBlti => exact .ofEngine fun h => h.spinBrI
  | spinBgei => exact .ofEngine fun h => h.spinBrI
  | spinCnt => exact .ofEngine fun h => h.spinStep
  | spinExit => exact .ofEngine fun h => h.spinStep
  | canFrameReceive => exact .ofEvent fun h => h.canFrameReceive
  | canFrameAcknowledged => exact .ofEvent fun h => h.canFrameAcknowledged
  | canArbitrationLost => exact .ofEvent fun h => h.canArbitrationLost
  | canTxError => exact .ofEvent fun h => h.canTxError
  | canRecoveryComplete => exact .ofEvent fun h => h.canRecoveryComplete
  | canRateDetectDwell => exact .ofEvent fun h => h.canRateDetectDwell
  | safetyCycle => exact .ofEvent fun h => h.safetyCycle
  | safetyDiscrepancyCount => exact .ofEvent fun h => h.safetyDiscrepancyCount
  | evSafeResetLong => exact .ofEvent fun h => h.safeResetLong
  | safetyStopDelayExpiry => exact .ofEvent fun h => h.safetyStopDelayExpiry
  | nalatWatchdogExpiry => exact .ofEvent fun h => h.nalatWatchdogExpiry
  | safetySelfTestDone => exact .ofEvent fun h => h.safetySelfTestDone
  | hopperDeal => exact .ofEngine fun h => h.hopperDeal
  | extRunEnd => exact .ofEngine fun h => h.extRunEnd
  | extBudgetOverrun => exact .ofEngine fun h => h.extBudgetOverrun
  | extFault => exact .ofEngine fun h => h.extFault
  | extCallPointRead => exact .ofEngine fun h => h.extPointRead
  | extCallPointWrite => exact .ofEngine fun h => h.extPointWrite
  | extCallFlagSet => exact .ofEngine fun h => h.extFlagSet
  | extCallRaise => exact .ofEngine fun h => h.extRaise
  | extCallLmt => exact .ofEngine fun h => h.extLmt
  | ecClaim => exact .ofEngine fun h => h.ecClaim
  | ecComplete => exact .ofEngine fun h => h.ecComplete
  | ecRaise => exact .ofEngine fun h => h.ecRaise
  | ecOverrunsRead => exact .ofEngine fun h => h.ecOverrunsRead
  | sweep => exact .ofEvent fun h => h.sweepEvent
  | descriptorFetch => exact .ofEvent fun h => h.descriptorFetch
  | hostHeartbeatTimeout => exact .ofEvent fun h => h.hostHeartbeatTimeout
  | msixModerationTimeout => exact .ofEvent fun h => h.msixModerationTimeout
  | msixUnmask => exact .ofEvent fun h => h.msixUnmask
  | functionReset => exact .ofEvent fun h => h.functionResetEvent
  | powerStateChange => exact .ofEvent fun h => h.powerStateChange
  | busMasterEnableChange => exact .ofEvent fun h => h.busMasterEnableChange
  | pmeRepeat => exact .ofEvent fun h => h.pmeRepeat
  | hostLinkTrained => exact .ofEvent fun h => h.hostLinkTrained
  | lmtLoRead => exact .ofEvent fun h => h.lmtLoRead
  | adminEnSet => exact .ofEvent fun h => h.adminEnSet
  | adminEnClear => exact .ofEvent fun h => h.adminEnClear
  | quiesce => exact .ofEvent fun h => h.quiesceWrite
  | sulockLock => exact .ofEvent fun h => h.sulockLock
  | registerWrite => exact .ofEvent fun h => h.registerWrite
  | updActivation => exact .event updActivation_moves
  | updRestartDone => exact .ofEvent fun h => h.updRestartDone
  | perstDeassertion => exact .ofEvent fun h => h.perstDeassertion
  | fieldPortLinkUp => exact .ofEvent fun h => h.fieldPortLinkUp
  | canReceiveError => exact .ofEvent fun h => h.canReceiveError
  | canBusIntegration => exact .ofEvent fun h => h.canBusIntegration
  | updStageDurable => exact .ofEvent fun h => h.updStageDurable
  | updPreloadDone => exact .ofEvent fun h => h.updPreloadDone
  | ptpDelayRequestSend => exact .ofEngine fun h => h.ptpDelayRequestSend
  | siStandardSample => exact .ofEvent fun h => h.siStandardSample
  | maintLinkChange => exact .ofEvent fun h => h.maintLinkChange
  | _ => exact .command rfl

namespace Row

variable {c : Instr} {o : Host.Outcome State Fault Refusal}

/-- Whatever row it is: the queue stays, HSTAT.STATE moves as R469 lists, and the role holds in FAULT_HALT. -/
theorem moves (h : Row c s o) (ho : o = .next t) : s.Moves t := by
  have k := State.Keeps.refl s
  cases h with
  | @event n f hf =>
    simp only [eventRow, live] at ho
    split at ho
    · injection ho with ho
      exact ho ▸ (State.Moves.of_keeps k.tick (hf _)).keeps (State.Keeps.refl _).roleChange.afterStep
    · injection ho with ho
      exact ho ▸ k.moves
  | command hr =>
    subst hr
    simp only [commandRow] at ho
    split at ho
    · injection ho with ho
      exact ho ▸ (State.Keeps.hostRow (fun _ _ h => h.runShown fun _ _ h => h.cmdRule) k).roleChange.afterStep.moves
    · injection ho with ho
      exact ho ▸ k.moves
  | apart _ h =>
    injection ho with ho
    exact ho ▸ h

/-- With the clocks stopped only the rows apart act: no instant passes and no command is taken (log 6, log 253). -/
theorem stopped (h : Row c s o) (hc : s.sys.clocksOn = false) (ho : o = .next t) : t = s ∨ Instr.Apart c := by
  cases h with
  | event hf => exact .inl (by simpa [eventRow, live, hc, eq_comm] using ho)
  | command hr => exact .inl (by simpa [commandRow, State.canTake, hc, eq_comm] using ho)
  | apart ha _ => exact .inr ha

end Row

theorem exec_moves {c : Instr} (h : exec c s = .next t) : s.Moves t := (exec_row c s).moves h

theorem step_eq_exec {c : Instr} {cs : List Instr} (hp : s.pending = c :: cs) : step s = exec c { s with pending := cs } := by
  simp only [step, hp]

theorem step_idle (hp : s.pending = []) : step s = .next s := by
  simp only [step, hp]

/-- Every step is a move from the same state, its front command taken from the queue. -/
theorem step_moves (h : step s = .next t) : ∃ cs, State.Moves { s with pending := cs } t := by
  cases hp : s.pending with
  | nil =>
    rw [step_idle hp] at h
    injection h with h
    exact ⟨s.pending, h ▸ (State.Keeps.refl s).moves⟩
  | cons c cs => exact ⟨cs, exec_moves (step_eq_exec hp ▸ h)⟩

theorem State.haltBlocked_iff (s : State) : s.haltBlocked = true ↔ (s.sys.st = .faultHalt → s.red.role.inert) := by
  simp only [State.haltBlocked, Role.inert, Bool.or_eq_true, bne_iff_ne, beq_iff_eq]
  tauto

end Sys2Proof.Machine
end

section
/-! The statements about every step. -/

open Sys2Proof Sys2Proof.Machine

/-- Settles O1: `step` is defined by it. -/
theorem stepRunsFront : Obligations.StepRunsFront := fun _ _ _ => step_eq_exec

/-- Settles O2: `step` is defined by it. -/
theorem emptyQueueIdles : Obligations.EmptyQueueIdles := fun _ => step_idle

/-- Settles O38, by evaluation of the state after reset. -/
theorem resetBlocked : Obligations.ResetBlocked := by
  unfold Obligations.ResetBlocked
  decide

/-- Settles O35: no row writes the queue. -/
theorem queueKept : Obligations.QueueKept := fun _ _ _ _ hp h => (exec_moves (step_eq_exec hp ▸ h)).queue

/-- Settles O36: the rows of the start, of faults and of power move HSTAT.STATE as R469 lists, every other row keeps it. -/
theorem hstatMoves : Obligations.HstatMoves := fun _ _ h => (step_moves h).elim fun _ hm => hm.state

/-- Settles O37: FAULT_HALT is entered through a rule that blocks a module of a pair, and nothing gives it another role there. -/
theorem haltBlocked : Obligations.HaltBlocked := by
  intro s t hs h
  obtain ⟨cs, hm⟩ := step_moves h
  exact t.haltBlocked_iff.2 (hm.inert (s.haltBlocked_iff.1 hs))

/-- Settles O59 (log 6, log 253): an instant passes and a command is taken only with the clocks on. -/
theorem clocksStopped : Obligations.ClocksStopped := fun c s _ hc h => (exec_row c s).stopped hc h
end

section
/-! SUPPORT. Reading back what a map over a family made. -/

namespace Sys2Proof

theorem SMap.getD_mapV {α : Type} (f : Nat → α → α) (m : SMap α) (n : Nat) (d : α) :
    SMap.getD (SMap.mapV f m) n d = ((SMap.get? m n).map (f n)).getD d := by
  rw [SMap.getD, SMap.get?_mapV]

/-- What holds of whatever the map makes of a unit, and of the default, holds of every unit that is read back. -/
theorem SMap.getD_mapV_all {α : Type} {P : α → Prop} {f : Nat → α → α} {d : α} (hf : ∀ n x, P (f n x)) (hd : P d) (m : SMap α) (n : Nat) :
    P (SMap.getD (SMap.mapV f m) n d) := by
  rw [SMap.getD_mapV]
  cases SMap.get? m n with
  | none => exact hd
  | some x => exact hf n x

end Sys2Proof
end

section
/-! SUPPORT. What reporting leaves: raising events, writing points and conditions, and finishing commands change no unit. -/

namespace Sys2Proof.Machine

/-- Only what reports a state differs: commands in flight, the host interface, Tailrace, the log, the console, the image's values and conditions that are not
committed, and the count of free values. -/
def State.Reports (s t : State) : Prop :=
  ∃ fl ho tr lg co im fr, t = { s with flights := fl, host := ho, tr := tr, log := lg, sys := { s.sys with console := co }, img := im, free := fr } ∧ im.front = s.img.front

variable {s t u : State}

namespace State.Reports

theorem refl (s : State) : s.Reports s := ⟨_, _, _, _, _, _, _, rfl, rfl⟩

theorem trans (h : s.Reports t) (h' : t.Reports u) : s.Reports u := by
  obtain ⟨_, _, _, _, _, _, _, rfl, hf⟩ := h
  obtain ⟨_, _, _, _, _, _, _, rfl, hf'⟩ := h'
  exact ⟨_, _, _, _, _, _, _, rfl, hf'.trans hf⟩

section
variable (h : s.Reports t)
include h

theorem front : t.img.front = s.img.front := by obtain ⟨_, _, _, _, _, _, _, rfl, hf⟩ := h; exact hf
theorem cfg : t.cfg = s.cfg := by obtain ⟨_, _, _, _, _, _, _, rfl, -⟩ := h; rfl
theorem journal : t.journal = s.journal := by obtain ⟨_, _, _, _, _, _, _, rfl, -⟩ := h; rfl
theorem home : t.home = s.home := by obtain ⟨_, _, _, _, _, _, _, rfl, -⟩ := h; rfl
theorem sys : t.sys = { s.sys with console := t.sys.console } := by obtain ⟨_, _, _, _, _, _, _, rfl, -⟩ := h; rfl
theorem encs : t.encs = s.encs := by obtain ⟨_, _, _, _, _, _, _, rfl, -⟩ := h; rfl
theorem races : t.races = s.races := by obtain ⟨_, _, _, _, _, _, _, rfl, -⟩ := h; rfl
theorem cogs : t.cogs = s.cogs := by obtain ⟨_, _, _, _, _, _, _, rfl, -⟩ := h; rfl
theorem doms : t.doms = s.doms := by obtain ⟨_, _, _, _, _, _, _, rfl, -⟩ := h; rfl
theorem net : t.net = s.net := by obtain ⟨_, _, _, _, _, _, _, rfl, -⟩ := h; rfl
theorem ana : t.ana = s.ana := by obtain ⟨_, _, _, _, _, _, _, rfl, -⟩ := h; rfl
theorem cans : t.cans = s.cans := by obtain ⟨_, _, _, _, _, _, _, rfl, -⟩ := h; rfl
theorem race (n : Nat) : t.race n = s.race n := congrArg (fun m => SMap.getD m n ({} : Race)) h.races
theorem dom (n : Nat) : t.dom n = s.dom n := congrArg (fun m => SMap.getD m n ({} : Domain)) h.doms
theorem node (n : Nat) : t.node n = s.node n := congrArg (fun x => SMap.getD (Net.nodes x) n ({} : Node)) h.net
theorem cl (n : Nat) : t.cl n = s.cl n := congrArg (fun x => SMap.getD (Analogue.cls x) n ({} : ClChan)) h.ana
theorem dio (n : Nat) : t.dio n = s.dio n := congrArg (fun x => SMap.getD (Analogue.dios x) n ({} : Dio)) h.ana
theorem can (n : Nat) : t.can n = s.can n := congrArg (fun m => SMap.getD m n ({} : CanPort)) h.cans
end

theorem withRecorders (a : Recorders) : s.Reports (s.withRecorders a) := ⟨_, _, _, _, _, _, _, rfl, rfl⟩

theorem raise {code unit ps point cl} : s.Reports (s.raise code unit ps point cl) := withRecorders _

theorem raiseIf {c code unit ps point cl} : s.Reports (s.raiseIf c code unit ps point cl) := by
  unfold State.raiseIf
  split
  · exact raise
  · exact refl s

theorem wr {a : Nat} {v : W32} : s.Reports (s.wr a v) := by
  unfold State.wr
  split
  · exact ⟨_, _, _, _, _, _, _, rfl, rfl⟩
  · exact refl s

theorem wr64 {a v : Nat} : s.Reports (s.wr64 a v) := wr.trans wr

theorem setCond {a i : Nat} {on : Bool} : s.Reports (s.setCond a i on) := ⟨_, _, _, _, _, _, _, rfl, rfl⟩

theorem foldl {α : Type} {f : State → α → State} (hf : ∀ (s : State) a, s.Reports (f s a)) (l : List α) : s.Reports (l.foldl f s) :=
  List.foldlRecOn l f (refl s) fun _ h a _ => h.trans (hf _ a)

theorem finishAll {fs : List Flight} {status : Nat} {r : Report0} : s.Reports (s.finishAll fs status r) :=
  foldl (fun s f => (⟨_, _, _, _, _, _, _, rfl, rfl⟩ : s.Reports (s.finish f status r))) fs

theorem setLog {l : EvLog} : s.Reports (s.setLog l) := ⟨_, _, _, _, _, _, _, rfl, rfl⟩

theorem useFree : s.Reports s.useFree := ⟨_, _, _, _, _, _, _, rfl, rfl⟩

theorem thawFor {dur : Nat} : s.Reports (s.thawFor dur) := (setLog.trans (withRecorders _)).trans (foldl (fun _ _ => setLog.trans raiseIf) _)

theorem dioPoints {n : Nat} : s.Reports (s.dioPoints n) := (wr.trans wr).trans wr

theorem domPoints {d : Nat} : s.Reports (s.domPoints d) := (((((wr.trans wr).trans wr).trans wr).trans wr64).trans wr64).trans wr

theorem canPoints {p : Nat} : s.Reports (s.canPoints p) := ((((((wr.trans wr).trans wr).trans wr).trans wr).trans wr).trans wr).trans wr

theorem clPoints {n : Nat} : s.Reports (s.clPoints n) := by
  unfold State.clPoints
  extract_lets c a f off s0 s1
  have h0 : s.Reports s0 := foldl (fun _ _ => setCond) _
  have h1 : s.Reports s1 := by
    show s.Reports (if _ then _ else _)
    split
    · exact h0.trans setCond
    · exact (h0.trans wr).trans setCond
  split
  · exact h0
  · exact ((((((h1.trans wr).trans wr).trans wr).trans wr).trans wr).trans wr)

theorem racePoints {n : Nat} : s.Reports (s.racePoints n) := by
  unfold State.racePoints
  extract_lets r b g a sc s1 s2 s3
  clear_value g
  have h1 : s.Reports s1 := by
    show s.Reports (match g with | none => _ | some g => _)
    split
    · exact refl s
    · exact (((wr64.trans wr64).trans wr).trans wr).trans wr
  have h3 : s.Reports s3 := (((h1.trans wr).trans wr64).trans wr).trans wr
  split
  · exact h3.trans wr
  · exact h3

theorem fieldPoints : s.Reports s.fieldPoints := (foldl (fun _ _ => clPoints) _).trans (foldl (fun _ _ => dioPoints) _)

end State.Reports

end Sys2Proof.Machine
end

section
/-! SUPPORT. Words rounded down, and the firings of a repeating cog (R77). -/

namespace Sys2Proof.Machine

/-- Clearing the low 12 bits of a word rounds it down to a page. -/
theorem page_eq_and (v : W32) : BitVec.ofNat 32 (v.toNat / 4096 * 4096) = v &&& 0xFFFFF000#32 := by
  rw [show (0xFFFFF000#32 : W32) = BitVec.allOnes 32 <<< 12 by decide, show 4096 = 2 ^ 12 from rfl]
  refine BitVec.eq_of_getLsbD_eq fun i hi => ?_
  rw [BitVec.getLsbD_ofNat, BitVec.getLsbD_and, BitVec.getLsbD_shiftLeft, BitVec.getLsbD_allOnes, Nat.testBit_mul_two_pow, Nat.testBit_div_two_pow]
  by_cases h : 12 ≤ i
  · have h' : i - 12 < 32 := by omega
    rw [Nat.sub_add_cancel h, BitVec.testBit_toNat]
    simp [h, hi, h', Nat.not_lt.2 h]
  · simp [h, Nat.lt_of_not_le h]

theorem mod128_eq_and (v : W32) : BitVec.ofNat 32 (v.toNat % 128) = v &&& 0x7F#32 := by
  apply BitVec.eq_of_toNat_eq
  have := Nat.and_two_pow_sub_one_eq_mod v.toNat 7
  have hv := v.isLt
  simp only [BitVec.toNat_ofNat, BitVec.toNat_and, Nat.reducePow, Nat.reduceSub, Nat.reduceMod] at *
  omega

theorem Cog.advance_more {c : Cog} {b : Bytes} (hr : cogRepeats b = true) (hm : cogCount b = 0 ∨ c.used + 1 < cogCount b) :
    c.advance b = { c with used := c.used + 1, target := add96 c.target (if cogFwd b then (cogDist b : Int) else - (cogDist b : Int)) } := by
  have : ¬ (cogCount b ≠ 0 ∧ cogCount b ≤ c.used + 1) := by omega
  simp only [Cog.advance, hr, this, Bool.not_true, Bool.false_eq_true, if_false]

theorem add96_emod (x d : Int) : add96 (x % 2 ^ 96).toNat d = ((x + d) % 2 ^ 96).toNat := by
  simp only [add96, wrapN]
  omega

/-- `k` firings of a repeating cog with firings left add the distance `k` times (R77). -/
theorem Cog.advance_iterate {c : Cog} {b : Bytes} (ht : c.target < 2 ^ 96) (hr : cogRepeats b = true) (k : Nat)
    (hm : cogCount b = 0 ∨ c.used + k < cogCount b) :
    (fun c => Cog.advance c b)^[k] c =
      { c with used := c.used + k, target := (((c.target : Int) + k * (if cogFwd b then (cogDist b : Int) else - (cogDist b : Int))) % 2 ^ 96).toNat } := by
  induction k with
  | zero =>
    have : (((c.target : Int) + (0 : Nat) * (if cogFwd b then (cogDist b : Int) else - (cogDist b : Int))) % 2 ^ 96).toNat = c.target := by
      rw [Nat.cast_zero, zero_mul]
      omega
    rw [this]
    rfl
  | succ k ih =>
    rw [Function.iterate_succ_apply', ih (by omega), Cog.advance_more hr (by simp only; omega)]
    simp only [add96_emod]
    push_cast
    ring_nf

end Sys2Proof.Machine
end

section
/-! The registers, the cogs and the Tailrace channels. -/

open Sys2Proof Sys2Proof.Machine

/-- Settles O40: each clause is one branch of the write's rule (R402, R404). -/
theorem registerAccess : Obligations.RegisterAccess := by
  intro t s hc u
  have hw (ofs n val) : exec (.registerWrite t ofs { size := n, val := val }) s = .next (u.follow (registerWrite ofs n val u)) := eventRow_on t hc
  refine ⟨eventRow_on t hc, eventRow_on t hc, fun ofs n val hn => ?_, fun hl => ⟨fun ofs val ho => ?_, fun val => ?_⟩,
    fun hl => ⟨fun val => ?_, fun val h1 h2 => ?_, fun val hv => ?_, fun val hv => ?_⟩⟩
  all_goals rw [hw]
  · simp [registerWrite, hn]
  · have hl : u.host.locked = true := hl
    simp [registerWrite, ho, hl]
  · have hl : u.host.locked = true := hl
    simp [registerWrite, quiesceWrite, adminEnSet, adminEnClear, hl]
  all_goals have hl : u.host.locked = false := hl
  · simp [registerWrite, hl, page_eq_and]
  · simp [registerWrite, hl, mod128_eq_and, h1, h2]
  · simp only [registerWrite, hl]
    simp [hv]
  · simp only [registerWrite, hl]
    simp [hv]

/-- Settles O41: the distance is added to the target modulo 2^96, not to a rounded one, so the firings add up (R77). -/
theorem cogRepeats : Obligations.CogRepeats := by
  intro b c k ht
  refine ⟨fun hr => ?_, fun hr hm => Cog.advance_iterate ht hr k hm, fun hr h0 h1 => ?_⟩
  · simp [Cog.advance, hr]
  · have h : cogCount b ≤ c.used + 1 := h1.le
    simp [Cog.advance, hr, h0, h]

/-- Settles O55: each row is one test of the channel's state (R270, R271). -/
theorem tailraceSpills : Obligations.TailraceSpills := by
  intro t c s hc u
  have hs : exec (.tailraceSpill t c) s = .next (u.follow (trSpillStart c u)) := eventRow_on t hc
  have hd : exec (.tailraceDrainDone t c) s = .next (u.follow (trDrainDone c u)) := eventRow_on t hc
  rw [hs, hd]
  refine ⟨fun hr hb => ?_, fun hb => ?_, fun hd => ?_, fun hd he => ?_⟩
  · simp [trSpillStart, hr, hb]
  · have : ¬ ((u.chan c).st = .running ∧ (u.host.dma = false ∨ trFree (u.host.trBufs.getD c []) = 0)) := by
      rintro ⟨hr, hf | hf⟩ <;> simp_all
    simp [trSpillStart, this]
  · simp [trDrainDone, hd]
  · simp [trDrainDone, hd, he, State.trDrain]

end

section
/-! SUPPORT. Every round of an event through the recorders keeps a frozen log (R261, R265). -/

namespace Sys2Proof.Machine

/-- What the log keeps while it is frozen (R265): its records, its sequence, the freeze, and a reserve within 256. -/
structure EvLog.Freezes (l m : EvLog) : Prop where
  recs : m.recs = l.recs
  frozen : m.frozen = true
  nextSeq : m.nextSeq = l.nextSeq
  reserve : l.reserve.length ≤ 256 → m.reserve.length ≤ 256

/-- Recorders whose log is frozen since `l`, and events that fall due, none of which is written to a frozen log. -/
structure EvLog.Holds (l : EvLog) (p : Recorders × List EvReq) : Prop where
  log : l.Freezes p.1.log
  reqs : ∀ q ∈ p.2, q.always = false

variable {l : EvLog} {a : Recorders}

theorem EvLog.Freezes.take {m : EvLog} (h : l.Freezes m) (ev : Event) (reserve : Bool) : l.Freezes (m.take ev false reserve).1 := by
  obtain ⟨hr, hf, hq, hv⟩ := h
  unfold EvLog.take
  rw [if_pos (by simp [hf])]
  extract_lets c
  split
  · split
    · exact ⟨hr, hf, hq, fun _ => by simp only [List.length_append, List.length_singleton]; omega⟩
    · exact ⟨hr, hf, hq, hv⟩
  · exact ⟨hr, hf, hq, hv⟩

theorem trStore_log (share t c : Nat) (r : TrRec) (a : Recorders) : (trStore share t c r a).1.log = a.log := by
  unfold trStore
  extract_lets ch bs f oldest began ch'
  split
  · rfl
  · split <;> rfl

theorem EvLog.Holds.trPut (h : l.Freezes a.log) (s : State) (c typ flags lmt bodyLen : Nat) (fig : List Nat) (stamps : Bool) :
    l.Holds (trPut s c typ flags lmt bodyLen fig stamps a) := by
  unfold Machine.trPut
  extract_lets b ch0 sec ovr ch sr mk share a1 k
  split
  · exact ⟨h, nofun⟩
  split
  · exact ⟨h, nofun⟩
  split
  · refine ⟨?_, fun q hq => ?_⟩
    · exact (congrArg (EvLog.Freezes l) (trStore_log ..)).mpr h
    · split at hq
      · exact List.mem_singleton.1 hq ▸ rfl
      · nomatch hq
  · extract_lets room
    split
    · refine ⟨?_, fun q hq => ?_⟩
      · exact (congrArg (EvLog.Freezes l) ((trStore_log ..).trans (trStore_log ..))).mpr h
      · rcases List.mem_append.1 hq with hq | hq
        · exact List.mem_singleton.1 hq ▸ rfl
        · split at hq
          · exact List.mem_singleton.1 hq ▸ rfl
          · nomatch hq
    · exact ⟨h, nofun⟩

theorem EvLog.Holds.append {p k : Recorders × List EvReq} (hp : l.Holds p) (hk : l.Holds k) : l.Holds (k.1, p.2 ++ k.2) :=
  ⟨hk.log, fun q hq => (List.mem_append.1 hq).elim (hp.reqs q) (hk.reqs q)⟩

theorem EvLog.Holds.traceEvent (h : l.Freezes a.log) (s : State) (ev : Event) (flags : Nat) : l.Holds (traceEvent s ev flags a) := by
  unfold Machine.traceEvent
  refine List.foldlRecOn _ _ ⟨h, nofun⟩ fun p hp b _ => ?_
  extract_lets c k
  split
  · exact hp.append (.trPut hp.log s ..)
  · exact hp

theorem EvLog.Holds.deliver1 (h : l.Freezes a.log) (s : State) (ev : Event) (logIt reserve : Bool) : l.Holds (deliver1 s ev logIt false reserve a) := by
  unfold Machine.deliver1
  extract_lets rings lg
  have hrings : ∀ q ∈ rings.2, q.always = false := by
    show ∀ q ∈ Prod.snd (if reserve then _ else _), _
    split
    · nofun
    · refine List.foldlRecOn (motive := fun p : HostIf × List EvReq => ∀ q ∈ p.2, q.always = false) _ _ nofun fun p hp kk _ => ?_
      extract_lets r
      split
      · intro q hq
        rcases List.mem_append.1 hq with hq | hq
        · exact hp q hq
        · exact List.mem_singleton.1 hq ▸ rfl
      · exact hp
  refine ⟨?_, fun q hq => ?_⟩
  · show l.Freezes (Prod.fst (if logIt then _ else _))
    split
    · exact h.take ev reserve
    · exact h
  · rcases List.mem_append.1 hq with hq | hq
    · exact hrings q hq
    · obtain ⟨c, -, rfl⟩ := List.mem_map.1 hq
      rfl

/-- One event that does not force its record leaves a frozen log as it is, and so do the events it brings about (R261, R265). -/
theorem EvLog.Holds.raise1 (h : l.Freezes a.log) (s : State) (q : EvReq) (hq : q.always = false) : l.Holds (raise1 s q a) := by
  unfold Machine.raise1
  extract_lets a' rb old bk ev logIt logged log a1 k
  have ha' : l.Freezes a'.log := by
    show l.Freezes (Recorders.log (if _ then _ else _))
    split <;> exact h
  have ha1 : l.Freezes a1.log := by
    show l.Freezes (Recorders.log (if _ then _ else _))
    split
    · exact ha'
    · exact ⟨ha'.recs, ha'.frozen, ha'.nextSeq, ha'.reserve⟩
  have hk : l.Holds k := by
    show l.Holds (if _ then _ else _)
    split
    · exact ⟨ha1, nofun⟩
    · exact .traceEvent ha1 s ..
  split
  · split
    · split
      · exact ⟨⟨hk.log.recs, hk.log.frozen, hk.log.nextSeq, hk.log.reserve⟩, hk.reqs⟩
      · exact ⟨⟨hk.log.recs, hk.log.frozen, hk.log.nextSeq, hk.log.reserve⟩, hk.reqs⟩
    · have hd : l.Holds (Machine.deliver1 s ev logIt q.always q.reserve k.1) := hq ▸ .deliver1 hk.log s ..
      exact hk.append hd
  · exact hk

theorem EvLog.Freezes.raiseAll (s : State) (n : Nat) {qs : List EvReq} (hq : ∀ q ∈ qs, q.always = false) (h : l.Freezes a.log) :
    l.Freezes (raiseAll s n qs a).log := by
  induction n generalizing qs a with
  | zero => exact h
  | succ n ih =>
    unfold Machine.raiseAll
    extract_lets r
    have hr : l.Holds r := List.foldlRecOn _ _ ⟨h, nofun⟩ fun p hp q hm => hp.append (.raise1 hp.log s q (hq q hm))
    clear_value r
    split
    · exact hr.log
    · exact ih hr.reqs hr.log

end Sys2Proof.Machine
end

section
/-! The frozen log. -/

open Sys2Proof Sys2Proof.Machine

/-- Settles O56: every round of an event through the recorders keeps a frozen log (R261, R265). -/
theorem logFrozen : Obligations.LogFrozen := by
  refine ⟨fun s code unit point ps cl hf => ?_, fun t s hc => ?_⟩
  · have hq : ∀ q ∈ [({ code := code, sev := evSev code, cleared := cl, unit := unit, point := point, params := ps } : EvReq)], q.always = false :=
      fun q hq => List.mem_singleton.1 hq ▸ rfl
    have h : s.log.Freezes (s.raise code unit ps point cl).log := EvLog.Freezes.raiseAll s 5 hq ⟨rfl, hf, rfl, id⟩
    exact ⟨h.recs, h.frozen, h.nextSeq, h.reserve⟩
  · intro u
    have he : exec (.logFreezeExpiry t) s = .next (u.follow (logFreezeExpiry u)) := eventRow_on t hc
    rw [he]
    refine ⟨fun hf hd => ?_, fun hn => ?_⟩
    · have hf : u.log.frozen = true := hf
      simp [logFreezeExpiry, hf, hd, State.thaw]
    · have : ¬ (u.log.frozen = true ∧ u.log.frozenAt + u.freezeMax * 1000000000 ≤ u.lmt) := by
        rintro ⟨hf, hd⟩
        rcases hn with hn | hn
        · exact absurd hf (by simp [show u.log.frozen = false from hn])
        · omega
      simp [logFreezeExpiry, this]

end

section
/-! SUPPORT. CLAIM's fold over the sources: it ends with the best (R459, R460). -/

namespace Sys2Proof.Machine

/-- A source that the fold of CLAIM takes into account for a core (R459). -/
def State.eligible (s : State) (core : Nat) (e : Nat × EcSource) : Bool :=
  e.2.pending && e.2.claimed.isNone && s.srcTarget e.1 core && decide ((s.hop.cores.getD core {}).threshold < s.srcPrio e.1)

theorem State.delivers_iff {s : State} {core n : Nat} : s.delivers core n ↔ ∃ e ∈ s.hop.sources, s.eligible core e = true ∧ e.1 = n := by
  simp only [State.delivers, State.eligible, Bool.and_eq_true, Option.isNone_iff_eq_none, decide_eq_true_eq]
  constructor
  · rintro ⟨x, hx, hp, hc, ht, hq⟩
    exact ⟨(n, x), hx, ⟨⟨⟨hp, hc⟩, ht⟩, hq⟩, rfl⟩
  · rintro ⟨⟨m, x⟩, hx, ⟨⟨⟨hp, hc⟩, ht⟩, hq⟩, rfl⟩
    exact ⟨x, hx, hp, hc, ht, hq⟩

/-- One source of the fold: it replaces a best one of lower priority only. -/
def State.better (s : State) (core : Nat) (best : Option Nat) (e : Nat × EcSource) : Option Nat :=
  if s.eligible core e then
    match best with
    | none => some e.1
    | some b => if s.srcPrio b < s.srcPrio e.1 then some e.1 else best
  else best

theorem ecBest_eq (s : State) (core : Nat) : ecBest s core = s.hop.sources.foldl (s.better core) none := rfl

/-- `r` is at least as good as `n`: of higher priority, or of the same and of no higher number (R460). -/
def State.beats (s : State) (r n : Nat) : Prop := s.srcPrio n < s.srcPrio r ∨ (s.srcPrio n = s.srcPrio r ∧ r ≤ n)

variable {s : State} {core : Nat}

theorem State.beats.trans {a b c : Nat} (h : s.beats a b) (h' : s.beats b c) : s.beats a c := by
  unfold State.beats at *
  omega

theorem State.better_spec {e : Nat × EcSource} {best : Option Nat} (hk : ∀ b ∈ best, b ≤ e.1) :
    (∀ b ∈ best, ∃ r ∈ s.better core best e, s.beats r b) ∧ (s.eligible core e = true → ∃ r ∈ s.better core best e, s.beats r e.1) ∧
      ∀ r ∈ s.better core best e, r ∈ best ∨ (s.eligible core e = true ∧ e.1 = r) := by
  have hrefl (n : Nat) : s.beats n n := .inr ⟨rfl, le_rfl⟩
  unfold State.better
  split
  · next he =>
    cases best with
    | none => exact ⟨nofun, fun _ => ⟨e.1, rfl, hrefl _⟩, fun r hr => .inr ⟨he, Option.some.inj hr⟩⟩
    | some b =>
      have hb : b ≤ e.1 := hk b rfl
      dsimp only
      split
      · next hp => exact ⟨fun x hx => ⟨e.1, rfl, Option.some.inj hx ▸ .inl hp⟩, fun _ => ⟨e.1, rfl, hrefl _⟩, fun r hr => .inr ⟨he, Option.some.inj hr⟩⟩
      · next hp =>
        have hbe : s.beats b e.1 := by
          unfold State.beats
          omega
        exact ⟨fun x hx => ⟨b, rfl, Option.some.inj hx ▸ hrefl b⟩, fun _ => ⟨b, rfl, hbe⟩, fun r hr => .inl hr⟩
  · next he => exact ⟨fun b hb => ⟨b, hb, hrefl b⟩, fun h => absurd h he, fun r hr => .inl hr⟩

/-- The fold over sources of rising numbers from `k` on ends with one that beats the best so far and every eligible one. -/
theorem State.foldl_better_spec {l : List (Nat × EcSource)} {k : Nat} {best : Option Nat} (hl : SMap.risingFrom k l = true) (hk : ∀ b ∈ best, b < k) :
    (∀ b ∈ best, ∃ r ∈ l.foldl (s.better core) best, s.beats r b) ∧ (∀ e ∈ l, s.eligible core e = true → ∃ r ∈ l.foldl (s.better core) best, s.beats r e.1) ∧
      ∀ r ∈ l.foldl (s.better core) best, r ∈ best ∨ ∃ e ∈ l, s.eligible core e = true ∧ e.1 = r := by
  induction l generalizing k best with
  | nil => exact ⟨fun b hb => ⟨b, hb, .inr ⟨rfl, le_rfl⟩⟩, nofun, fun r hr => .inl hr⟩
  | cons e l ih =>
    simp only [SMap.risingFrom, Bool.and_eq_true, decide_eq_true_eq] at hl
    obtain ⟨hke, hl⟩ := hl
    obtain ⟨hb, he, hr⟩ := s.better_spec (core := core) (e := e) fun b hb => (hk b hb).le.trans hke
    have hk' : ∀ b ∈ s.better core best e, b < e.1 + 1 := fun b hm => (hr b hm).elim (fun h => by have := hk b h; omega) fun h => by omega
    obtain ⟨ib, ie, ir⟩ := ih hl hk'
    refine ⟨fun b hm => ?_, fun x hx hq => ?_, fun r hm => ?_⟩
    · obtain ⟨r, h1, h2⟩ := hb b hm
      obtain ⟨r', h3, h4⟩ := ib r h1
      exact ⟨r', h3, h4.trans h2⟩
    · rcases List.mem_cons.1 hx with rfl | hx
      · obtain ⟨r, h1, h2⟩ := he hq
        obtain ⟨r', h3, h4⟩ := ib r h1
        exact ⟨r', h3, h4.trans h2⟩
      · exact ie x hx hq
    · rcases ir r hm with h | ⟨x, hx, hq, hn⟩
      · exact (hr r h).imp_right fun ⟨hq, hn⟩ => ⟨e, List.mem_cons_self, hq, hn⟩
      · exact .inr ⟨x, List.mem_cons_of_mem _ hx, hq, hn⟩

/-- CLAIM's choice is the deliverable source that every other one loses to (R460). -/
theorem ecBest_eq_some {n : Nat} (hs : SMap.sorted s.hop.sources = true) (hn : s.delivers core n) (hb : ∀ m, s.delivers core m → s.beats n m) :
    ecBest s core = some n := by
  obtain ⟨-, he, hr⟩ := s.foldl_better_spec (core := core) (best := none) hs nofun
  obtain ⟨e, hm, hq, rfl⟩ := State.delivers_iff.1 hn
  obtain ⟨r, h1, h2⟩ := he e hm hq
  have h3 : s.delivers core r := State.delivers_iff.2 ((hr r h1).resolve_left nofun)
  have h4 := hb r h3
  have : r = e.1 := by
    unfold State.beats at *
    omega
  rw [ecBest_eq, ← this]
  exact h1

theorem ecBest_eq_none (hs : SMap.sorted s.hop.sources = true) (hn : ∀ n, ¬ s.delivers core n) : ecBest s core = none := by
  obtain ⟨-, -, hr⟩ := s.foldl_better_spec (core := core) (best := none) hs nofun
  exact Option.eq_none_iff_forall_not_mem.2 fun r h => hn r (State.delivers_iff.2 ((hr r h).resolve_left nofun))

theorem ecClaim_some {n : Nat} (h : ecBest s core = some n) :
    ecClaim core s = { s with hop := { s.hop with
      sources := s.hop.sources.set n { s.hop.sources.getD n {} with claimed := some core, pending := false, merged := 0 }
      cores := s.hop.cores.set core { s.hop.cores.getD core {} with
        result := n, overruns := min 4294967295 ((s.hop.cores.getD core {}).overruns + (s.hop.sources.getD n {}).merged) } } } := by
  simp only [ecClaim, h, State.setCore, SMap.upd]

theorem ecClaim_none (h : ecBest s core = none) : ecClaim core s = s.setCore core (fun c => { c with result := 0 }) := by
  simp only [ecClaim, h]

end Sys2Proof.Machine
end

section
/-! CLAIM. -/

open Sys2Proof Sys2Proof.Machine

/-- Settles O42: CLAIM's fold over the sorted sources ends with the one that every deliverable source loses to (R459, R460). -/
theorem claimTakesBest : Obligations.ClaimTakesBest := by
  intro t core s hc hf hs u
  have hs : SMap.sorted u.hop.sources = true := hs
  have hx : exec (.ecClaim t core) s = .next (u.follow (ecClaim core u)) := engineRow_on t hc hf
  rw [hx]
  refine ⟨fun n hn hb => ⟨_, rfl, ?_⟩, fun hn => ?_⟩
  · rw [ecClaim_some (ecBest_eq_some hs hn hb)]
    refine ⟨?_, ?_, ?_, fun m hm => SMap.getD_set_other _ _ hm _, fun c hc => SMap.getD_set_other _ _ hc _, rfl⟩ <;> simp
  · rw [ecClaim_none (ecBest_eq_none hs hn)]

end

section
/-! SUPPORT. What a latched edge makes of a source (R461). -/

namespace Sys2Proof.Machine

variable {s : State} {n : Nat}

theorem ecLatch_idle (hc : (s.hop.sources.getD n {}).claimed = none) (hp : (s.hop.sources.getD n {}).pending = false) :
    ecLatch n s = { s with hop := { s.hop with sources := s.hop.sources.set n { s.hop.sources.getD n {} with pending := true } } } := by
  simp [ecLatch, hc, hp]

/-- An edge at a pending source merges into it (R461). -/
theorem ecLatch_pending (hc : (s.hop.sources.getD n {}).claimed = none) (hp : (s.hop.sources.getD n {}).pending = true) :
    ((ecLatch n s).hop.sources.getD n {}).pending = true ∧
      ((ecLatch n s).hop.sources.getD n {}).merged = (s.hop.sources.getD n {}).merged + 1 ∧ (ecLatch n s).hop.cores = s.hop.cores := by
  simp [ecLatch, hc, hp]

theorem ecLatch_claimed {c : Nat} (hc : (s.hop.sources.getD n {}).claimed = some c) (ha : (s.hop.sources.getD n {}).again = false) :
    ecLatch n s = { s with hop := { s.hop with sources := s.hop.sources.set n { s.hop.sources.getD n {} with again := true } } } := by
  simp [ecLatch, hc, ha]

/-- A second edge at a claimed source is counted to the claiming core, and nothing else of the sources changes (R461). -/
theorem ecLatch_again {c : Nat} (hc : (s.hop.sources.getD n {}).claimed = some c) (ha : (s.hop.sources.getD n {}).again = true) :
    ((ecLatch n s).hop.cores.getD c {}).overruns = min 4294967295 ((s.hop.cores.getD c {}).overruns + 1) ∧
      ((ecLatch n s).hop.sources.getD n {}).again = true ∧ ((ecLatch n s).hop.sources.getD n {}).claimed = some c ∧
        ∀ m, m ≠ n → (ecLatch n s).hop.sources.getD m {} = s.hop.sources.getD m {} := by
  refine ⟨?_, ?_, ?_, fun m hm => ?_⟩
  all_goals simp [ecLatch, hc, ha, State.setCore, SMap.upd]
  exact SMap.getD_set_other _ _ hm _

theorem ecEdge_field (h1 : 384 ≤ n) (h2 : n ≤ 479) (up : Bool) (hd : ¬ (n < 448 ∧ s.dioEdge n up = false)) : ecEdge n up s = ecLatch n s := by
  have h0 : ¬ (n = 0 ∨ 479 < n) := by omega
  have hl : srcLevel n = false := by simp [srcLevel, h1]
  have hd : ¬ (384 ≤ n ∧ n < 448 ∧ (!s.dioEdge n up) = true) := by simpa [h1] using hd
  simp only [ecEdge, if_neg h0, hl, if_neg hd, Bool.false_eq_true, if_false]

end Sys2Proof.Machine
end

section
/-! The edges of the event controller. -/

open Sys2Proof Sys2Proof.Machine

/-- Settles O43: a row reaches the source's latch or sets its level (R457 to R461; that a DIO source without a record latches no edge is log 248, the model's reading). -/
theorem edgesMerge : Obligations.EdgesMerge := by
  intro t n up s hc u x set row none'
  have hrow : row = .next (u.follow (ecEdge n up u)) := by
    show execEcSourceEdge t _ s = _
    rw [execEcSourceEdge, if_pos hc]
    exact eventRow_on t hc
  refine ⟨?_, ?_, ?_, ecLatch_idle, ecLatch_pending, fun c => ecLatch_claimed, fun c => ecLatch_again, fun hf => ⟨fun c core hx => ?_, ?_, ?_⟩⟩
  · rintro (h | h | ⟨h1, h2, h3⟩) <;> rw [hrow]
    · simp [ecEdge, h]
    · simp [ecEdge, h]
    · have hl : srcLevel n = false := by simp [srcLevel, h1]
      simp [ecEdge, hl, h1, h2, h3]
  · intro h1 h2
    have h0 : ¬ (n = 0 ∨ 479 < n) := by omega
    have h3 : ¬ (384 ≤ n ∧ n < 448 ∧ (!u.dioEdge n up) = true) := by omega
    rw [hrow, ecEdge, if_neg h0, if_neg h3]
    rfl
  · intro h1 h2
    simp only [none', not_or, not_and] at h2
    obtain ⟨-, h3, h4⟩ := h2
    rw [hrow, ecEdge_field h1 (by omega) up fun ⟨h5, h6⟩ => h4 h1 h5 h6]
  · have he : exec (.ecComplete t core n) s = .next (u.follow (ecComplete core n u)) := engineRow_on t hc hf
    have hx : (u.hop.sources.getD n {}).claimed = some c := hx
    rw [he, ecComplete]
    simp only [hx, Option.isSome_some, if_true]
    rfl
  · intro core val hv h1 h2
    have he : exec (.ecRaise t core { ofs := 0x0C, val := val }) s = .next (u.follow (ecRaise core 0x0C val u)) := engineRow_on t hc hf
    rw [he, hrow, ecEdge_field (by omega) h2 up (by omega)]
    simp [ecRaise, hv, h1, h2]
  · intro core val hv h1
    have he : exec (.ecRaise t core { ofs := 0x0C, val := val }) s = .next (u.follow (ecRaise core 0x0C val u)) := engineRow_on t hc hf
    have hn : ¬ (448 ≤ n ∧ n ≤ 479) := by omega
    rw [he]
    simp [ecRaise, hv, hn]

end

section
/-! SUPPORT. One update of a current output (R229 to R232). -/

namespace Sys2Proof.Machine

variable {s t u : State} {n p : Nat}

theorem satI_bounds {lo hi : Int} (h : lo ≤ hi) (x : Int) : lo ≤ satI lo hi x ∧ satI lo hi x ≤ hi := by
  unfold satI
  split
  · omega
  · split <;> omega

theorem State.clOutput_other {m : Nat} {b : Bytes} (hm : m ≠ n) : (s.clOutput n b).cl m = s.cl m := by
  unfold State.clOutput
  extract_lets c0 c want i alarm drive fall live clean nClean supMax supply
  have ht (x : ClChan) : (s.setCl n x).cl m = s.cl m := State.setCl_cl_other _ x hm
  split
  · exact ht _
  · split
    · exact ht _
    · split
      · exact ht _
      · exact (State.Reports.raiseIf.cl m).trans (ht _)

/-- An enabled output that drives and is not thermal: what it drives and what its alarm reads (R229, R232). -/
theorem State.clOutput_drives {b : Bytes} (hd : s.drives = true) (hi : s.isDis (uCl n) = false) (ht : (s.cl n).thermal = false) :
    ∃ want, ((s.clOutput n b).cl n).drive = (if (s.cl n).timedOut then alarmUa (clFlag b 1) else clClamp b want) ∧
      ((s.clOutput n b).cl n).alarm = (s.cl n).timedOut ∧ ((s.clOutput n b).cl n).alarmDir = clFlag b 1 := by
  unfold State.clOutput
  extract_lets c0 c want i alarm drive fall live clean nClean supMax supply
  have hc : c.thermal = (s.cl n).thermal ∧ c.timedOut = (s.cl n).timedOut := by
    show (ite _ _ _ : ClChan).thermal = _ ∧ (ite _ _ _ : ClChan).timedOut = _
    split <;> exact ⟨rfl, rfl⟩
  obtain ⟨hct, hco⟩ := hc
  clear_value c
  have e (x : State) (c code unit ps) : (x.raiseIf c code unit ps).cl n = x.cl n := State.Reports.raiseIf.cl n
  simp only [hd, hi, hct, ht, Bool.not_true, Bool.false_eq_true, if_false, e, State.setCl_cl_same]
  exact ⟨want, by rw [← hco], hco, trivial⟩

end Sys2Proof.Machine
end

section
/-! The current outputs. -/

open Sys2Proof Sys2Proof.Machine

/-- Settles O47: the one update of a driving output clamps what it commands, or takes the alarm current (R229, R232). -/
theorem currentLimits : Obligations.CurrentLimits := by
  intro s n b hd hi ht c
  obtain ⟨want, hv, ha, hdir⟩ := State.clOutput_drives (b := b) hd hi ht
  refine ⟨fun ho => ⟨fun hf => ?_, fun hf => ?_, ha.trans ho⟩, fun ho => ⟨?_, ha.trans ho, hdir⟩, fun m hm => State.clOutput_other hm⟩
  · simp only [c, hv, ho, clClamp, hf]
    exact satI_bounds (by decide) want
  · simp only [c, hv, ho, clClamp, hf]
    exact satI_bounds (by decide) want
  · simp only [c, hv, ho, alarmUa, if_true]

end

section
/-! SUPPORT. What FIELD low and an overload turn off (R239, R240). -/

namespace Sys2Proof.Machine

variable {s t u : State} {n p : Nat}

theorem State.safeFieldLow_eq : ∃ sa mo, s.safeFieldLow = { s with safe := sa, mot := mo } := by
  unfold State.safeFieldLow
  split
  · exact ⟨_, _, rfl⟩
  · exact ⟨_, _, rfl⟩

/-- FIELD falls: every DIO and PWM output is off, and nothing of the current loops, the configuration and the net has changed (R240, R377). -/
theorem fieldLowEvent_off (h : s.ana.fieldLow = false) :
    (fieldLowEvent s).ana.fieldLow = true ∧ (∀ n, ((fieldLowEvent s).dio n).on = false) ∧ (∀ n, ((fieldLowEvent s).pwm n).live = false) ∧
      (∀ n, (fieldLowEvent s).cl n = s.cl n) ∧ (fieldLowEvent s).cfg = s.cfg ∧ (fieldLowEvent s).net = s.net := by
  have hl : ¬ s.ana.fieldLow = true := by simp [h]
  rw [fieldLowEvent, if_neg hl, State.fieldDown, if_neg hl]
  extract_lets a s1
  have hr : s1.Reports (s1.raise EV_FIELD_LOW).fieldPoints := State.Reports.raise.trans .fieldPoints
  obtain ⟨sa, mo, he⟩ := (s1.raise EV_FIELD_LOW).fieldPoints.safeFieldLow_eq
  have ha : ((s1.raise EV_FIELD_LOW).fieldPoints.safeFieldLow).ana = s1.ana := by rw [he, ← hr.ana]
  refine ⟨by rw [ha], fun n => ?_, fun n => ?_, fun n => ?_, by rw [he]; exact hr.cfg, by rw [he]; exact hr.net⟩
  · rw [State.dio, ha]
    exact SMap.getD_mapV_all (P := fun d : Dio => d.on = false) (fun _ _ => rfl) rfl _ _
  · rw [State.pwm, ha]
    exact SMap.getD_mapV_all (P := fun d : Pwm => d.live = false) (fun _ _ => rfl) rfl _ _
  · rw [State.cl, ha]
    rfl

/-- An overload latches the one output off at the instant (R239). -/
theorem dioOverload_off (h : (s.dio n).on = true) :
    ((dioOverload n s).dio n).on = false ∧ ((dioOverload n s).dio n).latched = true ∧ ((dioOverload n s).dio n).overAt = some s.lmt ∧
      (∀ m, m ≠ n → (dioOverload n s).dio m = s.dio m) ∧ (dioOverload n s).ana.pwms = s.ana.pwms ∧ (dioOverload n s).ana.cls = s.ana.cls := by
  unfold dioOverload
  extract_lets d hard
  rw [if_neg (by simp [d, h])]
  have hr : (s.setDio n { d with on := false, latched := true, overAt := some s.lmt, sawZero := false, hard := hard }).Reports _ :=
    (State.Reports.raise (code := EV_DIO_OVERLOAD) (unit := 0) (ps := [n]) (point := 0) (cl := false)).trans (.dioPoints (n := n))
  refine ⟨?_, ?_, ?_, fun m hm => ?_, ?_, ?_⟩
  · rw [hr.dio, State.setDio_dio_same]
  · rw [hr.dio, State.setDio_dio_same]
  · rw [hr.dio, State.setDio_dio_same]
  · rw [hr.dio, State.setDio_dio_other _ _ hm]
  · rw [hr.ana]
    rfl
  · rw [hr.ana]
    rfl

end Sys2Proof.Machine
end

section
/-! The field outputs. -/

open Sys2Proof Sys2Proof.Machine

/-- Settles O48: the outputs are turned off by a map over all of them, or at the one (R239, R240). -/
theorem fieldOutputsOff : Obligations.FieldOutputsOff := by
  intro t s hc u
  have hf : exec (.fieldLow t) s = .next (u.follow (fieldLowEvent u)) := eventRow_on t hc
  have hd (n) : exec (.dioOverload t n) s = .next (u.follow (dioOverload n u)) := eventRow_on t hc
  refine ⟨fun h => ⟨_, hf, fieldLowEvent_off h⟩, fun h => ?_, fun n => ⟨fun h => ⟨_, hd n, dioOverload_off h⟩, fun h => ?_⟩⟩
  · rw [hf, fieldLowEvent, if_pos (show u.ana.fieldLow = true from h)]
  · have h : (u.dio n).on = false := h
    rw [hd, dioOverload, if_pos (by simp [h])]

end

section
/-! SUPPORT. What the steps after an error leave of a CAN port (R329, R340 to R342). -/

namespace Sys2Proof.Machine

variable {s t u : State} {n p : Nat}

/-- What the steps that follow an error on port `p` leave: its counters and its integration, and every other port. -/
structure State.PortKeeps (p : Nat) (s t : State) : Prop where
  tec : (t.can p).tec = (s.can p).tec
  rec' : (t.can p).rec' = (s.can p).rec'
  errors : (t.can p).errors = (s.can p).errors
  integrating : (t.can p).integrating = (s.can p).integrating
  other : ∀ q, q ≠ p → t.can q = s.can q

namespace State.PortKeeps

theorem trans (h : s.PortKeeps p t) (h' : t.PortKeeps p u) : s.PortKeeps p u :=
  ⟨h'.tec.trans h.tec, h'.rec'.trans h.rec', h'.errors.trans h.errors, h'.integrating.trans h.integrating, fun q hq => (h'.other q hq).trans (h.other q hq)⟩

theorem of_reports (h : s.Reports t) : s.PortKeeps p t := by
  constructor
  case other => exact fun q _ => h.can q
  all_goals rw [h.can]

theorem setCan {x : CanPort} (ht : x.tec = (s.can p).tec) (hr : x.rec' = (s.can p).rec') (he : x.errors = (s.can p).errors)
    (hi : x.integrating = (s.can p).integrating) : s.PortKeeps p (s.setCan p x) := by
  constructor
  case other => exact fun q hq => State.setCan_can_other _ _ hq
  all_goals rwa [State.setCan_can_same]

end State.PortKeeps

theorem State.canHeard_keeps : s.PortKeeps p (s.canHeard p) ∧ ((s.canHeard p).can p).st = (s.can p).st := by
  unfold State.canHeard
  extract_lets c s1
  have h1 : s.PortKeeps p s1 := .setCan rfl rfl rfl rfl
  have hst : (s1.can p).st = (s.can p).st := by rw [State.setCan_can_same]
  split
  · exact ⟨h1.trans (.of_reports .raise), by rw [State.Reports.raise.can, hst]⟩
  · exact ⟨h1, hst⟩

theorem State.canNext_keeps : s.PortKeeps p (s.canNext p) ∧ ((s.canNext p).can p).st = (s.can p).st := by
  unfold State.canNext
  extract_lets c
  have hrefl : s.PortKeeps p s ∧ (s.can p).st = (s.can p).st := ⟨.of_reports (.refl s), rfl⟩
  split
  · exact hrefl
  · split
    · exact ⟨.setCan rfl rfl rfl rfl, by rw [State.setCan_can_same]; rfl⟩
    · exact hrefl

/-- The change of error state of a port. -/
theorem State.setCan_st_keeps {x : CanState} {cl : Bool} :
    s.PortKeeps p ((s.setCan p { s.can p with st := x }).raise EV_CAN_PASSIVE (uCan p) [] 0 cl) ∧
      (((s.setCan p { s.can p with st := x }).raise EV_CAN_PASSIVE (uCan p) [] 0 cl).can p).st = x := by
  have h : s.PortKeeps p (s.setCan p { s.can p with st := x }) := .setCan rfl rfl rfl rfl
  exact ⟨h.trans (.of_reports .raise), by rw [State.Reports.raise.can, State.setCan_can_same]⟩

/-- After the error states' rule a port in bus traffic is ERROR_PASSIVE exactly with a counter of 128 or more (R340). -/
theorem State.canState_keeps (h : (s.can p).st = .active ∨ (s.can p).st = .passive) :
    s.PortKeeps p (s.canState p) ∧ (((s.canState p).can p).st = .passive ↔ 128 ≤ (s.can p).tec ∨ 128 ≤ (s.can p).rec') ∧
      (((s.canState p).can p).st = .active ↔ (s.can p).tec < 128 ∧ (s.can p).rec' < 128) := by
  have hrefl : s.PortKeeps p s := .of_reports (.refl s)
  by_cases hh : 128 ≤ (s.can p).tec ∨ 128 ≤ (s.can p).rec'
  · have hn : ¬ ((s.can p).tec < 128 ∧ (s.can p).rec' < 128) := by omega
    obtain ⟨hk, hst⟩ : s.PortKeeps p (s.canState p) ∧ ((s.canState p).can p).st = .passive := by
      rcases h with h | h
      · simpa [State.canState, h, hh] using State.setCan_st_keeps
      · simpa [State.canState, h, hh, hn] using hrefl
    simp [hk, hst, hh, hn]
  · have hn : (s.can p).tec < 128 ∧ (s.can p).rec' < 128 := by omega
    obtain ⟨hk, hst⟩ : s.PortKeeps p (s.canState p) ∧ ((s.canState p).can p).st = .active := by
      rcases h with h | h
      · simpa [State.canState, h, hh, hn] using hrefl
      · simpa [State.canState, h, hh, hn] using State.setCan_st_keeps
    simp [hk, hst, hh, hn]

theorem State.canSync_of_eq (h : (s.can p).listen = s.canListen p) : s.canSync p = s := by
  simp [State.canSync, h]

/-- The port is in bus traffic: on, not integrating, and neither BUS_OFF nor recovering, of a mode other than internal loopback (R340). -/
structure State.Traffic (s : State) (p : Nat) : Prop where
  on : s.canOn p = true
  mode : byteAt (s.canRec p) 1 ≠ 3
  integrating : (s.can p).integrating = false
  st : (s.can p).st = .active ∨ (s.can p).st = .passive

theorem State.Traffic.hears (h : s.Traffic p) :
    (!s.canOn p || (s.can p).integrating || (s.can p).st == .busOff || (s.can p).st == .recovering || byteAt (s.canRec p) 1 == 3) = false := by
  obtain ⟨ho, hm, hi, hs⟩ := h
  rcases hs with hs | hs <;> simp [ho, hm, hi, hs]

/-- A res bit with PEX integrates the port, its counters as they were (R329). -/
theorem canReceiveError_res {heavy res : Bool} (hl : (s.can p).listen = s.canListen p) (h : s.Traffic p) (hr : (res && canFlag (s.canRec p) 6) = true) :
    ((canReceiveError p heavy res s).can p).tec = (s.can p).tec ∧ (∀ q, q ≠ p → (canReceiveError p heavy res s).can q = s.can q) ∧
      ((canReceiveError p heavy res s).can p).integrating = true ∧ ((canReceiveError p heavy res s).can p).rec' = (s.can p).rec' ∧
        ((canReceiveError p heavy res s).can p).errors = (s.can p).errors ∧ ((canReceiveError p heavy res s).can p).st = (s.can p).st := by
  unfold canReceiveError
  extract_lets s1 c
  have e1 : s1 = s := State.canSync_of_eq hl
  clear_value s1
  subst e1
  rw [if_neg (by simp [c, h.hears]), if_pos hr]
  obtain ⟨hk, hst⟩ := (s1.setCan p { c with integrating := true }).canHeard_keeps (p := p)
  have hp : State.Reports _ (((s1.setCan p { c with integrating := true }).canHeard p).canPoints p) := .canPoints
  refine ⟨?_, fun q hq => ?_, ?_, ?_, ?_, ?_⟩
  · rw [hp.can, hk.tec, State.setCan_can_same]
  · rw [hp.can, hk.other q hq, State.setCan_can_other _ _ hq]
  · rw [hp.can, hk.integrating, State.setCan_can_same]
  · rw [hp.can, hk.rec', State.setCan_can_same]
  · rw [hp.can, hk.errors, State.setCan_can_same]
  · rw [hp.can, hst, State.setCan_can_same]

/-- What a counted receive error makes of the port before its error state follows (R340). -/
def CanPort.counts (c : CanPort) (listen heavy : Bool) (det : Option RateDetect) : CanPort :=
  { c with rec' := if listen then c.rec' else min 255 (c.rec' + (if heavy then 8 else 1)), errors := c.errors + 1, detect := det }

theorem canReceiveError_eq {heavy res : Bool} (hl : (s.can p).listen = s.canListen p) (h : s.Traffic p) (hr : (res && canFlag (s.canRec p) 6) = false) :
    ∃ det, canReceiveError p heavy res s =
      ((((s.setCan p ((s.can p).counts (s.canListen p) heavy det)).canHeard p).canState p).canNext p).canPoints p := by
  unfold canReceiveError
  extract_lets s1 c rec1 det
  have e1 : s1 = s := State.canSync_of_eq hl
  clear_value s1
  subst e1
  rw [if_neg (by simp [c, h.hears]), if_neg (by simp [hr])]
  exact ⟨det, rfl⟩

/-- Any other receive error counts, and the error state follows the counters (R340). -/
theorem canReceiveError_counts {heavy res : Bool} (hl : (s.can p).listen = s.canListen p) (h : s.Traffic p) (hr : (res && canFlag (s.canRec p) 6) = false)
    (ht : canReceiveError p heavy res s = t) :
    (t.can p).tec = (s.can p).tec ∧ (∀ q, q ≠ p → t.can q = s.can q) ∧
      (t.can p).rec' = (if s.canListen p then (s.can p).rec' else min 255 ((s.can p).rec' + (if heavy then 8 else 1))) ∧
        (t.can p).errors = (s.can p).errors + 1 ∧ ((t.can p).st = .passive ↔ 128 ≤ (t.can p).tec ∨ 128 ≤ (t.can p).rec') ∧
          ((t.can p).st = .active ↔ (t.can p).tec < 128 ∧ (t.can p).rec' < 128) := by
  obtain ⟨det, he⟩ := canReceiveError_eq (heavy := heavy) hl h hr
  have h0 (q) (hq : q ≠ p) : (s.setCan p ((s.can p).counts (s.canListen p) heavy det)).can q = s.can q := State.setCan_can_other _ _ hq
  have h0' := State.setCan_can_same (s := s) p ((s.can p).counts (s.canListen p) heavy det)
  generalize s.setCan p _ = s2 at he h0 h0'
  obtain ⟨k3, hst3⟩ := s2.canHeard_keeps (p := p)
  obtain ⟨k4, hp4, ha4⟩ := (s2.canHeard p).canState_keeps (p := p) (by rw [hst3, h0']; exact h.st)
  obtain ⟨k5, hst5⟩ := ((s2.canHeard p).canState p).canNext_keeps (p := p)
  have hr6 : State.Reports _ t := he.symm.trans ht ▸ State.Reports.canPoints
  have k : s2.PortKeeps p t := ((k3.trans k4).trans k5).trans (.of_reports hr6)
  have hst := congrArg CanPort.st (hr6.can p)
  refine ⟨?_, fun q hq => ?_, ?_, ?_, ?_, ?_⟩
  · rw [k.tec, h0']
    rfl
  · rw [k.other q hq, h0 q hq]
  · rw [k.rec', h0']
    rfl
  · rw [k.errors, h0']
    rfl
  · rw [hst, hst5, hp4, k.tec, k.rec', k3.tec, k3.rec']
  · rw [hst, hst5, ha4, k.tec, k.rec', k3.tec, k3.rec']

/-- Where the port's mode is not in bus traffic, an error is not seen (log 239). -/
theorem canReceiveError_unseen {heavy res : Bool} (hl : (s.can p).listen = s.canListen p) (h : byteAt (s.canRec p) 1 = 3 ∨ (s.can p).integrating = true) :
    canReceiveError p heavy res s = s := by
  unfold canReceiveError
  extract_lets s1 c rec1 det
  have e1 : s1 = s := State.canSync_of_eq hl
  clear_value s1
  subst e1
  exact if_pos (by rcases h with h | h <;> simp [c, h])

theorem canRecoveryComplete_recovers (h : (s.can p).st = .recovering) :
    ((canRecoveryComplete p s).can p).st = .active ∧ ((canRecoveryComplete p s).can p).tec = 0 ∧ ((canRecoveryComplete p s).can p).rec' = 0 ∧
      ∀ q, q ≠ p → (canRecoveryComplete p s).can q = s.can q := by
  unfold canRecoveryComplete
  extract_lets c wait s1 s2
  rw [if_neg (by simp [c, h])]
  have hr : State.Reports _ s2 := State.Reports.raise.trans .finishAll
  obtain ⟨k, hst⟩ := s2.canNext_keeps (p := p)
  have hp : State.Reports _ ((s2.canNext p).canPoints p) := .canPoints
  refine ⟨?_, ?_, ?_, fun q hq => ?_⟩
  · rw [hp.can, hst, hr.can, State.setCan_can_same]
  · rw [hp.can, k.tec, hr.can, State.setCan_can_same]
  · rw [hp.can, k.rec', hr.can, State.setCan_can_same]
  · rw [hp.can, k.other q hq, hr.can, State.setCan_can_other _ _ hq]

end Sys2Proof.Machine
end

section
/-! The CAN error states. -/

open Sys2Proof Sys2Proof.Machine

/-- Settles O49 (R329, R340 to R342; that a receive error is ignored in internal loopback is log 239, and the cap of REC at 255 is the model's). -/
theorem canErrorStates : Obligations.CanErrorStates := by
  intro t p e s hc u c
  have hx : exec (.canReceiveError t p e) s = .next (u.follow (canReceiveError p e.heavy e.res u)) := eventRow_on t hc
  have hy : exec (.canRecoveryComplete t p) s = .next (u.follow (canRecoveryComplete p u)) := eventRow_on t hc
  refine ⟨fun hl ho hm hi hs => ⟨_, hx, ?_⟩, fun hl hn => by rw [hx, canReceiveError_unseen hl hn], fun h => ?_, fun h => ⟨_, hy, canRecoveryComplete_recovers h⟩⟩
  · have ht : u.Traffic p := ⟨ho, hm, hi, hs⟩
    cases hr : e.res && canFlag (u.canRec p) 6 with
    | true =>
      obtain ⟨h1, h2, h3⟩ := canReceiveError_res (heavy := e.heavy) hl ht hr
      rw [Bool.and_eq_true] at hr
      exact ⟨h1, h2, fun _ _ => h3, fun h => by simp [hr] at h⟩
    | false =>
      obtain ⟨h1, h2, h3⟩ := canReceiveError_counts (heavy := e.heavy) hl ht hr rfl
      exact ⟨h1, h2, fun h4 h5 => by simp [h4, h5] at hr, fun _ => h3⟩
  · have h : (u.can p).st ≠ .recovering := h
    rw [hy, canRecoveryComplete, if_pos (by simp [h])]

end

section
/-! SUPPORT. What a leaving node, an index edge and a lost Sync change (R52, R65, R117, R118). -/

namespace Sys2Proof.Machine

variable {s t u : State} {n p k : Nat} {b : Bytes}

theorem State.nodeAbsent_reports : s.Reports (s.nodeAbsent b) := by
  have h : s.Reports (s.nodeCond b (kindSlots b 1 ++ kindSlots b 2) cAbsent true) := by
    refine State.Reports.foldl (fun s x => ?_) _
    split
    · split
      · exact .setCond
      · exact .refl s
    · exact .refl s
  have hq (v : State) (l : List Nat) (q : Nat) : v.Reports (v.nodePq b l q) := ⟨_, _, _, _, _, _, _, rfl, rfl⟩
  exact h.trans (hq _ _ _)

theorem State.bankLeave_frame : (s.bankLeave k).img.front = s.img.front ∧ (s.bankLeave k).net = s.net := by
  unfold State.bankLeave
  split
  · exact ⟨rfl, rfl⟩
  · extract_lets set x
    have h : ∀ v : State, v.Reports (v.setPoints set) := fun _ => ((State.Reports.wr.trans .wr).trans .wr).trans .wr
    exact ⟨(h _).front, (h _).net⟩

theorem State.raiseNode_reports {code : Nat} : s.Reports (s.raiseNode code b) := .withRecorders _

theorem State.sendRelease_frame {seg node bindId mac : Nat} :
    (s.sendRelease seg node bindId mac).net.nodes = s.net.nodes ∧ (s.sendRelease seg node bindId mac).img = s.img := ⟨rfl, rfl⟩

/-- A node that leaves: its record at `x`, no other node's, and no committed value (R117, R118). -/
theorem State.leave_frame {x : Node} {v : State} (hn : v.net.nodes = (((s.setNode k x).nodeAbsent b).bankLeave k).net.nodes)
    (hf : v.img.front = (((s.setNode k x).nodeAbsent b).bankLeave k).img.front) :
    v.node k = x ∧ (∀ j, j ≠ k → v.node j = s.node j) ∧ v.img.front = s.img.front := by
  obtain ⟨h1, h2⟩ := ((s.setNode k x).nodeAbsent b).bankLeave_frame (k := k)
  have hr : (s.setNode k x).Reports _ := State.nodeAbsent_reports (b := b)
  have e (j) : v.node j = (s.setNode k x).node j := by
    rw [State.node, hn, h2, ← State.node, hr.node]
  exact ⟨by rw [e, State.setNode_node_same], fun j hj => by rw [e, State.setNode_node_other _ _ hj], by rw [hf, h1, hr.front]; rfl⟩

theorem State.nodeToDropped_leaves (h : (s.node (nodeRecKey b)).st = .preop ∨ (s.node (nodeRecKey b)).st = .operate) :
    ((s.nodeToDropped b).node (nodeRecKey b)).st = .dropped ∧ ((s.nodeToDropped b).node (nodeRecKey b)).droppedAt = s.lmt ∧
      (∀ j, j ≠ nodeRecKey b → (s.nodeToDropped b).node j = s.node j) ∧ (s.nodeToDropped b).img.front = s.img.front := by
  unfold State.nodeToDropped
  extract_lets k n
  rw [if_pos (by rcases h with h | h <;> simp [n, k, h])]
  obtain ⟨h1, h2, h3⟩ := s.leave_frame (k := k) (b := b) (x := { n with st := .dropped, droppedAt := s.lmt, inbox := [], reqs := [] })
    (congrArg Net.nodes State.raiseNode_reports.net) (State.raiseNode_reports (code := EV_NODE_DROPPED) (b := b)).front
  exact ⟨by rw [h1], by rw [h1], h2, h3⟩

theorem State.nodeToAbsent_leaves (h : (s.node (nodeRecKey b)).st ≠ .absent) :
    ((s.nodeToAbsent b).node (nodeRecKey b)).st = .absent ∧ (∀ j, j ≠ nodeRecKey b → (s.nodeToAbsent b).node j = s.node j) ∧
      (s.nodeToAbsent b).img.front = s.img.front := by
  unfold State.nodeToAbsent
  extract_lets k n
  rw [if_neg (by simpa [n, k] using h)]
  obtain ⟨h1, h2, h3⟩ := s.leave_frame (k := k) (b := b) (x := { n with st := .absent, inbox := [], reqs := [] })
    ((congrArg Net.nodes State.raiseNode_reports.net).trans State.sendRelease_frame.1)
    ((State.raiseNode_reports (code := EV_NODE_LEFT) (b := b)).front.trans
      (congrArg _ (State.sendRelease_frame (seg := byteAt b 0) (node := nodeNum b) (bindId := n.bindId) (mac := n.mac)).2))
  exact ⟨by rw [h1], h2, h3⟩

/-! Races. -/

/-- What clearing UNREFERENCED of the races at `ms` leaves: every race's fields but that one, which falls and is clear at each of `ms`. -/
structure State.Clears (ms : List Nat) (s t : State) : Prop where
  race : ∀ m, t.race m = { s.race m with unref := (t.race m).unref }
  unref : ∀ m ∈ ms, (t.race m).unref = false
  stays : ∀ m, (s.race m).unref = false → (t.race m).unref = false
  cogs : t.cogs = s.cogs
  encs : t.encs = s.encs

theorem State.Clears.foldl (ms : List Nat) :
    s.Clears ms (ms.foldl (fun s m => (s.setRace m { s.race m with unref := false }).racePoints m) s) := by
  induction ms generalizing s with
  | nil => exact ⟨fun _ => rfl, nofun, fun _ h => h, rfl, rfl⟩
  | cons m ms ih =>
    rw [List.foldl_cons]
    have hr : (s.setRace m { s.race m with unref := false }).Reports _ := State.Reports.racePoints (n := m)
    generalize (s.setRace m { s.race m with unref := false }).racePoints m = v at hr
    obtain ⟨hf, hu, hs, hc, he⟩ := ih (s := v)
    have hm : v.race m = { s.race m with unref := false } := by rw [hr.race, State.setRace_race_same]
    have ho (j) (hj : j ≠ m) : v.race j = s.race j := by rw [hr.race, State.setRace_race_other _ _ hj]
    refine ⟨fun j => ?_, fun j hj => ?_, fun j hj => hs j ?_, hc.trans hr.cogs, he.trans hr.encs⟩
    · rw [hf j]
      by_cases hj : j = m
      · rw [hj, hm]
      · rw [ho j hj]
    · rcases List.mem_cons.1 hj with rfl | hj
      · exact hs j (by rw [hm])
      · exact hu j hj
    · by_cases h : j = m
      · rw [h, hm]
      · rwa [ho j h]

theorem State.clearUnref_clears : s.Clears [n] (s.clearUnref n) := by
  obtain ⟨hf, hu, hs, hc, he⟩ := State.Clears.foldl (s := s) (s.raceTree 3 n)
  exact ⟨hf, fun m hm => hu m (List.mem_singleton.1 hm ▸ List.mem_cons_self), hs, hc, he⟩

/-- An index edge on an armed race (R52). -/
theorem indexCapture_armed {count : W64} (h : (s.race n).refArmed = true) (ht : indexCapture n count s = t) :
    (t.race n).refArmed = false ∧ (t.race n).unref = false ∧
      (t.race n).refPos = (if (s.race n).inv then (s.race n).base - count else (s.race n).base + count) ∧
        (∀ m, (t.race m).st = (s.race m).st ∧ (t.race m).pos = (s.race m).pos) ∧
          (∀ m, m ≠ n → (t.race m).refArmed = (s.race m).refArmed ∧ (t.race m).refPos = (s.race m).refPos) ∧ t.cogs = s.cogs ∧ t.encs = s.encs := by
  subst ht
  unfold indexCapture
  extract_lets r p s1
  rw [if_neg (by simp [r, h])]
  obtain ⟨hf, hu, -, hc, he⟩ := State.clearUnref_clears (s := s.setRace n { r with refArmed := false, refPos := p }) (n := n)
  have hr : State.Reports s1 _ := State.Reports.finishAll (fs := s1.flightsOn 0x0303 (uRace n)) (status := ST_OK) (r := { result := p.toNat, commit := some s1.lmt })
  have hn := State.setRace_race_same (s := s) n { r with refArmed := false, refPos := p }
  have ho (m) (hm : m ≠ n) : (s.setRace n { r with refArmed := false, refPos := p }).race m = s.race m := State.setRace_race_other _ _ hm
  refine ⟨?_, ?_, ?_, fun m => ?_, fun m hm => ?_, hr.cogs.trans hc, hr.encs.trans he⟩
  · rw [hr.race, hf n, hn]
  · rw [hr.race, hu n (List.mem_singleton.2 rfl)]
  · rw [hr.race, hf n, hn]
    rfl
  · rw [hr.race, hf m]
    by_cases hm : m = n
    · rw [hm, hn]
      exact ⟨rfl, rfl⟩
    · rw [ho m hm]
      exact ⟨rfl, rfl⟩
  · rw [hr.race, hf m, ho m hm]
    exact ⟨rfl, rfl⟩

/-- A LOCKED domain without Sync for 3 intervals holds over at its last rate, from its time as it stands (R65). -/
theorem ptpSyncTimeout_holds {d : Nat} (hr : s.sys.restarting = false) (hs : (s.dom d).st = .locked) (hd : (s.dom d).lastSync + 3 * syncInterval (s.domRec d) ≤ s.lmt) :
    (ptpSyncTimeout d s).dom d = { s.dom d with st := .holdover, goodSyncs := 0, now := domTime (s.dom d) s.lmt, lmtAt := s.lmt, slew := 0, residual := 0 } ∧
      ∀ e, e ≠ d → (ptpSyncTimeout d s).dom e = s.dom e := by
  unfold ptpSyncTimeout
  extract_lets x
  rw [if_pos (by simp [x, hr, hs, hd])]
  have h (v : State) : v.Reports ((v.raise EV_DOMAIN_HOLDOVER 0 [d]).domPoints d) := State.Reports.raise.trans .domPoints
  exact ⟨by rw [(h _).dom, State.setDom_dom_same], fun e he => by rw [(h _).dom, State.setDom_dom_other _ _ he]⟩

end Sys2Proof.Machine
end

section
/-! Nodes, races and expiries. -/

open Sys2Proof Sys2Proof.Machine

/-- Settles O52: both rows write the one node, its conditions and its qualities (R117, R118). -/
theorem nodeLeaves : Obligations.NodeLeaves := by
  intro t seg node s b hc u k n hb
  have hx : exec (.nodeDrop t seg node) s = .next (u.follow (nodeDrop seg node u)) := eventRow_on t hc
  have hy : exec (.nodeReleaseTimeout t seg node) s = .next (u.follow (nodeReleaseTimeout seg node u)) := eventRow_on t hc
  refine ⟨fun hs hm => ⟨_, hx, ?_⟩, fun hm => ?_, fun hs hd hv => ⟨_, hy, ?_⟩, fun hn => ?_⟩
  · simp only [nodeDrop, hb]
    rw [if_pos hm]
    exact State.nodeToDropped_leaves hs
  · rw [hx]
    simp only [nodeDrop, hb]
    rw [if_neg (by simpa using hm)]
  · simp only [nodeReleaseTimeout, hb]
    rw [if_pos (by simp only [Bool.and_eq_true, beq_iff_eq, decide_eq_true_eq]; exact ⟨⟨hs, hd⟩, hv⟩)]
    exact State.nodeToAbsent_leaves (by rw [show (u.node (nodeRecKey b)).st = _ from hs]; decide)
  · rw [hy]
    simp only [nodeReleaseTimeout, hb]
    rw [if_neg]
    simp only [Bool.and_eq_true, beq_iff_eq, decide_eq_true_eq, not_and]
    rintro ⟨hs, hd⟩
    rcases hn with hn | hn
    · exact absurd hs hn
    · exact absurd hd (by simpa using hn)

/-- Settles O53: the rest of the race tree changes in UNREFERENCED only (R52). -/
theorem raceReferenced : Obligations.RaceReferenced := by
  intro t n count s hc u r
  have hx : exec (.indexCapture t n count) s = .next (u.follow (indexCapture n count u)) := eventRow_on t hc
  refine ⟨fun h => ?_, fun h => ⟨_, hx, indexCapture_armed h rfl⟩⟩
  rw [hx, indexCapture, if_pos (by rw [show (u.race n).refArmed = false from h]; rfl)]

/-- Settles O54: each row tests the state and its instant (R65, R204, R232). -/
theorem expiriesHold : Obligations.ExpiriesHold := by
  intro t s hc u
  have hp (d) : exec (.ptpSyncTimeout t d) s = .next (u.follow (ptpSyncTimeout d u)) := eventRow_on t hc
  have ha (hf : s.sys.st ≠ .faultHalt) (x) : exec (.axisHoldDelayExpiry t x) s = .next (u.follow (axisHoldDelay x u)) := engineRow_on t hc hf
  have hl (hf : s.sys.st ≠ .faultHalt) (n) : exec (.clCmdTimeout t n) s = .next (u.follow (clCmdTimeout n u)) := engineRow_on t hc hf
  refine ⟨fun d hr hs hd => ⟨_, hp d, ?_⟩, fun d hn => ?_, fun hf x b hb hs hd => ?_, fun hf x hs => ?_, fun hf n hm h0 hd => ?_, fun hf n hn => ?_⟩
  · obtain ⟨h1, h2⟩ := ptpSyncTimeout_holds (show u.sys.restarting = false from hr) hs hd
    rw [h1]
    exact ⟨rfl, rfl, rfl, rfl, rfl, h2⟩
  · rw [hp, ptpSyncTimeout]
    rw [if_neg]
    simp only [Bool.and_eq_true, beq_iff_eq, decide_eq_true_eq, not_and]
    intro hs hd
    rcases hn with hn | hn
    · exact absurd hs.2 hn
    · omega
  · rw [ha hf, axisHoldDelay]
    have he : u.axRec x = b := by simp [State.axRec, State.rcd, hb]
    simp only [hs, hb, he]
    rw [if_pos (by simpa using hd)]
  · rw [ha hf, axisHoldDelay]
    rw [if_neg (by simp [hs])]
  · rw [hl hf, clCmdTimeout]
    rw [if_pos ⟨hm, h0, hd⟩]
  · rw [hl hf, clCmdTimeout]
    rw [if_neg]
    rintro ⟨-, h0, hd⟩
    omega

end

section
/-! SUPPORT. What a change of role and FAULT_HALT leave (R391, R395, R384, R472). -/

namespace Sys2Proof.Machine

variable {s t u : State} {n p k : Nat}

theorem State.hopStop_frame : ∃ ho, s.hopStop n = { s with hop := ho } := by
  unfold State.hopStop
  extract_lets on k k1 s1 s2
  split <;> exact ⟨_, rfl⟩

/-- Stopping the extension tasks changes Hopper alone (R465). -/
theorem State.extQuit_frame : ∃ ho, s.extQuit = { s with hop := ho } := by
  unfold State.extQuit
  refine List.foldlRecOn (motive := fun t : State => ∃ ho, t = { s with hop := ho }) _ _ ⟨s.hop, rfl⟩ fun v hv n _ => ?_
  obtain ⟨ho, rfl⟩ := hv
  split
  · split
    · obtain ⟨h', e⟩ := State.hopStop_frame (s := { s with hop := ho }) (n := n)
      exact ⟨h', e⟩
    · exact ⟨ho, rfl⟩
  · exact ⟨ho, rfl⟩

theorem State.extAuto_frame : ∃ ho, s.extAuto = { s with hop := ho } := by
  unfold State.extAuto
  refine List.foldlRecOn (motive := fun t : State => ∃ ho, t = { s with hop := ho }) _ _ ⟨s.hop, rfl⟩ fun v hv n _ => ?_
  obtain ⟨ho, rfl⟩ := hv
  split
  · split
    · exact ⟨_, rfl⟩
    · exact ⟨ho, rfl⟩
  · exact ⟨ho, rfl⟩

/-- A change of role writes the pair's record and Hopper, nothing else (R381, R465). -/
theorem State.setRole_frame {r : Role} :
    ∃ ho, s.setRole r = { s with red := { s.red with role := r, goodSince := none, asking := false, gaveAt := none, driveActive := r == .active }, hop := ho } := by
  unfold State.setRole
  extract_lets s1
  split
  · exact State.extAuto_frame
  · split
    · exact State.extQuit_frame
    · exact ⟨_, rfl⟩

/-- An EPOCH is newer by 1 to 127 modulo 256 (R395). -/
theorem epochNewer_iff (a b : Nat) : epochNewer a b = true ↔ 1 ≤ ((a : Int) - b) % 256 ∧ ((a : Int) - b) % 256 ≤ 127 := by
  simp only [epochNewer, Bool.and_eq_true, decide_eq_true_eq]
  omega

/-- When a module that is ACTIVE yields to a partner that is ACTIVE too (R395). -/
def State.yields (s : State) (p : Partner) : Prop :=
  (1 ≤ ((p.epoch : Int) - s.red.epoch) % 256 ∧ ((p.epoch : Int) - s.red.epoch) % 256 ≤ 127) ∨ (p.epoch = s.red.epoch ∧ s.preferred p.unit p.mac = false)

theorem State.dualActive_eq {p : Partner} [Decidable (s.red.role = .active ∧ p.role = .active ∧ s.yields p)] :
    s.dualActive p =
      if s.red.role = .active ∧ p.role = .active ∧ s.yields p then ((s.setRole .syncing).canStandby).raise EV_RED_DUAL_ACTIVE 0 [s.red.epoch, p.epoch]
      else s := by
  unfold State.dualActive State.yields
  congr 1
  simp [epochNewer_iff, and_assoc]

/-- The CAN ports of a module that yields only listen (R345). -/
theorem State.canStandby_listens (h : (s.canStandby.can n).st ≠ .off) : (s.canStandby.can n).listen = true := by
  revert h
  show (SMap.getD (SMap.mapV _ s.cans) n {}).st ≠ .off → (SMap.getD (SMap.mapV _ s.cans) n {}).listen = true
  rw [SMap.getD, SMap.get?_mapV]
  cases SMap.get? s.cans n with
  | none => exact fun h => absurd rfl h
  | some c =>
    show (if c.st == .off then c else { c with listen := true }).st ≠ .off → (if c.st == .off then c else { c with listen := true }).listen = true
    split
    · next hc => exact fun h => absurd (by simpa using hc) h
    · exact fun _ => rfl

theorem redFullCopyDone_standby (hr : s.red.role = .syncing) (hc : s.red.copying = true) (ht : redFullCopyDone s = t) :
    t.red.role = .standby ∧ t.red.syncPct = 100 ∧ t.red.copying = false ∧ t.red.epoch = s.red.epoch ∧ t.img = s.img ∧ t.cfg = s.cfg := by
  subst ht
  unfold redFullCopyDone
  rw [if_pos (by simp [hr, hc])]
  obtain ⟨ho, e⟩ := s.setRole_frame (r := .standby)
  simp only [State.raise_red, State.raise_img, State.raise_cfg, e]
  trivial

/-! FAULT_HALT. -/

theorem State.faultHalt_enters {code detail : Nat} (h : s.sys.st ≠ .faultHalt) (ht : s.faultHalt code detail = t) :
    t.sys.st = .faultHalt ∧ t.sys.hfault = BitVec.ofNat 32 (code % 65536 + 65536 * detail) ∧
      t.red = (if s.red.role = .single then s.red else { s.red with role := .blocked, health := 2 }) ∧
        (∀ n, (t.dio n).on = false ∧ (t.pwm n).live = false ∧ (t.pwm n).on = 0) ∧ (∀ n f, SMap.get? t.fos n = some f → f.hiZ = true ∧ f.pending = []) ∧
          t.img = s.img ∧ t.journal = s.journal ∧ t.home = s.home ∧ t.cfg = s.cfg := by
  subst ht
  unfold State.faultHalt
  rw [if_neg (by simpa using h)]

  refine ⟨rfl, rfl, rfl, fun n => ⟨?_, ?_, ?_⟩, fun n f hf => ?_, rfl, rfl, rfl, rfl⟩
  · exact SMap.getD_mapV_all (P := fun d : Dio => d.on = false) (fun _ _ => rfl) rfl _ n
  · exact SMap.getD_mapV_all (P := fun d : Pwm => d.live = false) (fun _ _ => rfl) rfl _ n
  · exact SMap.getD_mapV_all (P := fun d : Pwm => d.on = 0) (fun _ _ => rfl) rfl _ n
  · have hf : SMap.get? (SMap.mapV (fun _ (f : FastOut) => { f with hiZ := true, pending := [] }) s.fos) n = some f := hf
    rw [SMap.get?_mapV, Option.map_eq_some_iff] at hf
    obtain ⟨x, -, rfl⟩ := hf
    exact ⟨rfl, rfl⟩

end Sys2Proof.Machine
end

section
/-! Roles and FAULT_HALT. -/

open Sys2Proof Sys2Proof.Machine

/-- Settles O51 (R386, R391, R395). -/
theorem pairRoles : Obligations.PairRoles := by
  classical
  refine ⟨fun t s hc => ?_, fun s p => ⟨fun h => ?_, fun hr hp hy => ?_, fun hr hp hy => ?_⟩⟩
  · intro u
    have hx : exec (.redFullCopyDone t) s = .next (u.follow (redFullCopyDone u)) := eventRow_on t hc
    refine ⟨fun hr hy => ⟨_, hx, redFullCopyDone_standby hr hy rfl⟩, fun h => ?_⟩
    rw [hx, redFullCopyDone, if_neg]
    rw [Bool.and_eq_true, beq_iff_eq]
    rintro ⟨h1, h2⟩
    exact h.elim (fun h => h h1) fun h => by simp [show u.red.copying = false from h] at h2
  · rw [State.dualActive_eq, if_neg fun ⟨h1, h2, _⟩ => h.elim (fun h => h h1) fun h => h h2]
  · rw [State.dualActive_eq, if_pos ⟨hr, hp, hy⟩]
    obtain ⟨ho, e⟩ := s.setRole_frame (r := .syncing)
    refine ⟨?_, ?_, ?_, fun n h => ?_⟩
    · simp only [State.raise_red, State.canStandby, e]
    · simp only [State.raise_red, State.canStandby, e]
      rfl
    · simp only [State.raise_img, State.canStandby, e]
    · exact State.canStandby_listens (s := s.setRole .syncing) h
  · rw [State.dualActive_eq, if_neg fun ⟨_, _, h⟩ => hy h]

/-- Settles O50: the rule of FAULT_HALT writes each of these once (R11, R384, R472). -/
theorem faultHaltEntered : Obligations.FaultHaltEntered := by
  intro t code detail s hc u
  have hx : exec (.faultHaltEntry t code detail) s = .next (u.follow (faultHaltEntry code detail u)) := eventRow_on t hc
  refine ⟨fun hs hd => ⟨_, hx, ?_⟩, fun hs => ?_⟩
  · have hm : u.mayFault = true := by
      have hs : u.sys.st = .load ∨ u.sys.st = .ready ∨ u.sys.st = .running := hs
      rcases hs with h | h | h <;> simp [State.mayFault, h]
    have hn : u.sys.st ≠ .faultHalt := by
      intro h
      simp [State.mayFault, h] at hm
    rw [faultHaltEntry, if_pos hd, State.fault, if_pos hm]
    obtain ⟨h1, h2, h3, h4, h5, h6⟩ := State.faultHalt_enters (code := code) (detail := detail % 65536) hn rfl
    refine ⟨h1, ?_, fun hr => ?_, fun hr => ?_, h4, h5, h6⟩
    · rw [h2, BitVec.toNat_ofNat]
      omega
    · rw [h3, if_pos (show u.red.role = _ from hr)]
    · rw [h3, if_neg (show u.red.role ≠ _ from hr)]
      exact ⟨rfl, rfl⟩
  · have hm : u.mayFault = false := by
      have hs : u.sys.st = .faultHalt ∨ u.sys.st = .boot ∨ u.sys.st = .verify := hs
      rcases hs with h | h | h <;> simp [State.mayFault, h]
    rw [hx, faultHaltEntry, State.fault, hm]
    simp

end

section
/-! SUPPORT. What the power fail and its final commit leave (R480). -/

namespace Sys2Proof.Machine

variable {s t u : State}

/-- What the final commit leaves of a state: the committed values, home, the configuration, and what a start finds of the system unit. -/
structure State.Seals (s t : State) : Prop where
  lmt : t.lmt = s.lmt
  front : t.img.front = s.img.front
  back : t.img.back = s.img.back
  home : t.home = s.home
  cfg : t.cfg = s.cfg
  bootNext : t.sys.bootNext = s.sys.bootNext
  bootId : t.sys.bootId = s.sys.bootId

namespace State.Seals

theorem refl (s : State) : s.Seals s := ⟨rfl, rfl, rfl, rfl, rfl, rfl, rfl⟩

theorem trans (h : s.Seals t) (h' : t.Seals u) : s.Seals u :=
  ⟨h'.lmt.trans h.lmt, h'.front.trans h.front, h'.back.trans h.back, h'.home.trans h.home, h'.cfg.trans h.cfg, h'.bootNext.trans h.bootNext,
    h'.bootId.trans h.bootId⟩

theorem raiseIf {c code unit ps point cl} : s.Seals (s.raiseIf c code unit ps point cl) := by
  unfold State.raiseIf
  split
  · exact ⟨rfl, rfl, rfl, rfl, rfl, rfl, rfl⟩
  · exact refl s

theorem setGroup {k : Nat} {x : GroupSt} : s.Seals (s.setGroup k x) := ⟨rfl, rfl, rfl, rfl, rfl, rfl, rfl⟩

theorem mapBanks {f : Bank → Bank} : s.Seals (s.mapBanks f) := ⟨rfl, rfl, rfl, rfl, rfl, rfl, rfl⟩

theorem setSets {m : SMap BankSet} : s.Seals { s with sets := m } := ⟨rfl, rfl, rfl, rfl, rfl, rfl, rfl⟩

theorem writeThrough {k : Nat} {changed : List Nat} {paged : List (Nat × W32)} : s.Seals (s.writeThrough k changed paged) := by
  unfold State.writeThrough
  extract_lets g old new cells paged' quals e late y s1 s2 s3
  have h1 : s.Seals s1 := ⟨rfl, rfl, rfl, rfl, rfl, by show (ite _ _ _ : Sys).bootNext = _; split <;> rfl, by show (ite _ _ _ : Sys).bootId = _; split <;> rfl⟩
  clear_value s1
  have h2 : s.Seals s2 := by
    clear_value old
    show s.Seals (match old with | some o => _ | none => s1)
    split
    · exact h1.trans mapBanks
    · exact h1
  clear_value s2
  have h3 : s.Seals s3 := by
    clear_value old
    show s.Seals (match old with | some o => _ | none => s2)
    split
    · exact h2.trans setSets
    · exact h2
  clear_value s3
  exact (h3.trans setGroup).trans raiseIf

theorem finalCommit : s.Seals s.finalCommit := by
  unfold State.finalCommit
  split
  · exact writeThrough
  · exact refl s

end State.Seals

/-- The state that the power fail leaves: committed and sealed, its outputs and its clocks stopped (R480). -/
def State.failed (s : State) (l : EvLog) : State := ((((s.setLog l).finalCommit).sealAll).stopOutputs).stopClocks

theorem State.failed_seals {l : EvLog} : s.Seals (s.failed l) := by
  have hl : s.Seals (s.setLog l) := ⟨rfl, rfl, rfl, rfl, rfl, rfl, rfl⟩
  have hs (v : State) : v.Seals v.sealAll.stopOutputs.stopClocks := ⟨rfl, rfl, rfl, rfl, rfl, rfl, rfl⟩
  exact (hl.trans .finalCommit).trans (hs _)

theorem State.failed_stopped {l : EvLog} :
    (s.failed l).sys.clocksOn = false ∧ (s.failed l).sys.mramWp = true ∧ (s.failed l).sys.pfail = .stopped ∧
      (∀ e ∈ (s.failed l).journal, e.sealed = true) ∧ (∀ n, ((s.failed l).dio n).on = false ∧ ((s.failed l).pwm n).live = false) ∧
        ∀ n, ((s.failed l).can n).st = .off := by
  refine ⟨rfl, rfl, rfl, fun e he => ?_, fun n => ⟨?_, ?_⟩, fun n => ?_⟩
  · obtain ⟨x, -, rfl⟩ := List.mem_map.1 (show e ∈ List.map _ ((s.setLog l).finalCommit).journal from he)
    rfl
  · exact SMap.getD_mapV_all (P := fun d : Dio => d.on = false) (fun _ _ => rfl) rfl _ n
  · exact SMap.getD_mapV_all (P := fun d : Pwm => d.live = false) (fun _ _ => rfl) rfl _ n
  · exact SMap.getD_mapV_all (P := fun c : CanPort => c.st = .off) (fun _ _ => rfl) rfl _ n

theorem Sys.atBoot_bootId (y : Sys) (cold : Bool) : (y.atBoot cold).bootId = y.bootId := by
  unfold Sys.atBoot
  show (ite _ _ _ : Sys).bootId = _
  split
  · unfold Sys.rollback
    split <;> rfl
  · split
    · unfold Sys.activateCold
      split <;> rfl
    · rfl

theorem powerFailFinalCommit_stops (hs : s.sys.pfail = .sealing) (hd : s.sys.pfailAt + 1000000 ≤ s.lmt) (hb : s.sys.bootNext = none) :
    ∃ l, powerFailFinalCommit s = s.failed l := by
  unfold powerFailFinalCommit
  rw [if_pos (by simp [hs, hd])]
  extract_lets y l s1
  have hf : s1 = s.failed l := rfl
  rw [hf, State.failed_seals.bootNext, hb]
  exact ⟨l, rfl⟩

theorem powerFailFinalCommit_boots {m : Nat} {p : Bool} (hs : s.sys.pfail = .sealing) (hd : s.sys.pfailAt + 1000000 ≤ s.lmt)
    (hb : s.sys.bootNext = some (m, p)) : ∃ l, powerFailFinalCommit s = (s.failed l).boot (s.failed l).lmt m p false := by
  unfold powerFailFinalCommit
  rw [if_pos (by simp [hs, hd])]
  extract_lets y l s1
  have hf : s1 = s.failed l := rfl
  rw [hf, State.failed_seals.bootNext, hb]
  exact ⟨l, rfl⟩

/-- A start stands in BOOT with its clocks on and the next BOOT_ID, and keeps what is retained (R469, R471). -/
theorem State.boot_starts {t' strapMode : Nat} {strapPair cold : Bool} (ht : s.boot t' strapMode strapPair cold = t) :
    t.sys.st = .boot ∧ t.sys.clocksOn = true ∧ t.sys.pfail = .ok ∧ t.sys.bootId = (s.sys.bootId + 1) % 4294967296 ∧ t.journal = s.journal ∧ t.home = s.home := by
  subst ht
  unfold State.boot
  extract_lets y failed s1 s2
  have h1 : s1.sys.st = .boot ∧ s1.sys.clocksOn = true ∧ s1.sys.pfail = .ok ∧ s1.sys.bootId = (s.sys.bootId + 1) % 4294967296 ∧
      s1.journal = s.journal ∧ s1.home = s.home :=
    ⟨rfl, rfl, rfl, by rw [← Sys.atBoot_bootId s.sys cold], rfl, rfl⟩
  have h2 : s1.Reports s2 := by
    show s1.Reports (if _ then _ else _)
    split
    · exact State.Reports.useFree.trans .thawFor
    · exact .refl s1
  clear_value s1 s2
  have h := h2.trans (State.Reports.raiseIf (c := s.sys.mustRollback cold) (code := EV_UPD_ROLLBACK) (unit := 0) (ps := []) (point := 0) (cl := false))
  rw [h.journal, h.home, h.sys]
  exact h1

theorem State.sendHeartbeat_frame {path : Nat} : ∃ re ne, s.sendHeartbeat path = { s with red := re, net := ne } := by
  unfold State.sendHeartbeat
  split
  · exact ⟨_, _, rfl⟩
  · by_cases h : path = 1
    · rw [if_pos h]
      exact ⟨_, _, rfl⟩
    · rw [if_neg h]
      exact ⟨_, _, rfl⟩

/-- Telling the pair of a fault writes its record and the net (R384). -/
theorem State.pairFails_frame : ∃ re ne, s.pairFails = { s with red := re, net := ne } := by
  unfold State.pairFails
  split
  · obtain ⟨_, _, e⟩ := State.sendHeartbeat_frame (s := { s with red := { s.red with health := 2 } }) (path := 0)
    rw [e]
    obtain ⟨_, _, e'⟩ := State.sendHeartbeat_frame (path := 1)
    exact ⟨_, _, e'⟩
  · exact ⟨_, _, rfl⟩

theorem State.powerFailStart_declares (ht : s.powerFailStart = t) :
    t.sys.pfail = .sealing ∧ t.sys.pfailAt = s.lmt ∧ t.sys.clocksOn = s.sys.clocksOn ∧ t.sys.powerFails = s.sys.powerFails + 1 ∧ t.img = s.img ∧
      t.journal = s.journal := by
  subst ht
  unfold State.powerFailStart
  extract_lets y s1
  obtain ⟨_, _, e⟩ := (s1.safeRequest (axesWanted s1.safeFns s1.safe.a s1.safe.b)).pairFails_frame
  rw [e]
  exact ⟨rfl, rfl, rfl, rfl, rfl, rfl⟩

end Sys2Proof.Machine
end

section
/-! The power fail. -/

open Sys2Proof Sys2Proof.Machine

/-- Settles O58: the final commit seals and stops, and a start follows where RESET# was released meanwhile (R480; the start is log 162, the model's choice). -/
theorem powerFailStops : Obligations.PowerFailStops := by
  intro t s hc u
  have hx : exec (.powerFailFinalCommit t) s = .next (u.follow (powerFailFinalCommit u)) := eventRow_on t hc
  have hp (mv) : exec (.powerFail t mv) s = .next (u.follow (powerFail mv u)) := eventRow_on t hc
  refine ⟨fun h => ?_, fun hs hd => ?_, fun mv hm => ?_, fun mv hm ho => ⟨_, hp mv, ?_⟩⟩
  · rw [hx, powerFailFinalCommit, if_neg]
    rw [Bool.and_eq_true, beq_iff_eq, decide_eq_true_eq]
    rintro ⟨h1, h2⟩
    exact h.elim (fun h => h h1) fun h => Nat.not_le.2 h h2
  · refine ⟨fun hb => ?_, fun m p hb => ?_⟩
    · obtain ⟨l, e⟩ := powerFailFinalCommit_stops (s := u) hs hd hb
      rw [e] at hx
      have hk := State.failed_seals (s := u) (l := l)
      obtain ⟨h1, h2, h3, h4, h5, h6⟩ := State.failed_stopped (s := u) (l := l)
      exact ⟨_, hx, h1, h2, h3, h4, h5, h6, hk.front, hk.back, hk.home, hk.cfg⟩
    · obtain ⟨l, e⟩ := powerFailFinalCommit_boots (s := u) hs hd hb
      rw [e] at hx
      have hk := State.failed_seals (s := u) (l := l)
      obtain ⟨-, -, -, h4, -, -⟩ := State.failed_stopped (s := u) (l := l)
      obtain ⟨b1, b2, b3, b4, b5, b6⟩ := State.boot_starts (s := u.failed l) (t' := (u.failed l).lmt) (strapMode := m) (strapPair := p) (cold := false) rfl
      exact ⟨_, hx, b1, b2, b3, by rw [b4, hk.bootId]; rfl, fun e he => h4 e (b5 ▸ he), b6.trans hk.home⟩
  · rw [hp, powerFail, if_pos (by simp [hm])]
  · have ho : u.sys.pfail = .ok := ho
    rw [powerFail, if_neg (by simp [ho, hm])]
    obtain ⟨h1, h2, h3, h4, h5⟩ := State.powerFailStart_declares (s := { u with sys := { u.sys with powered := false, logicMv := mv } }) rfl
    exact ⟨h1, h2, h3.trans hc, h4, h5⟩

end

section
/-! SUPPORT. What a discrepancy makes of the safety layer (R355, R356). -/

namespace Sys2Proof.Machine

variable {s t u : State} {p : Nat} {c : SafeChan} {fs : List Bytes}

/-- A channel of the safety layer counts a pair's discrepancy to its end and has not latched it (R355). -/
def SafeChan.counted (c : SafeChan) (b : Bytes) (p : Nat) : Prop := 0 < pairNd b ∧ pairNd b ≤ (c.pairs.getD p {}).count ∧ (c.pairs.getD p {}).disc = false

theorem SafeChan.discFault_disc : ((c.discFault fs p).pairs.getD p {}).disc = true := by
  unfold SafeChan.discFault SMap.upd
  rw [SMap.getD_set_same]

/-- A function that names the pair is in START_TEST or SAFE with reason 2 (R356). -/
theorem SafeChan.discFault_named {n : Nat} {f : SafeFn} (h : ∃ r ∈ fs, fnNo r = n ∧ fnHasPair r p = true) (hf : SMap.get? (c.discFault fs p).fns n = some f) :
    f.st = .startTest ∨ (f.st = .safe ∧ f.reason = 2 ∧ f.torqueOff = true) := by
  simp only [SafeChan.discFault, SMap.get?_mapV, Option.map_eq_some_iff] at hf
  obtain ⟨g, -, rfl⟩ := hf
  have ha : (fs.any fun b => fnNo b == n && fnHasPair b p) = true := by
    obtain ⟨r, hr, h1, h2⟩ := h
    exact List.any_eq_true.2 ⟨r, hr, by simp [h1, h2]⟩
  rw [ha]
  by_cases hg : g.st = .startTest
  · exact .inl (by simp [hg])
  · exact .inr (by simp [hg, SafeFn.enter])

theorem SafeChan.discFault_other {n : Nat} {f : SafeFn} (h : ∀ r ∈ fs, fnNo r = n → fnHasPair r p = false) (hf : SMap.get? c.fns n = some f) :
    SMap.get? (c.discFault fs p).fns n = some f := by
  have ha : (fs.any fun b => fnNo b == n && fnHasPair b p) = false := by
    refine List.any_eq_false.2 fun r hr => ?_
    rw [Bool.and_eq_true, beq_iff_eq]
    exact fun ⟨h1, h2⟩ => by simp [h r hr h1] at h2
  simp only [SafeChan.discFault, SMap.get?_mapV, hf, ha, Option.map_some, Bool.false_and, Bool.false_eq_true, if_false]

theorem SafeOut.command_on (x : SafeOut) (t' : Nat) (a b : Bool) : (x.command t' a b).aOn = a ∧ (x.command t' a b).bOn = b := by
  unfold SafeOut.command
  extract_lets y
  split
  · exact ⟨rfl, rfl⟩
  · split
    · exact ⟨rfl, rfl⟩
    · split
      · exact ⟨rfl, rfl⟩
      · split <;> exact ⟨rfl, rfl⟩

/-- The discrepancy latched: both channels with the pair's fault, no output on that was off, and the point image and the analogue units as they were
(R355, R356; both channels latch, log 99). -/
theorem safetyDiscrepancyCount_latches (hl : s.safe.layer = .running) (hb : byteAt (sfRec s.safe.recs 0x20 p) 1 = 1 ∨ byteAt (sfRec s.safe.recs 0x20 p) 1 = 2)
    (hc : s.safe.a.counted (sfRec s.safe.recs 0x20 p) p ∨ s.safe.b.counted (sfRec s.safe.recs 0x20 p) p) (ht : safetyDiscrepancyCount p s = t) :
    t.safe.a.pairs = (s.safe.a.discFault s.safeFns p).pairs ∧ t.safe.b.pairs = (s.safe.b.discFault s.safeFns p).pairs ∧
      t.safe.a.fns = (s.safe.a.discFault s.safeFns p).fns ∧ t.safe.b.fns = (s.safe.b.discFault s.safeFns p).fns ∧
        (∀ o y, SMap.get? s.safe.outs o = some y → ∃ z, SMap.get? t.safe.outs o = some z ∧ (z.aOn = true → y.aOn = true) ∧ (z.bOn = true → y.bOn = true)) ∧
          t.img = s.img ∧ t.ana = s.ana := by
  subst ht
  unfold safetyDiscrepancyCount
  extract_lets b hit fs a c on s1
  have hh (x : SafeChan) : hit x = true ↔ x.counted b p := by
    simp [hit, SafeChan.counted, and_assoc]
  have hcond : (s.safe.layer == .running && (byteAt b 1 == 1 || byteAt b 1 == 2) && (hit s.safe.a || hit s.safe.b)) = true := by
    rw [Bool.and_eq_true, Bool.or_eq_true, hh, hh]
    exact ⟨by rw [hl]; simpa using hb, hc⟩
  rw [if_pos hcond]
  refine ⟨rfl, rfl, rfl, rfl, fun o y hy => ?_, rfl, rfl⟩
  show ∃ z, SMap.get? (SMap.mapV _ s.safe.outs) o = some z ∧ _
  rw [SMap.get?_mapV, hy]
  obtain ⟨ha, hb⟩ := y.command_on s.lmt (y.aOn && (on a).on.contains o) (y.bOn && (on c).on.contains o)
  refine ⟨_, rfl, fun h => ?_, fun h => ?_⟩
  · exact (Bool.and_eq_true _ _ ▸ ha ▸ h).1
  · exact (Bool.and_eq_true _ _ ▸ hb ▸ h).1

theorem safetyDiscrepancyCount_below (ha : (s.safe.a.pairs.getD p {}).count < pairNd (sfRec s.safe.recs 0x20 p))
    (hb : (s.safe.b.pairs.getD p {}).count < pairNd (sfRec s.safe.recs 0x20 p)) : safetyDiscrepancyCount p s = s := by
  unfold safetyDiscrepancyCount
  extract_lets b hit fs a c on s1
  have hh (x : SafeChan) (hx : (x.pairs.getD p {}).count < pairNd b) : hit x = false := by
    simp only [hit, Bool.and_eq_false_iff, decide_eq_false_iff_not, Nat.not_le]
    exact .inl (.inr hx)
  rw [hh _ ha, hh _ hb, if_neg (by simp)]

end Sys2Proof.Machine
end

section
/-! The discrepancy of a pair of inputs. -/

open Sys2Proof Sys2Proof.Machine

/-- Settles O57: both channels take the fault of the pair, and outputs are only commanded off (R355, R356; that one channel's count latches the discrepancy in both is log 99, the model's reading). -/
theorem discrepancyLatches : Obligations.DiscrepancyLatches := by
  intro t p s hc hl u b x hb
  have hx : exec (.safetyDiscrepancyCount t p) s = .next (u.follow (safetyDiscrepancyCount p u)) := eventRow_on t hc
  refine ⟨fun h0 hcount => ⟨_, hx, ?_⟩, fun ha hb' => ?_⟩
  · have hcount : u.safe.a.counted b p ∨ u.safe.b.counted b p := hcount.imp (fun h => ⟨h0, h⟩) fun h => ⟨h0, h⟩
    obtain ⟨pa, pb, fa, fb, ho, hi, hn⟩ := safetyDiscrepancyCount_latches (s := u) (p := p) hl hb hcount rfl
    refine ⟨?_, ?_, fun n f hr hf => ?_, fun n f hr hf => ?_, ho, hi, hn⟩
    · show ((safetyDiscrepancyCount p u).safe.a.pairs.getD p {}).disc = true
      rw [pa, SafeChan.discFault_disc]
    · show ((safetyDiscrepancyCount p u).safe.b.pairs.getD p {}).disc = true
      rw [pb, SafeChan.discFault_disc]
    · rw [fa, fb] at hf
      exact hf.elim (SafeChan.discFault_named hr) (SafeChan.discFault_named hr)
    · rw [fa]
      exact SafeChan.discFault_other hr hf
  · rw [hx, safetyDiscrepancyCount_below (s := u) ha hb']

end

section
/-! SUPPORT. The ranges of one loop sample (R138 to R152). -/

namespace Sys2Proof.Machine

variable {b : Bytes} {p : Loop} {x : LoopIn}

theorem applySteps_range {base trim : Int} (h : -65536 ≤ trim ∧ trim ≤ 65535) (l : List SpStep) :
    -65536 ≤ applySteps base trim l ∧ applySteps base trim l ≤ 65535 := by
  unfold applySteps
  refine List.foldlRecOn (motive := fun t : Int => -65536 ≤ t ∧ t ≤ 65535) _ _ h fun t _ a _ => ?_
  split
  · exact satI_bounds (by decide) _
  · split <;> exact satI_bounds (by decide) _

theorem loopRun_uAcc : ∃ z, (loopRun b p x).lp.uAcc = sat40 z := by
  unfold loopRun
  extract_lets
  split
  · split <;> exact ⟨_, rfl⟩
  · exact ⟨_, rfl⟩
  · exact ⟨_, rfl⟩

theorem loopRun_trim : (loopRun b p x).lp.trim = applySteps (spBase b x.src) p.trim x.steps := by
  unfold loopRun
  extract_lets
  split
  · split <;> rfl
  · rfl
  · rfl

/-- An integrator as it was, or clamped to its limits (R138). -/
def Loop.Limited (b : Bytes) (p : Loop) (i : Int) : Prop := i = p.i ∨ ∃ z, i = clampI b z

theorem Loop.Limited.clamp (z : Int) : p.Limited b (clampI b z) := .inr ⟨z, rfl⟩

theorem loopRun_i : p.Limited b (loopRun b p x).lp.i := by
  unfold loopRun
  extract_lets c init n bq0 fy y spl0 sp tgt spl r e xd resume dq0 r0 xd0 xdPrev pd ff f pd0 track i0 i1 ki iNew
  have h0 : p.Limited b i0 := by
    show p.Limited b (if _ then _ else _)
    split
    · exact .clamp _
    · exact .inl rfl
  have h1 : p.Limited b i1 := by
    show p.Limited b (match x.old with | some o => _ | none => i0)
    split
    · exact .clamp _
    · exact h0
  have ht (u : Int) : p.Limited b (track u i1) := by
    show p.Limited b (if _ then _ else _)
    split
    · exact h1
    · exact .clamp _
  have hn : p.Limited b iNew := .clamp _
  clear_value i1 iNew
  split
  · split
    · exact h1
    · show p.Limited b (if _ then _ else _)
      split
      · exact h1
      · split
        · exact hn
        · split
          · exact .clamp _
          · split
            · exact h1
            · exact hn
  · exact ht _
  · exact ht _

/-- Where nothing is swapped and the loop does not leave DISABLED, a bad PV or a held channel holds the integrator in AUTO (R151, R152). -/
theorem loopRun_auto_held (hm : x.mode = .auto) (hh : x.pvBad = true ∨ x.held = true) (hl : x.leaving = false) (ho : x.old = none) :
    (loopRun b p x).lp.i = p.i := by
  unfold loopRun
  simp only [hm, hl, ho, Bool.false_eq_true, if_false]
  split
  · rfl
  · have hx : (x.pvBad || x.held) = true := by simpa using hh
    simp only [hx, if_true]

theorem loopRun_auto_bad (hm : x.mode = .auto) (hb : x.pvBad = true) : (loopRun b p x).lp.u = if lpFlag b 5 then lpDisOut b else p.u := by
  unfold loopRun
  simp only [hm, hb, if_true]

theorem loopRun_auto_good (hm : x.mode = .auto) (hb : x.pvBad = false) :
    (loopRun b p x).lp.u = clampQ (lpOutMin b) (lpOutMax b) (store (loopRun b p x).lp.uAcc) ∧
      ((loopRun b p x).lp.u < store (loopRun b p x).lp.uAcc → (loopRun b p x).hi = true) ∧
        (store (loopRun b p x).lp.uAcc < (loopRun b p x).lp.u → (loopRun b p x).lo = true) := by
  unfold loopRun
  extract_lets
  simp only [hm, hb]
  refine ⟨rfl, fun h => ?_, fun h => ?_⟩
  · exact Bool.or_eq_true _ _ ▸ .inr (decide_eq_true h)
  · exact Bool.or_eq_true _ _ ▸ .inr (decide_eq_true h)

theorem loopRun_manual (hm : x.mode = .manual) : (loopRun b p x).lp.u = clampQ (lpOutMin b) (lpOutMax b) x.man := by
  unfold loopRun
  simp only [hm]

theorem loopRun_track (hm : x.mode = .track) :
    (loopRun b p x).lp.u = (if x.keep then p.u else clampQ (lpOutMin b) (lpOutMax b) x.trk) ∧ (x.keep = true → (loopRun b p x).hi = false ∧ (loopRun b p x).lo = false) := by
  unfold loopRun
  simp only [hm]
  exact ⟨trivial, fun h => by simp [h]⟩

end Sys2Proof.Machine
end

section
/-! One sample of a loop. -/

open Sys2Proof Sys2Proof.Machine

/-- Settles O44: each mode clamps what it puts out, and holds or clamps the integrator (R138, R146 to R152; that a TRACK without a source is at no limit is log 126, the model's reading). -/
theorem loopRanges : Obligations.LoopRanges := by
  intro b p x o
  refine ⟨fun hr ha ht hd => ?_, fun hm hk => ?_, fun hr h1 h2 => ?_, ?_, fun h1 h2 => ?_, fun hm hb hu => ?_, fun hm hb hl ho => ?_, fun hm hb hh hl ho => ?_⟩
  · have hc (z : Int) : lpOutMin b ≤ clampQ (lpOutMin b) (lpOutMax b) z ∧ clampQ (lpOutMin b) (lpOutMax b) z ≤ lpOutMax b := satI_bounds hr z
    cases hm : x.mode with
    | disabled => exact absurd hm hd
    | auto => exact (loopRun_auto_good hm (ha hm)).1 ▸ hc _
    | manual => exact loopRun_manual hm ▸ hc _
    | track =>
      have h := (loopRun_track (b := b) (p := p) hm).1
      rw [ht hm, if_neg Bool.false_ne_true] at h
      exact h ▸ hc _
  · obtain ⟨h1, h2⟩ := loopRun_track (b := b) (p := p) hm
    exact ⟨h1.trans (if_pos hk), h2 hk⟩
  · rcases loopRun_i (b := b) (p := p) (x := x) with h | ⟨z, h⟩
    · exact h ▸ ⟨h1, h2⟩
    · exact h ▸ satI_bounds (by omega) z
  · obtain ⟨z, h⟩ := loopRun_uAcc (b := b) (p := p) (x := x)
    exact h ▸ satI_bounds (by decide) z
  · exact loopRun_trim (b := b) (p := p) (x := x) ▸ applySteps_range ⟨h1, h2⟩ _
  · obtain ⟨-, hhi, hlo⟩ := loopRun_auto_good (b := b) (p := p) hm hb
    exact (lt_or_gt_of_ne hu).imp hhi hlo
  · exact ⟨loopRun_auto_held hm (.inl hb) hl ho, loopRun_auto_bad hm hb⟩
  · exact loopRun_auto_held hm (.inr hh) hl ho

end
